-- ==== Sys2Proof/Syntax.lean ====
section
/-! DEFINITION. The commands of the device: one constructor per row of the opcode table, with the row's operands. -/

namespace Sys2Proof

/-- What a START of an I²C controller meets on its bus (R334): both lines high; a low line that recovery freed; or a bus
that stays low. -/
inductive I2cBus where
  | free | recovered | stuck
deriving DecidableEq, Repr

/-- The START of the read phase on controller `ctl`, and what it meets (R332, R334). -/
structure I2cStart where
  ctl : Nat
  bus : I2cBus
deriving DecidableEq, Repr

/-- An address that another node holds (R376): `kind` 0 IPv6 link-local, 1 IPv6 global, 2 IPv4. -/
structure AddrClash where
  kind : Nat
  addr : Nat
deriving DecidableEq, Repr

/-- The ports of a datagram: the peer's own and the one it is sent to. -/
structure UdpPorts where
  src : Nat
  dst : Nat
deriving DecidableEq, Repr

/-- The end of a transaction (R416): the home pages whose read-back fails three times, and `bad` where a journal page of the next
transaction of the command fails its read-back. -/
structure TxnEnd where
  lost : List Nat
  bad  : Bool
deriving DecidableEq, Repr

/-- The header of a received PTP message: port (0 TL0, 1 TL1, 2–5 TS0–TS3), transport, sdoId, domainNumber, source port
identity and sequence number; `odd` marks the use of another option that R86 does not list. -/
structure PtpHdr where
  port : Nat
  transport : Nat
  sdo : Nat
  dom : Nat
  src : Nat
  srcPort : Nat
  seq : Nat
  odd : Bool
deriving DecidableEq, Repr

/-- The body of an Announce: grandmaster dataset, steps removed, UTC data, PATH_TRACE and the Dalori TLV (R85, R91, R98). -/
structure Announce where
  prio1 : Nat
  cls   : Nat
  acc   : Nat
  var   : Nat
  prio2 : Nat
  gm    : Nat
  steps : Nat
  utc   : Int
  leap  : Nat
  valid : Bool
  /-- timeTraceable, frequencyTraceable and timeSource -/
  timeTr : Bool
  freqTr : Bool
  tsrc  : Nat
  path  : List Nat
  /-- SENDER_NODE and GM_NODE -/
  tlv   : Option (Nat × Nat)
deriving DecidableEq, Repr

/-- A measurement of one slice: raw offset in LSB, raw gain error in 0.001 %, and the skew trim asked for in 50 fs steps
where it was estimated (R144, R145). -/
structure SliceMeas where
  slice : Nat
  off   : Int
  gain  : Int
  trim  : Option Int
deriving DecidableEq, Repr

/-- A CAN frame on the bus (R338, R345): `id` is 11 or 29 bits wide. -/
structure CanFrame where
  id   : Nat
  xtd  : Bool := false
  rtr  : Bool := false
  fdf  : Bool := false
  brs  : Bool := false
  esi  : Bool := false
  dlc  : Nat := 0
  data : List Nat := []
deriving DecidableEq, Repr

/-- An error that ends a frame (R354, ISO 11898-1). `tx`: the channel transmits it. `clash`: a bit error that it detects
after winning arbitration, in the control, data or CRC field (R349). `exempt`: one of the errors for which ISO 11898-1
leaves the counter unchanged. `dominant`: the first bit after a receiver's error flag is dominant. `more`: groups of eight
further dominant bits. `id`: the identifier, where an error flag follows the arbitration field of another's frame (R350).
`delay`: a transmitter delay measured in the frame (R341). -/
structure CanErr where
  tx : Bool
  clash : Bool := false
  exempt : Bool := false
  dominant : Bool := false
  more : Nat := 0
  id : Option (Nat × Bool) := none
  delay : Option Nat := none
deriving DecidableEq, Repr

/-- The ICMPv6 messages that the device takes or sends (R376): addresses have their first byte most significant. -/
inductive Icmp6 where
  | echoRequest (src dst content : Nat)
  | echoReply (src dst content : Nat)
  | neighborSolicit (src target : Nat)
  | neighborAdvert (src target : Nat)
  | mldReport (groups : List Nat)
deriving DecidableEq, Repr

/-- An Ethernet frame as the switch sees it: addresses (first byte most significant), tag (PCP and VID), EtherType, length
from destination to FCS, FCS verdict, and for UDP the source address (IPv6 form), source and destination port; `b0` is the
first payload byte, and `icmp` an ICMPv6 message that the frame carries. -/
structure NetFrame where
  dst   : Nat
  src   : Nat
  tag   : Option (Nat × Nat) := none
  etype : Nat
  len   : Nat
  fcsOk : Bool := true
  udp   : Option (Nat × Nat × Nat) := none
  b0    : Nat := 0
  icmp  : Option Icmp6 := none
deriving DecidableEq, Repr

/-- A string of `len` bytes; `val` is its little-endian number (R3). -/
structure Octets where
  len : Nat
  val : Nat
deriving DecidableEq, Repr

/-- The header of a Hegus request as its session gives it (R384): session number, REQ_ID, and whether the message breaks a
format rule of R384. -/
structure Req where
  sess : Nat
  id   : Nat
  bad  : Bool := false
deriving DecidableEq, Repr

/-- A calibration bank (R154): its unit, and 0 for bank A or 1 for bank B. -/
structure CalBank where
  unit : Nat
  bank : Nat
deriving DecidableEq, Repr

/-- Consecutive raw 16-bit samples of a pass, of which the first is number `first` (R141). -/
structure Samples where
  first : Nat
  raw   : List Int
deriving DecidableEq, Repr

/-- One item of a WRITE_MULTI (R388). -/
structure WItem where
  idx   : Nat
  sub   : Nat
  value : Octets
deriving DecidableEq, Repr


/-- The commands (opcode_table.json), in the table's order within each family. -/
inductive Instr where
  /-- a bus access: `ini` is the initiator ID of R22, `sess` the Hegus session of the mirror agent (0 otherwise), `size` the
  bytes of the access (1, 2 or 4) -/
  | registerWrite (ini sess addr size data : Nat)
  | registerRead (ini sess addr size : Nat)
  | avlogClear (ini sess : Nat)
  /-- `b` is the block number of the mirror entry; `write` carries the value written, none for a read -/
  | mirrorData (sess b : Nat) (write : Option Nat)
  | mirrorDataInc (sess b : Nat) (write : Option Nat)
  /-- `half` 0 CORE-A, 1 CORE-B -/
  | halfStop (half : Nat)
  /-- `ok`: the half starts -/
  | halfRestart (half : Nat) (ok : Bool)
  /-- a read by `ini` of the SRAM word at `addr` finds an error; `single`: one bit, corrected; `entry` names the shadow
  entry that holds the word -/
  | sramUncorrectable (ini addr entry : Nat) (single : Bool)
  | domainRelease (n : Nat)
  | powerOnReset
  | inrushEnd
  | reverseCurrent
  /-- `start`, `mv`: the inserted HKC readings of VHOLD at the start and the end of the interval -/
  | capMeasureInterval (start mv : Nat)
  /-- `refOk`: the reference is stable -/
  | aonReady (refOk : Bool)
  /-- `boot`: BOOT1 and BOOT0 as sampled -/
  | bootChainVerify (boot : Nat)
  /-- `hdrBad`: MAGIC or HCRC is wrong; `bad`: journal pages whose PCRC does not match; `recs`: damaged records -/
  | journalRecovery (hdrBad : Bool) (bad : List Nat) (recs : List (Nat × Nat))
  /-- `halves`: the halves that report up, as a bit mask -/
  | runtimeUp (halves : Nat)
  /-- `badA`, `badB`: the image does not match its CRC -/
  | shadowRestore (badA badB : Bool)
  | configCheck
  /-- the session that writes 1; none for the grant at the end of step 6 -/
  | outputsReleaseGrant (r : Option Req)
  | outputsReleaseWithdraw (r : Req)
  | timeAcquireTimeout
  | ledgerArm
  | domainReady (n : Nat)
  | domreqWrite (ini sess mask : Nat)
  | domainReset (ini sess mask : Nat)
  /-- `far`: the half's next scheduled activity lies 1 ms or more ahead -/
  | coreWait (core : Nat) (far : Bool)
  | enterNap
  | enterDeep
  | forceDeep (ini sess : Nat)
  /-- `src`: the wake source of R57, in its order -/
  | wakeEvent (src : Nat)
  | refLost
  | refBack
  | clk32Lost
  | pinReset
  | pinResetRelease
  | softReset (ini sess : Nat)
  /-- `sec`: cause SEC, else SOFT -/
  | fullRestartLine (sec : Bool)
  | rccWatchdog
  /-- `high`: VLINE above 59 V -/
  | lineFail (high : Bool)
  | saveComplete
  | holdupExhausted
  | vaonFail
  | lineReturn
  /-- `ok`: detected and classified -/
  | sccpClassification (ok : Bool)
  | clk32Stable
  | timeLoRead (ini sess : Nat)
  /-- `value`: none for XTF_CTRL.SET, else the TIME64 written to SET_TIME -/
  | timeSet (ini sess : Nat) (value : Option Nat)
  | timeSetLine (t : Nat)
  | slewEnd
  /-- times in ns; `rx` is the receive timestamp of the PHY, `corr` the correction field -/
  | ptpSync (h : PtpHdr) (twoStep : Bool) (origin : Nat) (corr : Int) (rx : Nat)
  | ptpFollowUp (h : PtpHdr) (origin : Nat) (corr : Int)
  | ptpAnnounce (h : PtpHdr) (a : Announce)
  | ptpDelayReq (h : PtpHdr) (rx : Nat)
  /-- `req` is the requesting clock, `t4` the receive time that the master reports -/
  | ptpDelayResp (h : PtpHdr) (req : Nat) (t4 : Nat) (corr : Int)
  | ptpPdelayReq (h : PtpHdr) (rx : Nat)
  /-- `turn` is the responder's turnaround time, corrections included -/
  | ptpPdelayResp (h : PtpHdr) (req : Nat) (turn : Int) (rx : Nat)
  /-- `action` 0 GET, 1 SET, 3 COMMAND; `id` the managementId -/
  | ptpManagement (h : PtpHdr) (action id : Nat)
  /-- `kind` 0 Sync, 1 Announce, 2 delay request -/
  | ptpMessageTimer (port kind : Nat)
  | announceTimeout (port : Nat)
  | ppsinPulse (rising : Bool)
  | ppsMissing
  /-- `x32`: averages of the 32.768 kHz value for the seconds since the last entry, in 1/256 ppb -/
  | holdoverLearn (x32 : List Int)
  | holdoverLimit
  | holdoverClear
  | leapApplied
  | ppsoutEdge (level : Bool)
  | tsyncCapture (rising : Bool)
  | tsyncHiRead (ini sess : Nat)
  /-- values written to the sub-indices 1 to 4 of rule set `k` -/
  | localtimeChanged (k : Nat) (vals : List (Nat × Nat))
  | sunEventsUpdated
  | sunPosition
  /-- `e` = 256 × book + entry, here and below -/
  | ledgerWake (e : Nat)
  | occurrenceDue (e : Nat)
  | deferredPosting
  /-- `n`: the domain that is ready -/
  | heldPostingApply (n : Nat)
  /-- a posting of entry `e` with its TARGET and VALUE; `late`: a late occurrence under FIRE_LATE -/
  | nop (e target value : Nat) (late : Bool)
  | cvuStart (e target value : Nat) (late : Bool)
  | cvuInject (e target value : Nat) (late : Bool)
  | slotStart (e target value : Nat) (late : Bool)
  | escrowPost (e target value : Nat) (late : Bool)
  | outLatch (e target value : Nat) (late : Bool)
  | regWrite (e target value : Nat) (late : Bool)
  | regSet (e target value : Nat) (late : Bool)
  | regClr (e target value : Nat) (late : Bool)
  | canQueue (e target value : Nat) (late : Bool)
  | netPublish (e target value : Nat) (late : Bool)
  | obsSnapshot (e target value : Nat) (late : Bool)
  | flagSet (e target value : Nat) (late : Bool)
  | flagClr (e target value : Nat) (late : Bool)
  | bookArm (e target value : Nat) (late : Bool)
  | bookDisarm (e target value : Nat) (late : Bool)
  | bookSwap (e target value : Nat) (late : Bool)
  | runtimeEvent (e target value : Nat) (late : Bool)
  | ldgArm (ini sess b : Nat)
  | ldgDisarm (ini sess b : Nat)
  /-- LDG_COMMIT.GO with SELECT `e`; `nv`: the NV store accepts the image -/
  | ldgCommit (ini sess e : Nat) (nv : Bool)
  | bookImageWrite (r : Req) (b : Nat) (image : Octets)
  /-- the window of slice `k` of unit `u` (the reserve, or a TRIAL slice) ends with its raw offset and gain error; `shadow`
  lists ACTIVE slice, mean difference in LSB after corrections, and the skew trim asked for where it was estimated -/
  | calWindowEnd (u k : Nat) (off gain : Int) (shadow : List (Nat × Int × Option Int))
  | fgcalPending (u : Nat)
  | fgcalNow (u : Nat)
  | fgcalStart (u : Nat)
  | fgcalEnd (u : Nat) (meas : List SliceMeas)
  /-- bit k requests slice k -/
  | requalify (u mask : Nat)
  /-- the source of AIN88 + `j` has been at compliance (`open_`) or below 2.2 V for 10 µs -/
  | excCompliance (j : Nat) (open_ : Bool)
  /-- `set` is the 256-byte page written to the bank -/
  | calsetWrite (r : Req) (b : CalBank) (set : List Nat)
  | seqEnable (u : Nat)
  | seqDisable (u : Nat)
  | seqStart (u : Nat)
  /-- a result of the conversion in progress is due: the samples that it has taken since its last result, whether one of the result's span
  was beyond the input range or taken while CAL_STALE was 1, and TIME64 of the last -/
  | resultDelivery (u : Nat) (x : Samples) (high aged : Bool) (t : Nat)
  | cvuInjWrite (u w : Nat)
  | streamEnable (u s : Nat)
  | ringRdWrite (u s v : Nat)
  /-- engine `n` executes the instruction word with the fields d, s, t and imm of R200 -/
  | nopI (n d s t imm : Nat)
  | ldi (n d s t imm : Nat)
  | ldih (n d s t imm : Nat)
  | mov (n d s t imm : Nat)
  | ld (n d s t imm : Nat)
  | st (n d s t imm : Nat)
  | lds (n d s t imm : Nat)
  | sts (n d s t imm : Nat)
  | inP (n d s t imm : Nat)
  | outP (n d s t imm : Nat)
  | add (n d s t imm : Nat)
  | adds (n d s t imm : Nat)
  | sub (n d s t imm : Nat)
  | subs (n d s t imm : Nat)
  | neg (n d s t imm : Nat)
  | abs (n d s t imm : Nat)
  | min (n d s t imm : Nat)
  | max (n d s t imm : Nat)
  | andI (n d s t imm : Nat)
  | orI (n d s t imm : Nat)
  | xorI (n d s t imm : Nat)
  | shl (n d s t imm : Nat)
  | shr (n d s t imm : Nat)
  | sar (n d s t imm : Nat)
  | mpy (n d s t imm : Nat)
  | mac (n d s t imm : Nat)
  | msu (n d s t imm : Nat)
  | clra (n d s t imm : Nat)
  | lda (n d s t imm : Nat)
  | sta (n d s t imm : Nat)
  | sha (n d s t imm : Nat)
  | cmp (n d s t imm : Nat)
  | lim (n d s t imm : Nat)
  | slew (n d s t imm : Nat)
  | deadb (n d s t imm : Nat)
  | lut (n d s t imm : Nat)
  | sincos (n d s t imm : Nat)
  | div (n d s t imm : Nat)
  | sqrt (n d s t imm : Nat)
  | bra (n d s t imm : Nat)
  | bcc (n d s t imm : Nat)
  | loopI (n d s t imm : Nat)
  | trig (n d s t imm : Nat)
  /-- engine `n` executes END, or its library run ends -/
  | endI (n : Nat)
  /-- engine `n` fetches the word at its program counter and meets a run fault other than RUN_LIMIT -/
  | runFault (n : Nat)
  | runLimit (n : Nat)
  | faultClr (n : Nat)
  /-- `image` is the byte string written to IMAGE of engine `n` -/
  | engineImageLoad (n : Nat) (image : List Nat)
  /-- the four words of LIB_BIND: PROG_ID, SBASE, DBASE and the last -/
  | libBind (n pid sbase dbase last : Nat)
  | removeProg (n pid : Nat)
  /-- slot `s` of engine `n` -/
  | slotEnable (n s : Nat)
  | slotDisable (n s : Nat)
  | slotStartWrite (n s : Nat)
  | slotTrigger (n s : Nat)
  | runStart (n : Nat)
  | specStartTime (n s : Nat)
  | sampleInstant (n s : Nat)
  | specNoTrigger (n s : Nat)
  | slotArm (n s : Nat)
  /-- a write of `v` to the IN (`out` false) or OUT route of port `p` -/
  | routeWrite (n : Nat) (out : Bool) (p v : Nat)
  /-- TIME64 written to ACTIVATE_AT of SWAP_n -/
  | swapBoundary (n : Nat)
  | traceEnable (n : Nat)
  | zoneEvaluation
  | dayBookCompile
  | dayBookRecompile
  | lightRestage (g : Nat)
  | lightSwitched (g : Nat)
  | hostHeartbeat (r : Req) (value : Nat)
  | hostLost
  | tmrEnable (m : Nat)
  | pwmValley (m : Nat)
  | centreTrigger (m : Nat)
  /-- ball MFLT of motor `m` has held the low (`low`) or the high level for FLT_FILT ticks -/
  | mfltFault (m : Nat) (low : Bool)
  | runWrite (m : Nat) (run : Bool)
  | motorRun (m : Nat)
  | startWindow (m : Nat)
  | retryPause (m : Nat)
  | motorStall (m : Nat)
  | motorStopped (m : Nat)
  | motorClear (m : Nat)
  /-- `drive` 0–7 is a motor, 8–23 a fan -/
  | attemptReset (drive : Nat)
  | fanPeriodStart (f : Nat)
  /-- the low and high phases of ball FTACH `f`, alternately and in ticks of 5 ns, from the falling edge that ended the last revolution
  to the one that has come now -/
  | tachUpdate (f : Nat) (phases : List Nat)
  | tachTimeout (f : Nat)
  | fanTargetWrite (f v : Nat)
  | kickEnd (f : Nat)
  | fanPauseEnd (f : Nat)
  | tachLostTimeout (f : Nat)
  | fanClear (f : Nat)
  | bandLearn (f : Nat)
  | ageingSample (drive : Nat)
  | ageingLearn (drive : Nat) (learn : Bool)
  | coastElapsed (m : Nat)
  | actOvercurrent (n : Nat)
  /-- a write of 1 to the OC bits in `mask` -/
  | actocClear (mask : Nat)
  | actPulseEnd (n : Nat)
  | pairGapEnd (p : Nat)
  /-- `mask` is the value written to AIO_LATCH.APPLY -/
  | latchApply (mask : Nat)
  /-- the ball of GPIO `n` has held `level` for FILT × 50 µs; the raw transition began at TIME64 `raw` -/
  | gpioInput (n : Nat) (level : Bool) (raw : Nat)
  | gcapRead (ini sess n : Nat)
  | i2cEnable (c : Nat)
  | i2cDisable (c : Nat)
  /-- a multiple of PERIOD of controller `c`; `bus` is what the first START meets -/
  | i2cRound (c : Nat) (bus : I2cBus)
  /-- WAIT of the entry in progress has passed, and its read starts -/
  | i2cWait (start : I2cStart)
  /-- the entry in progress ends with its STOP: `ok` unless a byte was not acknowledged or arbitration was lost; `data` the bytes
  read, CRC bytes among them; `bus` is what the next START meets -/
  | i2cEntryDone (c : Nat) (ok : Bool) (data : List Nat) (bus : I2cBus)
  | i2cStretchTimeout (c : Nat) (bus : I2cBus)
  /-- a write of MODE of channel `n` -/
  | canModeWrite (n mode : Nat)
  | adrDwell (n : Nat)
  | canTxreq (n mask : Nat)
  | canTxcan (n mask : Nat)
  /-- an opportunity to start a frame on channel `n` -/
  | canSof (n : Nat)
  /-- `won` false: arbitration is lost; `delay` is the transmitter delay measured in the frame, if one was -/
  | canFrameSent (n : Nat) (won : Bool) (delay : Option Nat)
  | canError (n : Nat) (e : CanErr)
  | busoffRecovery (n : Nat)
  | clearBo (n : Nat)
  | canFrameReceived (n : Nat) (f : CanFrame)
  | rxhRead (ini sess n q w : Nat)
  | rxUnlock (n q : Nat)
  | rxDrop (n q : Nat)
  /-- `p`: target, duration and release of a request by node management; none: a write of HUSH_REQ -/
  | hushReq (n : Nat) (p : Option (Nat × Nat × Bool))
  | hushAck (n node : Nat)
  | hushDeadline (n : Nat)
  /-- `load` is the bus load of the window in % -/
  | busloadWindow (n load : Nat)
  | nodeAnnounce (n node ident : Nat)
  | beacon (n : Nat)
  | cutTime (n : Nat)
  | canSegRestored (n : Nat)
  | segClear (n : Nat)
  | segOff (n : Nat) (off : Bool)
  /-- `data` is the whole data field of the frame that `node` sends -/
  | hegusSingle (n node : Nat) (data : List Nat)
  | hegusFirst (n node : Nat) (data : List Nat)
  | hegusConsecutive (n node : Nat) (data : List Nat)
  | hegusFlow (n node : Nat) (data : List Nat)
  /-- `send`: the message to the node; else the one from it -/
  | hegusCanTimeout (n node : Nat) (send : Bool)
  /-- a frame arrives on port `p`; none: the BEACON of another PLCA coordinator -/
  | fnsFrameReceived (p : Nat) (f : Option NetFrame)
  | fnsFrameTransmit (p : Nat)
  | macAge (addr : Nat)
  /-- a write of EN of port `p` -/
  | portEnable (p : Nat) (en : Bool)
  /-- `low`: the amplitude is 1.0 Vpp -/
  | linkUp (p : Nat) (low : Bool)
  | linkDown (p : Nat)
  /-- segment TS`t` -/
  | plcaBeacon (t : Nat)
  | sqiUpdate (p sqi : Nat)
  | cableTest (p : Nat)
  /-- `result` 1 OK, 2 OPEN, 3 SHORT -/
  | cableTestDone (p result dist : Nat)
  | loopCheck
  | addrConflict (clash : AddrClash)
  | dhcpv4AttemptTimeout
  /-- `addr`: the SLAAC or DHCPv4 address, where it is one, as the entry's byte string -/
  | duplicateAddressDetection (kind addr : Nat)
  | read (r : Req) (idx sub : Nat)
  | write (r : Req) (idx sub : Nat) (value : Octets)
  | readMulti (r : Req) (items : List (Nat × Nat))
  /-- `timed`: LEDGER_TIME of a timed request -/
  | writeMulti (r : Req) (timed : Option Nat) (items : List WItem)
  /-- the book 14 posting of TIMED_ID `id` reaches the runtime -/
  | timedWrite (id : Nat)
  /-- a write of TIMED CANCEL -/
  | timedCancel (r : Req) (id : Nat)
  | subscribe (r : Req) (idx sub mode period deadband : Nat)
  | unsubscribe (r : Req) (id : Nat)
  /-- a sample instant of subscription `id` of session `sess`, or a new event record for it -/
  | notify (sess id : Nat)
  | describe (r : Req) (idx sub : Nat)
  | blockStart (r : Req) (idx sub dir total : Nat)
  | blockData (r : Req) (id offset : Nat) (data : Octets)
  | blockEnd (r : Req) (id crc : Nat)
  | blockAbort (r : Req) (id : Nat)
  | blockTimeout (sess id : Nat)
  | sessionOpen (r : Req) (role : Nat)
  | sessionClose (r : Req)
  | sessionIdle (sess : Nat)
  | authBegin (r : Req) (role : Nat) (key cert : Octets)
  | authProof (r : Req) (sig : Nat)
  /-- a ClientHello from address `ip` with the ports `port`; `cookie`: it answers the cookie; `kind` 0 certificate, 1 PSK, 2 none; the role
  the certificate names and the credential -/
  | clientHello (ip : Nat) (port : UdpPorts) (cookie : Bool) (kind role : Nat) (cred : Octets)
  /-- `frame`: what the host sends; `clocked`: bytes clocked; `ready`: HRDY was high when HCS fell -/
  | spiTransfer (frame : Octets) (clocked : Nat) (ready : Bool)
  | appSchemaWrite (r : Req) (value : Octets)
  /-- `src`: the source of R399 -/
  | hegusLockoutEnd (src : Nat)
  /-- a read of `size` bytes at offset `off` of the NV read window -/
  | nvWindowRead (ini off size : Nat)
  | claim (ini : Nat)
  /-- NVS_CLAIM.RELEASE -/
  | release (ini : Nat)
  /-- `bad`: a journal page fails its read-back -/
  | nvWrite (ini : Nat) (bad : Bool)
  | txnBegin (ini : Nat)
  | txnAdd (ini : Nat) (bad : Bool)
  | txnCommit (ini : Nat)
  | txnAbort (ini : Nat)
  | nvsTxnComplete (done : TxnEnd)
  /-- `kind` 0 read, 1 write; the password stands in the staging buffer -/
  | unlock (ini region kind : Nat)
  | relock (ini region kind : Nat)
  | setPwd (ini region kind : Nat)
  | setRegion (ini region : Nat)
  | tallyInc (ini k : Nat)
  /-- `cmd`: the initiator of a CHECKPOINT command; none for CHECKPOINT_NOW and CHECKPOINT_PERIOD -/
  | checkpoint (cmd : Option Nat)
  /-- `sess` 0: the owner of the interface -/
  | unlockExpiry (sess region kind : Nat)
  | sealAdvance (k v : Nat)
  | checkpointComplete
  | nvLockoutEnd (region : Nat)
  /-- `rct`, `apt`: the test that failed -/
  | trngFault (rct apt : Bool)
  | trngRecovered
  /-- `source`: bit of SCU_TAMPER -/
  | secTamper (source : Nat)
  | lcRequest (r : Req) (target eui : Nat)
  /-- the 176 bytes of the token -/
  | debugToken (token : Octets)
  | updateContainer (r : Req) (c : Octets)
  /-- `half` fetches block `block` of its runtime slot; `ok`: its hash matches the block table -/
  | flashBlockFill (half block : Nat) (ok : Bool)
  | recoveryImage (r : Req) (c : Octets)
  | attestNonce (r : Req) (nonce : Nat)
  | certifiedMode (r : Req) (on : Bool)
  /-- the activation record at index `idx` (0x9300 …, 0x3020 + u or 0x4300 + n) is written with time `t` -/
  | activateAt (r : Req) (idx t : Nat)
  /-- the part with code `part` reaches its boundary after its posting -/
  | activationSwitchover (part : Nat)
  | healthFail (r : Req) (idx : Nat)
  | healthWindowEnd (part : Nat)
  | actRolledBack (part : Nat)
  /-- `ok`: the stage of the handover has passed its limit and check -/
  | runtimeHandoverStage (ok : Bool)
  | tellerRestart (ok : Bool)
  | trngWaitTimeout (sess req : Nat)
  | timeFloorUpdate
  | debugPortReset
  | swapActivateAt (r : Req) (n t : Nat)
  /-- `value`: 0.01 °C as 16 bits for channels 0–15, mV otherwise -/
  | hkcConversion (ch value : Nat)
  | thermalHoldEnd
  | thermalTrip
  | thermalRestart
  | convPaceEnd (u : Nat)
  | fselWrite (ini sess j value : Nat)
  | counterLoRead (ini sess k : Nat)
  | counterLoWrite (ini sess k value : Nat)
  | counterHiWrite (ini sess k value : Nat)
  | freeze (ini sess : Nat) (on : Bool)
  | snap (ini sess : Nat)
  | snapshotWritten
  | unprivRead (ini sess : Nat) (on : Bool)
deriving DecidableEq, Repr

end Sys2Proof
end

