-- ==== Sys2Proof/Config.lean ====
section
/-! DEFINITION. What the manual leaves open: uninterpreted constants. Nothing in Lean can evaluate them, so a statement
holds for every value they can have. -/

namespace Sys2Proof.Config

/-- A free value: one number per use, indexed by the counter that State holds. -/
opaque freeNat : Nat → Nat

/-- A byte of the boot ROM, whose contents the manual does not give. -/
opaque bootRomByte : Nat → BitVec 8

/-- The value of a vendor diagnostic entry (R43). -/
opaque vendorDiag : Nat → Nat

/-- The EUI-48 fixed in the device (R439). -/
opaque eui48 : Nat

/-- The device unique secret drawn at manufacture, 256 bits (R438, R440). -/
opaque dus : Nat

/-- The private scalar of the device identity key (R438, R440). -/
opaque dik : Nat

/-- The SILICON_REV entry, for which the manual gives no value. -/
opaque siliconRev : Nat

/-- Result of a cryptographic function named by `kind` on the given inputs: the manual names the function by its public
standard and states no value. -/
opaque crypto : (kind : Nat) → (inputs : List Nat) → Nat

/-- A check of a signature, certificate chain, tag or digest under the keys that State holds. -/
opaque cryptoOk : (kind : Nat) → (inputs : List Nat) → Bool

/-- The device's own draw lies below the minimum of the maintain power signature (R45), by power state and powered domains: the
manual gives neither figure. -/
opaque drawBelowMps : (state domains : Nat) → Bool

/-- Load of one dictionary value on the runtime, in % of the capacity of one half (R20): the manual gives no figures. -/
opaque entryLoad : (key value : Nat) → Nat

end Sys2Proof.Config
end

