-- ==== Sys2Proof/Machine/DictTypes.lean ====
section
/-! DEFINITION. The shape of an object-dictionary table row (R12 to R14, R378). -/

namespace Sys2Proof.Machine

/-- The entry types of R12. -/
inductive DTy where
  | bool | u8 | u16 | u32 | u64 | i8 | i16 | i32 | i64 | q15 | q31 | f32 | time64 | dur32
  | str (n : Nat) | blob (n : Nat) | record
deriving DecidableEq, Repr

/-- The persistence codes of R14. -/
inductive Persist where
  | vol | nv | shd | cmp
deriving DecidableEq, Repr

/-- An outer range: every `step`-th value from 0 between `lo` and `hi`, and possibly one further value. -/
structure Rng where
  lo   : Int
  hi   : Int
  also : Option Int
  step : Nat
deriving DecidableEq, Repr

/-- One row of a dictionary table: `cnt` indices from `idx`, `subCnt` sub-indices from `sub`.
Roles are 0 O, 1 P, 2 E, 3 W, 4 a dash, 5 "per R106". The default is the value's little-endian number (R3). -/
structure DictRow where
  idx    : Nat
  cnt    : Nat
  sub    : Nat
  subCnt : Nat
  ty     : DTy
  rd     : Nat
  wr     : Nat
  pers   : Persist
  dflt   : Nat
  range  : Option Rng
  name   : String
deriving DecidableEq, Repr

end Sys2Proof.Machine
end

