-- ==== Sys2Proof/Machine/DictMap.lean ====
section
/-! DEFINITION. The object-dictionary tables of every chapter (R12 to R14, R37, R378): one row per entry or run of
entries, with its type, roles, persistence, default and outer range. -/

namespace Sys2Proof.Machine

/-- Entries of chapter 01. The mirror indices 0xF003 to 0xF00F, whose block numbers no block takes, are present entries (DESIGN CHOICE,
log entry 119: R37 gives 0xF000 to 0xF038 one entry for each block number). -/
def dict01_0 : List DictRow := [
  ⟨0x0A20, 1, 0, 1, .record, 0, 4, .cmp, 6, none, "RCC_STATUS"⟩,
  ⟨0x0A20, 1, 1, 1, .u8, 0, 4, .cmp, 3, none, "HALVES_RUNNING"⟩,
  ⟨0x0A20, 1, 2, 1, .u8, 0, 4, .cmp, 0, none, "LOAD_TOTAL"⟩,
  ⟨0x0A20, 1, 3, 1, .u8, 0, 4, .cmp, 90, none, "LOAD_LIMIT"⟩,
  ⟨0x0A20, 1, 4, 1, .u32, 0, 4, .nv, 0, none, "TAKEOVER_COUNT"⟩,
  ⟨0x0A20, 1, 5, 1, .u32, 0, 4, .cmp, 0, none, "HALF_A_VERSION"⟩,
  ⟨0x0A20, 1, 6, 1, .u32, 0, 4, .cmp, 0, none, "HALF_B_VERSION"⟩,
  ⟨0xF000, 57, 0, 1, .record, 0, 4, .cmp, 3, none, "MIRROR_b"⟩,
  ⟨0xF000, 57, 1, 1, .u32, 0, 0, .vol, 0, some ⟨0, 65532, none, 4⟩, "ADDR"⟩,
  ⟨0xF000, 57, 2, 1, .u32, 0, 2, .cmp, 0, none, "DATA"⟩,
  ⟨0xF000, 57, 3, 1, .u32, 0, 2, .cmp, 0, none, "DATA_INC"⟩,
  ⟨0xF800, 2048, 0, 1, .u32, 2, 4, .cmp, 0, none, "VENDOR_DIAG"⟩]

/-- The dictionary table of chapter 01. -/
def dict01 : List DictRow := dict01_0

def dict02_0 : List DictRow := [
  ⟨0xA000, 1, 0, 1, .record, 0, 4, .cmp, 6, none, "POWER_STATUS"⟩,
  ⟨0xA000, 1, 1, 1, .u8, 0, 4, .cmp, 0, none, "STATE"⟩,
  ⟨0xA000, 1, 2, 1, .u16, 0, 4, .cmp, 0, none, "VLINE"⟩,
  ⟨0xA000, 1, 3, 1, .u16, 0, 4, .cmp, 0, none, "VHOLD"⟩,
  ⟨0xA000, 1, 4, 1, .u32, 0, 4, .cmp, 0, none, "E_AVAIL"⟩,
  ⟨0xA000, 1, 5, 1, .u32, 0, 4, .cmp, 21000, none, "E_RESERVE"⟩,
  ⟨0xA000, 1, 6, 1, .u16, 0, 4, .cmp, 0, none, "CAP_MEASURED"⟩,
  ⟨0xA001, 1, 0, 1, .record, 0, 4, .cmp, 8, none, "POWER_CONFIG"⟩,
  ⟨0xA001, 1, 1, 1, .u16, 0, 2, .nv, 16000, some ⟨12000, 17000, none, 100⟩, "VFAIL"⟩,
  ⟨0xA001, 1, 2, 1, .u16, 0, 2, .nv, 47, some ⟨10, 10000, none, 1⟩, "HOLDUP_CAP"⟩,
  ⟨0xA001, 1, 3, 1, .u16, 0, 2, .nv, 30, some ⟨30, 100, none, 1⟩, "HOLD_WINDOW"⟩,
  ⟨0xA001, 1, 4, 1, .u8, 0, 2, .nv, 2, some ⟨0, 3, none, 1⟩, "LOWEST_STATE"⟩,
  ⟨0xA001, 1, 5, 1, .bool, 0, 2, .nv, 1, none, "AUTO_RELEASE"⟩,
  ⟨0xA001, 1, 6, 1, .bool, 0, 3, .nv, 0, none, "HOLDUP_OVERRIDE"⟩,
  ⟨0xA001, 1, 7, 1, .u8, 0, 3, .nv, 255, none, "PD_CLASS"⟩,
  ⟨0xA001, 1, 8, 1, .u8, 0, 2, .nv, 0, some ⟨0, 1, none, 1⟩, "REF_TYPE"⟩,
  ⟨0xA002, 1, 0, 1, .record, 0, 4, .cmp, 12, none, "DOMAIN_HOLD"⟩,
  ⟨0xA002, 1, 1, 12, .dur32, 0, 2, .nv, 0xF4240, some ⟨0, 4294967295, none, 1⟩, "HOLD_TIME_n"⟩,
  ⟨0xA010, 1, 0, 1, .bool, 0, 2, .vol, 0, none, "OUTPUTS_RELEASE"⟩,
  ⟨0xA011, 1, 0, 1, .u8, 0, 4, .cmp, 0, none, "START_STEP"⟩,
  ⟨0xA012, 1, 0, 1, .u16, 0, 4, .cmp, 0, none, "RESET_CAUSE"⟩]

/-- The dictionary table of chapter 02. -/
def dict02 : List DictRow := dict02_0

def dict03_0 : List DictRow := [
  ⟨0x2000, 1, 0, 1, .record, 0, 4, .cmp, 8, none, "TIME_STATUS"⟩,
  ⟨0x2000, 1, 1, 1, .time64, 0, 4, .cmp, 0, none, "TIME_NOW"⟩,
  ⟨0x2000, 1, 2, 1, .u8, 0, 4, .cmp, 0, none, "STATE"⟩,
  ⟨0x2000, 1, 3, 1, .u8, 0, 4, .cmp, 0, none, "SOURCE"⟩,
  ⟨0x2000, 1, 4, 1, .u32, 0, 4, .cmp, 0xFFFFFFFF, none, "ERR_EST"⟩,
  ⟨0x2000, 1, 5, 1, .i32, 0, 4, .cmp, 0, none, "OFFSET_LAST"⟩,
  ⟨0x2000, 1, 6, 1, .u8, 0, 4, .cmp, 0, none, "STEPS_REMOVED"⟩,
  ⟨0x2000, 1, 7, 1, .u8, 0, 4, .cmp, 248, none, "CLOCK_CLASS"⟩,
  ⟨0x2000, 1, 8, 1, (.blob 8), 0, 4, .cmp, 0, none, "GM_IDENTITY"⟩,
  ⟨0x2001, 1, 0, 1, .record, 0, 4, .cmp, 15, none, "TIME_CONFIG"⟩,
  ⟨0x2001, 1, 1, 1, .u8, 0, 2, .nv, 2, some ⟨0, 3, none, 1⟩, "PTP_ROLE"⟩,
  ⟨0x2001, 1, 2, 1, .u8, 0, 2, .nv, 0, some ⟨0, 2, none, 1⟩, "TRANSPORT"⟩,
  ⟨0x2001, 1, 3, 1, .u8, 0, 2, .nv, 0, some ⟨0, 1, none, 1⟩, "DELAY_MECH"⟩,
  ⟨0x2001, 1, 4, 1, .u8, 0, 2, .nv, 0, some ⟨0, 127, none, 1⟩, "DOMAIN"⟩,
  ⟨0x2001, 1, 5, 1, .u8, 0, 2, .nv, 128, some ⟨0, 255, none, 1⟩, "PRIORITY1"⟩,
  ⟨0x2001, 1, 6, 1, .u8, 0, 2, .nv, 128, some ⟨0, 255, none, 1⟩, "PRIORITY2"⟩,
  ⟨0x2001, 1, 7, 1, .i8, 0, 2, .nv, 253, some ⟨(-4), 1, none, 1⟩, "LOG_SYNC"⟩,
  ⟨0x2001, 1, 8, 1, .i8, 0, 2, .nv, 0, some ⟨(-3), 3, none, 1⟩, "LOG_ANNOUNCE"⟩,
  ⟨0x2001, 1, 9, 1, .u8, 0, 2, .nv, 3, some ⟨2, 10, none, 1⟩, "ANNOUNCE_TIMEOUT"⟩,
  ⟨0x2001, 1, 10, 1, .dur32, 0, 2, .nv, 0xF4240, some ⟨1000, 1000000000, none, 1⟩, "STEP_THRESHOLD"⟩,
  ⟨0x2001, 1, 11, 1, .u32, 0, 2, .nv, 0x186A0, some ⟨1000, 200000, none, 1⟩, "SLEW_MAX"⟩,
  ⟨0x2001, 1, 12, 1, .dur32, 0, 2, .nv, 1000, some ⟨50, 1000000, none, 1⟩, "LOCK_THRESHOLD"⟩,
  ⟨0x2001, 1, 13, 1, .u16, 0, 2, .nv, 10, some ⟨1, 600, none, 1⟩, "ACQ_TIMEOUT"⟩,
  ⟨0x2001, 1, 14, 1, .dur32, 0, 2, .nv, 10000, some ⟨100, 4294967295, none, 1⟩, "HOLDOVER_LIMIT"⟩]

def dict03_1 : List DictRow := [
  ⟨0x2001, 1, 15, 1, .u16, 0, 2, .nv, 65535, some ⟨0, 1023, some 65535, 1⟩, "NODE_NUMBER"⟩,
  ⟨0x2002, 1, 0, 1, .record, 0, 4, .cmp, 6, none, "PORT_ASYMMETRY"⟩,
  ⟨0x2002, 1, 1, 6, .i32, 0, 2, .nv, 0, some ⟨(-100000), 100000, none, 1⟩, "ASYM_n"⟩,
  ⟨0x2003, 1, 0, 1, .time64, 0, 3, .vol, 0, none, "SET_TIME"⟩,
  ⟨0x2004, 1, 0, 1, .record, 0, 4, .cmp, 7, none, "PPS_CONFIG"⟩,
  ⟨0x2004, 1, 1, 1, .bool, 0, 2, .nv, 0, none, "PPSIN_ENABLE"⟩,
  ⟨0x2004, 1, 2, 1, .u8, 0, 2, .nv, 0, some ⟨0, 1, none, 1⟩, "PPSIN_EDGE"⟩,
  ⟨0x2004, 1, 3, 1, .i32, 0, 2, .nv, 0, some ⟨(-1000000), 1000000, none, 1⟩, "PPSIN_CABLE_DELAY"⟩,
  ⟨0x2004, 1, 4, 1, .u8, 0, 2, .nv, 0, some ⟨0, 2, none, 1⟩, "PPSOUT_MODE"⟩,
  ⟨0x2004, 1, 5, 1, .u8, 0, 2, .nv, 100, some ⟨1, 255, none, 1⟩, "PPSOUT_WIDTH"⟩,
  ⟨0x2004, 1, 6, 1, .dur32, 0, 2, .nv, 0x3B9ACA00, some ⟨1000, 4294967295, none, 1⟩, "PPSOUT_PERIOD"⟩,
  ⟨0x2004, 1, 7, 1, .dur32, 0, 2, .nv, 100, some ⟨0, 1000000, none, 1⟩, "PPSIN_ACCURACY"⟩,
  ⟨0x2005, 1, 0, 1, .record, 0, 4, .cmp, 3, none, "UTC"⟩,
  ⟨0x2005, 1, 1, 1, .i16, 0, 3, .nv, 37, some ⟨(-1000), 1000, none, 1⟩, "UTC_OFFSET"⟩,
  ⟨0x2005, 1, 2, 1, .u8, 0, 3, .nv, 0, some ⟨0, 2, none, 1⟩, "LEAP"⟩,
  ⟨0x2005, 1, 3, 1, .bool, 0, 3, .nv, 0, none, "UTC_VALID"⟩,
  ⟨0x2010, 4, 0, 1, .record, 0, 4, .cmp, 5, none, "LOCAL_RULE_k"⟩,
  ⟨0x2010, 4, 1, 1, .i16, 0, 2, .nv, 0, some ⟨(-720), 840, none, 1⟩, "STD_OFFSET"⟩,
  ⟨0x2010, 4, 2, 1, .u8, 0, 2, .nv, 60, some ⟨0, 120, none, 1⟩, "DST_DELTA"⟩,
  ⟨0x2010, 4, 3, 1, .u32, 0, 2, .nv, 0, none, "DST_START"⟩,
  ⟨0x2010, 4, 4, 1, .u32, 0, 2, .nv, 0, none, "DST_END"⟩,
  ⟨0x2010, 4, 5, 1, .bool, 0, 4, .cmp, 0, none, "IN_DST"⟩,
  ⟨0x2020, 1, 0, 1, .record, 0, 4, .cmp, 3, none, "SITE"⟩,
  ⟨0x2020, 1, 1, 1, .i32, 0, 2, .nv, 0, some ⟨(-900000000), 900000000, none, 1⟩, "LATITUDE"⟩]

def dict03_2 : List DictRow := [
  ⟨0x2020, 1, 2, 1, .i32, 0, 2, .nv, 0, some ⟨(-1800000000), 1800000000, none, 1⟩, "LONGITUDE"⟩,
  ⟨0x2020, 1, 3, 1, .u8, 0, 2, .nv, 0, some ⟨0, 3, none, 1⟩, "RULE_SET"⟩,
  ⟨0x2021, 1, 0, 1, .record, 0, 4, .cmp, 11, none, "SUN_TODAY"⟩,
  ⟨0x2021, 1, 1, 9, .time64, 0, 4, .cmp, 0, none, "EVENT_n"⟩,
  ⟨0x2021, 1, 10, 1, .u16, 0, 4, .cmp, 0, none, "ALWAYS_ABOVE"⟩,
  ⟨0x2021, 1, 11, 1, .u16, 0, 4, .cmp, 0, none, "ALWAYS_BELOW"⟩,
  ⟨0x2022, 1, 0, 1, .record, 0, 4, .cmp, 3, none, "SUN_POSITION"⟩,
  ⟨0x2022, 1, 1, 1, .u16, 0, 4, .cmp, 0, none, "AZIMUTH"⟩,
  ⟨0x2022, 1, 2, 1, .i16, 0, 4, .cmp, 0, none, "ELEVATION"⟩,
  ⟨0x2022, 1, 3, 1, .time64, 0, 4, .cmp, 0, none, "AT"⟩,
  ⟨0x2030, 1, 0, 1, .record, 0, 4, .cmp, 4, none, "HOLDOVER"⟩,
  ⟨0x2030, 1, 1, 1, .u8, 0, 4, .shd, 0, none, "BINS_LEARNED"⟩,
  ⟨0x2030, 1, 2, 1, .u32, 0, 4, .shd, 50, none, "RATE_BOUND"⟩,
  ⟨0x2030, 1, 3, 1, .bool, 0, 2, .vol, 0, none, "CLEAR"⟩,
  ⟨0x2030, 1, 4, 1, .time64, 0, 4, .cmp, 0, none, "SINCE"⟩]

/-- The dictionary table of chapter 03. -/
def dict03 : List DictRow := dict03_0 ++ dict03_1 ++ dict03_2

def dict04_0 : List DictRow := [
  ⟨0x2100, 1, 0, 1, .record, 0, 4, .cmp, 7, none, "LEDGER_STATUS"⟩,
  ⟨0x2100, 1, 1, 1, .u8, 0, 4, .cmp, 0, none, "STATE"⟩,
  ⟨0x2100, 1, 2, 1, .u16, 0, 4, .cmp, 0, none, "ARMED_BOOKS"⟩,
  ⟨0x2100, 1, 3, 1, .u64, 0, 4, .cmp, 0, none, "POSTINGS"⟩,
  ⟨0x2100, 1, 4, 1, .u32, 0, 4, .cmp, 0, none, "LATE"⟩,
  ⟨0x2100, 1, 5, 1, .u32, 0, 4, .cmp, 0, none, "MISSED"⟩,
  ⟨0x2100, 1, 6, 1, .u32, 0, 4, .cmp, 0, none, "DEFERRED"⟩,
  ⟨0x2100, 1, 7, 1, .u32, 0, 4, .cmp, 0, none, "GUARDED"⟩,
  ⟨0x2110, 16, 0, 1, .record, 0, 4, .cmp, 4, none, "BOOK_b"⟩,
  ⟨0x2110, 16, 1, 1, .bool, 0, 5, .vol, 0, none, "ARM"⟩,
  ⟨0x2110, 16, 2, 1, .bool, 0, 5, .nv, 0, none, "AUTO_ARM"⟩,
  ⟨0x2110, 16, 3, 1, .u16, 0, 4, .cmp, 0, none, "ENABLED"⟩,
  ⟨0x2110, 16, 4, 1, (.blob 8192), 2, 5, .nv, 0, none, "IMAGE"⟩,
  ⟨0x2130, 1, 0, 1, .record, 0, 4, .cmp, 3, none, "ENTRY_EDIT"⟩,
  ⟨0x2130, 1, 1, 1, .u16, 0, 2, .vol, 0, some ⟨0, 4095, none, 1⟩, "SELECT"⟩,
  ⟨0x2130, 1, 2, 1, (.blob 32), 2, 2, .vol, 0, none, "WORDS"⟩,
  ⟨0x2130, 1, 3, 1, .bool, 0, 2, .vol, 0, none, "COMMIT"⟩,
  ⟨0x2131, 1, 0, 1, .record, 0, 4, .cmp, 5, none, "ENTRY_STATUS"⟩,
  ⟨0x2131, 1, 1, 1, .u32, 0, 4, .cmp, 0, none, "NEXT_INDEX"⟩,
  ⟨0x2131, 1, 2, 1, .time64, 0, 4, .cmp, 0, none, "NEXT_TIME"⟩,
  ⟨0x2131, 1, 3, 1, .u16, 0, 4, .cmp, 0, none, "FLAGS"⟩,
  ⟨0x2131, 1, 4, 1, .u16, 0, 4, .cmp, 0, none, "MISSED"⟩,
  ⟨0x2131, 1, 5, 1, .time64, 0, 4, .cmp, 0, none, "LAST_POSTED"⟩,
  ⟨0x2140, 1, 0, 1, .u64, 0, 1, .vol, 0, none, "FLAGS"⟩]

/-- The dictionary table of chapter 04. -/
def dict04 : List DictRow := dict04_0

def dict05_0 : List DictRow := [
  ⟨0x3000, 4, 0, 1, .record, 0, 4, .cmp, 7, none, "CVU_STATUS_n"⟩,
  ⟨0x3000, 4, 1, 1, .u8, 0, 4, .cmp, 9, none, "GOOD"⟩,
  ⟨0x3000, 4, 2, 1, .u8, 0, 4, .cmp, 0, none, "MODE"⟩,
  ⟨0x3000, 4, 3, 1, .u32, 0, 4, .cmp, 0x1312D00, none, "RATE"⟩,
  ⟨0x3000, 4, 4, 1, .u16, 0, 4, .nv, 0, none, "RETIRED"⟩,
  ⟨0x3000, 4, 5, 1, .time64, 0, 4, .cmp, 0, none, "LAST_FGCAL"⟩,
  ⟨0x3000, 4, 6, 1, .u32, 0, 4, .cmp, 0, none, "ROUNDS"⟩,
  ⟨0x3000, 4, 7, 1, .bool, 0, 4, .cmp, 0, none, "CAL_STALE"⟩,
  ⟨0x3010, 4, 0, 1, .record, 0, 4, .cmp, 4, none, "CVU_CONFIG_n"⟩,
  ⟨0x3010, 4, 1, 1, .u16, 0, 2, .nv, 0, some ⟨0, 4095, none, 1⟩, "DIFF_PAIRS"⟩,
  ⟨0x3010, 4, 2, 1, .u8, 0, 2, .nv, 0, some ⟨0, 1, none, 1⟩, "FGCAL_MODE"⟩,
  ⟨0x3010, 4, 3, 1, .u16, 0, 2, .nv, 10, some ⟨1, 600, none, 1⟩, "FGCAL_PERIOD"⟩,
  ⟨0x3010, 4, 4, 1, .u16, 0, 2, .vol, 0, some ⟨0, 511, none, 1⟩, "REQUALIFY"⟩,
  ⟨0x3020, 4, 0, 1, .record, 0, 4, .cmp, 7, none, "CALSET_n"⟩,
  ⟨0x3020, 4, 1, 1, .u8, 0, 4, .cmp, 0, none, "ACTIVE"⟩,
  ⟨0x3020, 4, 2, 1, (.blob 256), 2, 2, .nv, 0x870813C6000000000000000000000000000000000000000000000000000000000000000000000000000000000000000000000000000000000000000040000000000000004000000000000000400000000000000040000000000000004000000000000000400000000000000040000000000000004000000000000000400000000000000040000000000000004000000000000000400000000000000040000000000000004000000000000000400000000000000040000000000000004000000000000000400000000000000040000000000000004000000000000000400000000000000040000000000000004000000000000000400000000000000000000000, none, "BANK_A"⟩,
  ⟨0x3020, 4, 3, 1, (.blob 256), 2, 2, .nv, 0x870813C6000000000000000000000000000000000000000000000000000000000000000000000000000000000000000000000000000000000000000040000000000000004000000000000000400000000000000040000000000000004000000000000000400000000000000040000000000000004000000000000000400000000000000040000000000000004000000000000000400000000000000040000000000000004000000000000000400000000000000040000000000000004000000000000000400000000000000040000000000000004000000000000000400000000000000040000000000000004000000000000000400000000000000000000000, none, "BANK_B"⟩,
  ⟨0x3020, 4, 4, 1, .time64, 0, 2, .vol, 0, none, "ACTIVATE_AT"⟩,
  ⟨0x3020, 4, 5, 1, .u16, 0, 2, .nv, 60, some ⟨1, 3600, none, 1⟩, "HEALTH_WINDOW"⟩,
  ⟨0x3020, 4, 6, 1, .bool, 0, 2, .vol, 0, none, "HEALTH_FAIL"⟩,
  ⟨0x3020, 4, 7, 1, .u8, 0, 4, .cmp, 0, none, "STATE"⟩,
  ⟨0x3030, 1, 0, 1, .record, 0, 4, .cmp, 8, none, "EXCITATION"⟩,
  ⟨0x3030, 1, 1, 8, .u16, 0, 2, .nv, 0, some ⟨10, 1000, some 0, 10⟩, "EXC_j"⟩,
  ⟨0x3031, 1, 0, 1, .record, 0, 4, .cmp, 8, none, "EXC_MODE"⟩]

def dict05_1 : List DictRow := [
  ⟨0x3031, 1, 1, 8, .u8, 0, 2, .nv, 0, some ⟨0, 1, none, 1⟩, "MODE_j"⟩,
  ⟨0x3040, 1, 0, 1, .record, 0, 4, .cmp, 2, none, "HKC_STATUS"⟩,
  ⟨0x3040, 1, 1, 1, .u32, 0, 4, .cmp, 0, none, "ROUND"⟩,
  ⟨0x3040, 1, 2, 1, .bool, 0, 4, .cmp, 0, none, "FAULT"⟩,
  ⟨0x3041, 1, 0, 1, .record, 0, 4, .cmp, 48, none, "HKC_VALUES"⟩,
  ⟨0x3041, 1, 1, 48, .i32, 0, 4, .cmp, 0, none, "CHAN_c"⟩]

/-- The dictionary table of chapter 05. -/
def dict05 : List DictRow := dict05_0 ++ dict05_1

def dict06_0 : List DictRow := [
  ⟨0x3100, 4, 0, 1, .record, 0, 4, .cmp, 8, none, "SEQUENCE_n"⟩,
  ⟨0x3100, 4, 1, 1, .bool, 0, 2, .nv, 0, none, "ENABLE"⟩,
  ⟨0x3100, 4, 2, 1, .u8, 0, 2, .nv, 0, some ⟨0, 32, none, 1⟩, "LENGTH"⟩,
  ⟨0x3100, 4, 3, 1, .u8, 0, 2, .nv, 0, some ⟨0, 1, none, 1⟩, "MODE"⟩,
  ⟨0x3100, 4, 4, 1, .u8, 0, 2, .nv, 0, some ⟨0, 8, none, 1⟩, "TRIG_SRC"⟩,
  ⟨0x3100, 4, 5, 1, .u8, 0, 2, .nv, 0, some ⟨0, 2, none, 1⟩, "POLICY"⟩,
  ⟨0x3100, 4, 6, 1, .u8, 0, 2, .nv, 0, some ⟨0, 1, none, 1⟩, "INJ_MODE"⟩,
  ⟨0x3100, 4, 7, 1, (.blob 128), 2, 2, .nv, 0x10000000100000001000000010000000100000001000000010000000100000001000000010000000100000001000000010000000100000001000000010000000100000001000000010000000100000001000000010000000100000001000000010000000100000001000000010000000100000001000000010000000100, none, "ENTRIES"⟩,
  ⟨0x3100, 4, 8, 1, (.blob 32), 2, 2, .nv, 0x3F000000000000003F000000000000003F000000000000003F00000000, none, "PROFILES"⟩,
  ⟨0x3110, 4, 0, 1, .record, 0, 4, .cmp, 5, none, "SEQ_STATUS_n"⟩,
  ⟨0x3110, 4, 1, 1, .u32, 0, 4, .cmp, 0, none, "PASSES"⟩,
  ⟨0x3110, 4, 2, 1, .u32, 0, 4, .cmp, 0, none, "MISSED"⟩,
  ⟨0x3110, 4, 3, 1, .u32, 0, 4, .cmp, 0, none, "RESTARTED"⟩,
  ⟨0x3110, 4, 4, 1, .u32, 0, 4, .cmp, 0, none, "INJ_LOST"⟩,
  ⟨0x3110, 4, 5, 1, .u16, 0, 4, .cmp, 0, none, "CFG_ERROR"⟩,
  ⟨0x3120, 4, 0, 1, .record, 0, 4, .cmp, 16, none, "STREAMS_n"⟩,
  ⟨0x3120, 4, 1, 16, (.blob 16), 0, 2, .nv, 0, none, "STREAM_s"⟩,
  ⟨0x3130, 4, 0, 1, .record, 0, 4, .cmp, 33, none, "LATEST_n"⟩,
  ⟨0x3130, 4, 1, 32, .i32, 0, 4, .cmp, 0x80000000, none, "ENTRY_e"⟩,
  ⟨0x3130, 4, 33, 1, .i32, 0, 4, .cmp, 0x80000000, none, "INJECTED"⟩,
  ⟨0x3140, 4, 0, 1, .u32, 0, 2, .vol, 0, none, "INJECT_n"⟩]

/-- The dictionary table of chapter 06. -/
def dict06 : List DictRow := dict06_0

def dict08_0 : List DictRow := [
  ⟨0x4000, 32, 0, 1, .record, 0, 4, .cmp, 9, none, "ENGINE_n"⟩,
  ⟨0x4000, 32, 1, 1, (.blob 12288), 2, 2, .nv, 0, none, "IMAGE"⟩,
  ⟨0x4000, 32, 2, 1, .u32, 0, 4, .cmp, 0, none, "LOAD_STATUS"⟩,
  ⟨0x4000, 32, 3, 1, (.blob 8), 2, 2, .nv, 0, none, "LIB_BIND"⟩,
  ⟨0x4000, 32, 4, 1, .u16, 0, 2, .vol, 0, none, "REMOVE_PROG"⟩,
  ⟨0x4000, 32, 5, 1, (.blob 1024), 2, 2, .nv, 0, none, "ROUTES_IN"⟩,
  ⟨0x4000, 32, 6, 1, (.blob 1024), 2, 2, .nv, 0, none, "ROUTES_OUT"⟩,
  ⟨0x4000, 32, 7, 1, .u32, 0, 4, .cmp, 0, none, "SETTLED"⟩,
  ⟨0x4000, 32, 8, 1, .u32, 0, 4, .cmp, 0, none, "VOIDED"⟩,
  ⟨0x4000, 32, 9, 1, (.blob 16384), 2, 4, .cmp, 0, none, "TRACE"⟩,
  ⟨0x4100, 512, 0, 1, .record, 0, 4, .cmp, 12, none, "SLOT_n_s"⟩,
  ⟨0x4100, 512, 1, 1, .bool, 0, 2, .nv, 0, none, "ENABLE"⟩,
  ⟨0x4100, 512, 2, 1, .u32, 0, 2, .nv, 768, none, "CONFIG"⟩,
  ⟨0x4100, 512, 3, 1, .u32, 0, 2, .nv, 0, none, "WINDOWS"⟩,
  ⟨0x4100, 512, 4, 1, .u32, 0, 2, .nv, 4095, none, "TRIGGER"⟩,
  ⟨0x4100, 512, 5, 1, .u32, 0, 2, .nv, 0, none, "PERIOD"⟩,
  ⟨0x4100, 512, 6, 1, .u16, 0, 2, .nv, 0, none, "KEEP"⟩,
  ⟨0x4100, 512, 7, 1, (.blob 128), 2, 2, .nv, 0, none, "TOLERANCE"⟩,
  ⟨0x4100, 512, 8, 1, (.blob 32), 2, 2, .nv, 0, none, "SAFE"⟩,
  ⟨0x4100, 512, 9, 1, .bool, 0, 1, .vol, 0, none, "START"⟩,
  ⟨0x4100, 512, 10, 1, .bool, 0, 2, .vol, 0, none, "REARM"⟩,
  ⟨0x4100, 512, 11, 1, .u32, 0, 4, .cmp, 0, none, "STATUS"⟩,
  ⟨0x4100, 512, 12, 1, .u32, 0, 4, .cmp, 0, none, "OVERRUNS"⟩,
  ⟨0x4300, 32, 0, 1, .record, 0, 4, .cmp, 10, none, "SWAP_n"⟩]

def dict08_1 : List DictRow := [
  ⟨0x4300, 32, 1, 1, .u8, 0, 2, .vol, 0, some ⟨0, 15, none, 1⟩, "SLOT"⟩,
  ⟨0x4300, 32, 2, 1, .u16, 0, 2, .vol, 0, none, "NEW_PROG"⟩,
  ⟨0x4300, 32, 3, 1, (.blob 128), 2, 2, .vol, 0, none, "MAP"⟩,
  ⟨0x4300, 32, 4, 1, .u8, 0, 2, .vol, 0, some ⟨0, 16, none, 1⟩, "MAP_COUNT"⟩,
  ⟨0x4300, 32, 5, 1, (.blob 128), 2, 2, .vol, 0, none, "REVMAP"⟩,
  ⟨0x4300, 32, 6, 1, .u8, 0, 2, .vol, 0, some ⟨0, 16, none, 1⟩, "REVMAP_COUNT"⟩,
  ⟨0x4300, 32, 7, 1, .time64, 0, 2, .vol, 0, none, "ACTIVATE_AT"⟩,
  ⟨0x4300, 32, 8, 1, .u16, 0, 2, .nv, 60, some ⟨1, 3600, none, 1⟩, "HEALTH_WINDOW"⟩,
  ⟨0x4300, 32, 9, 1, .bool, 0, 2, .vol, 0, none, "HEALTH_FAIL"⟩,
  ⟨0x4300, 32, 10, 1, .u8, 0, 4, .cmp, 0, none, "STATE"⟩,
  ⟨0x4400, 1024, 0, 1, .q15, 0, 4, .cmp, 0, none, "ENGINE_VALUE_k"⟩,
  ⟨0x4800, 1024, 0, 1, .q15, 0, 1, .vol, 0, none, "ENGINE_INPUT_k"⟩]

/-- The dictionary table of chapter 08. -/
def dict08 : List DictRow := dict08_0 ++ dict08_1

def dict09_0 : List DictRow := [
  ⟨0x5000, 256, 0, 1, .record, 0, 4, .cmp, 15, none, "ZONE_z"⟩,
  ⟨0x5000, 256, 1, 1, .bool, 0, 2, .nv, 0, none, "ENABLE"⟩,
  ⟨0x5000, 256, 2, 4, .u64, 0, 2, .nv, 0, none, "SRC_1"⟩,
  ⟨0x5000, 256, 6, 1, .u8, 0, 2, .nv, 0, some ⟨0, 3, none, 1⟩, "VOTE"⟩,
  ⟨0x5000, 256, 7, 1, .u8, 0, 2, .nv, 255, some ⟨0, 63, some 255, 1⟩, "PRESENCE_GPIO"⟩,
  ⟨0x5000, 256, 8, 1, .u8, 0, 2, .nv, 255, some ⟨0, 63, some 255, 1⟩, "WINDOW_GPIO"⟩,
  ⟨0x5000, 256, 9, 1, .u8, 0, 2, .nv, 255, some ⟨0, 63, some 255, 1⟩, "CONDENSE_GPIO"⟩,
  ⟨0x5000, 256, 10, 1, .u64, 0, 2, .nv, 0, none, "CO2_SRC"⟩,
  ⟨0x5000, 256, 11, 1, .u8, 0, 2, .nv, 255, some ⟨0, 15, some 255, 1⟩, "PROGRAM"⟩,
  ⟨0x5000, 256, 12, 1, .u16, 0, 2, .nv, 0, some ⟨0, 4095, none, 1⟩, "LOOP"⟩,
  ⟨0x5000, 256, 13, 1, .u16, 0, 2, .nv, 0, some ⟨0, 1022, none, 1⟩, "INPUT_BASE"⟩,
  ⟨0x5000, 256, 14, 1, .q15, 0, 2, .nv, 26214, none, "KP"⟩,
  ⟨0x5000, 256, 15, 1, .q15, 0, 2, .nv, 350, none, "KI"⟩,
  ⟨0x5100, 256, 0, 1, .record, 0, 4, .cmp, 9, none, "ZONE_CMD_z"⟩,
  ⟨0x5100, 256, 1, 1, (.blob 16), 0, 2, .nv, 0x96008340A28076C0AF006A40DAC0320, none, "SETPOINTS"⟩,
  ⟨0x5100, 256, 2, 1, .u8, 0, 1, .vol, 255, some ⟨0, 4, some 255, 1⟩, "MANUAL_MODE"⟩,
  ⟨0x5100, 256, 3, 1, .time64, 0, 1, .vol, 0, none, "MANUAL_UNTIL"⟩,
  ⟨0x5100, 256, 4, 1, .q15, 0, 1, .vol, 32768, none, "MANUAL_OUTPUT"⟩,
  ⟨0x5100, 256, 5, 1, .u8, 0, 1, .vol, 255, some ⟨0, 4, some 255, 1⟩, "HOST_MODE"⟩,
  ⟨0x5100, 256, 6, 1, .q15, 0, 1, .vol, 32768, none, "HOST_OUTPUT"⟩,
  ⟨0x5100, 256, 7, 1, .i16, 0, 1, .shd, 0, some ⟨(-300), 300, none, 1⟩, "SP_OFFSET"⟩,
  ⟨0x5100, 256, 8, 1, .i16, 0, 1, .vol, 32768, none, "EXT_TEMP"⟩,
  ⟨0x5100, 256, 9, 1, (.blob 10), 0, 2, .nv, 0, none, "TABLE_OUT"⟩,
  ⟨0x5200, 256, 0, 1, .record, 0, 4, .cmp, 9, none, "ZONE_STAT_z"⟩]

def dict09_1 : List DictRow := [
  ⟨0x5200, 256, 1, 1, .i16, 0, 4, .cmp, 32768, none, "TEMP"⟩,
  ⟨0x5200, 256, 2, 1, .u8, 0, 4, .cmp, 0, none, "CANDIDATES"⟩,
  ⟨0x5200, 256, 3, 1, .u8, 0, 4, .cmp, 0, none, "MODE"⟩,
  ⟨0x5200, 256, 4, 1, .u8, 0, 4, .cmp, 0, none, "MODE_SOURCE"⟩,
  ⟨0x5200, 256, 5, 1, .u8, 0, 4, .cmp, 2, none, "OUTPUT_SOURCE"⟩,
  ⟨0x5200, 256, 6, 1, .q15, 0, 4, .cmp, 0, none, "OUTPUT"⟩,
  ⟨0x5200, 256, 7, 1, .q15, 0, 4, .cmp, 0, none, "DEMAND"⟩,
  ⟨0x5200, 256, 8, 1, .bool, 0, 4, .cmp, 0, none, "DEMAND_VALID"⟩,
  ⟨0x5200, 256, 9, 1, .u16, 0, 4, .cmp, 0, none, "FLAGS"⟩,
  ⟨0x5300, 16, 0, 1, .record, 0, 4, .cmp, 9, none, "WEEKLY_w"⟩,
  ⟨0x5300, 16, 1, 1, .u8, 0, 2, .nv, 0, some ⟨0, 3, none, 1⟩, "RULE_SET"⟩,
  ⟨0x5300, 16, 2, 7, (.blob 32), 0, 2, .nv, 0, none, "DAY_d"⟩,
  ⟨0x5300, 16, 9, 1, .u8, 0, 4, .cmp, 0, none, "MODE_NOW"⟩,
  ⟨0x5310, 1, 1, 64, (.blob 8), 0, 2, .nv, 0, none, "EXCEPTION_x"⟩,
  ⟨0x5320, 1, 0, 1, .record, 0, 4, .cmp, 3, none, "DAY_BOOK"⟩,
  ⟨0x5320, 1, 1, 1, .u8, 0, 4, .cmp, 12, none, "ACTIVE"⟩,
  ⟨0x5320, 1, 2, 1, .u16, 0, 4, .cmp, 0, none, "ENTRIES"⟩,
  ⟨0x5320, 1, 3, 1, .time64, 0, 4, .cmp, 0, none, "NEXT_SWAP"⟩,
  ⟨0x5400, 128, 0, 1, .record, 0, 4, .cmp, 13, none, "LIGHT_g"⟩,
  ⟨0x5400, 128, 1, 1, .bool, 0, 2, .nv, 0, none, "ENABLE"⟩,
  ⟨0x5400, 128, 2, 1, .u8, 0, 2, .nv, 255, some ⟨0, 14, some 255, 1⟩, "LATCH_GROUP"⟩,
  ⟨0x5400, 128, 3, 1, .u32, 0, 2, .nv, 0, none, "ACT_MASK"⟩,
  ⟨0x5400, 128, 4, 1, .u8, 0, 2, .nv, 255, some ⟨0, 7, some 255, 1⟩, "CAN_CHANNEL"⟩,
  ⟨0x5400, 128, 5, 1, .u32, 0, 2, .nv, 0, none, "CAN_ON_BUFFERS"⟩]

def dict09_2 : List DictRow := [
  ⟨0x5400, 128, 6, 1, .u32, 0, 2, .nv, 0, none, "CAN_OFF_BUFFERS"⟩,
  ⟨0x5400, 128, 7, 1, .u8, 0, 2, .nv, 255, some ⟨0, 63, some 255, 1⟩, "PUBLICATION"⟩,
  ⟨0x5400, 128, 8, 1, .u8, 0, 2, .nv, 255, some ⟨0, 15, some 255, 1⟩, "PROGRAM"⟩,
  ⟨0x5400, 128, 9, 1, .u8, 0, 2, .nv, 3, some ⟨1, 4, none, 1⟩, "ON_MODE"⟩,
  ⟨0x5400, 128, 10, 1, (.blob 48), 0, 2, .nv, 0, none, "RULES"⟩,
  ⟨0x5400, 128, 11, 1, .u8, 0, 1, .vol, 255, some ⟨0, 1, some 255, 1⟩, "MANUAL"⟩,
  ⟨0x5400, 128, 12, 1, .u8, 0, 1, .vol, 255, some ⟨0, 1, some 255, 1⟩, "HOST"⟩,
  ⟨0x5400, 128, 13, 1, .u8, 0, 4, .cmp, 0, none, "STATE"⟩,
  ⟨0x5500, 1, 0, 1, .record, 0, 4, .cmp, 20, none, "FLOOR"⟩,
  ⟨0x5500, 1, 1, 1, .u8, 0, 4, .cmp, 1, none, "HOST_STATE"⟩,
  ⟨0x5500, 1, 2, 1, .u16, 0, 2, .nv, 100, none, "DISAGREE"⟩,
  ⟨0x5500, 1, 3, 1, .u16, 0, 2, .nv, 25, none, "DISAGREE_HYST"⟩,
  ⟨0x5500, 1, 4, 1, .i16, 0, 2, .nv, 63536, none, "PLAUS_MIN"⟩,
  ⟨0x5500, 1, 5, 1, .i16, 0, 2, .nv, 5000, none, "PLAUS_MAX"⟩,
  ⟨0x5500, 1, 6, 1, .u16, 0, 2, .nv, 50, none, "PLAUS_HYST"⟩,
  ⟨0x5500, 1, 7, 1, .u16, 0, 2, .nv, 10, some ⟨1, 3600, none, 1⟩, "SRC_STALE"⟩,
  ⟨0x5500, 1, 8, 1, .u8, 0, 2, .nv, 4, some ⟨1, 255, none, 1⟩, "VOTE_DWELL"⟩,
  ⟨0x5500, 1, 9, 1, .u16, 0, 2, .nv, 200, none, "ALARM_BAND"⟩,
  ⟨0x5500, 1, 10, 1, .u16, 0, 2, .nv, 50, none, "ALARM_HYST"⟩,
  ⟨0x5500, 1, 11, 1, .u16, 0, 2, .nv, 300, some ⟨1, 65535, none, 1⟩, "ALARM_DWELL"⟩,
  ⟨0x5500, 1, 12, 1, .i16, 0, 2, .nv, 500, none, "FROST"⟩,
  ⟨0x5500, 1, 13, 1, .i16, 0, 2, .nv, 100, none, "FROST_HYST"⟩,
  ⟨0x5500, 1, 14, 1, .u8, 0, 2, .nv, 10, some ⟨1, 255, none, 1⟩, "WINDOW_DWELL"⟩,
  ⟨0x5500, 1, 15, 1, .u8, 0, 2, .nv, 2, some ⟨1, 255, none, 1⟩, "CONDENSE_DWELL"⟩]

def dict09_3 : List DictRow := [
  ⟨0x5500, 1, 16, 1, .u16, 0, 2, .nv, 900, some ⟨1, 65535, none, 1⟩, "PRESENCE_HOLD"⟩,
  ⟨0x5500, 1, 17, 1, .u16, 0, 2, .nv, 655, some ⟨1, 32767, none, 1⟩, "ZONE_SLEW"⟩,
  ⟨0x5500, 1, 18, 1, .u16, 0, 2, .nv, 800, none, "CO2_LOW"⟩,
  ⟨0x5500, 1, 19, 1, .u16, 0, 2, .nv, 1400, none, "CO2_HIGH"⟩,
  ⟨0x5500, 1, 20, 1, .bool, 0, 2, .nv, 0, none, "PRESENCE_BOOST"⟩,
  ⟨0x5310, 1, 0, 1, .record, 0, 4, .cmp, 64, none, "EXCEPTION"⟩]

/-- The dictionary table of chapter 09. -/
def dict09 : List DictRow := dict09_0 ++ dict09_1 ++ dict09_2 ++ dict09_3

def dict10_0 : List DictRow := [
  ⟨0x6000, 8, 0, 1, .record, 0, 4, .cmp, 16, none, "MOTOR_m"⟩,
  ⟨0x6000, 8, 1, 1, .u32, 0, 2, .nv, 16000, some ⟨8000, 50000, none, 1⟩, "PWM_FREQ"⟩,
  ⟨0x6000, 8, 2, 1, .u16, 0, 2, .nv, 200, some ⟨0, 1275, none, 5⟩, "DEADTIME"⟩,
  ⟨0x6000, 8, 3, 1, .u8, 0, 2, .nv, 4, none, "FLT_CONFIG"⟩,
  ⟨0x6000, 8, 4, 1, .i16, 0, 2, .nv, 0, none, "TRIG_OFFSET"⟩,
  ⟨0x6000, 8, 5, 1, .u16, 0, 2, .nv, 3000, some ⟨100, 60000, none, 1⟩, "SPEED_FS"⟩,
  ⟨0x6000, 8, 6, 1, .q15, 0, 2, .nv, 3277, some ⟨1, 32767, none, 1⟩, "MIN_SPEED"⟩,
  ⟨0x6000, 8, 7, 1, .u16, 0, 2, .nv, 3277, none, "ACCEL"⟩,
  ⟨0x6000, 8, 8, 1, .u16, 0, 2, .nv, 3277, none, "DECEL"⟩,
  ⟨0x6000, 8, 9, 1, .u16, 0, 2, .nv, 4000, some ⟨100, 25500, none, 1⟩, "START_WINDOW"⟩,
  ⟨0x6000, 8, 10, 1, .u16, 0, 2, .nv, 5000, some ⟨0, 25500, none, 1⟩, "RETRY_PAUSE"⟩,
  ⟨0x6000, 8, 11, 1, .u8, 0, 2, .nv, 3, some ⟨0, 15, none, 1⟩, "RETRIES"⟩,
  ⟨0x6000, 8, 12, 1, .u16, 0, 2, .nv, 3000, some ⟨0, 25500, none, 1⟩, "COAST_TIME"⟩,
  ⟨0x6000, 8, 13, 1, .u8, 0, 2, .nv, 4, some ⟨1, 255, none, 1⟩, "WDOG_PERIODS"⟩,
  ⟨0x6000, 8, 14, 1, .u8, 0, 2, .nv, 15, some ⟨0, 15, none, 1⟩, "LATCH_GROUP"⟩,
  ⟨0x6000, 8, 15, 1, .u32, 0, 4, .cmp, 0, none, "STATUS"⟩,
  ⟨0x6000, 8, 16, 1, .bool, 0, 2, .vol, 0, none, "CLEAR"⟩,
  ⟨0x6100, 24, 0, 1, .record, 0, 4, .cmp, 13, none, "DRIVE_d"⟩,
  ⟨0x6100, 24, 1, 1, .bool, 0, 2, .nv, 0, none, "ENABLE"⟩,
  ⟨0x6100, 24, 2, 1, .u8, 0, 2, .nv, 0, some ⟨0, 3, none, 1⟩, "AUTO_SOURCE"⟩,
  ⟨0x6100, 24, 3, 1, .u8, 0, 2, .nv, 0, some ⟨0, 15, none, 1⟩, "MAP"⟩,
  ⟨0x6100, 24, 4, 1, .u16, 0, 2, .nv, 65535, some ⟨0, 1023, some 65535, 1⟩, "CASC_VALUE"⟩,
  ⟨0x6100, 24, 5, 1, .u8, 0, 2, .nv, 255, some ⟨0, 15, some 255, 1⟩, "PROGRAM"⟩,
  ⟨0x6100, 24, 6, 1, (.blob 10), 0, 2, .nv, 0, none, "TABLE"⟩]

def dict10_1 : List DictRow := [
  ⟨0x6100, 24, 7, 1, .q15, 0, 1, .vol, 32768, none, "MANUAL_SPEED"⟩,
  ⟨0x6100, 24, 8, 1, .time64, 0, 1, .vol, 0, none, "MANUAL_UNTIL"⟩,
  ⟨0x6100, 24, 9, 1, .q15, 0, 1, .vol, 32768, none, "HOST_SPEED"⟩,
  ⟨0x6100, 24, 10, 1, .u16, 0, 2, .nv, 1638, some ⟨1, 32767, none, 1⟩, "FAN_SLEW"⟩,
  ⟨0x6100, 24, 11, 1, .u16, 0, 2, .nv, 65535, some ⟨0, 1023, some 65535, 1⟩, "EFFORT_VALUE"⟩,
  ⟨0x6100, 24, 12, 1, .q15, 0, 4, .cmp, 0, none, "TARGET"⟩,
  ⟨0x6100, 24, 13, 1, .u8, 0, 4, .cmp, 0, none, "SOURCE"⟩,
  ⟨0x6200, 16, 0, 1, .record, 0, 4, .cmp, 10, none, "FAN_f"⟩,
  ⟨0x6200, 16, 1, 1, .u32, 0, 2, .nv, 0x3230AF4, none, "CONFIG"⟩,
  ⟨0x6200, 16, 2, 1, (.blob 32), 0, 2, .nv, 0x7000700060006000500050004000400030003000200020001000100000000000, none, "CURVE"⟩,
  ⟨0x6200, 16, 3, 1, .u32, 0, 2, .nv, 0xCCD1000, none, "TRIM"⟩,
  ⟨0x6200, 16, 4, 1, .u32, 0, 2, .nv, 0xBB819FF, none, "SENSE"⟩,
  ⟨0x6200, 16, 5, 1, (.blob 32), 0, 4, .shd, 0, none, "BANDS"⟩,
  ⟨0x6200, 16, 6, 1, .u8, 0, 2, .nv, 15, some ⟨0, 15, none, 1⟩, "LATCH_GROUP"⟩,
  ⟨0x6200, 16, 7, 1, .u32, 0, 4, .cmp, 0, none, "STATUS"⟩,
  ⟨0x6200, 16, 8, 1, .u16, 0, 4, .cmp, 0, none, "RPM"⟩,
  ⟨0x6200, 16, 9, 1, .bool, 0, 4, .cmp, 0, none, "TACH_VALID"⟩,
  ⟨0x6200, 16, 10, 1, .bool, 0, 2, .vol, 0, none, "CLEAR"⟩,
  ⟨0x6300, 16, 0, 1, .record, 0, 4, .cmp, 7, none, "MAP_g"⟩,
  ⟨0x6300, 16, 1, 1, (.blob 64), 0, 2, .nv, 0xFFFFFFFFFFFFFFFFFFFFFFFFFFFFFFFFFFFFFFFFFFFFFFFFFFFFFFFFFFFFFFFFFFFFFFFFFFFFFFFFFFFFFFFFFFFFFFFFFFFFFFFFFFFFFFFFFFFFFFFFFFFFFFFF, none, "ZONES"⟩,
  ⟨0x6300, 16, 2, 1, (.blob 32), 0, 2, .nv, 0, none, "CURVE"⟩,
  ⟨0x6300, 16, 3, 1, .q15, 0, 2, .nv, 0, none, "MIN"⟩,
  ⟨0x6300, 16, 4, 1, .u16, 0, 2, .nv, 0, some ⟨0, 511, none, 1⟩, "LOOP"⟩,
  ⟨0x6300, 16, 5, 1, .u16, 0, 2, .nv, 0, some ⟨0, 960, none, 1⟩, "INPUT_BASE"⟩]

def dict10_2 : List DictRow := [
  ⟨0x6300, 16, 6, 1, .u16, 0, 2, .nv, 65535, some ⟨0, 1023, some 65535, 1⟩, "VALUE"⟩,
  ⟨0x6300, 16, 7, 1, .q15, 0, 4, .cmp, 32768, none, "OUTPUT"⟩,
  ⟨0x6400, 24, 0, 1, .record, 0, 4, .cmp, 5, none, "AGEING_d"⟩,
  ⟨0x6400, 24, 1, 1, .bool, 0, 2, .vol, 0, none, "LEARN"⟩,
  ⟨0x6400, 24, 2, 1, (.blob 32), 0, 4, .nv, 0, none, "REF"⟩,
  ⟨0x6400, 24, 3, 1, .u16, 0, 4, .nv, 0, none, "LEARNED"⟩,
  ⟨0x6400, 24, 4, 1, .u16, 0, 4, .shd, 1000, none, "INDEX"⟩,
  ⟨0x6400, 24, 5, 1, .u8, 0, 4, .cmp, 3, none, "STATE"⟩]

/-- The dictionary table of chapter 10. -/
def dict10 : List DictRow := dict10_0 ++ dict10_1 ++ dict10_2

def dict11_0 : List DictRow := [
  ⟨0x7000, 32, 0, 1, .record, 0, 4, .cmp, 4, none, "ACT_n"⟩,
  ⟨0x7000, 32, 1, 1, .u8, 0, 2, .nv, 0, some ⟨0, 1, none, 1⟩, "MODE"⟩,
  ⟨0x7000, 32, 2, 1, .u16, 0, 2, .nv, 100, some ⟨0, 2550, none, 10⟩, "PULSE"⟩,
  ⟨0x7000, 32, 3, 1, .u8, 0, 2, .nv, 15, some ⟨0, 15, none, 1⟩, "LATCH_GROUP"⟩,
  ⟨0x7000, 32, 4, 1, .bool, 0, 1, .vol, 0, none, "LEVEL"⟩,
  ⟨0x7020, 16, 0, 1, .record, 0, 4, .cmp, 5, none, "PAIR_p"⟩,
  ⟨0x7020, 16, 1, 1, .bool, 0, 2, .nv, 0, none, "ENABLE"⟩,
  ⟨0x7020, 16, 2, 1, .u16, 0, 2, .nv, 200, some ⟨0, 2550, none, 10⟩, "GAP"⟩,
  ⟨0x7020, 16, 3, 1, .u8, 0, 2, .nv, 15, some ⟨0, 15, none, 1⟩, "LATCH_GROUP"⟩,
  ⟨0x7020, 16, 4, 1, .i8, 0, 1, .vol, 0, some ⟨(-1), 1, none, 1⟩, "DRIVE"⟩,
  ⟨0x7020, 16, 5, 1, .u8, 0, 4, .cmp, 0, none, "STATE"⟩,
  ⟨0x7040, 24, 0, 1, .record, 0, 4, .cmp, 3, none, "DAC_n"⟩,
  ⟨0x7040, 24, 1, 1, .u16, 0, 1, .vol, 0, some ⟨0, 65535, none, 1⟩, "CODE"⟩,
  ⟨0x7040, 24, 2, 1, .u8, 0, 2, .nv, 15, some ⟨0, 15, none, 1⟩, "LATCH_GROUP"⟩,
  ⟨0x7040, 24, 3, 1, .u16, 0, 4, .cmp, 0, none, "MILLIVOLTS"⟩,
  ⟨0x7100, 64, 0, 1, .record, 0, 4, .cmp, 5, none, "GPIO_n"⟩,
  ⟨0x7100, 64, 1, 1, .u32, 0, 2, .nv, 0xF0000, none, "CONFIG"⟩,
  ⟨0x7100, 64, 2, 1, .bool, 0, 4, .cmp, 0, none, "ACTIVE"⟩,
  ⟨0x7100, 64, 3, 1, .bool, 0, 1, .vol, 0, none, "OUT"⟩,
  ⟨0x7100, 64, 4, 1, .u32, 0, 4, .cmp, 0, none, "COUNT"⟩,
  ⟨0x7100, 64, 5, 1, .time64, 0, 4, .cmp, 0, none, "LAST_EDGE"⟩,
  ⟨0x7200, 8, 0, 1, .record, 0, 4, .cmp, 6, none, "I2C_c"⟩,
  ⟨0x7200, 8, 1, 1, .bool, 0, 2, .nv, 0, none, "ENABLE"⟩,
  ⟨0x7200, 8, 2, 1, .u8, 0, 2, .nv, 0, some ⟨0, 1, none, 1⟩, "SPEED"⟩]

def dict11_1 : List DictRow := [
  ⟨0x7200, 8, 3, 1, .u16, 0, 2, .nv, 1000, some ⟨0, 65535, none, 1⟩, "PERIOD"⟩,
  ⟨0x7200, 8, 4, 1, .u8, 0, 2, .nv, 3, some ⟨1, 15, none, 1⟩, "FAIL_N"⟩,
  ⟨0x7200, 8, 5, 1, (.blob 256), 2, 2, .nv, 0, none, "POLLS"⟩,
  ⟨0x7200, 8, 6, 1, .u32, 0, 4, .cmp, 0, none, "STATUS"⟩,
  ⟨0x7300, 256, 0, 1, .i32, 0, 4, .cmp, 0x80000000, none, "I2C_READING_r"⟩]

/-- The dictionary table of chapter 11. -/
def dict11 : List DictRow := dict11_0 ++ dict11_1

def dict12_0 : List DictRow := [
  ⟨0x1200, 8, 0, 1, .record, 0, 4, .cmp, 7, none, "CAN_n"⟩,
  ⟨0x1200, 8, 1, 1, .u32, 0, 2, .nv, 256, none, "CONFIG"⟩,
  ⟨0x1200, 8, 2, 1, .u32, 0, 2, .nv, 0x1830E07, none, "NOMINAL"⟩,
  ⟨0x1200, 8, 3, 1, .u32, 0, 2, .nv, 0x3030E00, none, "DATA"⟩,
  ⟨0x1200, 8, 4, 1, .u32, 0, 2, .nv, 0, none, "TDC"⟩,
  ⟨0x1200, 8, 5, 1, .u32, 0, 2, .nv, 778, none, "BUSOFF"⟩,
  ⟨0x1200, 8, 6, 1, .u16, 0, 2, .nv, 2815, none, "AUTORATE"⟩,
  ⟨0x1200, 8, 7, 1, (.blob 512), 2, 2, .nv, 0, none, "FILTERS"⟩,
  ⟨0x1210, 8, 0, 1, .record, 0, 4, .cmp, 4, none, "CAN_STATUS_n"⟩,
  ⟨0x1210, 8, 1, 1, .u32, 0, 4, .cmp, 0, none, "STATUS"⟩,
  ⟨0x1210, 8, 2, 1, .u8, 0, 4, .cmp, 0, none, "BUS_LOAD"⟩,
  ⟨0x1210, 8, 3, 1, .u32, 0, 4, .cmp, 0, none, "BUSOFF_COUNT"⟩,
  ⟨0x1210, 8, 4, 1, .u32, 0, 4, .cmp, 0, none, "RX_LOST"⟩,
  ⟨0x1220, 8, 0, 1, .record, 0, 4, .cmp, 5, none, "CAN_SEG_n"⟩,
  ⟨0x1220, 8, 1, 1, .u32, 0, 2, .nv, 0xC9076814, none, "SUPERVISION"⟩,
  ⟨0x1220, 8, 2, 1, .u32, 0, 2, .vol, 0, none, "HUSH"⟩,
  ⟨0x1220, 8, 3, 1, .bool, 0, 2, .vol, 0, none, "SEG_OFF"⟩,
  ⟨0x1220, 8, 4, 1, .bool, 0, 2, .vol, 0, none, "SEG_CLEAR"⟩,
  ⟨0x1220, 8, 5, 1, (.blob 512), 0, 2, .nv, 0, none, "NODE_TABLE"⟩,
  ⟨0x1230, 8, 0, 1, .record, 0, 4, .cmp, 34, none, "CAN_TX_n"⟩,
  ⟨0x1230, 8, 1, 32, (.blob 72), 0, 2, .nv, 0, none, "TXBUF_b"⟩,
  ⟨0x1230, 8, 33, 1, .u32, 0, 1, .vol, 0, none, "REQUEST"⟩,
  ⟨0x1230, 8, 34, 1, .u32, 0, 1, .vol, 0, none, "CANCEL"⟩]

/-- The dictionary table of chapter 12. -/
def dict12 : List DictRow := dict12_0

def dict13_0 : List DictRow := [
  ⟨0x1100, 1, 0, 1, .record, 0, 4, .cmp, 8, none, "NET_CONFIG"⟩,
  ⟨0x1100, 1, 1, 1, (.blob 6), 0, 4, .cmp, 0, none, "MAC"⟩,
  ⟨0x1100, 1, 2, 1, .u16, 0, 3, .nv, 1, some ⟨1, 4094, none, 1⟩, "MGMT_VID"⟩,
  ⟨0x1100, 1, 3, 1, .u8, 0, 2, .nv, 1, some ⟨0, 2, none, 1⟩, "IPV6_MODE"⟩,
  ⟨0x1100, 1, 4, 1, (.blob 17), 0, 2, .nv, 0, none, "IPV6_STATIC"⟩,
  ⟨0x1100, 1, 5, 1, (.blob 16), 0, 2, .nv, 0, none, "IPV6_GATEWAY"⟩,
  ⟨0x1100, 1, 6, 1, .u8, 0, 2, .nv, 2, some ⟨0, 3, none, 1⟩, "IPV4_MODE"⟩,
  ⟨0x1100, 1, 7, 1, (.blob 9), 0, 2, .nv, 0, none, "IPV4_STATIC"⟩,
  ⟨0x1100, 1, 8, 1, .bool, 0, 2, .nv, 1, none, "LOOP_CHECK"⟩,
  ⟨0x1101, 1, 0, 1, .record, 0, 4, .cmp, 4, none, "NET_STATUS"⟩,
  ⟨0x1101, 1, 1, 1, (.blob 16), 0, 4, .cmp, 0, none, "IPV6_LINK_LOCAL"⟩,
  ⟨0x1101, 1, 2, 1, (.blob 16), 0, 4, .cmp, 0, none, "IPV6_GLOBAL"⟩,
  ⟨0x1101, 1, 3, 1, (.blob 4), 0, 4, .cmp, 0, none, "IPV4"⟩,
  ⟨0x1101, 1, 4, 1, .u8, 0, 4, .cmp, 0, none, "ADDR_STATE"⟩,
  ⟨0x1110, 7, 0, 1, .record, 0, 4, .cmp, 5, none, "PORT_p"⟩,
  ⟨0x1110, 7, 1, 1, .u32, 0, 2, .nv, 0x200103, none, "CONFIG"⟩,
  ⟨0x1110, 7, 2, 1, (.blob 36), 2, 2, .nv, 0xC800300008003000A0003000A0003000A0003000A0003000A0003000A0003000A0, none, "POLICERS"⟩,
  ⟨0x1110, 7, 3, 1, .u32, 0, 4, .cmp, 0, none, "STATUS"⟩,
  ⟨0x1110, 7, 4, 1, .bool, 0, 2, .vol, 0, none, "CABLE_TEST"⟩,
  ⟨0x1110, 7, 5, 1, .u32, 0, 4, .cmp, 0, none, "CABLE_RESULT"⟩,
  ⟨0x1120, 1, 0, 1, (.blob 64), 0, 3, .nv, 0x83FFF001, none, "VLANS"⟩,
  ⟨0x1121, 1, 0, 1, (.blob 16), 0, 2, .nv, 0x80002008800020088000200880002008, none, "PLCA"⟩]

/-- The dictionary table of chapter 13. -/
def dict13 : List DictRow := dict13_0

def dict14_0 : List DictRow := [
  ⟨0x0000, 1, 0, 1, .record, 0, 4, .cmp, 6, none, "DEVICE"⟩,
  ⟨0x0000, 1, 1, 1, (.str 16), 0, 4, .cmp, 0x69726F6C6144, none, "VENDOR"⟩,
  ⟨0x0000, 1, 2, 1, (.str 16), 0, 4, .cmp, 0x343834394C5653, none, "PART"⟩,
  ⟨0x0000, 1, 3, 1, .u16, 0, 4, .cmp, 0, none, "SILICON_REV"⟩,
  ⟨0x0000, 1, 4, 1, .u32, 0, 4, .cmp, 0, none, "RUNTIME_VERSION"⟩,
  ⟨0x0000, 1, 5, 1, .u16, 0, 4, .cmp, 1, none, "DICT_REV"⟩,
  ⟨0x0000, 1, 6, 1, .u64, 0, 4, .cmp, 0, none, "UPTIME"⟩,
  ⟨0x0100, 1, 0, 1, .record, 0, 4, .cmp, 4, none, "EVENT_LOG"⟩,
  ⟨0x0100, 1, 1, 1, .u32, 0, 4, .cmp, 0, none, "NEXT_SEQ"⟩,
  ⟨0x0100, 1, 2, 1, .u32, 0, 0, .vol, 0, none, "SELECT"⟩,
  ⟨0x0100, 1, 3, 1, (.blob 52), 0, 4, .cmp, 0, none, "RECORD"⟩,
  ⟨0x0100, 1, 4, 1, .u16, 0, 4, .cmp, 0, none, "HELD"⟩,
  ⟨0x0C00, 1, 0, 1, (.blob 4096), 0, 2, .nv, 0, none, "APP_SCHEMA"⟩,
  ⟨0x0C01, 1, 0, 1, .record, 0, 4, .cmp, 3, none, "APP_STATUS"⟩,
  ⟨0x0C01, 1, 1, 1, .u16, 0, 4, .cmp, 0, none, "DEFINED"⟩,
  ⟨0x0C01, 1, 2, 1, .u16, 0, 4, .cmp, 0, none, "NV_BYTES"⟩,
  ⟨0x0C01, 1, 3, 1, .u16, 0, 4, .cmp, 0, none, "SHD_BYTES"⟩,
  ⟨0x1000, 1, 0, 1, .record, 0, 4, .cmp, 7, none, "HEGUS_CONFIG"⟩,
  ⟨0x1000, 1, 1, 1, .u16, 0, 3, .nv, 50484, some ⟨1024, 65535, none, 1⟩, "UDP_PORT"⟩,
  ⟨0x1000, 1, 2, 1, .u16, 0, 2, .nv, 50, some ⟨1, 1000, none, 1⟩, "REQ_RATE"⟩,
  ⟨0x1000, 1, 3, 1, .u16, 0, 2, .nv, 100, some ⟨1, 2000, none, 1⟩, "REQ_BURST"⟩,
  ⟨0x1000, 1, 4, 1, .u16, 0, 2, .nv, 300, some ⟨10, 65535, none, 1⟩, "SESSION_IDLE"⟩,
  ⟨0x1000, 1, 5, 1, .bool, 0, 3, .nv, 0, none, "ANON_OBSERVER"⟩,
  ⟨0x1000, 1, 6, 1, .u8, 0, 3, .nv, 0, some ⟨0, 1, none, 1⟩, "HOST_ROLE"⟩]

def dict14_1 : List DictRow := [
  ⟨0x1000, 1, 7, 1, .u16, 0, 3, .nv, 60, some ⟨10, 3600, none, 1⟩, "LOCKOUT_TIME"⟩,
  ⟨0x1001, 1, 0, 1, .record, 0, 4, .cmp, 6, none, "HEGUS_STATUS"⟩,
  ⟨0x1001, 1, 1, 1, .u16, 0, 4, .cmp, 0, none, "OWN_SESSION"⟩,
  ⟨0x1001, 1, 2, 1, .u8, 0, 4, .cmp, 0, none, "OWN_ROLE"⟩,
  ⟨0x1001, 1, 3, 1, .u8, 0, 4, .cmp, 0, none, "OPEN_UDP"⟩,
  ⟨0x1001, 1, 4, 1, .u16, 0, 4, .cmp, 0, none, "OPEN_CAN"⟩,
  ⟨0x1001, 1, 5, 1, .u32, 0, 4, .nv, 0, none, "AUTH_FAILURES"⟩,
  ⟨0x1001, 1, 6, 1, .u32, 0, 4, .cmp, 0, none, "LIMITED"⟩,
  ⟨0x1010, 1, 0, 1, .record, 0, 4, .cmp, 5, none, "TIMED"⟩,
  ⟨0x1010, 1, 1, 1, .u16, 0, 4, .cmp, 0, none, "PENDING"⟩,
  ⟨0x1010, 1, 2, 1, .u16, 0, 0, .vol, 0, none, "SELECT"⟩,
  ⟨0x1010, 1, 3, 1, .u8, 0, 4, .cmp, 0, none, "STATE"⟩,
  ⟨0x1010, 1, 4, 1, .u32, 0, 4, .cmp, 0, none, "DETAIL"⟩,
  ⟨0x1010, 1, 5, 1, .u16, 0, 1, .vol, 0, none, "CANCEL"⟩,
  ⟨0x1240, 8, 0, 1, .u8, 0, 3, .nv, 0, some ⟨0, 1, none, 1⟩, "CAN_HEGUS_ROLE_n"⟩,
  ⟨0x1300, 64, 0, 1, .record, 0, 4, .cmp, 6, none, "PUB_k"⟩,
  ⟨0x1300, 64, 1, 1, .bool, 0, 2, .nv, 0, none, "ENABLE"⟩,
  ⟨0x1300, 64, 2, 1, (.blob 18), 0, 2, .nv, 0, none, "DEST"⟩,
  ⟨0x1300, 64, 3, 1, .u8, 0, 3, .nv, 0, some ⟨0, 7, some 255, 1⟩, "KEY_SET"⟩,
  ⟨0x1300, 64, 4, 1, .u8, 0, 2, .nv, 0, some ⟨0, 16, none, 1⟩, "COUNT"⟩,
  ⟨0x1300, 64, 5, 1, (.blob 64), 0, 2, .nv, 0, none, "ITEMS"⟩,
  ⟨0x1300, 64, 6, 1, .u32, 0, 4, .cmp, 0, none, "SENT"⟩,
  ⟨0x1F00, 1, 0, 1, .u32, 0, 1, .vol, 0, none, "HOST_HEARTBEAT"⟩,
  ⟨0x1F01, 1, 0, 1, .u16, 0, 2, .nv, 30, some ⟨0, 3600, none, 1⟩, "HOST_TIMEOUT"⟩]

/-- The dictionary table of chapter 14. -/
def dict14 : List DictRow := dict14_0 ++ dict14_1

def dict15_0 : List DictRow := [
  ⟨0x8000, 1, 0, 1, .record, 0, 4, .cmp, 7, none, "NV_STATUS"⟩,
  ⟨0x8000, 1, 1, 1, .u16, 0, 4, .cmp, 0, none, "STORE_PAGES"⟩,
  ⟨0x8000, 1, 2, 1, .u16, 0, 4, .cmp, 3552, none, "FREE_PAGES"⟩,
  ⟨0x8000, 1, 3, 1, .u8, 0, 4, .cmp, 0, none, "LAST_RECOVERY"⟩,
  ⟨0x8000, 1, 4, 1, .time64, 0, 4, .cmp, 0, none, "LAST_SAVE"⟩,
  ⟨0x8000, 1, 5, 1, .u8, 0, 4, .cmp, 0, none, "LAST_SAVE_CAUSE"⟩,
  ⟨0x8000, 1, 6, 1, .u32, 0, 4, .nv, 0, none, "SAVES"⟩,
  ⟨0x8000, 1, 7, 1, .u32, 0, 4, .nv, 0, none, "SAVES_INCOMPLETE"⟩,
  ⟨0x8001, 1, 0, 1, .record, 0, 4, .cmp, 2, none, "NV_CONFIG"⟩,
  ⟨0x8001, 1, 1, 1, .u32, 0, 2, .nv, 3600, some ⟨60, 86400, some 0, 1⟩, "CHECKPOINT_PERIOD"⟩,
  ⟨0x8001, 1, 2, 1, .bool, 0, 2, .vol, 0, none, "CHECKPOINT_NOW"⟩,
  ⟨0x8010, 8, 0, 1, .record, 0, 4, .cmp, 8, none, "NV_REGION_r"⟩,
  ⟨0x8010, 8, 1, 1, .u16, 0, 3, .nv, 0, some ⟨544, 4095, none, 1⟩, "BASE"⟩,
  ⟨0x8010, 8, 2, 1, .u16, 0, 3, .nv, 0, some ⟨544, 4095, none, 1⟩, "LIMIT"⟩,
  ⟨0x8010, 8, 3, 1, .bool, 0, 3, .nv, 0, none, "ENABLE"⟩,
  ⟨0x8010, 8, 4, 1, .bool, 0, 4, .cmp, 0, none, "READ_PWD_SET"⟩,
  ⟨0x8010, 8, 5, 1, .bool, 0, 4, .cmp, 0, none, "WRITE_PWD_SET"⟩,
  ⟨0x8010, 8, 6, 1, (.blob 33), 0, 3, .vol, 0, none, "SET_PASSWORD"⟩,
  ⟨0x8010, 8, 7, 1, .u8, 0, 4, .cmp, 0, none, "FAILURES"⟩,
  ⟨0x8010, 8, 8, 1, .u16, 0, 4, .cmp, 0, none, "LOCKOUT_REMAIN"⟩,
  ⟨0x8020, 1, 0, 1, .record, 0, 4, .cmp, 4, none, "NV_ACCESS"⟩,
  ⟨0x8020, 1, 1, 1, .u32, 0, 2, .vol, 0, some ⟨139264, 1048575, none, 1⟩, "ADDR"⟩,
  ⟨0x8020, 1, 2, 1, (.blob 256), 2, 2, .cmp, 0, none, "DATA"⟩,
  ⟨0x8020, 1, 3, 1, (.blob 18), 0, 2, .vol, 0, none, "UNLOCK"⟩]

def dict15_1 : List DictRow := [
  ⟨0x8020, 1, 4, 1, .u8, 0, 2, .vol, 0, none, "RELOCK"⟩,
  ⟨0x8030, 1, 1, 16, .u32, 0, 4, .cmp, 0, none, "SEAL_k"⟩,
  ⟨0x8030, 1, 0, 1, .record, 0, 4, .cmp, 16, none, "SEALS"⟩]

/-- The dictionary table of chapter 15. -/
def dict15 : List DictRow := dict15_0 ++ dict15_1

def dict16_0 : List DictRow := [
  ⟨0x9000, 1, 0, 1, .record, 0, 4, .cmp, 5, none, "SECURITY_STATUS"⟩,
  ⟨0x9000, 1, 1, 1, .u8, 0, 4, .cmp, 0, none, "LIFECYCLE"⟩,
  ⟨0x9000, 1, 2, 1, (.blob 6), 0, 4, .cmp, 0, none, "EUI48"⟩,
  ⟨0x9000, 1, 3, 1, (.blob 8), 0, 4, .cmp, 0, none, "EUI64"⟩,
  ⟨0x9000, 1, 4, 1, .u32, 0, 4, .cmp, 0, none, "TELLER_VERSION"⟩,
  ⟨0x9000, 1, 5, 1, .u32, 0, 4, .cmp, 0, none, "BOOT_STATUS"⟩,
  ⟨0x9001, 1, 0, 1, (.blob 9), 0, 3, .vol, 0, none, "LC_REQUEST"⟩,
  ⟨0x9002, 1, 0, 1, .bool, 0, 3, .nv, 0, none, "CERTIFIED_MODE"⟩,
  ⟨0x9003, 1, 0, 1, .bool, 0, 3, .nv, 0, none, "REQUIRE_SIGNED"⟩,
  ⟨0x9004, 1, 0, 1, (.blob 1536), 0, 4, .cmp, 0, none, "DEVICE_CERT"⟩,
  ⟨0x9005, 1, 0, 1, .record, 0, 4, .cmp, 2, none, "ATTEST"⟩,
  ⟨0x9005, 1, 1, 1, (.blob 32), 0, 0, .vol, 0, none, "NONCE"⟩,
  ⟨0x9005, 1, 2, 1, (.blob 328), 0, 4, .cmp, 0, none, "REPORT"⟩,
  ⟨0x9006, 1, 0, 1, (.blob 1024), 0, 3, .cmp, 0, none, "OPERATIONAL_CSR"⟩,
  ⟨0x9007, 1, 0, 1, (.blob 1536), 0, 3, .nv, 0, none, "OPERATIONAL_CERT"⟩,
  ⟨0x9010, 1, 0, 1, (.blob 16777216), 4, 0, .vol, 0, none, "RECOVERY_IMAGE"⟩,
  ⟨0x9100, 4, 0, 1, .record, 0, 4, .cmp, 2, none, "ANCHOR_k"⟩,
  ⟨0x9100, 4, 1, 1, .u8, 0, 3, .nv, 0, some ⟨0, 3, none, 1⟩, "ROLE_MAX"⟩,
  ⟨0x9100, 4, 2, 1, (.blob 1024), 0, 3, .nv, 0, none, "CERT"⟩,
  ⟨0x9110, 16, 0, 1, (.blob 48), 3, 3, .nv, 0, none, "PSK_k"⟩,
  ⟨0x9120, 8, 0, 1, (.blob 16), 3, 3, .nv, 0, none, "GROUP_KEY_k"⟩,
  ⟨0x9130, 1, 0, 1, (.blob 2048), 0, 3, .nv, 0, none, "REVOKED"⟩,
  ⟨0x9140, 1, 0, 1, .time64, 0, 4, .nv, 0, none, "TIME_FLOOR"⟩,
  ⟨0x9200, 1, 0, 1, .record, 0, 4, .cmp, 3, none, "UPDATE"⟩]

def dict16_1 : List DictRow := [
  ⟨0x9200, 1, 1, 1, .u16, 0, 3, .vol, 0, none, "TARGET"⟩,
  ⟨0x9200, 1, 2, 1, (.blob 16777216), 4, 2, .vol, 0, none, "CONTAINER"⟩,
  ⟨0x9200, 1, 3, 1, .u16, 0, 4, .cmp, 0, none, "RESULT"⟩,
  ⟨0x9300, 1, 0, 1, .record, 0, 4, .cmp, 5, none, "RUNTIME_ACT"⟩,
  ⟨0x9301, 1, 0, 1, .record, 0, 4, .cmp, 5, none, "TELLER_ACT"⟩,
  ⟨0x9310, 16, 0, 1, .record, 0, 4, .cmp, 6, none, "BOOK_ACT_b"⟩,
  ⟨0x9310, 16, 6, 1, .u8, 0, 2, .vol, 0, some ⟨0, 15, none, 1⟩, "OUTGOING"⟩,
  ⟨0x9320, 4, 0, 1, .record, 0, 4, .cmp, 6, none, "CONFIG_ACT_c"⟩,
  ⟨0x9320, 4, 6, 1, (.blob 65536), 0, 2, .nv, 0, none, "SET"⟩,
  ⟨0x9330, 8, 0, 1, .record, 0, 4, .cmp, 7, none, "NODE_ACT_ch"⟩,
  ⟨0x9330, 8, 6, 1, .u8, 0, 2, .vol, 0, some ⟨0, 63, none, 1⟩, "NODE"⟩,
  ⟨0x9330, 8, 7, 1, (.blob 6), 0, 2, .vol, 0, none, "IDENTITY"⟩,
  ⟨0x93F0, 1, 0, 1, (.blob 128), 0, 3, .nv, 0, none, "ACT_GROUPS"⟩,
  ⟨0x9300, 2, 1, 1, .time64, 0, 3, .vol, 0, none, "ACTIVATE_AT"⟩,
  ⟨0x9300, 2, 2, 1, .u16, 0, 3, .nv, 600, some ⟨1, 3600, none, 1⟩, "HEALTH_WINDOW"⟩,
  ⟨0x9300, 2, 3, 1, .bool, 0, 3, .vol, 0, none, "HEALTH_FAIL"⟩,
  ⟨0x9300, 2, 4, 1, .u8, 0, 4, .cmp, 0, none, "STATE"⟩,
  ⟨0x9300, 2, 5, 1, .bool, 0, 2, .vol, 0, none, "CONFIRM"⟩,
  ⟨0x9310, 16, 1, 1, .time64, 0, 2, .vol, 0, none, "ACTIVATE_AT"⟩,
  ⟨0x9310, 16, 2, 1, .u16, 0, 2, .nv, 60, some ⟨1, 3600, none, 1⟩, "HEALTH_WINDOW"⟩,
  ⟨0x9310, 16, 3, 1, .bool, 0, 3, .vol, 0, none, "HEALTH_FAIL"⟩,
  ⟨0x9310, 16, 4, 1, .u8, 0, 4, .cmp, 0, none, "STATE"⟩,
  ⟨0x9310, 16, 5, 1, .bool, 0, 2, .vol, 0, none, "CONFIRM"⟩,
  ⟨0x9320, 4, 1, 1, .time64, 0, 2, .vol, 0, none, "ACTIVATE_AT"⟩]

def dict16_2 : List DictRow := [
  ⟨0x9320, 4, 2, 1, .u16, 0, 2, .nv, 300, some ⟨1, 3600, none, 1⟩, "HEALTH_WINDOW"⟩,
  ⟨0x9320, 4, 3, 1, .bool, 0, 3, .vol, 0, none, "HEALTH_FAIL"⟩,
  ⟨0x9320, 4, 4, 1, .u8, 0, 4, .cmp, 0, none, "STATE"⟩,
  ⟨0x9320, 4, 5, 1, .bool, 0, 2, .vol, 0, none, "CONFIRM"⟩,
  ⟨0x9330, 8, 1, 1, .time64, 0, 2, .vol, 0, none, "ACTIVATE_AT"⟩,
  ⟨0x9330, 8, 2, 1, .u16, 0, 2, .nv, 300, some ⟨1, 3600, none, 1⟩, "HEALTH_WINDOW"⟩,
  ⟨0x9330, 8, 3, 1, .bool, 0, 3, .vol, 0, none, "HEALTH_FAIL"⟩,
  ⟨0x9330, 8, 4, 1, .u8, 0, 4, .cmp, 0, none, "STATE"⟩,
  ⟨0x9330, 8, 5, 1, .bool, 0, 2, .vol, 0, none, "CONFIRM"⟩]

/-- The dictionary table of chapter 16. -/
def dict16 : List DictRow := dict16_0 ++ dict16_1 ++ dict16_2

def dict17_0 : List DictRow := [
  ⟨0xA100, 1, 0, 1, .record, 0, 4, .cmp, 6, none, "THERMAL_STATUS"⟩,
  ⟨0xA100, 1, 1, 1, .u8, 0, 4, .cmp, 0, none, "LEVEL"⟩,
  ⟨0xA100, 1, 2, 1, .i16, 0, 4, .cmp, 32768, none, "HOTSPOT"⟩,
  ⟨0xA100, 1, 3, 1, .i16, 0, 4, .cmp, 32768, none, "MEAN"⟩,
  ⟨0xA100, 1, 4, 1, .u16, 0, 4, .cmp, 0, none, "USABLE"⟩,
  ⟨0xA100, 1, 5, 1, .u16, 0, 4, .cmp, 0, none, "EXCLUDED"⟩,
  ⟨0xA100, 1, 6, 1, .bool, 0, 4, .cmp, 0, none, "FORCED"⟩,
  ⟨0xA101, 1, 0, 1, .record, 0, 4, .cmp, 8, none, "THERMAL_CONFIG"⟩,
  ⟨0xA101, 1, 1, 1, .i16, 0, 2, .nv, 10500, some ⟨8000, 12200, none, 1⟩, "THR_1"⟩,
  ⟨0xA101, 1, 2, 1, .i16, 0, 2, .nv, 11000, some ⟨8000, 12200, none, 1⟩, "THR_1"⟩,
  ⟨0xA101, 1, 3, 1, .i16, 0, 2, .nv, 11500, some ⟨8000, 12200, none, 1⟩, "THR_1"⟩,
  ⟨0xA101, 1, 4, 1, .i16, 0, 2, .nv, 12000, some ⟨8000, 12200, none, 1⟩, "THR_1"⟩,
  ⟨0xA101, 1, 5, 1, .i16, 0, 3, .nv, 12500, some ⟨(-32768), 12500, none, 1⟩, "THR_CRIT"⟩,
  ⟨0xA101, 1, 6, 1, .u16, 0, 2, .nv, 800, some ⟨300, 3000, none, 1⟩, "NBR_LIMIT"⟩,
  ⟨0xA101, 1, 7, 1, .u16, 0, 2, .nv, 10, some ⟨1, 1000, none, 1⟩, "CONV_PACE"⟩,
  ⟨0xA101, 1, 8, 1, .u16, 0, 3, .nv, 60, some ⟨10, 3600, none, 1⟩, "RESTART_DELAY"⟩,
  ⟨0xA102, 1, 0, 1, .record, 0, 4, .cmp, 16, none, "THERMAL_SENSORS"⟩,
  ⟨0xA102, 1, 1, 16, .i16, 0, 4, .cmp, 0, none, "EFF_k"⟩,
  ⟨0xA103, 1, 0, 1, .record, 0, 4, .cmp, 3, none, "THERMAL_HISTORY"⟩,
  ⟨0xA103, 1, 1, 1, .i16, 0, 4, .shd, 32768, none, "MAX_HOTSPOT"⟩,
  ⟨0xA103, 1, 2, 1, .u32, 0, 4, .nv, 0, none, "CRITICAL_COUNT"⟩,
  ⟨0xA103, 1, 3, 1, .time64, 0, 4, .nv, 0, none, "LAST_CRITICAL"⟩]

/-- The dictionary table of chapter 17. -/
def dict17 : List DictRow := dict17_0

def dict18_0 : List DictRow := [
  ⟨0xB000, 1, 0, 1, .record, 0, 4, .cmp, 5, none, "OBS_CONTROL"⟩,
  ⟨0xB000, 1, 1, 1, .bool, 0, 2, .vol, 0, none, "FREEZE"⟩,
  ⟨0xB000, 1, 2, 1, .bool, 0, 1, .vol, 0, none, "SNAPSHOT_NOW"⟩,
  ⟨0xB000, 1, 3, 1, .bool, 0, 3, .nv, 0, none, "UNPRIV_READ"⟩,
  ⟨0xB000, 1, 4, 1, .u16, 0, 4, .cmp, 0, none, "SNAP_SEQ"⟩,
  ⟨0xB000, 1, 5, 1, .time64, 0, 4, .cmp, 0, none, "SNAP_TIME"⟩,
  ⟨0xB001, 1, 0, 1, (.blob 48), 0, 2, .nv, 0, none, "MODES"⟩,
  ⟨0xB100, 384, 0, 1, .u64, 2, 2, .vol, 0, none, "COUNTER_k"⟩,
  ⟨0xB300, 16, 0, 1, .record, 0, 4, .cmp, 3, none, "FALLBACK_j"⟩,
  ⟨0xB300, 16, 1, 1, .u16, 0, 2, .nv, 2047, none, "EVENT"⟩,
  ⟨0xB300, 16, 2, 1, .u8, 0, 2, .nv, 0, some ⟨0, 1, none, 1⟩, "MODE"⟩,
  ⟨0xB300, 16, 3, 1, .u64, 2, 2, .vol, 0, none, "VALUE"⟩,
  ⟨0xB400, 1, 0, 1, (.blob 3216), 2, 4, .cmp, 0, none, "SNAPSHOT"⟩]

/-- The dictionary table of chapter 18. -/
def dict18 : List DictRow := dict18_0

/-- Every entry of the dictionary. -/
def allEntries : List DictRow :=
  dict01 ++ dict02 ++ dict03 ++ dict04 ++ dict05 ++ dict06 ++ dict08 ++ dict09 ++ dict10 ++ dict11 ++ dict12 ++ dict13 ++ dict14 ++ dict15 ++ dict16 ++ dict17 ++ dict18

end Sys2Proof.Machine
end

