-- ==== Sys2Proof/Machine/Events.lean ====
section
/-! DEFINITION. The events of every chapter, with the manual's names (R407) and their counters (R479). -/

namespace Sys2Proof.Machine

/-- The events that the device raises: the lists of R78, R104, R134, R160, R187, R224, R259, R289, R316, R337, R362,
R377, R409, R436, R461, R475 and R489, and those of R21, R33 and R35. -/
inductive Ev where
  | ACCESS_VIOLATION
  | SRAM_UNCORRECTABLE | SHADOW_RESTORED
  | CONTEXT_FULL | CLK_REF_LOST | CLK_REF_BACK | CLK32_LOST | DOMAIN_RESET | RCC_DOWN | CONFIG_CHECK_FAILED | HOLDUP_INSUFFICIENT | HOLDUP_EXHAUSTED | LINE_FAIL | LINE_RETURN | RCC_HALF_FAILED
  | TIME_STEP | TIME_LOCKED | TIME_HOLDOVER | HOLDOVER_LIMIT | PPS_REJECTED | PPS_LOST | GM_CHANGED | GM_UNQUALIFIED | NODE_CLASH | LEAP_APPLIED | LOCALTIME_CHANGED | SUN_EVENTS_UPDATED
  | LEDGER_LATE | LEDGER_MISSED | LEDGER_DEFERRED | LEDGER_FALLBACK | LEDGER_BOOK_ARMED | LEDGER_BOOK_DISARMED | LEDGER_SUSPENDED
  | CVU_SLICE_RETIRED | CVU_RATE_CHANGE | CVU_OUT_OF_SERVICE | CVU_SKEW_LIMIT | CVU_REF_FAULT | CVU_EXC_OPEN | CVU_REQUAL_FAILED | CVU_CALSET_ACTIVATED | CVU_CALSET_ROLLBACK | HKC_FAULT
  | CVU_TRIG_MISSED | CVU_SEQ_RESTARTED | CVU_INJ_LOST | CVU_CFG_ERROR | CVU_COMB_CLAMP | CVU_DMA_OVERRUN | CVU_DMA_LEVEL
  | CE_RUN_FAULT | CE_IMAGE_REFUSED | SLOT_DEMOTED | CE_SLOT_OVERRUN | CE_CFG_ERROR | CE_SWAP_ACTIVATED | CE_SWAP_ROLLBACK
  | ZONE_SRC_EXCLUDED | ZONE_SRC_READMITTED | ZONE_SRC_DISAGREE | ZONE_SENSOR_LOST | ZONE_COMFORT_ALARM | ZONE_FROST | ZONE_WINDOW | ZONE_CONDENSATION | SCHEDULE_COMPILED | LIGHT_SWITCHED | HOST_LOST | HOST_BACK
  | MOTOR_RUN | MOTOR_START_FAIL | MOTOR_STALL | MOTOR_BLOCKED | MOTOR_FAULT | FAN_TACH_LOST | FAN_TACH_BACK | FAN_STALL | FAN_FAILED | DRIVE_SOURCE | AGEING_WARN | AGEING_ALARM
  | ACT_OVERCURRENT | I2C_READING_LOST | I2C_READING_BACK | I2C_BUS_STUCK | I2C_BUS_RECOVERED | I2C_CFG_ERROR
  | CAN_ERROR_PASSIVE | CAN_BUS_OFF | CAN_BUSOFF_HELD | CAN_RATE_FOUND | CAN_RATE_UNKNOWN | CAN_CLASH | CAN_DUP_SUSPECT | CAN_INTRUSION | CAN_SEG_CUT | CAN_SEG_HELD | CAN_SEG_RESTORED | CAN_NODE_MISMATCH | CAN_CFG_ERROR
  | LINK_UP | LINK_DOWN | PLCA_CONFLICT | LOOP_DETECTED | LOOP_CLEARED | ADDR_CONFLICT
  | HEGUS_SESSION_OPENED | HEGUS_SESSION_CLOSED | HEGUS_AUTH_FAILED | HEGUS_AUTH_LOCKOUT | HOST_AUTH_LOST | TIMED_WRITE_DONE | TIMED_WRITE_FAILED | TIMED_WRITE_DROPPED | APP_SCHEMA_CHANGED
  | NV_ROLLED_BACK | NV_ROLLED_FORWARD | NV_JOURNAL_DAMAGED | NV_PAGE_FAILED | NV_VERIFY_FAIL | NV_LOWPWR | NV_LOCKOUT | NV_RECORD_DAMAGED | NV_SHADOW_EMPTY | NV_SAVE_DONE
  | THERMAL_LEVEL | THERMAL_SENSOR_EXCLUDED | THERMAL_SENSOR_READMITTED | THERMAL_FORCED | THERMAL_CRITICAL | THERMAL_TRIP
  | OBS_OVERFLOW
  | SEC_BOOT_FALLBACK | SEC_IMAGE_REFUSED | SEC_BLOCK_FAIL | SEC_TAMPER | SEC_DEBUG_REFUSED | SEC_SEAL_DAMAGED | SEC_VAULT_ERASED | SEC_LIFECYCLE | SEC_CERTIFIED | TRNG_FAULT | ACT_ACTIVATED | ACT_COMMITTED | ACT_ROLLED_BACK
deriving DecidableEq, Repr

/-- The dedicated counter of an event (R479). A violation is counted where it is found (R35), stored or not. -/
def Ev.counter : Ev → Option Nat
  | .ACCESS_VIOLATION => none
  | .SRAM_UNCORRECTABLE => some 0x00C
  | .SHADOW_RESTORED => some 0x00D
  | .CONTEXT_FULL => some 0x010
  | .CLK_REF_LOST => some 0x011
  | .CLK_REF_BACK => some 0x012
  | .CLK32_LOST => some 0x013
  | .DOMAIN_RESET => some 0x014
  | .RCC_DOWN => some 0x015
  | .CONFIG_CHECK_FAILED => some 0x016
  | .HOLDUP_INSUFFICIENT => some 0x017
  | .HOLDUP_EXHAUSTED => some 0x018
  | .LINE_FAIL => some 0x019
  | .LINE_RETURN => some 0x01A
  | .RCC_HALF_FAILED => some 0x01B
  | .TIME_STEP => some 0x020
  | .TIME_LOCKED => some 0x021
  | .TIME_HOLDOVER => some 0x022
  | .HOLDOVER_LIMIT => some 0x023
  | .PPS_REJECTED => some 0x024
  | .PPS_LOST => some 0x025
  | .GM_CHANGED => some 0x026
  | .GM_UNQUALIFIED => some 0x027
  | .NODE_CLASH => some 0x028
  | .LEAP_APPLIED => some 0x029
  | .LOCALTIME_CHANGED => some 0x02A
  | .SUN_EVENTS_UPDATED => some 0x02B
  | .LEDGER_LATE => some 0x031
  | .LEDGER_MISSED => some 0x032
  | .LEDGER_DEFERRED => some 0x033
  | .LEDGER_FALLBACK => some 0x034
  | .LEDGER_BOOK_ARMED => some 0x035
  | .LEDGER_BOOK_DISARMED => some 0x036
  | .LEDGER_SUSPENDED => some 0x037
  | .CVU_SLICE_RETIRED => some 0x050
  | .CVU_RATE_CHANGE => some 0x051
  | .CVU_OUT_OF_SERVICE => some 0x052
  | .CVU_SKEW_LIMIT => some 0x053
  | .CVU_REF_FAULT => some 0x054
  | .CVU_EXC_OPEN => some 0x055
  | .CVU_REQUAL_FAILED => some 0x056
  | .CVU_CALSET_ACTIVATED => some 0x057
  | .CVU_CALSET_ROLLBACK => some 0x058
  | .HKC_FAULT => some 0x059
  | .CVU_TRIG_MISSED => some 0x05B
  | .CVU_SEQ_RESTARTED => some 0x05C
  | .CVU_INJ_LOST => some 0x05D
  | .CVU_CFG_ERROR => some 0x05E
  | .CVU_COMB_CLAMP => some 0x05F
  | .CVU_DMA_OVERRUN => some 0x060
  | .CVU_DMA_LEVEL => some 0x061
  | .CE_RUN_FAULT => some 0x070
  | .CE_IMAGE_REFUSED => some 0x071
  | .SLOT_DEMOTED => some 0x072
  | .CE_SLOT_OVERRUN => some 0x073
  | .CE_CFG_ERROR => some 0x074
  | .CE_SWAP_ACTIVATED => some 0x075
  | .CE_SWAP_ROLLBACK => some 0x076
  | .ZONE_SRC_EXCLUDED => some 0x0B0
  | .ZONE_SRC_READMITTED => some 0x0B1
  | .ZONE_SRC_DISAGREE => some 0x0B2
  | .ZONE_SENSOR_LOST => some 0x0B3
  | .ZONE_COMFORT_ALARM => some 0x0B4
  | .ZONE_FROST => some 0x0B5
  | .ZONE_WINDOW => some 0x0B6
  | .ZONE_CONDENSATION => some 0x0B7
  | .SCHEDULE_COMPILED => some 0x0B8
  | .LIGHT_SWITCHED => some 0x0B9
  | .HOST_LOST => some 0x0BA
  | .HOST_BACK => some 0x0BB
  | .MOTOR_RUN => some 0x0C0
  | .MOTOR_START_FAIL => some 0x0C1
  | .MOTOR_STALL => some 0x0C2
  | .MOTOR_BLOCKED => some 0x0C3
  | .MOTOR_FAULT => some 0x0C4
  | .FAN_TACH_LOST => some 0x0C5
  | .FAN_TACH_BACK => some 0x0C6
  | .FAN_STALL => some 0x0C7
  | .FAN_FAILED => some 0x0C8
  | .DRIVE_SOURCE => some 0x0C9
  | .AGEING_WARN => some 0x0CA
  | .AGEING_ALARM => some 0x0CB
  | .ACT_OVERCURRENT => some 0x0D0
  | .I2C_READING_LOST => some 0x0D1
  | .I2C_READING_BACK => some 0x0D2
  | .I2C_BUS_STUCK => some 0x0D3
  | .I2C_BUS_RECOVERED => some 0x0D4
  | .I2C_CFG_ERROR => some 0x0D5
  | .CAN_ERROR_PASSIVE => some 0x0E0
  | .CAN_BUS_OFF => some 0x0E1
  | .CAN_BUSOFF_HELD => some 0x0E2
  | .CAN_RATE_FOUND => some 0x0E3
  | .CAN_RATE_UNKNOWN => some 0x0E4
  | .CAN_CLASH => some 0x0E5
  | .CAN_DUP_SUSPECT => some 0x0E6
  | .CAN_INTRUSION => some 0x0E7
  | .CAN_SEG_CUT => some 0x0E8
  | .CAN_SEG_HELD => some 0x0E9
  | .CAN_SEG_RESTORED => some 0x0EA
  | .CAN_NODE_MISMATCH => some 0x0EB
  | .CAN_CFG_ERROR => some 0x0EC
  | .LINK_UP => some 0x100
  | .LINK_DOWN => some 0x101
  | .PLCA_CONFLICT => some 0x102
  | .LOOP_DETECTED => some 0x103
  | .LOOP_CLEARED => some 0x104
  | .ADDR_CONFLICT => some 0x105
  | .HEGUS_SESSION_OPENED => some 0x140
  | .HEGUS_SESSION_CLOSED => some 0x141
  | .HEGUS_AUTH_FAILED => some 0x142
  | .HEGUS_AUTH_LOCKOUT => some 0x143
  | .HOST_AUTH_LOST => some 0x144
  | .TIMED_WRITE_DONE => some 0x145
  | .TIMED_WRITE_FAILED => some 0x146
  | .TIMED_WRITE_DROPPED => some 0x147
  | .APP_SCHEMA_CHANGED => some 0x148
  | .NV_ROLLED_BACK => some 0x150
  | .NV_ROLLED_FORWARD => some 0x151
  | .NV_JOURNAL_DAMAGED => some 0x152
  | .NV_PAGE_FAILED => some 0x153
  | .NV_VERIFY_FAIL => some 0x154
  | .NV_LOWPWR => some 0x155
  | .NV_LOCKOUT => some 0x156
  | .NV_RECORD_DAMAGED => some 0x157
  | .NV_SHADOW_EMPTY => some 0x158
  | .NV_SAVE_DONE => some 0x159
  | .THERMAL_LEVEL => some 0x161
  | .THERMAL_SENSOR_EXCLUDED => some 0x162
  | .THERMAL_SENSOR_READMITTED => some 0x163
  | .THERMAL_FORCED => some 0x164
  | .THERMAL_CRITICAL => some 0x165
  | .THERMAL_TRIP => some 0x166
  | .OBS_OVERFLOW => some 0x16B
  | .SEC_BOOT_FALLBACK => some 0x170
  | .SEC_IMAGE_REFUSED => some 0x171
  | .SEC_BLOCK_FAIL => some 0x172
  | .SEC_TAMPER => some 0x173
  | .SEC_DEBUG_REFUSED => some 0x174
  | .SEC_SEAL_DAMAGED => some 0x175
  | .SEC_VAULT_ERASED => some 0x176
  | .SEC_LIFECYCLE => some 0x177
  | .SEC_CERTIFIED => some 0x178
  | .TRNG_FAULT => some 0x179
  | .ACT_ACTIVATED => some 0x17A
  | .ACT_COMMITTED => some 0x17B
  | .ACT_ROLLED_BACK => some 0x17C

/-- The event name of R407. -/
def Ev.label : Ev → String
  | .ACCESS_VIOLATION => "ACCESS_VIOLATION"
  | .SRAM_UNCORRECTABLE => "SRAM_UNCORRECTABLE"
  | .SHADOW_RESTORED => "SHADOW_RESTORED"
  | .CONTEXT_FULL => "CONTEXT_FULL"
  | .CLK_REF_LOST => "CLK_REF_LOST"
  | .CLK_REF_BACK => "CLK_REF_BACK"
  | .CLK32_LOST => "CLK32_LOST"
  | .DOMAIN_RESET => "DOMAIN_RESET"
  | .RCC_DOWN => "RCC_DOWN"
  | .CONFIG_CHECK_FAILED => "CONFIG_CHECK_FAILED"
  | .HOLDUP_INSUFFICIENT => "HOLDUP_INSUFFICIENT"
  | .HOLDUP_EXHAUSTED => "HOLDUP_EXHAUSTED"
  | .LINE_FAIL => "LINE_FAIL"
  | .LINE_RETURN => "LINE_RETURN"
  | .RCC_HALF_FAILED => "RCC_HALF_FAILED"
  | .TIME_STEP => "TIME_STEP"
  | .TIME_LOCKED => "TIME_LOCKED"
  | .TIME_HOLDOVER => "TIME_HOLDOVER"
  | .HOLDOVER_LIMIT => "HOLDOVER_LIMIT"
  | .PPS_REJECTED => "PPS_REJECTED"
  | .PPS_LOST => "PPS_LOST"
  | .GM_CHANGED => "GM_CHANGED"
  | .GM_UNQUALIFIED => "GM_UNQUALIFIED"
  | .NODE_CLASH => "NODE_CLASH"
  | .LEAP_APPLIED => "LEAP_APPLIED"
  | .LOCALTIME_CHANGED => "LOCALTIME_CHANGED"
  | .SUN_EVENTS_UPDATED => "SUN_EVENTS_UPDATED"
  | .LEDGER_LATE => "LEDGER_LATE"
  | .LEDGER_MISSED => "LEDGER_MISSED"
  | .LEDGER_DEFERRED => "LEDGER_DEFERRED"
  | .LEDGER_FALLBACK => "LEDGER_FALLBACK"
  | .LEDGER_BOOK_ARMED => "LEDGER_BOOK_ARMED"
  | .LEDGER_BOOK_DISARMED => "LEDGER_BOOK_DISARMED"
  | .LEDGER_SUSPENDED => "LEDGER_SUSPENDED"
  | .CVU_SLICE_RETIRED => "CVU_SLICE_RETIRED"
  | .CVU_RATE_CHANGE => "CVU_RATE_CHANGE"
  | .CVU_OUT_OF_SERVICE => "CVU_OUT_OF_SERVICE"
  | .CVU_SKEW_LIMIT => "CVU_SKEW_LIMIT"
  | .CVU_REF_FAULT => "CVU_REF_FAULT"
  | .CVU_EXC_OPEN => "CVU_EXC_OPEN"
  | .CVU_REQUAL_FAILED => "CVU_REQUAL_FAILED"
  | .CVU_CALSET_ACTIVATED => "CVU_CALSET_ACTIVATED"
  | .CVU_CALSET_ROLLBACK => "CVU_CALSET_ROLLBACK"
  | .HKC_FAULT => "HKC_FAULT"
  | .CVU_TRIG_MISSED => "CVU_TRIG_MISSED"
  | .CVU_SEQ_RESTARTED => "CVU_SEQ_RESTARTED"
  | .CVU_INJ_LOST => "CVU_INJ_LOST"
  | .CVU_CFG_ERROR => "CVU_CFG_ERROR"
  | .CVU_COMB_CLAMP => "CVU_COMB_CLAMP"
  | .CVU_DMA_OVERRUN => "CVU_DMA_OVERRUN"
  | .CVU_DMA_LEVEL => "CVU_DMA_LEVEL"
  | .CE_RUN_FAULT => "CE_RUN_FAULT"
  | .CE_IMAGE_REFUSED => "CE_IMAGE_REFUSED"
  | .SLOT_DEMOTED => "SLOT_DEMOTED"
  | .CE_SLOT_OVERRUN => "CE_SLOT_OVERRUN"
  | .CE_CFG_ERROR => "CE_CFG_ERROR"
  | .CE_SWAP_ACTIVATED => "CE_SWAP_ACTIVATED"
  | .CE_SWAP_ROLLBACK => "CE_SWAP_ROLLBACK"
  | .ZONE_SRC_EXCLUDED => "ZONE_SRC_EXCLUDED"
  | .ZONE_SRC_READMITTED => "ZONE_SRC_READMITTED"
  | .ZONE_SRC_DISAGREE => "ZONE_SRC_DISAGREE"
  | .ZONE_SENSOR_LOST => "ZONE_SENSOR_LOST"
  | .ZONE_COMFORT_ALARM => "ZONE_COMFORT_ALARM"
  | .ZONE_FROST => "ZONE_FROST"
  | .ZONE_WINDOW => "ZONE_WINDOW"
  | .ZONE_CONDENSATION => "ZONE_CONDENSATION"
  | .SCHEDULE_COMPILED => "SCHEDULE_COMPILED"
  | .LIGHT_SWITCHED => "LIGHT_SWITCHED"
  | .HOST_LOST => "HOST_LOST"
  | .HOST_BACK => "HOST_BACK"
  | .MOTOR_RUN => "MOTOR_RUN"
  | .MOTOR_START_FAIL => "MOTOR_START_FAIL"
  | .MOTOR_STALL => "MOTOR_STALL"
  | .MOTOR_BLOCKED => "MOTOR_BLOCKED"
  | .MOTOR_FAULT => "MOTOR_FAULT"
  | .FAN_TACH_LOST => "FAN_TACH_LOST"
  | .FAN_TACH_BACK => "FAN_TACH_BACK"
  | .FAN_STALL => "FAN_STALL"
  | .FAN_FAILED => "FAN_FAILED"
  | .DRIVE_SOURCE => "DRIVE_SOURCE"
  | .AGEING_WARN => "AGEING_WARN"
  | .AGEING_ALARM => "AGEING_ALARM"
  | .ACT_OVERCURRENT => "ACT_OVERCURRENT"
  | .I2C_READING_LOST => "I2C_READING_LOST"
  | .I2C_READING_BACK => "I2C_READING_BACK"
  | .I2C_BUS_STUCK => "I2C_BUS_STUCK"
  | .I2C_BUS_RECOVERED => "I2C_BUS_RECOVERED"
  | .I2C_CFG_ERROR => "I2C_CFG_ERROR"
  | .CAN_ERROR_PASSIVE => "CAN_ERROR_PASSIVE"
  | .CAN_BUS_OFF => "CAN_BUS_OFF"
  | .CAN_BUSOFF_HELD => "CAN_BUSOFF_HELD"
  | .CAN_RATE_FOUND => "CAN_RATE_FOUND"
  | .CAN_RATE_UNKNOWN => "CAN_RATE_UNKNOWN"
  | .CAN_CLASH => "CAN_CLASH"
  | .CAN_DUP_SUSPECT => "CAN_DUP_SUSPECT"
  | .CAN_INTRUSION => "CAN_INTRUSION"
  | .CAN_SEG_CUT => "CAN_SEG_CUT"
  | .CAN_SEG_HELD => "CAN_SEG_HELD"
  | .CAN_SEG_RESTORED => "CAN_SEG_RESTORED"
  | .CAN_NODE_MISMATCH => "CAN_NODE_MISMATCH"
  | .CAN_CFG_ERROR => "CAN_CFG_ERROR"
  | .LINK_UP => "LINK_UP"
  | .LINK_DOWN => "LINK_DOWN"
  | .PLCA_CONFLICT => "PLCA_CONFLICT"
  | .LOOP_DETECTED => "LOOP_DETECTED"
  | .LOOP_CLEARED => "LOOP_CLEARED"
  | .ADDR_CONFLICT => "ADDR_CONFLICT"
  | .HEGUS_SESSION_OPENED => "HEGUS_SESSION_OPENED"
  | .HEGUS_SESSION_CLOSED => "HEGUS_SESSION_CLOSED"
  | .HEGUS_AUTH_FAILED => "HEGUS_AUTH_FAILED"
  | .HEGUS_AUTH_LOCKOUT => "HEGUS_AUTH_LOCKOUT"
  | .HOST_AUTH_LOST => "HOST_AUTH_LOST"
  | .TIMED_WRITE_DONE => "TIMED_WRITE_DONE"
  | .TIMED_WRITE_FAILED => "TIMED_WRITE_FAILED"
  | .TIMED_WRITE_DROPPED => "TIMED_WRITE_DROPPED"
  | .APP_SCHEMA_CHANGED => "APP_SCHEMA_CHANGED"
  | .NV_ROLLED_BACK => "NV_ROLLED_BACK"
  | .NV_ROLLED_FORWARD => "NV_ROLLED_FORWARD"
  | .NV_JOURNAL_DAMAGED => "NV_JOURNAL_DAMAGED"
  | .NV_PAGE_FAILED => "NV_PAGE_FAILED"
  | .NV_VERIFY_FAIL => "NV_VERIFY_FAIL"
  | .NV_LOWPWR => "NV_LOWPWR"
  | .NV_LOCKOUT => "NV_LOCKOUT"
  | .NV_RECORD_DAMAGED => "NV_RECORD_DAMAGED"
  | .NV_SHADOW_EMPTY => "NV_SHADOW_EMPTY"
  | .NV_SAVE_DONE => "NV_SAVE_DONE"
  | .THERMAL_LEVEL => "THERMAL_LEVEL"
  | .THERMAL_SENSOR_EXCLUDED => "THERMAL_SENSOR_EXCLUDED"
  | .THERMAL_SENSOR_READMITTED => "THERMAL_SENSOR_READMITTED"
  | .THERMAL_FORCED => "THERMAL_FORCED"
  | .THERMAL_CRITICAL => "THERMAL_CRITICAL"
  | .THERMAL_TRIP => "THERMAL_TRIP"
  | .OBS_OVERFLOW => "OBS_OVERFLOW"
  | .SEC_BOOT_FALLBACK => "SEC_BOOT_FALLBACK"
  | .SEC_IMAGE_REFUSED => "SEC_IMAGE_REFUSED"
  | .SEC_BLOCK_FAIL => "SEC_BLOCK_FAIL"
  | .SEC_TAMPER => "SEC_TAMPER"
  | .SEC_DEBUG_REFUSED => "SEC_DEBUG_REFUSED"
  | .SEC_SEAL_DAMAGED => "SEC_SEAL_DAMAGED"
  | .SEC_VAULT_ERASED => "SEC_VAULT_ERASED"
  | .SEC_LIFECYCLE => "SEC_LIFECYCLE"
  | .SEC_CERTIFIED => "SEC_CERTIFIED"
  | .TRNG_FAULT => "TRNG_FAULT"
  | .ACT_ACTIVATED => "ACT_ACTIVATED"
  | .ACT_COMMITTED => "ACT_COMMITTED"
  | .ACT_ROLLED_BACK => "ACT_ROLLED_BACK"

end Sys2Proof.Machine
end

