-- ==== Sys2Proof/Machine/RegTypes.lean ====
section
/-! DEFINITION. The shape of a register table: fields, access codes and rows (R5 to R8). -/

namespace Sys2Proof.Machine

/-- The access codes of R8; `rsvd` is a reserved bit range (R7). -/
inductive Acc where
  | rw | ro | wo | w1c | w1s | rc | rwl | rsvd
deriving DecidableEq, Repr

/-- How a field's reset value depends on the register's indices. -/
inductive RstMod where
  /-- the same reset value for every index -/
  | same
  /-- the base value plus `k` times the index number `dim` -/
  | step (dim k : Nat)
  /-- the value `v` where the index number `dim` is `i`, the base value elsewhere -/
  | at (dim i v : Nat)
deriving DecidableEq, Repr

/-- One field of a register table. -/
structure FieldRow where
  lo       : Nat
  width    : Nat
  acc      : Acc
  rst      : Nat
  rstMod   : RstMod
  /-- privileged-only in a U register (R11) -/
  privOnly : Bool
  /-- lowest role that may write the field: 0 any, 2 ENGINEER, 3 OWNER (R508) -/
  role     : Nat
deriving DecidableEq, Repr

/-- One register table: privileged address of index 0, index strides and counts in descending stride, view letter. -/
structure RegRow where
  base   : Nat
  dims   : List (Nat × Nat)
  priv   : Bool
  fields : List FieldRow
deriving DecidableEq, Repr

/-- A named field of one register: privileged address, lowest bit and width. -/
structure Fld where
  addr  : Nat
  lo    : Nat
  width : Nat
deriving DecidableEq, Repr

end Sys2Proof.Machine
end

