-- ==== Sys2Proof/Machine/RegMap.lean ====
section
/-! DEFINITION. The register tables of every chapter: one row per register (R5, R8, R30), with its address in the
privileged view, its index strides, its view letter and its fields (bits, access code, reset value, R6). The names are
the manual's: `PMC_CFG` is an address, `PMC_CFG_VFAIL` a field of it. -/

namespace Sys2Proof.Machine

/-! ### Registers of 01_architecture.md -/

def SCU_AVLOG_STAT : Nat := 0x40360800
def SCU_AVLOG_STAT_COUNT : Fld := ⟨SCU_AVLOG_STAT, 0, 5⟩
def SCU_AVLOG_STAT_LOST : Fld := ⟨SCU_AVLOG_STAT, 16, 16⟩
def SCU_AVLOG_CTRL : Nat := 0x40360804
def SCU_AVLOG_CTRL_CLEAR : Fld := ⟨SCU_AVLOG_CTRL, 0, 1⟩
def SCU_AVLOG_ADDR (i : Nat) : Nat := 0x40360810 + 0x10 * i
def SCU_AVLOG_ADDR_ADDR (i : Nat) : Fld := ⟨SCU_AVLOG_ADDR i, 0, 32⟩
def SCU_AVLOG_INFO (i : Nat) : Nat := 0x40360814 + 0x10 * i
def SCU_AVLOG_INFO_KIND (i : Nat) : Fld := ⟨SCU_AVLOG_INFO i, 0, 4⟩
def SCU_AVLOG_INFO_INITIATOR (i : Nat) : Fld := ⟨SCU_AVLOG_INFO i, 4, 4⟩
def SCU_AVLOG_INFO_WRITE (i : Nat) : Fld := ⟨SCU_AVLOG_INFO i, 8, 1⟩
def SCU_AVLOG_INFO_ALIAS (i : Nat) : Fld := ⟨SCU_AVLOG_INFO i, 9, 1⟩
def SCU_AVLOG_INFO_SIZE (i : Nat) : Fld := ⟨SCU_AVLOG_INFO i, 10, 2⟩
def SCU_AVLOG_INFO_SESSION (i : Nat) : Fld := ⟨SCU_AVLOG_INFO i, 16, 10⟩
def SCU_AVLOG_TLO (i : Nat) : Nat := 0x40360818 + 0x10 * i
def SCU_AVLOG_TLO_TIME_LO (i : Nat) : Fld := ⟨SCU_AVLOG_TLO i, 0, 32⟩
def SCU_AVLOG_THI (i : Nat) : Nat := 0x4036081C + 0x10 * i
def SCU_AVLOG_THI_TIME_HI (i : Nat) : Fld := ⟨SCU_AVLOG_THI i, 0, 32⟩

/-- Rows of 01_architecture.md: SCU_AVLOG_STAT, SCU_AVLOG_CTRL, SCU_AVLOG_ADDR, SCU_AVLOG_INFO, SCU_AVLOG_TLO, SCU_AVLOG_THI. -/
def regs01_0 : List RegRow := [
  ⟨0x40360800, [], true,
    [⟨0, 5, .ro, 0, .same, false, 0⟩, ⟨5, 11, .rsvd, 0, .same, false, 0⟩, ⟨16, 16, .ro, 0, .same, false, 0⟩]⟩,
  ⟨0x40360804, [], true,
    [⟨0, 1, .wo, 0, .same, false, 0⟩, ⟨1, 31, .rsvd, 0, .same, false, 0⟩]⟩,
  ⟨0x40360810, [(0x10, 16)], true,
    [⟨0, 32, .ro, 0, .same, false, 0⟩]⟩,
  ⟨0x40360814, [(0x10, 16)], true,
    [⟨0, 4, .ro, 0, .same, false, 0⟩, ⟨4, 4, .ro, 0, .same, false, 0⟩, ⟨8, 1, .ro, 0, .same, false, 0⟩, ⟨9, 1, .ro, 0, .same, false, 0⟩, ⟨10, 2, .ro, 0, .same, false, 0⟩, ⟨12, 4, .rsvd, 0, .same, false, 0⟩, ⟨16, 10, .ro, 0, .same, false, 0⟩, ⟨26, 6, .rsvd, 0, .same, false, 0⟩]⟩,
  ⟨0x40360818, [(0x10, 16)], true,
    [⟨0, 32, .ro, 0, .same, false, 0⟩]⟩,
  ⟨0x4036081C, [(0x10, 16)], true,
    [⟨0, 32, .ro, 0, .same, false, 0⟩]⟩]

/-- Every register of 01_architecture.md. -/
def regs01 : List RegRow := regs01_0

/-! ### Registers of 02_power_clocks_reset.md -/

def PMC_CFG : Nat := 0x40000004
def PMC_CFG_VFAIL : Fld := ⟨PMC_CFG, 0, 8⟩
def PMC_CFG_HOLDWIN : Fld := ⟨PMC_CFG, 16, 8⟩
def PMC_CFG_LOCK : Fld := ⟨PMC_CFG, 31, 1⟩
def PMC_PSTATE : Nat := 0x40000000
def PMC_PSTATE_STATE : Fld := ⟨PMC_PSTATE, 0, 2⟩
def PMC_PSTATE_LOWEST : Fld := ⟨PMC_PSTATE, 2, 2⟩
def PMC_PSTATE_FORCE_DEEP : Fld := ⟨PMC_PSTATE, 4, 1⟩
def PMC_PSTATE_REFUSAL : Fld := ⟨PMC_PSTATE, 5, 3⟩
def PMC_DOMREQ : Nat := 0x40000010
def PMC_DOMREQ_HOLD : Fld := ⟨PMC_DOMREQ, 0, 12⟩
def PMC_DOMSTAT : Nat := 0x40000014
def PMC_DOMSTAT_ON : Fld := ⟨PMC_DOMSTAT, 0, 12⟩
def PMC_DOMSTAT_READY : Fld := ⟨PMC_DOMSTAT, 16, 12⟩
def PMC_PINNED : Nat := 0x40000018
def PMC_PINNED_PINNED : Fld := ⟨PMC_PINNED, 0, 12⟩
def PMC_CTXUSE : Nat := 0x4000001C
def PMC_CTXUSE_USED : Fld := ⟨PMC_CTXUSE, 0, 12⟩
def PMC_LINE : Nat := 0x40000020
def PMC_LINE_VLINE : Fld := ⟨PMC_LINE, 0, 10⟩
def PMC_LINE_VHOLD : Fld := ⟨PMC_LINE, 10, 10⟩
def PMC_LINE_INRUSH : Fld := ⟨PMC_LINE, 20, 1⟩
def PMC_LINE_PD : Fld := ⟨PMC_LINE, 21, 1⟩
def PMC_LINE_FAIL : Fld := ⟨PMC_LINE, 22, 1⟩
def PMC_HOLDUP : Nat := 0x40000024
def PMC_HOLDUP_E_AVAIL : Fld := ⟨PMC_HOLDUP, 0, 16⟩
def PMC_HOLDUP_E_RESERVE : Fld := ⟨PMC_HOLDUP, 16, 16⟩
def PMC_RSTCAUSE : Nat := 0x40000030
def PMC_RSTCAUSE_POR : Fld := ⟨PMC_RSTCAUSE, 0, 1⟩
def PMC_RSTCAUSE_PIN : Fld := ⟨PMC_RSTCAUSE, 1, 1⟩
def PMC_RSTCAUSE_SOFT : Fld := ⟨PMC_RSTCAUSE, 2, 1⟩
def PMC_RSTCAUSE_SEC : Fld := ⟨PMC_RSTCAUSE, 3, 1⟩
def PMC_RSTCAUSE_LINE_RETURN : Fld := ⟨PMC_RSTCAUSE, 4, 1⟩
def PMC_RSTCAUSE_THERMAL : Fld := ⟨PMC_RSTCAUSE, 5, 1⟩
def PMC_RSTCAUSE_WDOG : Fld := ⟨PMC_RSTCAUSE, 6, 1⟩
def PMC_RSTCAUSE_RCC_DOWN : Fld := ⟨PMC_RSTCAUSE, 7, 1⟩
def PMC_RSTCTRL : Nat := 0x40000034
def PMC_RSTCTRL_FULL : Fld := ⟨PMC_RSTCTRL, 0, 1⟩
def PMC_RSTCTRL_DOMAIN : Fld := ⟨PMC_RSTCTRL, 16, 12⟩
def PMC_CLKSTAT : Nat := 0x40000040
def PMC_CLKSTAT_CLK32_OK : Fld := ⟨PMC_CLKSTAT, 0, 1⟩
def PMC_CLKSTAT_REF_OK : Fld := ⟨PMC_CLKSTAT, 1, 1⟩
def PMC_CLKSTAT_ON_RC : Fld := ⟨PMC_CLKSTAT, 2, 1⟩
def PMC_CLKSTAT_PLL_LOCK : Fld := ⟨PMC_CLKSTAT, 3, 3⟩

/-- Rows of 02_power_clocks_reset.md: PMC_CFG, PMC_PSTATE, PMC_DOMREQ, PMC_DOMSTAT, PMC_PINNED, PMC_CTXUSE, PMC_LINE, PMC_HOLDUP, PMC_RSTCAUSE, PMC_RSTCTRL, PMC_CLKSTAT. -/
def regs02_0 : List RegRow := [
  ⟨0x40000004, [], true,
    [⟨0, 8, .rwl, 160, .same, false, 0⟩, ⟨8, 8, .rsvd, 0, .same, false, 0⟩, ⟨16, 8, .rwl, 30, .same, false, 0⟩, ⟨24, 7, .rsvd, 0, .same, false, 0⟩, ⟨31, 1, .w1s, 0, .same, false, 0⟩]⟩,
  ⟨0x40000000, [], false,
    [⟨0, 2, .ro, 0, .same, false, 0⟩, ⟨2, 2, .rw, 2, .same, true, 0⟩, ⟨4, 1, .wo, 0, .same, true, 3⟩, ⟨5, 3, .ro, 0, .same, false, 0⟩, ⟨8, 24, .rsvd, 0, .same, false, 0⟩]⟩,
  ⟨0x40000010, [], true,
    [⟨0, 12, .rw, 3, .same, false, 0⟩, ⟨12, 20, .rsvd, 0, .same, false, 0⟩]⟩,
  ⟨0x40000014, [], false,
    [⟨0, 12, .ro, 0, .same, false, 0⟩, ⟨12, 4, .rsvd, 0, .same, false, 0⟩, ⟨16, 12, .ro, 0, .same, false, 0⟩, ⟨28, 4, .rsvd, 0, .same, false, 0⟩]⟩,
  ⟨0x40000018, [], true,
    [⟨0, 12, .ro, 0, .same, false, 0⟩, ⟨12, 4, .rsvd, 0, .same, false, 0⟩, ⟨16, 12, .rsvd, 0, .same, false, 0⟩, ⟨28, 4, .rsvd, 0, .same, false, 0⟩]⟩,
  ⟨0x4000001C, [], true,
    [⟨0, 12, .ro, 0, .same, false, 0⟩, ⟨12, 20, .rsvd, 0, .same, false, 0⟩]⟩,
  ⟨0x40000020, [], false,
    [⟨0, 10, .ro, 0, .same, false, 0⟩, ⟨10, 10, .ro, 0, .same, false, 0⟩, ⟨20, 1, .ro, 1, .same, false, 0⟩, ⟨21, 1, .ro, 0, .same, false, 0⟩, ⟨22, 1, .ro, 0, .same, false, 0⟩, ⟨23, 9, .rsvd, 0, .same, false, 0⟩]⟩,
  ⟨0x40000024, [], false,
    [⟨0, 16, .ro, 0, .same, false, 0⟩, ⟨16, 16, .ro, 2100, .same, false, 0⟩]⟩,
  ⟨0x40000030, [], false,
    [⟨0, 1, .w1c, 1, .same, false, 0⟩, ⟨1, 1, .w1c, 0, .same, false, 0⟩, ⟨2, 1, .w1c, 0, .same, false, 0⟩, ⟨3, 1, .w1c, 0, .same, false, 0⟩, ⟨4, 1, .w1c, 0, .same, false, 0⟩, ⟨5, 1, .w1c, 0, .same, false, 0⟩, ⟨6, 1, .w1c, 0, .same, false, 0⟩, ⟨7, 1, .w1c, 0, .same, false, 0⟩, ⟨8, 24, .rsvd, 0, .same, false, 0⟩]⟩,
  ⟨0x40000034, [], true,
    [⟨0, 1, .wo, 0, .same, false, 3⟩, ⟨1, 15, .rsvd, 0, .same, false, 0⟩, ⟨16, 12, .wo, 0, .same, false, 2⟩, ⟨28, 4, .rsvd, 0, .same, false, 0⟩]⟩,
  ⟨0x40000040, [], false,
    [⟨0, 1, .ro, 0, .same, false, 0⟩, ⟨1, 1, .ro, 0, .same, false, 0⟩, ⟨2, 1, .ro, 1, .same, false, 0⟩, ⟨3, 3, .ro, 0, .same, false, 0⟩, ⟨6, 26, .rsvd, 0, .same, false, 0⟩]⟩]

/-- Every register of 02_power_clocks_reset.md. -/
def regs02 : List RegRow := regs02_0

/-! ### Registers of 03_time_base.md -/

def XTF_TIME_LO : Nat := 0x40020000
def XTF_TIME_LO_NS_LO : Fld := ⟨XTF_TIME_LO, 0, 32⟩
def XTF_TIME_HI : Nat := 0x40020004
def XTF_TIME_HI_NS_HI : Fld := ⟨XTF_TIME_HI, 0, 32⟩
def XTF_STATUS : Nat := 0x40020008
def XTF_STATUS_STATE : Fld := ⟨XTF_STATUS, 0, 3⟩
def XTF_STATUS_SOURCE : Fld := ⟨XTF_STATUS, 3, 2⟩
def XTF_STATUS_GM : Fld := ⟨XTF_STATUS, 5, 1⟩
def XTF_STATUS_ON_32K : Fld := ⟨XTF_STATUS, 6, 1⟩
def XTF_STATUS_UNSYNC : Fld := ⟨XTF_STATUS, 7, 1⟩
def XTF_STATUS_LEAP : Fld := ⟨XTF_STATUS, 8, 2⟩
def XTF_RATE : Nat := 0x4002000C
def XTF_RATE_ADJ : Fld := ⟨XTF_RATE, 0, 32⟩
def XTF_ERREST : Nat := 0x40020010
def XTF_ERREST_E : Fld := ⟨XTF_ERREST, 0, 32⟩
def XTF_SET_LO : Nat := 0x40020018
def XTF_SET_LO_SET_LO : Fld := ⟨XTF_SET_LO, 0, 32⟩
def XTF_SET_HI : Nat := 0x4002001C
def XTF_SET_HI_SET_HI : Fld := ⟨XTF_SET_HI, 0, 32⟩
def XTF_CTRL : Nat := 0x40020020
def XTF_CTRL_SET : Fld := ⟨XTF_CTRL, 0, 1⟩
def XTF_CTRL_SERVO_EN : Fld := ⟨XTF_CTRL, 1, 1⟩
def XTF_CTRL_LOCK : Fld := ⟨XTF_CTRL, 31, 1⟩
def XTF_PPS : Nat := 0x40020030
def XTF_PPS_PPSIN_EN : Fld := ⟨XTF_PPS, 0, 1⟩
def XTF_PPS_PPSIN_EDGE : Fld := ⟨XTF_PPS, 1, 1⟩
def XTF_PPS_PPSIN_WAKE : Fld := ⟨XTF_PPS, 2, 1⟩
def XTF_PPS_PPSOUT_MODE : Fld := ⟨XTF_PPS, 3, 2⟩
def XTF_PPS_PPSOUT_WIDTH : Fld := ⟨XTF_PPS, 8, 8⟩
def XTF_PPSOUT_PER : Nat := 0x40020034
def XTF_PPSOUT_PER_PERIOD : Fld := ⟨XTF_PPSOUT_PER, 0, 32⟩
def XTF_PPSIN_LO : Nat := 0x40020038
def XTF_PPSIN_LO_CAP : Fld := ⟨XTF_PPSIN_LO, 0, 32⟩
def XTF_PPSIN_HI : Nat := 0x4002003C
def XTF_PPSIN_HI_CAP : Fld := ⟨XTF_PPSIN_HI, 0, 32⟩
def XTF_TSYNC : Nat := 0x40020040
def XTF_TSYNC_EN : Fld := ⟨XTF_TSYNC, 0, 1⟩
def XTF_TSYNC_EDGE : Fld := ⟨XTF_TSYNC, 1, 2⟩
def XTF_TSYNC_OVR : Fld := ⟨XTF_TSYNC, 8, 1⟩
def XTF_TSYNC_LO : Nat := 0x40020044
def XTF_TSYNC_LO_CAP : Fld := ⟨XTF_TSYNC_LO, 0, 32⟩
def XTF_TSYNC_HI : Nat := 0x40020048
def XTF_TSYNC_HI_CAP : Fld := ⟨XTF_TSYNC_HI, 0, 32⟩
def PTP_CFG : Nat := 0x40028000
def PTP_CFG_ROLE : Fld := ⟨PTP_CFG, 0, 2⟩
def PTP_CFG_TRANSPORT : Fld := ⟨PTP_CFG, 2, 2⟩
def PTP_CFG_DELAY_MECH : Fld := ⟨PTP_CFG, 4, 1⟩
def PTP_CFG_DOMAIN : Fld := ⟨PTP_CFG, 8, 7⟩
def PTP_CFG_LOCK : Fld := ⟨PTP_CFG, 31, 1⟩
def PTP_PORTSTAT (n : Nat) : Nat := 0x40028010 + 0x4 * n
def PTP_PORTSTAT_STATE (n : Nat) : Fld := ⟨PTP_PORTSTAT n, 0, 4⟩
def PTP_PORTSTAT_MEAN_DELAY (n : Nat) : Fld := ⟨PTP_PORTSTAT n, 16, 16⟩

/-- Rows of 03_time_base.md: XTF_TIME_LO, XTF_TIME_HI, XTF_STATUS, XTF_RATE, XTF_ERREST, XTF_SET_LO, XTF_SET_HI, XTF_CTRL, XTF_PPS, XTF_PPSOUT_PER, XTF_PPSIN_LO, XTF_PPSIN_HI. -/
def regs03_0 : List RegRow := [
  ⟨0x40020000, [], false,
    [⟨0, 32, .ro, 0, .same, false, 0⟩]⟩,
  ⟨0x40020004, [], false,
    [⟨0, 32, .ro, 0, .same, false, 0⟩]⟩,
  ⟨0x40020008, [], false,
    [⟨0, 3, .ro, 0, .same, false, 0⟩, ⟨3, 2, .ro, 0, .same, false, 0⟩, ⟨5, 1, .ro, 0, .same, false, 0⟩, ⟨6, 1, .ro, 0, .same, false, 0⟩, ⟨7, 1, .ro, 1, .same, false, 0⟩, ⟨8, 2, .ro, 0, .same, false, 0⟩, ⟨10, 22, .rsvd, 0, .same, false, 0⟩]⟩,
  ⟨0x4002000C, [], false,
    [⟨0, 32, .ro, 0, .same, false, 0⟩]⟩,
  ⟨0x40020010, [], false,
    [⟨0, 32, .ro, 4294967295, .same, false, 0⟩]⟩,
  ⟨0x40020018, [], true,
    [⟨0, 32, .rw, 0, .same, false, 0⟩]⟩,
  ⟨0x4002001C, [], true,
    [⟨0, 32, .rw, 0, .same, false, 0⟩]⟩,
  ⟨0x40020020, [], true,
    [⟨0, 1, .wo, 0, .same, false, 3⟩, ⟨1, 1, .rwl, 1, .same, false, 0⟩, ⟨2, 29, .rsvd, 0, .same, false, 0⟩, ⟨31, 1, .w1s, 0, .same, false, 0⟩]⟩,
  ⟨0x40020030, [], true,
    [⟨0, 1, .rw, 0, .same, false, 0⟩, ⟨1, 1, .rw, 0, .same, false, 0⟩, ⟨2, 1, .rw, 0, .same, false, 0⟩, ⟨3, 2, .rw, 0, .same, false, 0⟩, ⟨5, 3, .rsvd, 0, .same, false, 0⟩, ⟨8, 8, .rw, 100, .same, false, 0⟩, ⟨16, 16, .rsvd, 0, .same, false, 0⟩]⟩,
  ⟨0x40020034, [], true,
    [⟨0, 32, .rw, 1000000000, .same, false, 0⟩]⟩,
  ⟨0x40020038, [], false,
    [⟨0, 32, .ro, 0, .same, false, 0⟩]⟩,
  ⟨0x4002003C, [], false,
    [⟨0, 32, .ro, 0, .same, false, 0⟩]⟩]


/-- Rows of 03_time_base.md: XTF_TSYNC, XTF_TSYNC_LO, XTF_TSYNC_HI, PTP_CFG, PTP_PORTSTAT. -/
def regs03_1 : List RegRow := [
  ⟨0x40020040, [], true,
    [⟨0, 1, .rw, 0, .same, false, 0⟩, ⟨1, 2, .rw, 0, .same, false, 0⟩, ⟨3, 5, .rsvd, 0, .same, false, 0⟩, ⟨8, 1, .w1c, 0, .same, false, 0⟩, ⟨9, 23, .rsvd, 0, .same, false, 0⟩]⟩,
  ⟨0x40020044, [], false,
    [⟨0, 32, .ro, 0, .same, false, 0⟩]⟩,
  ⟨0x40020048, [], false,
    [⟨0, 32, .ro, 0, .same, false, 0⟩]⟩,
  ⟨0x40028000, [], true,
    [⟨0, 2, .rwl, 0, .same, false, 0⟩, ⟨2, 2, .rwl, 0, .same, false, 0⟩, ⟨4, 1, .rwl, 0, .same, false, 0⟩, ⟨5, 3, .rsvd, 0, .same, false, 0⟩, ⟨8, 7, .rwl, 0, .same, false, 0⟩, ⟨15, 16, .rsvd, 0, .same, false, 0⟩, ⟨31, 1, .w1s, 0, .same, false, 0⟩]⟩,
  ⟨0x40028010, [(0x4, 6)], false,
    [⟨0, 4, .ro, 3, .same, false, 0⟩, ⟨4, 12, .rsvd, 0, .same, false, 0⟩, ⟨16, 16, .ro, 0, .same, false, 0⟩]⟩]

/-- Every register of 03_time_base.md. -/
def regs03 : List RegRow := regs03_0 ++ regs03_1

/-! ### Registers of 04_ledger.md -/

def LDG_STATE : Nat := 0x40021000
def LDG_STATE_STATE : Fld := ⟨LDG_STATE, 0, 2⟩
def LDG_STATE_ARMED : Fld := ⟨LDG_STATE, 16, 16⟩
def LDG_BOOKCMD : Nat := 0x40021004
def LDG_BOOKCMD_BOOK : Fld := ⟨LDG_BOOKCMD, 0, 4⟩
def LDG_BOOKCMD_CMD : Fld := ⟨LDG_BOOKCMD, 4, 2⟩
def LDG_BOOKCMD_FAIL_ENTRY : Fld := ⟨LDG_BOOKCMD, 16, 8⟩
def LDG_BOOKCMD_RESULT : Fld := ⟨LDG_BOOKCMD, 24, 3⟩
def LDG_STAGE (w : Nat) : Nat := 0x40021020 + 0x4 * w
def LDG_STAGE_WORD (w : Nat) : Fld := ⟨LDG_STAGE w, 0, 32⟩
def LDG_COMMIT : Nat := 0x40021040
def LDG_COMMIT_ENTRY : Fld := ⟨LDG_COMMIT, 0, 8⟩
def LDG_COMMIT_BOOK : Fld := ⟨LDG_COMMIT, 8, 4⟩
def LDG_COMMIT_GO : Fld := ⟨LDG_COMMIT, 12, 1⟩
def LDG_COMMIT_RESULT : Fld := ⟨LDG_COMMIT, 24, 3⟩
def LDG_COMMIT_BUSY : Fld := ⟨LDG_COMMIT, 31, 1⟩
def LDG_SEL : Nat := 0x40021050
def LDG_SEL_SEL : Fld := ⟨LDG_SEL, 0, 12⟩
def LDG_NEXTIDX : Nat := 0x40021054
def LDG_NEXTIDX_INDEX : Fld := ⟨LDG_NEXTIDX, 0, 32⟩
def LDG_NEXT_LO : Nat := 0x40021058
def LDG_NEXT_LO_TIME : Fld := ⟨LDG_NEXT_LO, 0, 32⟩
def LDG_NEXT_HI : Nat := 0x4002105C
def LDG_NEXT_HI_TIME : Fld := ⟨LDG_NEXT_HI, 0, 32⟩
def LDG_ESTAT : Nat := 0x40021060
def LDG_ESTAT_RETIRED : Fld := ⟨LDG_ESTAT, 0, 1⟩
def LDG_ESTAT_LATE_LAST : Fld := ⟨LDG_ESTAT, 1, 1⟩
def LDG_ESTAT_GUARDED_LAST : Fld := ⟨LDG_ESTAT, 2, 1⟩
def LDG_ESTAT_FALLBACK_LAST : Fld := ⟨LDG_ESTAT, 3, 1⟩
def LDG_ESTAT_MISSED : Fld := ⟨LDG_ESTAT, 16, 16⟩
def LDG_FLAGS_LO : Nat := 0x40021070
def LDG_FLAGS_LO_FLAGS : Fld := ⟨LDG_FLAGS_LO, 0, 32⟩
def LDG_FLAGS_HI : Nat := 0x40021074
def LDG_FLAGS_HI_FLAGS : Fld := ⟨LDG_FLAGS_HI, 0, 32⟩

/-- Rows of 04_ledger.md: LDG_STATE, LDG_BOOKCMD, LDG_STAGE, LDG_COMMIT, LDG_SEL, LDG_NEXTIDX, LDG_NEXT_LO, LDG_NEXT_HI, LDG_ESTAT, LDG_FLAGS_LO, LDG_FLAGS_HI. -/
def regs04_0 : List RegRow := [
  ⟨0x40021000, [], false,
    [⟨0, 2, .ro, 0, .same, false, 0⟩, ⟨2, 14, .rsvd, 0, .same, false, 0⟩, ⟨16, 16, .ro, 0, .same, false, 0⟩]⟩,
  ⟨0x40021004, [], true,
    [⟨0, 4, .wo, 0, .same, false, 0⟩, ⟨4, 2, .wo, 0, .same, false, 0⟩, ⟨6, 10, .rsvd, 0, .same, false, 0⟩, ⟨16, 8, .ro, 0, .same, false, 0⟩, ⟨24, 3, .ro, 0, .same, false, 0⟩, ⟨27, 5, .rsvd, 0, .same, false, 0⟩]⟩,
  ⟨0x40021020, [(0x4, 8)], true,
    [⟨0, 32, .rw, 0, .same, false, 0⟩]⟩,
  ⟨0x40021040, [], true,
    [⟨0, 8, .wo, 0, .same, false, 0⟩, ⟨8, 4, .wo, 0, .same, false, 0⟩, ⟨12, 1, .wo, 0, .same, false, 0⟩, ⟨13, 11, .rsvd, 0, .same, false, 0⟩, ⟨24, 3, .ro, 0, .same, false, 0⟩, ⟨27, 4, .rsvd, 0, .same, false, 0⟩, ⟨31, 1, .ro, 0, .same, false, 0⟩]⟩,
  ⟨0x40021050, [], true,
    [⟨0, 12, .rw, 0, .same, false, 0⟩, ⟨12, 20, .rsvd, 0, .same, false, 0⟩]⟩,
  ⟨0x40021054, [], true,
    [⟨0, 32, .ro, 0, .same, false, 0⟩]⟩,
  ⟨0x40021058, [], true,
    [⟨0, 32, .ro, 0, .same, false, 0⟩]⟩,
  ⟨0x4002105C, [], true,
    [⟨0, 32, .ro, 0, .same, false, 0⟩]⟩,
  ⟨0x40021060, [], true,
    [⟨0, 1, .ro, 0, .same, false, 0⟩, ⟨1, 1, .ro, 0, .same, false, 0⟩, ⟨2, 1, .ro, 0, .same, false, 0⟩, ⟨3, 1, .ro, 0, .same, false, 0⟩, ⟨4, 12, .rsvd, 0, .same, false, 0⟩, ⟨16, 16, .ro, 0, .same, false, 0⟩]⟩,
  ⟨0x40021070, [], false,
    [⟨0, 32, .rw, 0, .same, false, 0⟩]⟩,
  ⟨0x40021074, [], false,
    [⟨0, 32, .rw, 0, .same, false, 0⟩]⟩]

/-- Every register of 04_ledger.md. -/
def regs04 : List RegRow := regs04_0

/-! ### Registers of 05_converter_units.md -/

def CVU_STATUS (n : Nat) : Nat := 0x40300000 + 0x1000 * n
def CVU_STATUS_GOOD (n : Nat) : Fld := ⟨CVU_STATUS n, 0, 4⟩
def CVU_STATUS_MODE (n : Nat) : Fld := ⟨CVU_STATUS n, 4, 2⟩
def CVU_STATUS_RESERVE (n : Nat) : Fld := ⟨CVU_STATUS n, 8, 4⟩
def CVU_STATUS_ACTIVE (n : Nat) : Fld := ⟨CVU_STATUS n, 12, 4⟩
def CVU_STATUS_FGCAL_BUSY (n : Nat) : Fld := ⟨CVU_STATUS n, 16, 1⟩
def CVU_STATUS_FGCAL_PENDING (n : Nat) : Fld := ⟨CVU_STATUS n, 17, 1⟩
def CVU_STATUS_REF_FAULT (n : Nat) : Fld := ⟨CVU_STATUS n, 18, 1⟩
def CVU_STATUS_CALSET (n : Nat) : Fld := ⟨CVU_STATUS n, 19, 1⟩
def CVU_STATUS_CAL_STALE (n : Nat) : Fld := ⟨CVU_STATUS n, 20, 1⟩
def CVU_RATE (n : Nat) : Nat := 0x40300004 + 0x1000 * n
def CVU_RATE_RATE (n : Nat) : Fld := ⟨CVU_RATE n, 0, 32⟩
def CVU_CFG (n : Nat) : Nat := 0x40300008 + 0x1000 * n
def CVU_CFG_DIFF (n : Nat) : Fld := ⟨CVU_CFG n, 0, 12⟩
def CVU_CFG_FGCAL_MODE (n : Nat) : Fld := ⟨CVU_CFG n, 12, 1⟩
def CVU_CFG_FGCAL_PERIOD (n : Nat) : Fld := ⟨CVU_CFG n, 16, 10⟩
def CVU_CFG_LOCK (n : Nat) : Fld := ⟨CVU_CFG n, 31, 1⟩
def CVU_CTRL (n : Nat) : Nat := 0x4030000C + 0x1000 * n
def CVU_CTRL_FGCAL_NOW (n : Nat) : Fld := ⟨CVU_CTRL n, 0, 1⟩
def CVU_CTRL_REQUALIFY (n : Nat) : Fld := ⟨CVU_CTRL n, 8, 9⟩
def CVU_SLICE (n k : Nat) : Nat := 0x40300010 + 0x1000 * n + 0x4 * k
def CVU_SLICE_STATE (n k : Nat) : Fld := ⟨CVU_SLICE n k, 0, 2⟩
def CVU_SLICE_SUSPECT (n k : Nat) : Fld := ⟨CVU_SLICE n k, 2, 1⟩
def CVU_SLICE_POS (n k : Nat) : Fld := ⟨CVU_SLICE n k, 4, 4⟩
def CVU_SLICE_OFFSET (n k : Nat) : Fld := ⟨CVU_SLICE n k, 8, 12⟩
def CVU_SLICE_GAIN_ERR (n k : Nat) : Fld := ⟨CVU_SLICE n k, 20, 12⟩
def CVU_SKEW (n k : Nat) : Nat := 0x40300040 + 0x1000 * n + 0x4 * k
def CVU_SKEW_TRIM (n k : Nat) : Fld := ⟨CVU_SKEW n k, 0, 16⟩
def CVU_SKEW_SAT (n k : Nat) : Fld := ⟨CVU_SKEW n k, 16, 1⟩
def CVU_SKEW_TRIAL_PASSES (n k : Nat) : Fld := ⟨CVU_SKEW n k, 24, 2⟩
def CVU_EVT (n : Nat) : Nat := 0x40300080 + 0x1000 * n
def CVU_EVT_RETIRED (n : Nat) : Fld := ⟨CVU_EVT n, 0, 1⟩
def CVU_EVT_RATE_CHANGE (n : Nat) : Fld := ⟨CVU_EVT n, 1, 1⟩
def CVU_EVT_OOS (n : Nat) : Fld := ⟨CVU_EVT n, 2, 1⟩
def CVU_EVT_SKEW_LIMIT (n : Nat) : Fld := ⟨CVU_EVT n, 3, 1⟩
def CVU_EVT_REF_FAULT (n : Nat) : Fld := ⟨CVU_EVT n, 4, 1⟩
def CVU_EVT_EXC_OPEN (n : Nat) : Fld := ⟨CVU_EVT n, 5, 1⟩
def CVU_EVT_CALSET_ACT (n : Nat) : Fld := ⟨CVU_EVT n, 6, 1⟩
def CVU_EVT_CALSET_ROLLBACK (n : Nat) : Fld := ⟨CVU_EVT n, 7, 1⟩
def CVU_EVT_REQUAL_FAIL (n : Nat) : Fld := ⟨CVU_EVT n, 8, 1⟩
def CVU_EXC (j : Nat) : Nat := 0x40303100 + 0x4 * j
def CVU_EXC_CODE (j : Nat) : Fld := ⟨CVU_EXC j, 0, 7⟩
def CVU_EXC_MODE (j : Nat) : Fld := ⟨CVU_EXC j, 8, 2⟩
def CVU_EXC_OPEN (j : Nat) : Fld := ⟨CVU_EXC j, 16, 1⟩
def HKC_STATUS : Nat := 0x40308000
def HKC_STATUS_ROUND : Fld := ⟨HKC_STATUS, 0, 16⟩
def HKC_STATUS_CHAN : Fld := ⟨HKC_STATUS, 16, 6⟩
def HKC_STATUS_FAULT : Fld := ⟨HKC_STATUS, 24, 1⟩
def HKC_RESULT (c : Nat) : Nat := 0x40308100 + 0x4 * c
def HKC_RESULT_VALUE (c : Nat) : Fld := ⟨HKC_RESULT c, 0, 16⟩
def HKC_RESULT_VALID (c : Nat) : Fld := ⟨HKC_RESULT c, 16, 1⟩
def HKC_RESULT_ROUND (c : Nat) : Fld := ⟨HKC_RESULT c, 24, 8⟩

/-- Rows of 05_converter_units.md: CVU_STATUS, CVU_RATE, CVU_CFG, CVU_CTRL, CVU_SLICE, CVU_SKEW, CVU_EVT, CVU_EXC, HKC_STATUS, HKC_RESULT. -/
def regs05_0 : List RegRow := [
  ⟨0x40300000, [(0x1000, 4)], false,
    [⟨0, 4, .ro, 9, .same, false, 0⟩, ⟨4, 2, .ro, 0, .same, false, 0⟩, ⟨6, 2, .rsvd, 0, .same, false, 0⟩, ⟨8, 4, .ro, 8, .same, false, 0⟩, ⟨12, 4, .ro, 8, .same, false, 0⟩, ⟨16, 1, .ro, 0, .same, false, 0⟩, ⟨17, 1, .ro, 0, .same, false, 0⟩, ⟨18, 1, .ro, 0, .same, false, 0⟩, ⟨19, 1, .ro, 0, .same, false, 0⟩, ⟨20, 1, .ro, 0, .same, false, 0⟩, ⟨21, 11, .rsvd, 0, .same, false, 0⟩]⟩,
  ⟨0x40300004, [(0x1000, 4)], false,
    [⟨0, 32, .ro, 20000000, .same, false, 0⟩]⟩,
  ⟨0x40300008, [(0x1000, 4)], true,
    [⟨0, 12, .rwl, 0, .same, false, 0⟩, ⟨12, 1, .rwl, 0, .same, false, 0⟩, ⟨13, 3, .rsvd, 0, .same, false, 0⟩, ⟨16, 10, .rwl, 10, .same, false, 0⟩, ⟨26, 5, .rsvd, 0, .same, false, 0⟩, ⟨31, 1, .w1s, 0, .same, false, 0⟩]⟩,
  ⟨0x4030000C, [(0x1000, 4)], true,
    [⟨0, 1, .wo, 0, .same, false, 0⟩, ⟨1, 7, .rsvd, 0, .same, false, 0⟩, ⟨8, 9, .wo, 0, .same, false, 0⟩, ⟨17, 15, .rsvd, 0, .same, false, 0⟩]⟩,
  ⟨0x40300010, [(0x1000, 4), (0x4, 9)], false,
    [⟨0, 2, .ro, 0, .same, false, 0⟩, ⟨2, 1, .ro, 0, .same, false, 0⟩, ⟨3, 1, .rsvd, 0, .same, false, 0⟩, ⟨4, 4, .ro, 0, .same, false, 0⟩, ⟨8, 12, .ro, 0, .same, false, 0⟩, ⟨20, 12, .ro, 0, .same, false, 0⟩]⟩,
  ⟨0x40300040, [(0x1000, 4), (0x4, 9)], false,
    [⟨0, 16, .ro, 0, .same, false, 0⟩, ⟨16, 1, .ro, 0, .same, false, 0⟩, ⟨17, 7, .rsvd, 0, .same, false, 0⟩, ⟨24, 2, .ro, 0, .same, false, 0⟩, ⟨26, 6, .rsvd, 0, .same, false, 0⟩]⟩,
  ⟨0x40300080, [(0x1000, 4)], false,
    [⟨0, 1, .w1c, 0, .same, false, 0⟩, ⟨1, 1, .w1c, 0, .same, false, 0⟩, ⟨2, 1, .w1c, 0, .same, false, 0⟩, ⟨3, 1, .w1c, 0, .same, false, 0⟩, ⟨4, 1, .w1c, 0, .same, false, 0⟩, ⟨5, 1, .w1c, 0, .same, false, 0⟩, ⟨6, 1, .w1c, 0, .same, false, 0⟩, ⟨7, 1, .w1c, 0, .same, false, 0⟩, ⟨8, 1, .w1c, 0, .same, false, 0⟩, ⟨9, 23, .rsvd, 0, .same, false, 0⟩]⟩,
  ⟨0x40303100, [(0x4, 8)], true,
    [⟨0, 7, .rw, 0, .same, false, 0⟩, ⟨7, 1, .rsvd, 0, .same, false, 0⟩, ⟨8, 2, .rw, 0, .same, false, 0⟩, ⟨10, 6, .rsvd, 0, .same, false, 0⟩, ⟨16, 1, .ro, 0, .same, false, 0⟩, ⟨17, 15, .rsvd, 0, .same, false, 0⟩]⟩,
  ⟨0x40308000, [], false,
    [⟨0, 16, .ro, 0, .same, false, 0⟩, ⟨16, 6, .ro, 0, .same, false, 0⟩, ⟨22, 2, .rsvd, 0, .same, false, 0⟩, ⟨24, 1, .ro, 0, .same, false, 0⟩, ⟨25, 7, .rsvd, 0, .same, false, 0⟩]⟩,
  ⟨0x40308100, [(0x4, 48)], false,
    [⟨0, 16, .ro, 0, .same, false, 0⟩, ⟨16, 1, .ro, 0, .same, false, 0⟩, ⟨17, 7, .rsvd, 0, .same, false, 0⟩, ⟨24, 8, .ro, 0, .same, false, 0⟩]⟩]

/-- Every register of 05_converter_units.md. -/
def regs05 : List RegRow := regs05_0

/-! ### Registers of 06_converter_sequencing.md -/

def CVU_SEQ_CTRL (n : Nat) : Nat := 0x40300200 + 0x1000 * n
def CVU_SEQ_CTRL_EN (n : Nat) : Fld := ⟨CVU_SEQ_CTRL n, 0, 1⟩
def CVU_SEQ_CTRL_MODE (n : Nat) : Fld := ⟨CVU_SEQ_CTRL n, 1, 1⟩
def CVU_SEQ_CTRL_POLICY (n : Nat) : Fld := ⟨CVU_SEQ_CTRL n, 2, 2⟩
def CVU_SEQ_CTRL_INJ_MODE (n : Nat) : Fld := ⟨CVU_SEQ_CTRL n, 4, 1⟩
def CVU_SEQ_CTRL_TRIG_SRC (n : Nat) : Fld := ⟨CVU_SEQ_CTRL n, 8, 4⟩
def CVU_SEQ_CTRL_LEN (n : Nat) : Fld := ⟨CVU_SEQ_CTRL n, 16, 6⟩
def CVU_SEQ_CTRL_START (n : Nat) : Fld := ⟨CVU_SEQ_CTRL n, 31, 1⟩
def CVU_SEQ_STATUS (n : Nat) : Nat := 0x40300204 + 0x1000 * n
def CVU_SEQ_STATUS_STATE (n : Nat) : Fld := ⟨CVU_SEQ_STATUS n, 0, 2⟩
def CVU_SEQ_STATUS_PENDING (n : Nat) : Fld := ⟨CVU_SEQ_STATUS n, 2, 1⟩
def CVU_SEQ_STATUS_ENTRY (n : Nat) : Fld := ⟨CVU_SEQ_STATUS n, 8, 5⟩
def CVU_SEQ_STATUS_CLAMP (n : Nat) : Fld := ⟨CVU_SEQ_STATUS n, 16, 4⟩
def CVU_PASS (n : Nat) : Nat := 0x40300208 + 0x1000 * n
def CVU_PASS_PASS (n : Nat) : Fld := ⟨CVU_PASS n, 0, 32⟩
def CVU_TRIGCNT (n : Nat) : Nat := 0x4030020C + 0x1000 * n
def CVU_TRIGCNT_MISSED (n : Nat) : Fld := ⟨CVU_TRIGCNT n, 0, 16⟩
def CVU_TRIGCNT_RESTARTED (n : Nat) : Fld := ⟨CVU_TRIGCNT n, 16, 16⟩
def CVU_INJ (n : Nat) : Nat := 0x40300210 + 0x1000 * n
def CVU_INJ_REQ (n : Nat) : Fld := ⟨CVU_INJ n, 0, 32⟩
def CVU_INJSTAT (n : Nat) : Nat := 0x40300214 + 0x1000 * n
def CVU_INJSTAT_DEPTH (n : Nat) : Fld := ⟨CVU_INJSTAT n, 0, 3⟩
def CVU_INJSTAT_LOST (n : Nat) : Fld := ⟨CVU_INJSTAT n, 8, 8⟩
def CVU_CFGERR (n : Nat) : Nat := 0x40300218 + 0x1000 * n
def CVU_CFGERR_CODE (n : Nat) : Fld := ⟨CVU_CFGERR n, 0, 4⟩
def CVU_CFGERR_ENTRY (n : Nat) : Fld := ⟨CVU_CFGERR n, 8, 5⟩
def CVU_CFGERR_PROFILE (n : Nat) : Fld := ⟨CVU_CFGERR n, 13, 2⟩
def CVU_FPA (n p : Nat) : Nat := 0x40300220 + 0x1000 * n + 0x8 * p
def CVU_FPA_ORDER_M1 (n p : Nat) : Fld := ⟨CVU_FPA n p, 0, 3⟩
def CVU_FPA_COMB_EN (n p : Nat) : Fld := ⟨CVU_FPA n p, 3, 1⟩
def CVU_FPA_COMB_DEC_M1 (n p : Nat) : Fld := ⟨CVU_FPA n p, 4, 6⟩
def CVU_FPB (n p : Nat) : Nat := 0x40300224 + 0x1000 * n + 0x8 * p
def CVU_FPB_DEC_M1 (n p : Nat) : Fld := ⟨CVU_FPB n p, 0, 16⟩
def CVU_FPSTAT (n p : Nat) : Nat := 0x40300240 + 0x1000 * n + 0x4 * p
def CVU_FPSTAT_DEFF_M1 (n p : Nat) : Fld := ⟨CVU_FPSTAT n p, 0, 16⟩
def CVU_FPSTAT_L50_M1 (n p : Nat) : Fld := ⟨CVU_FPSTAT n p, 16, 8⟩
def CVU_FPSTAT_L60_M1 (n p : Nat) : Fld := ⟨CVU_FPSTAT n p, 24, 8⟩
def CVU_SEQE (n e : Nat) : Nat := 0x40300300 + 0x1000 * n + 0x4 * e
def CVU_SEQE_INPUT (n e : Nat) : Fld := ⟨CVU_SEQE n e, 0, 5⟩
def CVU_SEQE_PROFILE (n e : Nat) : Fld := ⟨CVU_SEQE n e, 5, 2⟩
def CVU_SEQE_EVT (n e : Nat) : Fld := ⟨CVU_SEQE n e, 7, 1⟩
def CVU_SEQE_OUTPUTS (n e : Nat) : Fld := ⟨CVU_SEQE n e, 8, 12⟩
def CVU_SCFG (n s : Nat) : Nat := 0x40300400 + 0x1000 * n + 0x20 * s
def CVU_SCFG_EN (n s : Nat) : Fld := ⟨CVU_SCFG n s, 0, 1⟩
def CVU_SCFG_FMT (n s : Nat) : Fld := ⟨CVU_SCFG n s, 1, 2⟩
def CVU_SCFG_POLICY (n s : Nat) : Fld := ⟨CVU_SCFG n s, 3, 1⟩
def CVU_SCFG_INJ (n s : Nat) : Fld := ⟨CVU_SCFG n s, 4, 1⟩
def CVU_SCFG_CFG_ERR (n s : Nat) : Fld := ⟨CVU_SCFG n s, 8, 4⟩
def CVU_SCFG_THRESH (n s : Nat) : Fld := ⟨CVU_SCFG n s, 12, 20⟩
def CVU_SBASE (n s : Nat) : Nat := 0x40300404 + 0x1000 * n + 0x20 * s
def CVU_SBASE_BASE (n s : Nat) : Fld := ⟨CVU_SBASE n s, 0, 32⟩
def CVU_SLEN (n s : Nat) : Nat := 0x40300408 + 0x1000 * n + 0x20 * s
def CVU_SLEN_LEN (n s : Nat) : Fld := ⟨CVU_SLEN n s, 0, 20⟩
def CVU_SMASK (n s : Nat) : Nat := 0x4030040C + 0x1000 * n + 0x20 * s
def CVU_SMASK_MASK (n s : Nat) : Fld := ⟨CVU_SMASK n s, 0, 32⟩
def CVU_SWR (n s : Nat) : Nat := 0x40300410 + 0x1000 * n + 0x20 * s
def CVU_SWR_WR (n s : Nat) : Fld := ⟨CVU_SWR n s, 0, 20⟩
def CVU_SRD (n s : Nat) : Nat := 0x40300414 + 0x1000 * n + 0x20 * s
def CVU_SRD_RD (n s : Nat) : Fld := ⟨CVU_SRD n s, 0, 20⟩
def CVU_SSTAT (n s : Nat) : Nat := 0x40300418 + 0x1000 * n + 0x20 * s
def CVU_SSTAT_OVERRUN (n s : Nat) : Fld := ⟨CVU_SSTAT n s, 0, 1⟩
def CVU_SSTAT_LEVEL (n s : Nat) : Fld := ⟨CVU_SSTAT n s, 1, 1⟩
def CVU_SSTAT_RD_BAD (n s : Nat) : Fld := ⟨CVU_SSTAT n s, 2, 1⟩
def CVU_SSTAT_LOST (n s : Nat) : Fld := ⟨CVU_SSTAT n s, 16, 16⟩
def CVU_SCNT (n s : Nat) : Nat := 0x4030041C + 0x1000 * n + 0x20 * s
def CVU_SCNT_WCOUNT (n s : Nat) : Fld := ⟨CVU_SCNT n s, 0, 32⟩

/-- Rows of 06_converter_sequencing.md: CVU_SEQ_CTRL, CVU_SEQ_STATUS, CVU_PASS, CVU_TRIGCNT, CVU_INJ, CVU_INJSTAT, CVU_CFGERR, CVU_FPA, CVU_FPB, CVU_FPSTAT, CVU_SEQE, CVU_SCFG. -/
def regs06_0 : List RegRow := [
  ⟨0x40300200, [(0x1000, 4)], true,
    [⟨0, 1, .rw, 0, .same, false, 0⟩, ⟨1, 1, .rw, 0, .same, false, 0⟩, ⟨2, 2, .rw, 0, .same, false, 0⟩, ⟨4, 1, .rw, 0, .same, false, 0⟩, ⟨5, 3, .rsvd, 0, .same, false, 0⟩, ⟨8, 4, .rw, 0, .same, false, 0⟩, ⟨12, 4, .rsvd, 0, .same, false, 0⟩, ⟨16, 6, .rw, 0, .same, false, 0⟩, ⟨22, 9, .rsvd, 0, .same, false, 0⟩, ⟨31, 1, .wo, 0, .same, false, 0⟩]⟩,
  ⟨0x40300204, [(0x1000, 4)], false,
    [⟨0, 2, .ro, 0, .same, false, 0⟩, ⟨2, 1, .ro, 0, .same, false, 0⟩, ⟨3, 5, .rsvd, 0, .same, false, 0⟩, ⟨8, 5, .ro, 0, .same, false, 0⟩, ⟨13, 3, .rsvd, 0, .same, false, 0⟩, ⟨16, 4, .ro, 0, .same, false, 0⟩, ⟨20, 12, .rsvd, 0, .same, false, 0⟩]⟩,
  ⟨0x40300208, [(0x1000, 4)], false,
    [⟨0, 32, .ro, 0, .same, false, 0⟩]⟩,
  ⟨0x4030020C, [(0x1000, 4)], false,
    [⟨0, 16, .rc, 0, .same, false, 0⟩, ⟨16, 16, .rc, 0, .same, false, 0⟩]⟩,
  ⟨0x40300210, [(0x1000, 4)], true,
    [⟨0, 32, .wo, 0, .same, false, 0⟩]⟩,
  ⟨0x40300214, [(0x1000, 4)], false,
    [⟨0, 3, .ro, 0, .same, false, 0⟩, ⟨3, 5, .rsvd, 0, .same, false, 0⟩, ⟨8, 8, .rc, 0, .same, false, 0⟩, ⟨16, 16, .rsvd, 0, .same, false, 0⟩]⟩,
  ⟨0x40300218, [(0x1000, 4)], false,
    [⟨0, 4, .ro, 0, .same, false, 0⟩, ⟨4, 4, .rsvd, 0, .same, false, 0⟩, ⟨8, 5, .ro, 0, .same, false, 0⟩, ⟨13, 2, .ro, 0, .same, false, 0⟩, ⟨15, 17, .rsvd, 0, .same, false, 0⟩]⟩,
  ⟨0x40300220, [(0x1000, 4), (0x8, 4)], true,
    [⟨0, 3, .rw, 0, .same, false, 0⟩, ⟨3, 1, .rw, 0, .same, false, 0⟩, ⟨4, 6, .rw, 0, .same, false, 0⟩, ⟨10, 22, .rsvd, 0, .same, false, 0⟩]⟩,
  ⟨0x40300224, [(0x1000, 4), (0x8, 4)], true,
    [⟨0, 16, .rw, 63, .same, false, 0⟩, ⟨16, 16, .rsvd, 0, .same, false, 0⟩]⟩,
  ⟨0x40300240, [(0x1000, 4), (0x4, 4)], false,
    [⟨0, 16, .ro, 63, .same, false, 0⟩, ⟨16, 8, .ro, 0, .same, false, 0⟩, ⟨24, 8, .ro, 0, .same, false, 0⟩]⟩,
  ⟨0x40300300, [(0x1000, 4), (0x4, 32)], true,
    [⟨0, 5, .rw, 0, .same, false, 0⟩, ⟨5, 2, .rw, 0, .same, false, 0⟩, ⟨7, 1, .rw, 0, .same, false, 0⟩, ⟨8, 12, .rw, 1, .same, false, 0⟩, ⟨20, 12, .rsvd, 0, .same, false, 0⟩]⟩,
  ⟨0x40300400, [(0x1000, 4), (0x20, 16)], true,
    [⟨0, 1, .rw, 0, .same, false, 0⟩, ⟨1, 2, .rw, 0, .same, false, 0⟩, ⟨3, 1, .rw, 0, .same, false, 0⟩, ⟨4, 1, .rw, 0, .same, false, 0⟩, ⟨5, 3, .rsvd, 0, .same, false, 0⟩, ⟨8, 4, .ro, 0, .same, false, 0⟩, ⟨12, 20, .rw, 0, .same, false, 0⟩]⟩]


/-- Rows of 06_converter_sequencing.md: CVU_SBASE, CVU_SLEN, CVU_SMASK, CVU_SWR, CVU_SRD, CVU_SSTAT, CVU_SCNT. -/
def regs06_1 : List RegRow := [
  ⟨0x40300404, [(0x1000, 4), (0x20, 16)], true,
    [⟨0, 32, .rw, 0, .same, false, 0⟩]⟩,
  ⟨0x40300408, [(0x1000, 4), (0x20, 16)], true,
    [⟨0, 20, .rw, 0, .same, false, 0⟩, ⟨20, 12, .rsvd, 0, .same, false, 0⟩]⟩,
  ⟨0x4030040C, [(0x1000, 4), (0x20, 16)], true,
    [⟨0, 32, .rw, 0, .same, false, 0⟩]⟩,
  ⟨0x40300410, [(0x1000, 4), (0x20, 16)], false,
    [⟨0, 20, .ro, 0, .same, false, 0⟩, ⟨20, 12, .rsvd, 0, .same, false, 0⟩]⟩,
  ⟨0x40300414, [(0x1000, 4), (0x20, 16)], false,
    [⟨0, 20, .rw, 0, .same, false, 0⟩, ⟨20, 12, .rsvd, 0, .same, false, 0⟩]⟩,
  ⟨0x40300418, [(0x1000, 4), (0x20, 16)], false,
    [⟨0, 1, .w1c, 0, .same, false, 0⟩, ⟨1, 1, .w1c, 0, .same, false, 0⟩, ⟨2, 1, .w1c, 0, .same, false, 0⟩, ⟨3, 13, .rsvd, 0, .same, false, 0⟩, ⟨16, 16, .ro, 0, .same, false, 0⟩]⟩,
  ⟨0x4030041C, [(0x1000, 4), (0x20, 16)], false,
    [⟨0, 32, .ro, 0, .same, false, 0⟩]⟩]

/-- Every register of 06_converter_sequencing.md. -/
def regs06 : List RegRow := regs06_0 ++ regs06_1

/-! ### Registers of 07_control_engine_isa.md -/

def CE_ID (n : Nat) : Nat := 0x40100000 + 0x10000 * n
def CE_ID_ISA_REV (n : Nat) : Fld := ⟨CE_ID n, 0, 8⟩
def CE_ID_SLOTS (n : Nat) : Fld := ⟨CE_ID n, 8, 8⟩
def CE_ID_ENGINE (n : Nat) : Fld := ⟨CE_ID n, 16, 5⟩
def CE_STAT (n : Nat) : Nat := 0x40100004 + 0x10000 * n
def CE_STAT_BUSY (n : Nat) : Fld := ⟨CE_STAT n, 0, 1⟩
def CE_STAT_SPEC (n : Nat) : Fld := ⟨CE_STAT n, 1, 1⟩
def CE_STAT_SLOT (n : Nat) : Fld := ⟨CE_STAT n, 8, 4⟩
def CE_STAT_PC (n : Nat) : Fld := ⟨CE_STAT n, 16, 11⟩
def CE_LASTRUN (n : Nat) : Nat := 0x40100008 + 0x10000 * n
def CE_LASTRUN_CYCLES (n : Nat) : Fld := ⟨CE_LASTRUN n, 0, 32⟩
def CE_FAULT (n : Nat) : Nat := 0x4010000C + 0x10000 * n
def CE_FAULT_CODE (n : Nat) : Fld := ⟨CE_FAULT n, 0, 3⟩
def CE_FAULT_SLOT (n : Nat) : Fld := ⟨CE_FAULT n, 8, 4⟩
def CE_FAULT_PC (n : Nat) : Fld := ⟨CE_FAULT n, 16, 11⟩
def CE_FAULTCNT (n : Nat) : Nat := 0x40100010 + 0x10000 * n
def CE_FAULTCNT_COUNT (n : Nat) : Fld := ⟨CE_FAULTCNT n, 0, 16⟩
def CE_FAULTCNT_SPEC_ST (n : Nat) : Fld := ⟨CE_FAULTCNT n, 16, 16⟩
def CE_LOADSTAT (n : Nat) : Nat := 0x40100014 + 0x10000 * n
def CE_LOADSTAT_RESULT (n : Nat) : Fld := ⟨CE_LOADSTAT n, 0, 4⟩
def CE_LOADSTAT_DETAIL (n : Nat) : Fld := ⟨CE_LOADSTAT n, 16, 16⟩
def CE_CTRL (n : Nat) : Nat := 0x40100020 + 0x10000 * n
def CE_CTRL_FAULT_CLR (n : Nat) : Fld := ⟨CE_CTRL n, 0, 1⟩

/-- Rows of 07_control_engine_isa.md: CE_ID, CE_STAT, CE_LASTRUN, CE_FAULT, CE_FAULTCNT, CE_LOADSTAT, CE_CTRL. -/
def regs07_0 : List RegRow := [
  ⟨0x40100000, [(0x10000, 32)], false,
    [⟨0, 8, .ro, 1, .same, false, 0⟩, ⟨8, 8, .ro, 16, .same, false, 0⟩, ⟨16, 5, .ro, 0, .step 0 1, false, 0⟩, ⟨21, 11, .rsvd, 0, .same, false, 0⟩]⟩,
  ⟨0x40100004, [(0x10000, 32)], false,
    [⟨0, 1, .ro, 0, .same, false, 0⟩, ⟨1, 1, .ro, 0, .same, false, 0⟩, ⟨2, 6, .rsvd, 0, .same, false, 0⟩, ⟨8, 4, .ro, 0, .same, false, 0⟩, ⟨12, 4, .rsvd, 0, .same, false, 0⟩, ⟨16, 11, .ro, 0, .same, false, 0⟩, ⟨27, 5, .rsvd, 0, .same, false, 0⟩]⟩,
  ⟨0x40100008, [(0x10000, 32)], false,
    [⟨0, 32, .ro, 0, .same, false, 0⟩]⟩,
  ⟨0x4010000C, [(0x10000, 32)], false,
    [⟨0, 3, .ro, 0, .same, false, 0⟩, ⟨3, 5, .rsvd, 0, .same, false, 0⟩, ⟨8, 4, .ro, 0, .same, false, 0⟩, ⟨12, 4, .rsvd, 0, .same, false, 0⟩, ⟨16, 11, .ro, 0, .same, false, 0⟩, ⟨27, 5, .rsvd, 0, .same, false, 0⟩]⟩,
  ⟨0x40100010, [(0x10000, 32)], false,
    [⟨0, 16, .rc, 0, .same, false, 0⟩, ⟨16, 16, .rc, 0, .same, false, 0⟩]⟩,
  ⟨0x40100014, [(0x10000, 32)], false,
    [⟨0, 4, .ro, 0, .same, false, 0⟩, ⟨4, 12, .rsvd, 0, .same, false, 0⟩, ⟨16, 16, .ro, 0, .same, false, 0⟩]⟩,
  ⟨0x40100020, [(0x10000, 32)], true,
    [⟨0, 1, .wo, 0, .same, false, 0⟩, ⟨1, 31, .rsvd, 0, .same, false, 0⟩]⟩]

/-- Every register of 07_control_engine_isa.md. -/
def regs07 : List RegRow := regs07_0

/-! ### Registers of 08_control_engine_operation.md -/

def CE_SCFG (n s : Nat) : Nat := 0x40100100 + 0x10000 * n + 0x20 * s
def CE_SCFG_EN (n s : Nat) : Fld := ⟨CE_SCFG n s, 0, 1⟩
def CE_SCFG_RELEASE (n s : Nat) : Fld := ⟨CE_SCFG n s, 1, 2⟩
def CE_SCFG_POLICY (n s : Nat) : Fld := ⟨CE_SCFG n s, 3, 1⟩
def CE_SCFG_SPEC_EN (n s : Nat) : Fld := ⟨CE_SCFG n s, 4, 1⟩
def CE_SCFG_ESSENTIAL (n s : Nat) : Fld := ⟨CE_SCFG n s, 5, 1⟩
def CE_SCFG_PRIO (n s : Nat) : Fld := ⟨CE_SCFG n s, 6, 2⟩
def CE_SCFG_DEMOTE_N (n s : Nat) : Fld := ⟨CE_SCFG n s, 8, 4⟩
def CE_SCFG_PROG_ID (n s : Nat) : Fld := ⟨CE_SCFG n s, 16, 16⟩
def CE_SWIN (n s : Nat) : Nat := 0x40100104 + 0x10000 * n + 0x20 * s
def CE_SWIN_IN_BASE (n s : Nat) : Fld := ⟨CE_SWIN n s, 0, 8⟩
def CE_SWIN_IN_COUNT (n s : Nat) : Fld := ⟨CE_SWIN n s, 8, 7⟩
def CE_SWIN_OUT_BASE (n s : Nat) : Fld := ⟨CE_SWIN n s, 16, 8⟩
def CE_SWIN_OUT_COUNT (n s : Nat) : Fld := ⟨CE_SWIN n s, 24, 5⟩
def CE_STRIG (n s : Nat) : Nat := 0x40100108 + 0x10000 * n + 0x20 * s
def CE_STRIG_TRIG_SRC (n s : Nat) : Fld := ⟨CE_STRIG n s, 0, 12⟩
def CE_STRIG_LEAD (n s : Nat) : Fld := ⟨CE_STRIG n s, 16, 16⟩
def CE_SPER (n s : Nat) : Nat := 0x4010010C + 0x10000 * n + 0x20 * s
def CE_SPER_PERIOD (n s : Nat) : Fld := ⟨CE_SPER n s, 0, 28⟩
def CE_SKEEP (n s : Nat) : Nat := 0x40100110 + 0x10000 * n + 0x20 * s
def CE_SKEEP_KEEP (n s : Nat) : Fld := ⟨CE_SKEEP n s, 0, 16⟩
def CE_SSTAT (n s : Nat) : Nat := 0x40100114 + 0x10000 * n + 0x20 * s
def CE_SSTAT_STATE (n s : Nat) : Fld := ⟨CE_SSTAT n s, 0, 3⟩
def CE_SSTAT_HELD (n s : Nat) : Fld := ⟨CE_SSTAT n s, 3, 1⟩
def CE_SSTAT_SAT_LAST (n s : Nat) : Fld := ⟨CE_SSTAT n s, 4, 1⟩
def CE_SSTAT_VOID_CAUSE (n s : Nat) : Fld := ⟨CE_SSTAT n s, 5, 3⟩
def CE_SSTAT_VOID_PORT (n s : Nat) : Fld := ⟨CE_SSTAT n s, 8, 6⟩
def CE_SSTAT_MISS (n s : Nat) : Fld := ⟨CE_SSTAT n s, 16, 4⟩
def CE_SSTAT_SEQ (n s : Nat) : Fld := ⟨CE_SSTAT n s, 24, 8⟩
def CE_SCNT (n s : Nat) : Nat := 0x40100118 + 0x10000 * n + 0x20 * s
def CE_SCNT_OVERRUNS (n s : Nat) : Fld := ⟨CE_SCNT n s, 0, 16⟩
def CE_SCNT_VOIDS (n s : Nat) : Fld := ⟨CE_SCNT n s, 16, 16⟩
def CE_SCTL (n s : Nat) : Nat := 0x4010011C + 0x10000 * n + 0x20 * s
def CE_SCTL_START (n s : Nat) : Fld := ⟨CE_SCTL n s, 0, 1⟩
def CE_SCTL_ARM (n s : Nat) : Fld := ⟨CE_SCTL n s, 1, 1⟩
def CE_SAFE (n s j : Nat) : Nat := 0x40100300 + 0x10000 * n + 0x20 * s + 0x4 * j
def CE_SAFE_SAFE_LO (n s j : Nat) : Fld := ⟨CE_SAFE n s j, 0, 16⟩
def CE_SAFE_SAFE_HI (n s j : Nat) : Fld := ⟨CE_SAFE n s j, 16, 16⟩
def CE_SPECCNT (n : Nat) : Nat := 0x40100500 + 0x10000 * n
def CE_SPECCNT_SETTLED (n : Nat) : Fld := ⟨CE_SPECCNT n, 0, 16⟩
def CE_SPECCNT_VOIDED (n : Nat) : Fld := ⟨CE_SPECCNT n, 16, 16⟩
def CE_CFGERR (n : Nat) : Nat := 0x40100504 + 0x10000 * n
def CE_CFGERR_CODE (n : Nat) : Fld := ⟨CE_CFGERR n, 0, 4⟩
def CE_CFGERR_SLOT (n : Nat) : Fld := ⟨CE_CFGERR n, 4, 4⟩
def CE_CFGERR_PORT (n : Nat) : Fld := ⟨CE_CFGERR n, 8, 8⟩
def CE_SWAPSTAT (n : Nat) : Nat := 0x40100508 + 0x10000 * n
def CE_SWAPSTAT_STATE (n : Nat) : Fld := ⟨CE_SWAPSTAT n, 0, 3⟩
def CE_SWAPSTAT_SLOT (n : Nat) : Fld := ⟨CE_SWAPSTAT n, 4, 4⟩
def CE_SWAPSTAT_CODE (n : Nat) : Fld := ⟨CE_SWAPSTAT n, 8, 4⟩
def CE_TCTRL (n : Nat) : Nat := 0x40100600 + 0x10000 * n
def CE_TCTRL_EN (n : Nat) : Fld := ⟨CE_TCTRL n, 0, 1⟩
def CE_TCTRL_MODE (n : Nat) : Fld := ⟨CE_TCTRL n, 1, 1⟩
def CE_TCTRL_KEEP_VOID (n : Nat) : Fld := ⟨CE_TCTRL n, 2, 1⟩
def CE_TCTRL_FULL (n : Nat) : Fld := ⟨CE_TCTRL n, 3, 1⟩
def CE_TCTRL_WR (n : Nat) : Fld := ⟨CE_TCTRL n, 16, 12⟩
def CE_TPROBE (n k : Nat) : Nat := 0x40100610 + 0x10000 * n + 0x4 * k
def CE_TPROBE_EN (n k : Nat) : Fld := ⟨CE_TPROBE n k, 0, 1⟩
def CE_TPROBE_SLOT (n k : Nat) : Fld := ⟨CE_TPROBE n k, 1, 4⟩
def CE_TPROBE_KIND (n k : Nat) : Fld := ⟨CE_TPROBE n k, 5, 3⟩
def CE_TPROBE_SEL (n k : Nat) : Fld := ⟨CE_TPROBE n k, 8, 8⟩
def CE_TPROBE_TAP (n k : Nat) : Fld := ⟨CE_TPROBE n k, 16, 11⟩
def CE_TSTART_LO (n : Nat) : Nat := 0x40100620 + 0x10000 * n
def CE_TSTART_LO_TIME (n : Nat) : Fld := ⟨CE_TSTART_LO n, 0, 32⟩
def CE_TSTART_HI (n : Nat) : Nat := 0x40100624 + 0x10000 * n
def CE_TSTART_HI_TIME (n : Nat) : Fld := ⟨CE_TSTART_HI n, 0, 32⟩
def CE_TOL (n s j : Nat) : Nat := 0x40100800 + 0x10000 * n + 0x80 * s + 0x4 * j
def CE_TOL_TOL_LO (n s j : Nat) : Fld := ⟨CE_TOL n s j, 0, 16⟩
def CE_TOL_TOL_HI (n s j : Nat) : Fld := ⟨CE_TOL n s j, 16, 16⟩
def CE_INRT (n p : Nat) : Nat := 0x40101000 + 0x10000 * n + 0x4 * p
def CE_INRT_CLASS (n p : Nat) : Fld := ⟨CE_INRT n p, 0, 4⟩
def CE_INRT_INDEX (n p : Nat) : Fld := ⟨CE_INRT n p, 8, 13⟩
def CE_OUTRT (n p : Nat) : Nat := 0x40101400 + 0x10000 * n + 0x4 * p
def CE_OUTRT_CLASS (n p : Nat) : Fld := ⟨CE_OUTRT n p, 0, 4⟩
def CE_OUTRT_BLOCK (n p : Nat) : Fld := ⟨CE_OUTRT n p, 4, 1⟩
def CE_OUTRT_WORD (n p : Nat) : Fld := ⟨CE_OUTRT n p, 5, 14⟩
def CE_OUTRT_LSB (n p : Nat) : Fld := ⟨CE_OUTRT n p, 19, 5⟩
def CE_OUTRT_WIDTH_M1 (n p : Nat) : Fld := ⟨CE_OUTRT n p, 24, 4⟩
def CE_OUTRT_SIGNED (n p : Nat) : Fld := ⟨CE_OUTRT n p, 28, 1⟩

/-- Rows of 08_control_engine_operation.md: CE_SCFG, CE_SWIN, CE_STRIG, CE_SPER, CE_SKEEP, CE_SSTAT, CE_SCNT, CE_SCTL, CE_SAFE, CE_SPECCNT, CE_CFGERR, CE_SWAPSTAT. -/
def regs08_0 : List RegRow := [
  ⟨0x40100100, [(0x10000, 32), (0x20, 16)], true,
    [⟨0, 1, .rw, 0, .same, false, 0⟩, ⟨1, 2, .rw, 0, .same, false, 0⟩, ⟨3, 1, .rw, 0, .same, false, 0⟩, ⟨4, 1, .rw, 0, .same, false, 0⟩, ⟨5, 1, .rw, 0, .same, false, 0⟩, ⟨6, 2, .rw, 0, .same, false, 0⟩, ⟨8, 4, .rw, 3, .same, false, 0⟩, ⟨12, 4, .rsvd, 0, .same, false, 0⟩, ⟨16, 16, .rw, 0, .same, false, 0⟩]⟩,
  ⟨0x40100104, [(0x10000, 32), (0x20, 16)], true,
    [⟨0, 8, .rw, 0, .same, false, 0⟩, ⟨8, 7, .rw, 0, .same, false, 0⟩, ⟨15, 1, .rsvd, 0, .same, false, 0⟩, ⟨16, 8, .rw, 0, .same, false, 0⟩, ⟨24, 5, .rw, 0, .same, false, 0⟩, ⟨29, 3, .rsvd, 0, .same, false, 0⟩]⟩,
  ⟨0x40100108, [(0x10000, 32), (0x20, 16)], true,
    [⟨0, 12, .rw, 4095, .same, false, 0⟩, ⟨12, 4, .rsvd, 0, .same, false, 0⟩, ⟨16, 16, .rw, 0, .same, false, 0⟩]⟩,
  ⟨0x4010010C, [(0x10000, 32), (0x20, 16)], true,
    [⟨0, 28, .rw, 0, .same, false, 0⟩, ⟨28, 4, .rsvd, 0, .same, false, 0⟩]⟩,
  ⟨0x40100110, [(0x10000, 32), (0x20, 16)], true,
    [⟨0, 16, .rw, 0, .same, false, 0⟩, ⟨16, 16, .rsvd, 0, .same, false, 0⟩]⟩,
  ⟨0x40100114, [(0x10000, 32), (0x20, 16)], false,
    [⟨0, 3, .ro, 0, .same, false, 0⟩, ⟨3, 1, .ro, 0, .same, false, 0⟩, ⟨4, 1, .ro, 0, .same, false, 0⟩, ⟨5, 3, .ro, 0, .same, false, 0⟩, ⟨8, 6, .ro, 0, .same, false, 0⟩, ⟨14, 2, .rsvd, 0, .same, false, 0⟩, ⟨16, 4, .ro, 0, .same, false, 0⟩, ⟨20, 4, .rsvd, 0, .same, false, 0⟩, ⟨24, 8, .ro, 0, .same, false, 0⟩]⟩,
  ⟨0x40100118, [(0x10000, 32), (0x20, 16)], false,
    [⟨0, 16, .rc, 0, .same, false, 0⟩, ⟨16, 16, .rc, 0, .same, false, 0⟩]⟩,
  ⟨0x4010011C, [(0x10000, 32), (0x20, 16)], true,
    [⟨0, 1, .wo, 0, .same, false, 0⟩, ⟨1, 1, .wo, 0, .same, false, 0⟩, ⟨2, 30, .rsvd, 0, .same, false, 0⟩]⟩,
  ⟨0x40100300, [(0x10000, 32), (0x20, 16), (0x4, 8)], true,
    [⟨0, 16, .rw, 0, .same, false, 0⟩, ⟨16, 16, .rw, 0, .same, false, 0⟩]⟩,
  ⟨0x40100500, [(0x10000, 32)], false,
    [⟨0, 16, .rc, 0, .same, false, 0⟩, ⟨16, 16, .rc, 0, .same, false, 0⟩]⟩,
  ⟨0x40100504, [(0x10000, 32)], false,
    [⟨0, 4, .ro, 0, .same, false, 0⟩, ⟨4, 4, .ro, 0, .same, false, 0⟩, ⟨8, 8, .ro, 0, .same, false, 0⟩, ⟨16, 16, .rsvd, 0, .same, false, 0⟩]⟩,
  ⟨0x40100508, [(0x10000, 32)], false,
    [⟨0, 3, .ro, 0, .same, false, 0⟩, ⟨3, 1, .rsvd, 0, .same, false, 0⟩, ⟨4, 4, .ro, 0, .same, false, 0⟩, ⟨8, 4, .ro, 0, .same, false, 0⟩, ⟨12, 20, .rsvd, 0, .same, false, 0⟩]⟩]


/-- Rows of 08_control_engine_operation.md: CE_TCTRL, CE_TPROBE, CE_TSTART_LO, CE_TSTART_HI, CE_TOL, CE_INRT, CE_OUTRT. -/
def regs08_1 : List RegRow := [
  ⟨0x40100600, [(0x10000, 32)], true,
    [⟨0, 1, .rw, 0, .same, false, 0⟩, ⟨1, 1, .rw, 0, .same, false, 0⟩, ⟨2, 1, .rw, 0, .same, false, 0⟩, ⟨3, 1, .ro, 0, .same, false, 0⟩, ⟨4, 12, .rsvd, 0, .same, false, 0⟩, ⟨16, 12, .ro, 0, .same, false, 0⟩, ⟨28, 4, .rsvd, 0, .same, false, 0⟩]⟩,
  ⟨0x40100610, [(0x10000, 32), (0x4, 4)], true,
    [⟨0, 1, .rw, 0, .same, false, 0⟩, ⟨1, 4, .rw, 0, .same, false, 0⟩, ⟨5, 3, .rw, 0, .same, false, 0⟩, ⟨8, 8, .rw, 0, .same, false, 0⟩, ⟨16, 11, .rw, 0, .same, false, 0⟩, ⟨27, 5, .rsvd, 0, .same, false, 0⟩]⟩,
  ⟨0x40100620, [(0x10000, 32)], false,
    [⟨0, 32, .ro, 0, .same, false, 0⟩]⟩,
  ⟨0x40100624, [(0x10000, 32)], false,
    [⟨0, 32, .ro, 0, .same, false, 0⟩]⟩,
  ⟨0x40100800, [(0x10000, 32), (0x80, 16), (0x4, 32)], true,
    [⟨0, 16, .rw, 0, .same, false, 0⟩, ⟨16, 16, .rw, 0, .same, false, 0⟩]⟩,
  ⟨0x40101000, [(0x10000, 32), (0x4, 256)], true,
    [⟨0, 4, .rw, 0, .same, false, 0⟩, ⟨4, 4, .rsvd, 0, .same, false, 0⟩, ⟨8, 13, .rw, 0, .same, false, 0⟩, ⟨21, 11, .rsvd, 0, .same, false, 0⟩]⟩,
  ⟨0x40101400, [(0x10000, 32), (0x4, 256)], true,
    [⟨0, 4, .rw, 0, .same, false, 0⟩, ⟨4, 1, .rw, 0, .same, false, 0⟩, ⟨5, 14, .rw, 0, .same, false, 0⟩, ⟨19, 5, .rw, 0, .same, false, 0⟩, ⟨24, 4, .rw, 0, .same, false, 0⟩, ⟨28, 1, .rw, 0, .same, false, 0⟩, ⟨29, 3, .rsvd, 0, .same, false, 0⟩]⟩]

/-- Every register of 08_control_engine_operation.md. -/
def regs08 : List RegRow := regs08_0 ++ regs08_1

/-! ### Registers of 10_motor_and_fan_drive.md -/

def MDU_MCFG (m : Nat) : Nat := 0x40310000 + 0x100 * m
def MDU_MCFG_PER (m : Nat) : Fld := ⟨MDU_MCFG m, 0, 14⟩
def MDU_MCFG_DT (m : Nat) : Fld := ⟨MDU_MCFG m, 14, 8⟩
def MDU_MCFG_FLT_FILT (m : Nat) : Fld := ⟨MDU_MCFG m, 22, 6⟩
def MDU_MCFG_FLT_POL (m : Nat) : Fld := ⟨MDU_MCFG m, 28, 1⟩
def MDU_MCFG_TMR_EN (m : Nat) : Fld := ⟨MDU_MCFG m, 29, 1⟩
def MDU_MTRIG (m : Nat) : Nat := 0x40310004 + 0x100 * m
def MDU_MTRIG_TRIG_OFS (m : Nat) : Fld := ⟨MDU_MTRIG m, 0, 16⟩
def MDU_MTRIG_WDOG (m : Nat) : Fld := ⟨MDU_MTRIG m, 16, 8⟩
def MDU_MTRIG_LATCH (m : Nat) : Fld := ⟨MDU_MTRIG m, 24, 4⟩
def MDU_MDUTY (m x : Nat) : Nat := 0x40310010 + 0x100 * m + 0x4 * x
def MDU_MDUTY_DUTY (m x : Nat) : Fld := ⟨MDU_MDUTY m x, 0, 16⟩
def MDU_MSPD (m : Nat) : Nat := 0x4031001C + 0x100 * m
def MDU_MSPD_SPDEST (m : Nat) : Fld := ⟨MDU_MSPD m, 0, 16⟩
def MDU_MSPD_SPDCMD (m : Nat) : Fld := ⟨MDU_MSPD m, 16, 16⟩
def MDU_MCMD (m : Nat) : Nat := 0x40310020 + 0x100 * m
def MDU_MCMD_RUN (m : Nat) : Fld := ⟨MDU_MCMD m, 0, 1⟩
def MDU_MCMD_CLEAR (m : Nat) : Fld := ⟨MDU_MCMD m, 1, 1⟩
def MDU_MCMD_TARGET (m : Nat) : Fld := ⟨MDU_MCMD m, 16, 16⟩
def MDU_MRAMP (m : Nat) : Nat := 0x40310024 + 0x100 * m
def MDU_MRAMP_ACCEL (m : Nat) : Fld := ⟨MDU_MRAMP m, 0, 16⟩
def MDU_MRAMP_DECEL (m : Nat) : Fld := ⟨MDU_MRAMP m, 16, 16⟩
def MDU_MSTART (m : Nat) : Nat := 0x40310028 + 0x100 * m
def MDU_MSTART_WINDOW (m : Nat) : Fld := ⟨MDU_MSTART m, 0, 8⟩
def MDU_MSTART_PAUSE (m : Nat) : Fld := ⟨MDU_MSTART m, 8, 8⟩
def MDU_MSTART_RETRIES (m : Nat) : Fld := ⟨MDU_MSTART m, 16, 4⟩
def MDU_MSTART_COAST (m : Nat) : Fld := ⟨MDU_MSTART m, 20, 8⟩
def MDU_MMIN (m : Nat) : Nat := 0x4031002C + 0x100 * m
def MDU_MMIN_MIN_SPEED (m : Nat) : Fld := ⟨MDU_MMIN m, 0, 16⟩
def MDU_MSTAT (m : Nat) : Nat := 0x40310030 + 0x100 * m
def MDU_MSTAT_STATE (m : Nat) : Fld := ⟨MDU_MSTAT m, 0, 3⟩
def MDU_MSTAT_CAUSE (m : Nat) : Fld := ⟨MDU_MSTAT m, 4, 3⟩
def MDU_MSTAT_ATTEMPT (m : Nat) : Fld := ⟨MDU_MSTAT m, 8, 4⟩
def MDU_MSTAT_MEN (m : Nat) : Fld := ⟨MDU_MSTAT m, 12, 1⟩
def MDU_MSTAT_MFLT (m : Nat) : Fld := ⟨MDU_MSTAT m, 13, 1⟩
def MDU_FCFG (f : Nat) : Nat := 0x40311000 + 0x80 * f
def MDU_FCFG_MODE (f : Nat) : Fld := ⟨MDU_FCFG f, 0, 1⟩
def MDU_FCFG_POL (f : Nat) : Fld := ⟨MDU_FCFG f, 1, 1⟩
def MDU_FCFG_PPR_M1 (f : Nat) : Fld := ⟨MDU_FCFG f, 2, 2⟩
def MDU_FCFG_LATCH (f : Nat) : Fld := ⟨MDU_FCFG f, 4, 4⟩
def MDU_FCFG_KICK (f : Nat) : Fld := ⟨MDU_FCFG f, 8, 8⟩
def MDU_FCFG_RESTARTS (f : Nat) : Fld := ⟨MDU_FCFG f, 16, 4⟩
def MDU_FCFG_PAUSE (f : Nat) : Fld := ⟨MDU_FCFG f, 20, 8⟩
def MDU_FCFG_CLEAR (f : Nat) : Fld := ⟨MDU_FCFG f, 28, 1⟩
def MDU_FTGT (f : Nat) : Nat := 0x40311004 + 0x80 * f
def MDU_FTGT_TARGET (f : Nat) : Fld := ⟨MDU_FTGT f, 0, 16⟩
def MDU_FCURVE (f k : Nat) : Nat := 0x40311008 + 0x80 * f + 0x4 * k
def MDU_FCURVE_SPEED (f k : Nat) : Fld := ⟨MDU_FCURVE f k, 0, 16⟩
def MDU_FCURVE_DUTY (f k : Nat) : Fld := ⟨MDU_FCURVE f k, 16, 16⟩
def MDU_FTRIM (f : Nat) : Nat := 0x40311028 + 0x80 * f
def MDU_FTRIM_GAIN (f : Nat) : Fld := ⟨MDU_FTRIM f, 0, 16⟩
def MDU_FTRIM_LIMIT (f : Nat) : Fld := ⟨MDU_FTRIM f, 16, 16⟩
def MDU_FIS (f : Nat) : Nat := 0x4031102C + 0x80 * f
def MDU_FIS_ISRC (f : Nat) : Fld := ⟨MDU_FIS f, 0, 8⟩
def MDU_FIS_BAND_TOL (f : Nat) : Fld := ⟨MDU_FIS f, 8, 8⟩
def MDU_FIS_SPEED_FS (f : Nat) : Fld := ⟨MDU_FIS f, 16, 16⟩
def MDU_FSTAT (f : Nat) : Nat := 0x40311030 + 0x80 * f
def MDU_FSTAT_STATE (f : Nat) : Fld := ⟨MDU_FSTAT f, 0, 3⟩
def MDU_FSTAT_ATTEMPT (f : Nat) : Fld := ⟨MDU_FSTAT f, 4, 4⟩
def MDU_FSTAT_DUTY (f : Nat) : Fld := ⟨MDU_FSTAT f, 16, 16⟩
def MDU_FTACH (f : Nat) : Nat := 0x40311034 + 0x80 * f
def MDU_FTACH_RPM (f : Nat) : Fld := ⟨MDU_FTACH f, 0, 16⟩
def MDU_FTACH_VALID (f : Nat) : Fld := ⟨MDU_FTACH f, 16, 1⟩
def MDU_FTACH_UPDATES (f : Nat) : Fld := ⟨MDU_FTACH f, 24, 8⟩
def MDU_FBAND (f b : Nat) : Nat := 0x40311040 + 0x80 * f + 0x4 * b
def MDU_FBAND_MEAN (f b : Nat) : Fld := ⟨MDU_FBAND f b, 0, 16⟩
def MDU_FBAND_LEARNED (f b : Nat) : Fld := ⟨MDU_FBAND f b, 16, 1⟩
def MDU_CTRL : Nat := 0x40312000
def MDU_CTRL_LOCK : Fld := ⟨MDU_CTRL, 31, 1⟩

/-- Rows of 10_motor_and_fan_drive.md: MDU_MCFG, MDU_MTRIG, MDU_MDUTY, MDU_MSPD, MDU_MCMD, MDU_MRAMP, MDU_MSTART, MDU_MMIN, MDU_MSTAT, MDU_FCFG, MDU_FTGT, MDU_FCURVE. -/
def regs10_0 : List RegRow := [
  ⟨0x40310000, [(0x100, 8)], true,
    [⟨0, 14, .rwl, 6250, .same, false, 0⟩, ⟨14, 8, .rwl, 40, .same, false, 0⟩, ⟨22, 6, .rwl, 4, .same, false, 0⟩, ⟨28, 1, .rwl, 0, .same, false, 0⟩, ⟨29, 1, .rw, 0, .same, false, 0⟩, ⟨30, 2, .rsvd, 0, .same, false, 0⟩]⟩,
  ⟨0x40310004, [(0x100, 8)], true,
    [⟨0, 16, .rwl, 0, .same, false, 0⟩, ⟨16, 8, .rwl, 4, .same, false, 0⟩, ⟨24, 4, .rw, 15, .same, false, 0⟩, ⟨28, 4, .rsvd, 0, .same, false, 0⟩]⟩,
  ⟨0x40310010, [(0x100, 8), (0x4, 3)], false,
    [⟨0, 16, .rw, 0, .same, false, 0⟩, ⟨16, 16, .rsvd, 0, .same, false, 0⟩]⟩,
  ⟨0x4031001C, [(0x100, 8)], false,
    [⟨0, 16, .rw, 32768, .same, false, 0⟩, ⟨16, 16, .ro, 0, .same, false, 0⟩]⟩,
  ⟨0x40310020, [(0x100, 8)], true,
    [⟨0, 1, .rw, 0, .same, false, 0⟩, ⟨1, 1, .wo, 0, .same, false, 0⟩, ⟨2, 14, .rsvd, 0, .same, false, 0⟩, ⟨16, 16, .rw, 0, .same, false, 0⟩]⟩,
  ⟨0x40310024, [(0x100, 8)], true,
    [⟨0, 16, .rw, 3277, .same, false, 0⟩, ⟨16, 16, .rw, 3277, .same, false, 0⟩]⟩,
  ⟨0x40310028, [(0x100, 8)], true,
    [⟨0, 8, .rw, 40, .same, false, 0⟩, ⟨8, 8, .rw, 50, .same, false, 0⟩, ⟨16, 4, .rw, 3, .same, false, 0⟩, ⟨20, 8, .rw, 30, .same, false, 0⟩, ⟨28, 4, .rsvd, 0, .same, false, 0⟩]⟩,
  ⟨0x4031002C, [(0x100, 8)], true,
    [⟨0, 16, .rw, 3277, .same, false, 0⟩, ⟨16, 16, .rsvd, 0, .same, false, 0⟩]⟩,
  ⟨0x40310030, [(0x100, 8)], false,
    [⟨0, 3, .ro, 0, .same, false, 0⟩, ⟨3, 1, .rsvd, 0, .same, false, 0⟩, ⟨4, 3, .ro, 0, .same, false, 0⟩, ⟨7, 1, .rsvd, 0, .same, false, 0⟩, ⟨8, 4, .ro, 0, .same, false, 0⟩, ⟨12, 1, .ro, 0, .same, false, 0⟩, ⟨13, 1, .ro, 0, .same, false, 0⟩, ⟨14, 18, .rsvd, 0, .same, false, 0⟩]⟩,
  ⟨0x40311000, [(0x80, 16)], true,
    [⟨0, 1, .rw, 0, .same, false, 0⟩, ⟨1, 1, .rw, 0, .same, false, 0⟩, ⟨2, 2, .rw, 1, .same, false, 0⟩, ⟨4, 4, .rw, 15, .same, false, 0⟩, ⟨8, 8, .rw, 10, .same, false, 0⟩, ⟨16, 4, .rw, 3, .same, false, 0⟩, ⟨20, 8, .rw, 50, .same, false, 0⟩, ⟨28, 1, .wo, 0, .same, false, 0⟩, ⟨29, 3, .rsvd, 0, .same, false, 0⟩]⟩,
  ⟨0x40311004, [(0x80, 16)], false,
    [⟨0, 16, .rw, 0, .same, false, 0⟩, ⟨16, 16, .rsvd, 0, .same, false, 0⟩]⟩,
  ⟨0x40311008, [(0x80, 16), (0x4, 8)], true,
    [⟨0, 16, .rw, 0, .step 1 4096, false, 0⟩, ⟨16, 16, .rw, 0, .step 1 4096, false, 0⟩]⟩]


/-- Rows of 10_motor_and_fan_drive.md: MDU_FTRIM, MDU_FIS, MDU_FSTAT, MDU_FTACH, MDU_FBAND, MDU_CTRL. -/
def regs10_1 : List RegRow := [
  ⟨0x40311028, [(0x80, 16)], true,
    [⟨0, 16, .rw, 4096, .same, false, 0⟩, ⟨16, 16, .rw, 3277, .same, false, 0⟩]⟩,
  ⟨0x4031102C, [(0x80, 16)], true,
    [⟨0, 8, .rw, 255, .same, false, 0⟩, ⟨8, 8, .rw, 25, .same, false, 0⟩, ⟨16, 16, .rw, 3000, .same, false, 0⟩]⟩,
  ⟨0x40311030, [(0x80, 16)], false,
    [⟨0, 3, .ro, 0, .same, false, 0⟩, ⟨3, 1, .rsvd, 0, .same, false, 0⟩, ⟨4, 4, .ro, 0, .same, false, 0⟩, ⟨8, 8, .rsvd, 0, .same, false, 0⟩, ⟨16, 16, .ro, 0, .same, false, 0⟩]⟩,
  ⟨0x40311034, [(0x80, 16)], false,
    [⟨0, 16, .ro, 0, .same, false, 0⟩, ⟨16, 1, .ro, 0, .same, false, 0⟩, ⟨17, 7, .rsvd, 0, .same, false, 0⟩, ⟨24, 8, .ro, 0, .same, false, 0⟩]⟩,
  ⟨0x40311040, [(0x80, 16), (0x4, 8)], true,
    [⟨0, 16, .rw, 0, .same, false, 0⟩, ⟨16, 1, .rw, 0, .same, false, 0⟩, ⟨17, 15, .rsvd, 0, .same, false, 0⟩]⟩,
  ⟨0x40312000, [], true,
    [⟨0, 31, .rsvd, 0, .same, false, 0⟩, ⟨31, 1, .w1s, 0, .same, false, 0⟩]⟩]

/-- Every register of 10_motor_and_fan_drive.md. -/
def regs10 : List RegRow := regs10_0 ++ regs10_1

/-! ### Registers of 11_actuators_and_io.md -/

def AIO_ACTOUT : Nat := 0x40320000
def AIO_ACTOUT_LEVEL : Fld := ⟨AIO_ACTOUT, 0, 32⟩
def AIO_ACTSTAT : Nat := 0x40320004
def AIO_ACTSTAT_ON : Fld := ⟨AIO_ACTSTAT, 0, 32⟩
def AIO_ACTOC : Nat := 0x40320008
def AIO_ACTOC_OC : Fld := ⟨AIO_ACTOC, 0, 32⟩
def AIO_LATCH : Nat := 0x4032000C
def AIO_LATCH_APPLY : Fld := ⟨AIO_LATCH, 0, 15⟩
def AIO_GPIOIN_LO : Nat := 0x40320010
def AIO_GPIOIN_LO_ACTIVE : Fld := ⟨AIO_GPIOIN_LO, 0, 32⟩
def AIO_GPIOIN_HI : Nat := 0x40320014
def AIO_GPIOIN_HI_ACTIVE : Fld := ⟨AIO_GPIOIN_HI, 0, 32⟩
def AIO_GPIOOUT_LO : Nat := 0x40320018
def AIO_GPIOOUT_LO_OUT : Fld := ⟨AIO_GPIOOUT_LO, 0, 32⟩
def AIO_GPIOOUT_HI : Nat := 0x4032001C
def AIO_GPIOOUT_HI_OUT : Fld := ⟨AIO_GPIOOUT_HI, 0, 32⟩
def AIO_GCAPT_LO : Nat := 0x40320020
def AIO_GCAPT_LO_TIME : Fld := ⟨AIO_GCAPT_LO, 0, 32⟩
def AIO_GCAPT_HI : Nat := 0x40320024
def AIO_GCAPT_HI_TIME : Fld := ⟨AIO_GCAPT_HI, 0, 32⟩
def AIO_ACTCFG (n : Nat) : Nat := 0x40320100 + 0x4 * n
def AIO_ACTCFG_MODE (n : Nat) : Fld := ⟨AIO_ACTCFG n, 0, 2⟩
def AIO_ACTCFG_LATCH (n : Nat) : Fld := ⟨AIO_ACTCFG n, 4, 4⟩
def AIO_ACTCFG_PULSE (n : Nat) : Fld := ⟨AIO_ACTCFG n, 8, 8⟩
def AIO_PAIR (p : Nat) : Nat := 0x40320200 + 0x4 * p
def AIO_PAIR_DRV (p : Nat) : Fld := ⟨AIO_PAIR p, 0, 2⟩
def AIO_PAIR_STATE (p : Nat) : Fld := ⟨AIO_PAIR p, 4, 2⟩
def AIO_PAIRCFG (p : Nat) : Nat := 0x40320240 + 0x4 * p
def AIO_PAIRCFG_EN (p : Nat) : Fld := ⟨AIO_PAIRCFG p, 0, 1⟩
def AIO_PAIRCFG_LATCH (p : Nat) : Fld := ⟨AIO_PAIRCFG p, 4, 4⟩
def AIO_PAIRCFG_GAP (p : Nat) : Fld := ⟨AIO_PAIRCFG p, 8, 8⟩
def AIO_DAC (n : Nat) : Nat := 0x40320300 + 0x4 * n
def AIO_DAC_CODE (n : Nat) : Fld := ⟨AIO_DAC n, 0, 16⟩
def AIO_DAC_LATCH (n : Nat) : Fld := ⟨AIO_DAC n, 16, 4⟩
def AIO_GPIOCFG (n : Nat) : Nat := 0x40320400 + 0x4 * n
def AIO_GPIOCFG_DIR (n : Nat) : Fld := ⟨AIO_GPIOCFG n, 0, 1⟩
def AIO_GPIOCFG_POL (n : Nat) : Fld := ⟨AIO_GPIOCFG n, 1, 1⟩
def AIO_GPIOCFG_EDGE (n : Nat) : Fld := ⟨AIO_GPIOCFG n, 2, 2⟩
def AIO_GPIOCFG_WAKE (n : Nat) : Fld := ⟨AIO_GPIOCFG n, 4, 1⟩
def AIO_GPIOCFG_FILT (n : Nat) : Fld := ⟨AIO_GPIOCFG n, 8, 8⟩
def AIO_GPIOCFG_LATCH (n : Nat) : Fld := ⟨AIO_GPIOCFG n, 16, 4⟩
def AIO_GCAP (n : Nat) : Nat := 0x40320500 + 0x4 * n
def AIO_GCAP_COUNT (n : Nat) : Fld := ⟨AIO_GCAP n, 0, 16⟩
def AIO_I2CCFG (c : Nat) : Nat := 0x40320800 + 0x100 * c
def AIO_I2CCFG_EN (c : Nat) : Fld := ⟨AIO_I2CCFG c, 0, 1⟩
def AIO_I2CCFG_SPEED (c : Nat) : Fld := ⟨AIO_I2CCFG c, 1, 1⟩
def AIO_I2CCFG_FAIL_N (c : Nat) : Fld := ⟨AIO_I2CCFG c, 4, 4⟩
def AIO_I2CCFG_PERIOD (c : Nat) : Fld := ⟨AIO_I2CCFG c, 16, 16⟩
def AIO_I2CSTAT (c : Nat) : Nat := 0x40320804 + 0x100 * c
def AIO_I2CSTAT_STATE (c : Nat) : Fld := ⟨AIO_I2CSTAT c, 0, 2⟩
def AIO_I2CSTAT_STUCK (c : Nat) : Fld := ⟨AIO_I2CSTAT c, 2, 1⟩
def AIO_I2CSTAT_ENTRY (c : Nat) : Fld := ⟨AIO_I2CSTAT c, 4, 4⟩
def AIO_I2CSTAT_CFGERR (c : Nat) : Fld := ⟨AIO_I2CSTAT c, 8, 4⟩
def AIO_I2CSTAT_BADENTRY (c : Nat) : Fld := ⟨AIO_I2CSTAT c, 12, 4⟩
def AIO_I2CSTAT_ERRORS (c : Nat) : Fld := ⟨AIO_I2CSTAT c, 16, 8⟩
def AIO_I2CSTAT_SKIPPED (c : Nat) : Fld := ⟨AIO_I2CSTAT c, 24, 8⟩
def AIO_I2CP (c p w : Nat) : Nat := 0x40320840 + 0x100 * c + 0x10 * p + 0x4 * w
def AIO_I2CP_WORD (c p w : Nat) : Fld := ⟨AIO_I2CP c p w, 0, 32⟩
def AIO_I2CRD (r : Nat) : Nat := 0x40321000 + 0x4 * r
def AIO_I2CRD_VALUE (r : Nat) : Fld := ⟨AIO_I2CRD r, 0, 16⟩
def AIO_I2CRD_VALID (r : Nat) : Fld := ⟨AIO_I2CRD r, 16, 1⟩
def AIO_I2CRD_ROUND (r : Nat) : Fld := ⟨AIO_I2CRD r, 24, 8⟩
def AIO_CTRL : Nat := 0x40322000
def AIO_CTRL_LOCK : Fld := ⟨AIO_CTRL, 31, 1⟩

/-- Rows of 11_actuators_and_io.md: AIO_ACTOUT, AIO_ACTSTAT, AIO_ACTOC, AIO_LATCH, AIO_GPIOIN_LO, AIO_GPIOIN_HI, AIO_GPIOOUT_LO, AIO_GPIOOUT_HI, AIO_GCAPT_LO, AIO_GCAPT_HI, AIO_ACTCFG, AIO_PAIR. -/
def regs11_0 : List RegRow := [
  ⟨0x40320000, [], false,
    [⟨0, 32, .rw, 0, .same, false, 0⟩]⟩,
  ⟨0x40320004, [], false,
    [⟨0, 32, .ro, 0, .same, false, 0⟩]⟩,
  ⟨0x40320008, [], false,
    [⟨0, 32, .w1c, 0, .same, false, 0⟩]⟩,
  ⟨0x4032000C, [], true,
    [⟨0, 15, .wo, 0, .same, false, 0⟩, ⟨15, 17, .rsvd, 0, .same, false, 0⟩]⟩,
  ⟨0x40320010, [], false,
    [⟨0, 32, .ro, 0, .same, false, 0⟩]⟩,
  ⟨0x40320014, [], false,
    [⟨0, 32, .ro, 0, .same, false, 0⟩]⟩,
  ⟨0x40320018, [], false,
    [⟨0, 32, .rw, 0, .same, false, 0⟩]⟩,
  ⟨0x4032001C, [], false,
    [⟨0, 32, .rw, 0, .same, false, 0⟩]⟩,
  ⟨0x40320020, [], false,
    [⟨0, 32, .ro, 0, .same, false, 0⟩]⟩,
  ⟨0x40320024, [], false,
    [⟨0, 32, .ro, 0, .same, false, 0⟩]⟩,
  ⟨0x40320100, [(0x4, 32)], true,
    [⟨0, 2, .rwl, 0, .same, false, 0⟩, ⟨2, 2, .rsvd, 0, .same, false, 0⟩, ⟨4, 4, .rw, 15, .same, false, 0⟩, ⟨8, 8, .rw, 10, .same, false, 0⟩, ⟨16, 16, .rsvd, 0, .same, false, 0⟩]⟩,
  ⟨0x40320200, [(0x4, 16)], false,
    [⟨0, 2, .rw, 0, .same, false, 0⟩, ⟨2, 2, .rsvd, 0, .same, false, 0⟩, ⟨4, 2, .ro, 0, .same, false, 0⟩, ⟨6, 26, .rsvd, 0, .same, false, 0⟩]⟩]


/-- Rows of 11_actuators_and_io.md: AIO_PAIRCFG, AIO_DAC, AIO_GPIOCFG, AIO_GCAP, AIO_I2CCFG, AIO_I2CSTAT, AIO_I2CP, AIO_I2CRD, AIO_CTRL. -/
def regs11_1 : List RegRow := [
  ⟨0x40320240, [(0x4, 16)], true,
    [⟨0, 1, .rwl, 0, .same, false, 0⟩, ⟨1, 3, .rsvd, 0, .same, false, 0⟩, ⟨4, 4, .rw, 15, .same, false, 0⟩, ⟨8, 8, .rwl, 20, .same, false, 0⟩, ⟨16, 16, .rsvd, 0, .same, false, 0⟩]⟩,
  ⟨0x40320300, [(0x4, 24)], false,
    [⟨0, 16, .rw, 0, .same, false, 0⟩, ⟨16, 4, .rw, 15, .same, true, 0⟩, ⟨20, 12, .rsvd, 0, .same, false, 0⟩]⟩,
  ⟨0x40320400, [(0x4, 64)], true,
    [⟨0, 1, .rwl, 0, .same, false, 0⟩, ⟨1, 1, .rw, 0, .same, false, 0⟩, ⟨2, 2, .rw, 0, .same, false, 0⟩, ⟨4, 1, .rw, 0, .same, false, 0⟩, ⟨5, 3, .rsvd, 0, .same, false, 0⟩, ⟨8, 8, .rw, 0, .same, false, 0⟩, ⟨16, 4, .rw, 15, .same, false, 0⟩, ⟨20, 12, .rsvd, 0, .same, false, 0⟩]⟩,
  ⟨0x40320500, [(0x4, 64)], false,
    [⟨0, 16, .ro, 0, .same, false, 0⟩, ⟨16, 16, .rsvd, 0, .same, false, 0⟩]⟩,
  ⟨0x40320800, [(0x100, 8)], true,
    [⟨0, 1, .rw, 0, .same, false, 0⟩, ⟨1, 1, .rwl, 0, .same, false, 0⟩, ⟨2, 2, .rsvd, 0, .same, false, 0⟩, ⟨4, 4, .rw, 3, .same, false, 0⟩, ⟨8, 8, .rsvd, 0, .same, false, 0⟩, ⟨16, 16, .rw, 1000, .same, false, 0⟩]⟩,
  ⟨0x40320804, [(0x100, 8)], false,
    [⟨0, 2, .ro, 0, .same, false, 0⟩, ⟨2, 1, .ro, 0, .same, false, 0⟩, ⟨3, 1, .rsvd, 0, .same, false, 0⟩, ⟨4, 4, .ro, 0, .same, false, 0⟩, ⟨8, 4, .ro, 0, .same, false, 0⟩, ⟨12, 4, .ro, 0, .same, false, 0⟩, ⟨16, 8, .rc, 0, .same, false, 0⟩, ⟨24, 8, .rc, 0, .same, false, 0⟩]⟩,
  ⟨0x40320840, [(0x100, 8), (0x10, 16), (0x4, 4)], true,
    [⟨0, 32, .rw, 0, .same, false, 0⟩]⟩,
  ⟨0x40321000, [(0x4, 256)], false,
    [⟨0, 16, .ro, 0, .same, false, 0⟩, ⟨16, 1, .ro, 0, .same, false, 0⟩, ⟨17, 7, .rsvd, 0, .same, false, 0⟩, ⟨24, 8, .ro, 0, .same, false, 0⟩]⟩,
  ⟨0x40322000, [], true,
    [⟨0, 31, .rsvd, 0, .same, false, 0⟩, ⟨31, 1, .w1s, 0, .same, false, 0⟩]⟩]

/-- Every register of 11_actuators_and_io.md. -/
def regs11 : List RegRow := regs11_0 ++ regs11_1

/-! ### Registers of 12_can_fd.md -/

def CAN_CFG (n : Nat) : Nat := 0x40330000 + 0x1000 * n
def CAN_CFG_MODE (n : Nat) : Fld := ⟨CAN_CFG n, 0, 3⟩
def CAN_CFG_FD_EN (n : Nat) : Fld := ⟨CAN_CFG n, 3, 1⟩
def CAN_CFG_NOMATCH (n : Nat) : Fld := ⟨CAN_CFG n, 4, 2⟩
def CAN_CFG_CH_COPY (n : Nat) : Fld := ⟨CAN_CFG n, 6, 1⟩
def CAN_CFG_HEGUS_EN (n : Nat) : Fld := ⟨CAN_CFG n, 7, 1⟩
def CAN_CFG_AUTO_NEXT (n : Nat) : Fld := ⟨CAN_CFG n, 8, 2⟩
def CAN_NBT (n : Nat) : Nat := 0x40330004 + 0x1000 * n
def CAN_NBT_BRP_M1 (n : Nat) : Fld := ⟨CAN_NBT n, 0, 8⟩
def CAN_NBT_TSEG1_M1 (n : Nat) : Fld := ⟨CAN_NBT n, 8, 8⟩
def CAN_NBT_TSEG2_M1 (n : Nat) : Fld := ⟨CAN_NBT n, 16, 7⟩
def CAN_NBT_SJW_M1 (n : Nat) : Fld := ⟨CAN_NBT n, 23, 7⟩
def CAN_DBT (n : Nat) : Nat := 0x40330008 + 0x1000 * n
def CAN_DBT_BRP_M1 (n : Nat) : Fld := ⟨CAN_DBT n, 0, 5⟩
def CAN_DBT_TSEG1_M1 (n : Nat) : Fld := ⟨CAN_DBT n, 8, 5⟩
def CAN_DBT_TSEG2_M1 (n : Nat) : Fld := ⟨CAN_DBT n, 16, 4⟩
def CAN_DBT_SJW_M1 (n : Nat) : Fld := ⟨CAN_DBT n, 24, 4⟩
def CAN_TDC (n : Nat) : Nat := 0x4033000C + 0x1000 * n
def CAN_TDC_TDCO (n : Nat) : Fld := ⟨CAN_TDC n, 0, 7⟩
def CAN_TDC_TDC_EN (n : Nat) : Fld := ⟨CAN_TDC n, 7, 1⟩
def CAN_TDC_TDCV (n : Nat) : Fld := ⟨CAN_TDC n, 8, 7⟩
def CAN_BOCFG (n : Nat) : Nat := 0x40330010 + 0x1000 * n
def CAN_BOCFG_BO_DELAY (n : Nat) : Fld := ⟨CAN_BOCFG n, 0, 8⟩
def CAN_BOCFG_BO_LIMIT (n : Nat) : Fld := ⟨CAN_BOCFG n, 8, 4⟩
def CAN_BOCFG_CLEAR_BO (n : Nat) : Fld := ⟨CAN_BOCFG n, 12, 1⟩
def CAN_SEGCFG (n : Nat) : Nat := 0x40330014 + 0x1000 * n
def CAN_SEGCFG_CUT_TIME (n : Nat) : Fld := ⟨CAN_SEGCFG n, 0, 10⟩
def CAN_SEGCFG_BABBLE_LOAD (n : Nat) : Fld := ⟨CAN_SEGCFG n, 10, 7⟩
def CAN_SEGCFG_QUAR_LIMIT (n : Nat) : Fld := ⟨CAN_SEGCFG n, 17, 4⟩
def CAN_SEGCFG_INTRUDE_N (n : Nat) : Fld := ⟨CAN_SEGCFG n, 21, 4⟩
def CAN_SEGCFG_BEACON_PERIOD (n : Nat) : Fld := ⟨CAN_SEGCFG n, 25, 7⟩
def CAN_SEGCTL (n : Nat) : Nat := 0x40330018 + 0x1000 * n
def CAN_SEGCTL_HUSH_REQ (n : Nat) : Fld := ⟨CAN_SEGCTL n, 0, 1⟩
def CAN_SEGCTL_SEG_CLEAR (n : Nat) : Fld := ⟨CAN_SEGCTL n, 1, 1⟩
def CAN_SEGCTL_SEG_OFF (n : Nat) : Fld := ⟨CAN_SEGCTL n, 2, 1⟩
def CAN_SEGCTL_TARGET (n : Nat) : Fld := ⟨CAN_SEGCTL n, 8, 7⟩
def CAN_SEGCTL_DURATION (n : Nat) : Fld := ⟨CAN_SEGCTL n, 16, 16⟩
def CAN_STAT (n : Nat) : Nat := 0x40330040 + 0x1000 * n
def CAN_STAT_MODE (n : Nat) : Fld := ⟨CAN_STAT n, 0, 3⟩
def CAN_STAT_FAULT (n : Nat) : Fld := ⟨CAN_STAT n, 3, 2⟩
def CAN_STAT_SEG (n : Nat) : Fld := ⟨CAN_STAT n, 5, 3⟩
def CAN_STAT_TEC (n : Nat) : Fld := ⟨CAN_STAT n, 8, 8⟩
def CAN_STAT_REC (n : Nat) : Fld := ⟨CAN_STAT n, 16, 8⟩
def CAN_STAT_CFGERR (n : Nat) : Fld := ⟨CAN_STAT n, 24, 3⟩
def CAN_ERRCNT (n : Nat) : Nat := 0x40330044 + 0x1000 * n
def CAN_ERRCNT_BUSOFF (n : Nat) : Fld := ⟨CAN_ERRCNT n, 0, 8⟩
def CAN_ERRCNT_CUTS (n : Nat) : Fld := ⟨CAN_ERRCNT n, 8, 8⟩
def CAN_ERRCNT_INTRUSIONS (n : Nat) : Fld := ⟨CAN_ERRCNT n, 16, 16⟩
def CAN_ADR (n : Nat) : Nat := 0x40330048 + 0x1000 * n
def CAN_ADR_CAND (n : Nat) : Fld := ⟨CAN_ADR n, 0, 8⟩
def CAN_ADR_DWELL (n : Nat) : Fld := ⟨CAN_ADR n, 8, 4⟩
def CAN_ADR_FOUND (n : Nat) : Fld := ⟨CAN_ADR n, 12, 3⟩
def CAN_ADR_CYCLES (n : Nat) : Fld := ⟨CAN_ADR n, 16, 16⟩
def CAN_BUSLOAD (n : Nat) : Nat := 0x4033004C + 0x1000 * n
def CAN_BUSLOAD_LOAD (n : Nat) : Fld := ⟨CAN_BUSLOAD n, 0, 7⟩
def CAN_TXREQ (n : Nat) : Nat := 0x40330050 + 0x1000 * n
def CAN_TXREQ_REQ (n : Nat) : Fld := ⟨CAN_TXREQ n, 0, 32⟩
def CAN_TXCAN (n : Nat) : Nat := 0x40330054 + 0x1000 * n
def CAN_TXCAN_CAN (n : Nat) : Fld := ⟨CAN_TXCAN n, 0, 32⟩
def CAN_TXPEND (n : Nat) : Nat := 0x40330058 + 0x1000 * n
def CAN_TXPEND_PEND (n : Nat) : Fld := ⟨CAN_TXPEND n, 0, 32⟩
def CAN_RXSTAT (n q : Nat) : Nat := 0x40330080 + 0x1000 * n + 0x10 * q
def CAN_RXSTAT_LEVEL (n q : Nat) : Fld := ⟨CAN_RXSTAT n q, 0, 7⟩
def CAN_RXSTAT_LOCKED (n q : Nat) : Fld := ⟨CAN_RXSTAT n q, 7, 1⟩
def CAN_RXSTAT_OVF (n q : Nat) : Fld := ⟨CAN_RXSTAT n q, 8, 1⟩
def CAN_RXSTAT_LOST (n q : Nat) : Fld := ⟨CAN_RXSTAT n q, 16, 16⟩
def CAN_RXCTL (n q : Nat) : Nat := 0x40330084 + 0x1000 * n + 0x10 * q
def CAN_RXCTL_POLICY (n q : Nat) : Fld := ⟨CAN_RXCTL n q, 0, 1⟩
def CAN_RXCTL_UNLOCK (n q : Nat) : Fld := ⟨CAN_RXCTL n q, 1, 1⟩
def CAN_RXCTL_DROP (n q : Nat) : Fld := ⟨CAN_RXCTL n q, 2, 1⟩
def CAN_TXSTAT (n b : Nat) : Nat := 0x40330100 + 0x1000 * n + 0x4 * b
def CAN_TXSTAT_STATUS (n b : Nat) : Fld := ⟨CAN_TXSTAT n b, 0, 4⟩
def CAN_TXSTAT_CLASHES (n b : Nat) : Fld := ⟨CAN_TXSTAT n b, 4, 2⟩
def CAN_RXH (n q w : Nat) : Nat := 0x40330200 + 0x1000 * n + 0x80 * q + 0x4 * w
def CAN_RXH_WORD (n q w : Nat) : Fld := ⟨CAN_RXH n q w, 0, 32⟩
def CAN_FMATCH (n k : Nat) : Nat := 0x40330400 + 0x1000 * n + 0x8 * k
def CAN_FMATCH_MATCH (n k : Nat) : Fld := ⟨CAN_FMATCH n k, 0, 29⟩
def CAN_FMATCH_XTD (n k : Nat) : Fld := ⟨CAN_FMATCH n k, 29, 1⟩
def CAN_FMATCH_EN (n k : Nat) : Fld := ⟨CAN_FMATCH n k, 31, 1⟩
def CAN_FMASK (n k : Nat) : Nat := 0x40330404 + 0x1000 * n + 0x8 * k
def CAN_FMASK_MASK (n k : Nat) : Fld := ⟨CAN_FMASK n k, 0, 29⟩
def CAN_FMASK_DEST (n k : Nat) : Fld := ⟨CAN_FMASK n k, 29, 2⟩
def CAN_DUP (n : Nat) : Nat := 0x40330600 + 0x1000 * n
def CAN_DUP_ID (n : Nat) : Fld := ⟨CAN_DUP n, 0, 29⟩
def CAN_DUP_XTD (n : Nat) : Fld := ⟨CAN_DUP n, 29, 1⟩

/-- Rows of 12_can_fd.md: CAN_CFG, CAN_NBT, CAN_DBT, CAN_TDC, CAN_BOCFG, CAN_SEGCFG, CAN_SEGCTL, CAN_STAT, CAN_ERRCNT, CAN_ADR, CAN_BUSLOAD, CAN_TXREQ. -/
def regs12_0 : List RegRow := [
  ⟨0x40330000, [(0x1000, 8)], true,
    [⟨0, 3, .rw, 0, .same, false, 0⟩, ⟨3, 1, .rw, 0, .same, false, 0⟩, ⟨4, 2, .rw, 0, .same, false, 0⟩, ⟨6, 1, .rw, 0, .same, false, 0⟩, ⟨7, 1, .rw, 0, .same, false, 0⟩, ⟨8, 2, .rw, 1, .same, false, 0⟩, ⟨10, 22, .rsvd, 0, .same, false, 0⟩]⟩,
  ⟨0x40330004, [(0x1000, 8)], true,
    [⟨0, 8, .rw, 7, .same, false, 0⟩, ⟨8, 8, .rw, 14, .same, false, 0⟩, ⟨16, 7, .rw, 3, .same, false, 0⟩, ⟨23, 7, .rw, 3, .same, false, 0⟩, ⟨30, 2, .rsvd, 0, .same, false, 0⟩]⟩,
  ⟨0x40330008, [(0x1000, 8)], true,
    [⟨0, 5, .rw, 0, .same, false, 0⟩, ⟨5, 3, .rsvd, 0, .same, false, 0⟩, ⟨8, 5, .rw, 14, .same, false, 0⟩, ⟨13, 3, .rsvd, 0, .same, false, 0⟩, ⟨16, 4, .rw, 3, .same, false, 0⟩, ⟨20, 4, .rsvd, 0, .same, false, 0⟩, ⟨24, 4, .rw, 3, .same, false, 0⟩, ⟨28, 4, .rsvd, 0, .same, false, 0⟩]⟩,
  ⟨0x4033000C, [(0x1000, 8)], true,
    [⟨0, 7, .rw, 0, .same, false, 0⟩, ⟨7, 1, .rw, 0, .same, false, 0⟩, ⟨8, 7, .ro, 0, .same, false, 0⟩, ⟨15, 17, .rsvd, 0, .same, false, 0⟩]⟩,
  ⟨0x40330010, [(0x1000, 8)], true,
    [⟨0, 8, .rw, 10, .same, false, 0⟩, ⟨8, 4, .rw, 3, .same, false, 0⟩, ⟨12, 1, .wo, 0, .same, false, 0⟩, ⟨13, 19, .rsvd, 0, .same, false, 0⟩]⟩,
  ⟨0x40330014, [(0x1000, 8)], true,
    [⟨0, 10, .rw, 20, .same, false, 0⟩, ⟨10, 7, .rw, 90, .same, false, 0⟩, ⟨17, 4, .rw, 3, .same, false, 0⟩, ⟨21, 4, .rw, 8, .same, false, 0⟩, ⟨25, 7, .rw, 100, .same, false, 0⟩]⟩,
  ⟨0x40330018, [(0x1000, 8)], true,
    [⟨0, 1, .wo, 0, .same, false, 0⟩, ⟨1, 1, .wo, 0, .same, false, 0⟩, ⟨2, 1, .rw, 0, .same, false, 0⟩, ⟨3, 5, .rsvd, 0, .same, false, 0⟩, ⟨8, 7, .rw, 127, .same, false, 0⟩, ⟨15, 1, .rsvd, 0, .same, false, 0⟩, ⟨16, 16, .rw, 10, .same, false, 0⟩]⟩,
  ⟨0x40330040, [(0x1000, 8)], false,
    [⟨0, 3, .ro, 0, .same, false, 0⟩, ⟨3, 2, .ro, 0, .same, false, 0⟩, ⟨5, 3, .ro, 0, .same, false, 0⟩, ⟨8, 8, .ro, 0, .same, false, 0⟩, ⟨16, 8, .ro, 0, .same, false, 0⟩, ⟨24, 3, .ro, 0, .same, false, 0⟩, ⟨27, 5, .rsvd, 0, .same, false, 0⟩]⟩,
  ⟨0x40330044, [(0x1000, 8)], false,
    [⟨0, 8, .rc, 0, .same, false, 0⟩, ⟨8, 8, .rc, 0, .same, false, 0⟩, ⟨16, 16, .rc, 0, .same, false, 0⟩]⟩,
  ⟨0x40330048, [(0x1000, 8)], true,
    [⟨0, 8, .rw, 255, .same, false, 0⟩, ⟨8, 4, .rw, 10, .same, false, 0⟩, ⟨12, 3, .ro, 0, .same, false, 0⟩, ⟨15, 1, .rsvd, 0, .same, false, 0⟩, ⟨16, 16, .ro, 0, .same, false, 0⟩]⟩,
  ⟨0x4033004C, [(0x1000, 8)], false,
    [⟨0, 7, .ro, 0, .same, false, 0⟩, ⟨7, 25, .rsvd, 0, .same, false, 0⟩]⟩,
  ⟨0x40330050, [(0x1000, 8)], true,
    [⟨0, 32, .wo, 0, .same, false, 0⟩]⟩]


/-- Rows of 12_can_fd.md: CAN_TXCAN, CAN_TXPEND, CAN_RXSTAT, CAN_RXCTL, CAN_TXSTAT, CAN_RXH, CAN_FMATCH, CAN_FMASK, CAN_DUP. -/
def regs12_1 : List RegRow := [
  ⟨0x40330054, [(0x1000, 8)], true,
    [⟨0, 32, .wo, 0, .same, false, 0⟩]⟩,
  ⟨0x40330058, [(0x1000, 8)], false,
    [⟨0, 32, .ro, 0, .same, false, 0⟩]⟩,
  ⟨0x40330080, [(0x1000, 8), (0x10, 2)], false,
    [⟨0, 7, .ro, 0, .same, false, 0⟩, ⟨7, 1, .ro, 0, .same, false, 0⟩, ⟨8, 1, .w1c, 0, .same, false, 0⟩, ⟨9, 7, .rsvd, 0, .same, false, 0⟩, ⟨16, 16, .rc, 0, .same, false, 0⟩]⟩,
  ⟨0x40330084, [(0x1000, 8), (0x10, 2)], true,
    [⟨0, 1, .rw, 0, .same, false, 0⟩, ⟨1, 1, .wo, 0, .same, false, 0⟩, ⟨2, 1, .wo, 0, .same, false, 0⟩, ⟨3, 29, .rsvd, 0, .same, false, 0⟩]⟩,
  ⟨0x40330100, [(0x1000, 8), (0x4, 32)], false,
    [⟨0, 4, .ro, 0, .same, false, 0⟩, ⟨4, 2, .ro, 0, .same, false, 0⟩, ⟨6, 26, .rsvd, 0, .same, false, 0⟩]⟩,
  ⟨0x40330200, [(0x1000, 8), (0x80, 2), (0x4, 18)], true,
    [⟨0, 32, .ro, 0, .same, false, 0⟩]⟩,
  ⟨0x40330400, [(0x1000, 8), (0x8, 64)], true,
    [⟨0, 29, .rw, 0, .same, false, 0⟩, ⟨29, 1, .rw, 0, .same, false, 0⟩, ⟨30, 1, .rsvd, 0, .same, false, 0⟩, ⟨31, 1, .rw, 0, .same, false, 0⟩]⟩,
  ⟨0x40330404, [(0x1000, 8), (0x8, 64)], true,
    [⟨0, 29, .rw, 0, .same, false, 0⟩, ⟨29, 2, .rw, 0, .same, false, 0⟩, ⟨31, 1, .rsvd, 0, .same, false, 0⟩]⟩,
  ⟨0x40330600, [(0x1000, 8)], false,
    [⟨0, 29, .ro, 0, .same, false, 0⟩, ⟨29, 1, .ro, 0, .same, false, 0⟩, ⟨30, 2, .rsvd, 0, .same, false, 0⟩]⟩]

/-- Every register of 12_can_fd.md. -/
def regs12 : List RegRow := regs12_0 ++ regs12_1

/-! ### Registers of 13_field_network.md -/

def FNS_CFG : Nat := 0x40340000
def FNS_CFG_LEARN : Fld := ⟨FNS_CFG, 0, 1⟩
def FNS_CFG_LOOP_EN : Fld := ⟨FNS_CFG, 1, 1⟩
def FNS_CFG_AGE : Fld := ⟨FNS_CFG, 8, 8⟩
def FNS_CFG_LOOP_PERIOD : Fld := ⟨FNS_CFG, 16, 8⟩
def FNS_CFG_LOCK : Fld := ⟨FNS_CFG, 31, 1⟩
def FNS_PORTCFG (p : Nat) : Nat := 0x40340100 + 0x40 * p
def FNS_PORTCFG_EN (p : Nat) : Fld := ⟨FNS_PORTCFG p, 0, 1⟩
def FNS_PORTCFG_FLOOD_UC (p : Nat) : Fld := ⟨FNS_PORTCFG p, 1, 1⟩
def FNS_PORTCFG_ACCEPT (p : Nat) : Fld := ⟨FNS_PORTCFG p, 2, 2⟩
def FNS_PORTCFG_DEF_PCP (p : Nat) : Fld := ⟨FNS_PORTCFG p, 4, 3⟩
def FNS_PORTCFG_PVID (p : Nat) : Fld := ⟨FNS_PORTCFG p, 8, 12⟩
def FNS_PORTCFG_AMP (p : Nat) : Fld := ⟨FNS_PORTCFG p, 20, 1⟩
def FNS_PORTCFG_TERM (p : Nat) : Fld := ⟨FNS_PORTCFG p, 21, 1⟩
def FNS_PORTSTAT (p : Nat) : Nat := 0x40340104 + 0x40 * p
def FNS_PORTSTAT_LINK (p : Nat) : Fld := ⟨FNS_PORTSTAT p, 0, 2⟩
def FNS_PORTSTAT_AMP_ACT (p : Nat) : Fld := ⟨FNS_PORTSTAT p, 2, 1⟩
def FNS_PORTSTAT_LOOP_BLOCKED (p : Nat) : Fld := ⟨FNS_PORTSTAT p, 3, 1⟩
def FNS_PORTSTAT_SQI (p : Nat) : Fld := ⟨FNS_PORTSTAT p, 4, 3⟩
def FNS_PORTSTAT_PLCA (p : Nat) : Fld := ⟨FNS_PORTSTAT p, 8, 2⟩
def FNS_DIAG (p : Nat) : Nat := 0x40340108 + 0x40 * p
def FNS_DIAG_START (p : Nat) : Fld := ⟨FNS_DIAG p, 0, 1⟩
def FNS_DIAG_BUSY (p : Nat) : Fld := ⟨FNS_DIAG p, 1, 1⟩
def FNS_DIAG_RESULT (p : Nat) : Fld := ⟨FNS_DIAG p, 2, 2⟩
def FNS_DIAG_DIST (p : Nat) : Fld := ⟨FNS_DIAG p, 16, 12⟩
def FNS_DROP (p : Nat) : Nat := 0x4034010C + 0x40 * p
def FNS_DROP_POLICED (p : Nat) : Fld := ⟨FNS_DROP p, 0, 16⟩
def FNS_DROP_QFULL (p : Nat) : Fld := ⟨FNS_DROP p, 16, 16⟩
def FNS_POLICE (p c : Nat) : Nat := 0x40340400 + 0x40 * p + 0x4 * c
def FNS_POLICE_RATE (p c : Nat) : Fld := ⟨FNS_POLICE p c, 0, 8⟩
def FNS_POLICE_BURST (p c : Nat) : Fld := ⟨FNS_POLICE p c, 16, 8⟩
def FNS_BCAST (p : Nat) : Nat := 0x40340420 + 0x40 * p
def FNS_BCAST_BCAST (p : Nat) : Fld := ⟨FNS_BCAST p, 0, 16⟩
def FNS_VLAN (v : Nat) : Nat := 0x40340800 + 0x4 * v
def FNS_VLAN_VID (v : Nat) : Fld := ⟨FNS_VLAN v, 0, 12⟩
def FNS_VLAN_MEMBER (v : Nat) : Fld := ⟨FNS_VLAN v, 12, 7⟩
def FNS_VLAN_UNTAG (v : Nat) : Fld := ⟨FNS_VLAN v, 19, 7⟩
def FNS_VLAN_EN (v : Nat) : Fld := ⟨FNS_VLAN v, 31, 1⟩
def FNS_PLCA (t : Nat) : Nat := 0x40340900 + 0x4 * t
def FNS_PLCA_NODE_COUNT (t : Nat) : Fld := ⟨FNS_PLCA t, 0, 4⟩
def FNS_PLCA_TO_TIMER (t : Nat) : Fld := ⟨FNS_PLCA t, 8, 8⟩
def FNS_PLCA_BURST_CNT (t : Nat) : Fld := ⟨FNS_PLCA t, 16, 8⟩
def FNS_PLCA_BURST_TMR (t : Nat) : Fld := ⟨FNS_PLCA t, 24, 8⟩
def FNS_ADM (a w : Nat) : Nat := 0x40340A00 + 0x20 * a + 0x4 * w
def FNS_ADM_ADDR (a w : Nat) : Fld := ⟨FNS_ADM a w, 0, 32⟩
def FNS_ADM4 (a : Nat) : Nat := 0x40340A10 + 0x20 * a
def FNS_ADM4_PORT (a : Nat) : Fld := ⟨FNS_ADM4 a, 0, 16⟩
def FNS_ADM4_VALID (a : Nat) : Fld := ⟨FNS_ADM4 a, 31, 1⟩

/-- Rows of 13_field_network.md: FNS_CFG, FNS_PORTCFG, FNS_PORTSTAT, FNS_DIAG, FNS_DROP, FNS_POLICE, FNS_BCAST, FNS_VLAN, FNS_PLCA, FNS_ADM, FNS_ADM4. -/
def regs13_0 : List RegRow := [
  ⟨0x40340000, [], true,
    [⟨0, 1, .rwl, 1, .same, false, 0⟩, ⟨1, 1, .rw, 1, .same, false, 0⟩, ⟨2, 6, .rsvd, 0, .same, false, 0⟩, ⟨8, 8, .rwl, 30, .same, false, 0⟩, ⟨16, 8, .rw, 1, .same, false, 0⟩, ⟨24, 7, .rsvd, 0, .same, false, 0⟩, ⟨31, 1, .w1s, 0, .same, false, 0⟩]⟩,
  ⟨0x40340100, [(0x40, 7)], true,
    [⟨0, 1, .rw, 1, .same, false, 0⟩, ⟨1, 1, .rw, 1, .same, false, 0⟩, ⟨2, 2, .rw, 0, .same, false, 0⟩, ⟨4, 3, .rw, 0, .same, false, 0⟩, ⟨7, 1, .rsvd, 0, .same, false, 0⟩, ⟨8, 12, .rw, 1, .same, false, 0⟩, ⟨20, 1, .rwl, 0, .same, false, 0⟩, ⟨21, 1, .rwl, 1, .same, false, 0⟩, ⟨22, 10, .rsvd, 0, .same, false, 0⟩]⟩,
  ⟨0x40340104, [(0x40, 7)], false,
    [⟨0, 2, .ro, 0, .same, false, 0⟩, ⟨2, 1, .ro, 0, .same, false, 0⟩, ⟨3, 1, .ro, 0, .same, false, 0⟩, ⟨4, 3, .ro, 0, .same, false, 0⟩, ⟨7, 1, .rsvd, 0, .same, false, 0⟩, ⟨8, 2, .ro, 0, .same, false, 0⟩, ⟨10, 22, .rsvd, 0, .same, false, 0⟩]⟩,
  ⟨0x40340108, [(0x40, 6)], true,
    [⟨0, 1, .wo, 0, .same, false, 0⟩, ⟨1, 1, .ro, 0, .same, false, 0⟩, ⟨2, 2, .ro, 0, .same, false, 0⟩, ⟨4, 12, .rsvd, 0, .same, false, 0⟩, ⟨16, 12, .ro, 0, .same, false, 0⟩, ⟨28, 4, .rsvd, 0, .same, false, 0⟩]⟩,
  ⟨0x4034010C, [(0x40, 7)], false,
    [⟨0, 16, .rc, 0, .same, false, 0⟩, ⟨16, 16, .rc, 0, .same, false, 0⟩]⟩,
  ⟨0x40340400, [(0x40, 7), (0x4, 8)], true,
    [⟨0, 8, .rw, 160, .at 1 7 8, false, 0⟩, ⟨8, 8, .rsvd, 0, .same, false, 0⟩, ⟨16, 8, .rw, 48, .same, false, 0⟩, ⟨24, 8, .rsvd, 0, .same, false, 0⟩]⟩,
  ⟨0x40340420, [(0x40, 7)], true,
    [⟨0, 16, .rw, 200, .same, false, 0⟩, ⟨16, 16, .rsvd, 0, .same, false, 0⟩]⟩,
  ⟨0x40340800, [(0x4, 16)], true,
    [⟨0, 12, .rw, 0, .at 0 0 1, false, 0⟩, ⟨12, 7, .rw, 0, .at 0 0 127, false, 0⟩, ⟨19, 7, .rw, 0, .at 0 0 127, false, 0⟩, ⟨26, 5, .rsvd, 0, .same, false, 0⟩, ⟨31, 1, .rw, 0, .at 0 0 1, false, 0⟩]⟩,
  ⟨0x40340900, [(0x4, 4)], true,
    [⟨0, 4, .rwl, 8, .same, false, 0⟩, ⟨4, 4, .rsvd, 0, .same, false, 0⟩, ⟨8, 8, .rwl, 32, .same, false, 0⟩, ⟨16, 8, .rwl, 0, .same, false, 0⟩, ⟨24, 8, .rwl, 128, .same, false, 0⟩]⟩,
  ⟨0x40340A00, [(0x20, 32), (0x4, 4)], true,
    [⟨0, 32, .rw, 0, .same, false, 0⟩]⟩,
  ⟨0x40340A10, [(0x20, 32)], true,
    [⟨0, 16, .rw, 0, .same, false, 0⟩, ⟨16, 15, .rsvd, 0, .same, false, 0⟩, ⟨31, 1, .rw, 0, .same, false, 0⟩]⟩]

/-- Every register of 13_field_network.md. -/
def regs13 : List RegRow := regs13_0

/-! ### Registers of 14_object_dictionary.md -/

def HIF_CFG : Nat := 0x40380000
def HIF_CFG_EN : Fld := ⟨HIF_CFG, 0, 1⟩
def HIF_CFG_LOCK : Fld := ⟨HIF_CFG, 31, 1⟩
def HIF_STAT : Nat := 0x40380004
def HIF_STAT_READY : Fld := ⟨HIF_STAT, 0, 1⟩
def HIF_STAT_IRQ : Fld := ⟨HIF_STAT, 1, 1⟩
def HIF_STAT_AUTH : Fld := ⟨HIF_STAT, 2, 1⟩
def HIF_STAT_ROLE : Fld := ⟨HIF_STAT, 3, 2⟩
def HIF_STAT_OUTQ : Fld := ⟨HIF_STAT, 16, 7⟩
def HIF_ERRCNT : Nat := 0x40380008
def HIF_ERRCNT_HCRC : Fld := ⟨HIF_ERRCNT, 0, 8⟩
def HIF_ERRCNT_PCRC : Fld := ⟨HIF_ERRCNT, 8, 8⟩
def HIF_ERRCNT_TAG : Fld := ⟨HIF_ERRCNT, 16, 8⟩
def HIF_ERRCNT_BUSY : Fld := ⟨HIF_ERRCNT, 24, 8⟩

/-- Rows of 14_object_dictionary.md: HIF_CFG, HIF_STAT, HIF_ERRCNT. -/
def regs14_0 : List RegRow := [
  ⟨0x40380000, [], true,
    [⟨0, 1, .rwl, 1, .same, false, 0⟩, ⟨1, 30, .rsvd, 0, .same, false, 0⟩, ⟨31, 1, .w1s, 0, .same, false, 0⟩]⟩,
  ⟨0x40380004, [], false,
    [⟨0, 1, .ro, 0, .same, false, 0⟩, ⟨1, 1, .ro, 0, .same, false, 0⟩, ⟨2, 1, .ro, 0, .same, false, 0⟩, ⟨3, 2, .ro, 0, .same, false, 0⟩, ⟨5, 11, .rsvd, 0, .same, false, 0⟩, ⟨16, 7, .ro, 0, .same, false, 0⟩, ⟨23, 9, .rsvd, 0, .same, false, 0⟩]⟩,
  ⟨0x40380008, [], false,
    [⟨0, 8, .rc, 0, .same, false, 0⟩, ⟨8, 8, .rc, 0, .same, false, 0⟩, ⟨16, 8, .rc, 0, .same, false, 0⟩, ⟨24, 8, .rc, 0, .same, false, 0⟩]⟩]

/-- Every register of 14_object_dictionary.md. -/
def regs14 : List RegRow := regs14_0

/-! ### Registers of 15_nv_store.md -/

def NVS_STAT : Nat := 0x40350000
def NVS_STAT_BUSY : Fld := ⟨NVS_STAT, 0, 1⟩
def NVS_STAT_TXN_OPEN : Fld := ⟨NVS_STAT, 1, 1⟩
def NVS_STAT_REJ : Fld := ⟨NVS_STAT, 2, 1⟩
def NVS_STAT_RECOVERED : Fld := ⟨NVS_STAT, 3, 1⟩
def NVS_STAT_OWNER : Fld := ⟨NVS_STAT, 8, 4⟩
def NVS_CLAIM : Nat := 0x40350004
def NVS_CLAIM_CLAIM : Fld := ⟨NVS_CLAIM, 0, 1⟩
def NVS_CLAIM_RELEASE : Fld := ⟨NVS_CLAIM, 1, 1⟩
def NVS_CMD : Nat := 0x40350008
def NVS_CMD_OP : Fld := ⟨NVS_CMD, 0, 4⟩
def NVS_CMD_INDEX : Fld := ⟨NVS_CMD, 4, 4⟩
def NVS_CMD_KIND : Fld := ⟨NVS_CMD, 8, 1⟩
def NVS_ADDR : Nat := 0x4035000C
def NVS_ADDR_ADDR : Fld := ⟨NVS_ADDR, 0, 20⟩
def NVS_LEN : Nat := 0x40350010
def NVS_LEN_LEN : Fld := ⟨NVS_LEN, 0, 13⟩
def NVS_LEN_SOFS : Fld := ⟨NVS_LEN, 16, 12⟩
def NVS_RESULT : Nat := 0x40350014
def NVS_RESULT_STATUS : Fld := ⟨NVS_RESULT, 0, 4⟩
def NVS_RESULT_OP : Fld := ⟨NVS_RESULT, 4, 4⟩
def NVS_RESULT_PAGES : Fld := ⟨NVS_RESULT, 8, 5⟩
def NVS_RESULT_TXNS : Fld := ⟨NVS_RESULT, 16, 8⟩
def NVS_JSEQ : Nat := 0x4035001C
def NVS_JSEQ_TXN_SEQ : Fld := ⟨NVS_JSEQ, 0, 32⟩
def NVS_RECOV : Nat := 0x40350020
def NVS_RECOV_ACTION : Fld := ⟨NVS_RECOV, 0, 2⟩
def NVS_RECOV_PAGES : Fld := ⟨NVS_RECOV, 2, 5⟩
def NVS_RECOV_DAMAGED : Fld := ⟨NVS_RECOV, 8, 16⟩
def NVS_RECOV_HOLDUP_EXH : Fld := ⟨NVS_RECOV, 24, 1⟩
def NVS_SHADOW : Nat := 0x40350024
def NVS_SHADOW_SLOT : Fld := ⟨NVS_SHADOW, 0, 1⟩
def NVS_SHADOW_VALID : Fld := ⟨NVS_SHADOW, 1, 1⟩
def NVS_SHADOW_CKPT_BUSY : Fld := ⟨NVS_SHADOW, 2, 1⟩
def NVS_SHADOW_SAVE_BUSY : Fld := ⟨NVS_SHADOW, 3, 1⟩
def NVS_SHADOW_SEQ : Fld := ⟨NVS_SHADOW, 8, 24⟩
def NVS_RGN (r : Nat) : Nat := 0x40350040 + 0x4 * r
def NVS_RGN_BASE (r : Nat) : Fld := ⟨NVS_RGN r, 0, 12⟩
def NVS_RGN_LIMIT (r : Nat) : Fld := ⟨NVS_RGN r, 12, 12⟩
def NVS_RGN_EN (r : Nat) : Fld := ⟨NVS_RGN r, 24, 1⟩
def NVS_RGN_RPWD (r : Nat) : Fld := ⟨NVS_RGN r, 25, 1⟩
def NVS_RGN_WPWD (r : Nat) : Fld := ⟨NVS_RGN r, 26, 1⟩
def NVS_RGN_LOCKOUT (r : Nat) : Fld := ⟨NVS_RGN r, 27, 1⟩
def NVS_RGN_RUNLK (r : Nat) : Fld := ⟨NVS_RGN r, 28, 1⟩
def NVS_RGN_WUNLK (r : Nat) : Fld := ⟨NVS_RGN r, 29, 1⟩
def NVS_RGNFAIL (r : Nat) : Nat := 0x40350060 + 0x4 * r
def NVS_RGNFAIL_FAILS (r : Nat) : Fld := ⟨NVS_RGNFAIL r, 0, 8⟩
def NVS_RGNFAIL_REMAIN (r : Nat) : Fld := ⟨NVS_RGNFAIL r, 16, 12⟩
def NVS_SEAL (k : Nat) : Nat := 0x40350080 + 0x4 * k
def NVS_SEAL_VALUE (k : Nat) : Fld := ⟨NVS_SEAL k, 0, 32⟩
def NVS_DMG : Nat := 0x403500C0
def NVS_DMG_SEAL : Fld := ⟨NVS_DMG, 0, 16⟩
def NVS_DMG_TALLY : Fld := ⟨NVS_DMG, 16, 16⟩
def NVS_TALLY (k : Nat) : Nat := 0x40350100 + 0x4 * k
def NVS_TALLY_VALUE (k : Nat) : Fld := ⟨NVS_TALLY k, 0, 32⟩
def NVS_STAGE (w : Nat) : Nat := 0x40351000 + 0x4 * w
def NVS_STAGE_DATA (w : Nat) : Fld := ⟨NVS_STAGE w, 0, 32⟩

/-- Rows of 15_nv_store.md: NVS_STAT, NVS_CLAIM, NVS_CMD, NVS_ADDR, NVS_LEN, NVS_RESULT, NVS_JSEQ, NVS_RECOV, NVS_SHADOW, NVS_RGN, NVS_RGNFAIL, NVS_SEAL. -/
def regs15_0 : List RegRow := [
  ⟨0x40350000, [], false,
    [⟨0, 1, .ro, 0, .same, false, 0⟩, ⟨1, 1, .ro, 0, .same, false, 0⟩, ⟨2, 1, .w1c, 0, .same, false, 0⟩, ⟨3, 1, .ro, 0, .same, false, 0⟩, ⟨4, 4, .rsvd, 0, .same, false, 0⟩, ⟨8, 4, .ro, 15, .same, false, 0⟩, ⟨12, 20, .rsvd, 0, .same, false, 0⟩]⟩,
  ⟨0x40350004, [], true,
    [⟨0, 1, .wo, 0, .same, false, 0⟩, ⟨1, 1, .wo, 0, .same, false, 0⟩, ⟨2, 30, .rsvd, 0, .same, false, 0⟩]⟩,
  ⟨0x40350008, [], true,
    [⟨0, 4, .wo, 0, .same, false, 0⟩, ⟨4, 4, .wo, 0, .same, false, 0⟩, ⟨8, 1, .wo, 0, .same, false, 0⟩, ⟨9, 23, .rsvd, 0, .same, false, 0⟩]⟩,
  ⟨0x4035000C, [], true,
    [⟨0, 20, .rw, 0, .same, false, 0⟩, ⟨20, 12, .rsvd, 0, .same, false, 0⟩]⟩,
  ⟨0x40350010, [], true,
    [⟨0, 13, .rw, 0, .same, false, 0⟩, ⟨13, 3, .rsvd, 0, .same, false, 0⟩, ⟨16, 12, .rw, 0, .same, false, 0⟩, ⟨28, 4, .rsvd, 0, .same, false, 0⟩]⟩,
  ⟨0x40350014, [], false,
    [⟨0, 4, .ro, 0, .same, false, 0⟩, ⟨4, 4, .ro, 0, .same, false, 0⟩, ⟨8, 5, .ro, 0, .same, false, 0⟩, ⟨13, 3, .rsvd, 0, .same, false, 0⟩, ⟨16, 8, .ro, 0, .same, false, 0⟩, ⟨24, 8, .rsvd, 0, .same, false, 0⟩]⟩,
  ⟨0x4035001C, [], false,
    [⟨0, 32, .ro, 0, .same, false, 0⟩]⟩,
  ⟨0x40350020, [], false,
    [⟨0, 2, .ro, 0, .same, false, 0⟩, ⟨2, 5, .ro, 0, .same, false, 0⟩, ⟨7, 1, .rsvd, 0, .same, false, 0⟩, ⟨8, 16, .ro, 0, .same, false, 0⟩, ⟨24, 1, .ro, 0, .same, false, 0⟩, ⟨25, 7, .rsvd, 0, .same, false, 0⟩]⟩,
  ⟨0x40350024, [], false,
    [⟨0, 1, .ro, 0, .same, false, 0⟩, ⟨1, 1, .ro, 0, .same, false, 0⟩, ⟨2, 1, .ro, 0, .same, false, 0⟩, ⟨3, 1, .ro, 0, .same, false, 0⟩, ⟨4, 4, .rsvd, 0, .same, false, 0⟩, ⟨8, 24, .ro, 0, .same, false, 0⟩]⟩,
  ⟨0x40350040, [(0x4, 8)], false,
    [⟨0, 12, .ro, 0, .same, false, 0⟩, ⟨12, 12, .ro, 0, .same, false, 0⟩, ⟨24, 1, .ro, 0, .same, false, 0⟩, ⟨25, 1, .ro, 0, .same, false, 0⟩, ⟨26, 1, .ro, 0, .same, false, 0⟩, ⟨27, 1, .ro, 0, .same, false, 0⟩, ⟨28, 1, .ro, 0, .same, false, 0⟩, ⟨29, 1, .ro, 0, .same, false, 0⟩, ⟨30, 2, .rsvd, 0, .same, false, 0⟩]⟩,
  ⟨0x40350060, [(0x4, 8)], false,
    [⟨0, 8, .ro, 0, .same, false, 0⟩, ⟨8, 8, .rsvd, 0, .same, false, 0⟩, ⟨16, 12, .ro, 0, .same, false, 0⟩, ⟨28, 4, .rsvd, 0, .same, false, 0⟩]⟩,
  ⟨0x40350080, [(0x4, 16)], false,
    [⟨0, 32, .ro, 0, .same, false, 0⟩]⟩]


/-- Rows of 15_nv_store.md: NVS_DMG, NVS_TALLY, NVS_STAGE. -/
def regs15_1 : List RegRow := [
  ⟨0x403500C0, [], false,
    [⟨0, 16, .ro, 0, .same, false, 0⟩, ⟨16, 16, .ro, 0, .same, false, 0⟩]⟩,
  ⟨0x40350100, [(0x4, 16)], false,
    [⟨0, 32, .ro, 0, .same, false, 0⟩]⟩,
  ⟨0x40351000, [(0x4, 1024)], true,
    [⟨0, 32, .rw, 0, .same, false, 0⟩]⟩]

/-- Every register of 15_nv_store.md. -/
def regs15 : List RegRow := regs15_0 ++ regs15_1

/-! ### Registers of 16_security_and_update.md -/

def SCU_LCS : Nat := 0x40360000
def SCU_LCS_STATE : Fld := ⟨SCU_LCS, 0, 2⟩
def SCU_LCS_CERTIFIED : Fld := ⟨SCU_LCS, 2, 1⟩
def SCU_LCS_DEBUG_AUTH : Fld := ⟨SCU_LCS, 3, 1⟩
def SCU_LCS_READY : Fld := ⟨SCU_LCS, 4, 1⟩
def SCU_LCS_RECOVERY : Fld := ⟨SCU_LCS, 5, 1⟩
def SCU_LCS_OWNER_SLOT : Fld := ⟨SCU_LCS, 8, 3⟩
def SCU_BOOTSTAT : Nat := 0x40360004
def SCU_BOOTSTAT_TELLER_SLOT : Fld := ⟨SCU_BOOTSTAT, 0, 1⟩
def SCU_BOOTSTAT_RT_SLOT_A : Fld := ⟨SCU_BOOTSTAT, 1, 1⟩
def SCU_BOOTSTAT_RT_SLOT_B : Fld := ⟨SCU_BOOTSTAT, 2, 1⟩
def SCU_BOOTSTAT_FALLBACK : Fld := ⟨SCU_BOOTSTAT, 3, 1⟩
def SCU_BOOTSTAT_TRIAL_ROLLBACK : Fld := ⟨SCU_BOOTSTAT, 4, 1⟩
def SCU_BOOTSTAT_FAIL : Fld := ⟨SCU_BOOTSTAT, 8, 4⟩
def SCU_TAMPER : Nat := 0x40360008
def SCU_TAMPER_VGLITCH : Fld := ⟨SCU_TAMPER, 0, 1⟩
def SCU_TAMPER_CLOCK : Fld := ⟨SCU_TAMPER, 1, 1⟩
def SCU_TAMPER_OTP : Fld := ⟨SCU_TAMPER, 2, 1⟩
def SCU_TAMPER_VAULT : Fld := ⟨SCU_TAMPER, 3, 1⟩
def SCU_TAMPER_TRNG : Fld := ⟨SCU_TAMPER, 4, 1⟩
def SCU_TAMPER_COUNT : Fld := ⟨SCU_TAMPER, 16, 8⟩
def SCU_TRNG : Nat := 0x4036000C
def SCU_TRNG_OK : Fld := ⟨SCU_TRNG, 0, 1⟩
def SCU_TRNG_RCT_FAIL : Fld := ⟨SCU_TRNG, 1, 1⟩
def SCU_TRNG_APT_FAIL : Fld := ⟨SCU_TRNG, 2, 1⟩

/-- Rows of 16_security_and_update.md: SCU_LCS, SCU_BOOTSTAT, SCU_TAMPER, SCU_TRNG. -/
def regs16_0 : List RegRow := [
  ⟨0x40360000, [], false,
    [⟨0, 2, .ro, 0, .same, false, 0⟩, ⟨2, 1, .ro, 0, .same, false, 0⟩, ⟨3, 1, .ro, 0, .same, false, 0⟩, ⟨4, 1, .ro, 0, .same, false, 0⟩, ⟨5, 1, .ro, 0, .same, false, 0⟩, ⟨6, 2, .rsvd, 0, .same, false, 0⟩, ⟨8, 3, .ro, 0, .same, false, 0⟩, ⟨11, 21, .rsvd, 0, .same, false, 0⟩]⟩,
  ⟨0x40360004, [], false,
    [⟨0, 1, .ro, 0, .same, false, 0⟩, ⟨1, 1, .ro, 0, .same, false, 0⟩, ⟨2, 1, .ro, 0, .same, false, 0⟩, ⟨3, 1, .ro, 0, .same, false, 0⟩, ⟨4, 1, .ro, 0, .same, false, 0⟩, ⟨5, 3, .rsvd, 0, .same, false, 0⟩, ⟨8, 4, .ro, 0, .same, false, 0⟩, ⟨12, 20, .rsvd, 0, .same, false, 0⟩]⟩,
  ⟨0x40360008, [], true,
    [⟨0, 1, .w1c, 0, .same, false, 0⟩, ⟨1, 1, .w1c, 0, .same, false, 0⟩, ⟨2, 1, .w1c, 0, .same, false, 0⟩, ⟨3, 1, .w1c, 0, .same, false, 0⟩, ⟨4, 1, .w1c, 0, .same, false, 0⟩, ⟨5, 11, .rsvd, 0, .same, false, 0⟩, ⟨16, 8, .rc, 0, .same, false, 0⟩, ⟨24, 8, .rsvd, 0, .same, false, 0⟩]⟩,
  ⟨0x4036000C, [], true,
    [⟨0, 1, .ro, 0, .same, false, 0⟩, ⟨1, 1, .w1c, 0, .same, false, 0⟩, ⟨2, 1, .w1c, 0, .same, false, 0⟩, ⟨3, 29, .rsvd, 0, .same, false, 0⟩]⟩]

/-- Every register of 16_security_and_update.md. -/
def regs16 : List RegRow := regs16_0

/-! ### Registers of 17_thermal_management.md -/

def THM_STATUS : Nat := 0x40010000
def THM_STATUS_LEVEL : Fld := ⟨THM_STATUS, 0, 3⟩
def THM_STATUS_FORCED : Fld := ⟨THM_STATUS, 3, 1⟩
def THM_STATUS_HOLD : Fld := ⟨THM_STATUS, 4, 1⟩
def THM_STATUS_FAULTED : Fld := ⟨THM_STATUS, 5, 1⟩
def THM_STATUS_USABLE_N : Fld := ⟨THM_STATUS, 6, 5⟩
def THM_STATUS_HOTSPOT : Fld := ⟨THM_STATUS, 16, 16⟩
def THM_SENSORS : Nat := 0x40010004
def THM_SENSORS_USABLE : Fld := ⟨THM_SENSORS, 0, 16⟩
def THM_SENSORS_EXCLUDED : Fld := ⟨THM_SENSORS, 16, 16⟩
def THM_MEAN : Nat := 0x40010008
def THM_MEAN_MEAN : Fld := ⟨THM_MEAN, 0, 16⟩
def THM_MEAN_MEAN_VALID : Fld := ⟨THM_MEAN, 16, 1⟩
def THM_EVT : Nat := 0x4001000C
def THM_EVT_LEVEL_UP : Fld := ⟨THM_EVT, 0, 1⟩
def THM_EVT_LEVEL_DOWN : Fld := ⟨THM_EVT, 1, 1⟩
def THM_EVT_EXCLUDED : Fld := ⟨THM_EVT, 2, 1⟩
def THM_EVT_READMITTED : Fld := ⟨THM_EVT, 3, 1⟩
def THM_EVT_FORCED : Fld := ⟨THM_EVT, 4, 1⟩
def THM_EVT_CRITICAL : Fld := ⟨THM_EVT, 5, 1⟩
def THM_THR (k : Nat) : Nat := 0x40010010 + 0x4 * k
def THM_THR_THR (k : Nat) : Fld := ⟨THM_THR k, 0, 16⟩
def THM_CFG : Nat := 0x40010024
def THM_CFG_NBR_LIMIT : Fld := ⟨THM_CFG, 0, 12⟩
def THM_CFG_CONV_PACE : Fld := ⟨THM_CFG, 12, 16⟩
def THM_CFG_LOCK : Fld := ⟨THM_CFG, 31, 1⟩
def THM_EFF (k : Nat) : Nat := 0x40010040 + 0x4 * k
def THM_EFF_VALUE (k : Nat) : Fld := ⟨THM_EFF k, 0, 16⟩
def THM_EFF_SUBST (k : Nat) : Fld := ⟨THM_EFF k, 16, 1⟩
def THM_EFF_OUT_RANGE (k : Nat) : Fld := ⟨THM_EFF k, 17, 1⟩
def THM_EFF_DISAGREE (k : Nat) : Fld := ⟨THM_EFF k, 18, 3⟩

/-- Rows of 17_thermal_management.md: THM_STATUS, THM_SENSORS, THM_MEAN, THM_EVT, THM_THR, THM_CFG, THM_EFF. -/
def regs17_0 : List RegRow := [
  ⟨0x40010000, [], false,
    [⟨0, 3, .ro, 0, .same, false, 0⟩, ⟨3, 1, .ro, 0, .same, false, 0⟩, ⟨4, 1, .ro, 0, .same, false, 0⟩, ⟨5, 1, .ro, 0, .same, false, 0⟩, ⟨6, 5, .ro, 0, .same, false, 0⟩, ⟨11, 5, .rsvd, 0, .same, false, 0⟩, ⟨16, 16, .ro, 32768, .same, false, 0⟩]⟩,
  ⟨0x40010004, [], false,
    [⟨0, 16, .ro, 0, .same, false, 0⟩, ⟨16, 16, .ro, 0, .same, false, 0⟩]⟩,
  ⟨0x40010008, [], false,
    [⟨0, 16, .ro, 0, .same, false, 0⟩, ⟨16, 1, .ro, 0, .same, false, 0⟩, ⟨17, 15, .rsvd, 0, .same, false, 0⟩]⟩,
  ⟨0x4001000C, [], false,
    [⟨0, 1, .w1c, 0, .same, false, 0⟩, ⟨1, 1, .w1c, 0, .same, false, 0⟩, ⟨2, 1, .w1c, 0, .same, false, 0⟩, ⟨3, 1, .w1c, 0, .same, false, 0⟩, ⟨4, 1, .w1c, 0, .same, false, 0⟩, ⟨5, 1, .w1c, 0, .same, false, 0⟩, ⟨6, 26, .rsvd, 0, .same, false, 0⟩]⟩,
  ⟨0x40010010, [(0x4, 5)], true,
    [⟨0, 16, .rwl, 10500, .step 0 500, false, 0⟩, ⟨16, 16, .rsvd, 0, .same, false, 0⟩]⟩,
  ⟨0x40010024, [], true,
    [⟨0, 12, .rwl, 800, .same, false, 0⟩, ⟨12, 16, .rw, 10, .same, false, 0⟩, ⟨28, 3, .rsvd, 0, .same, false, 0⟩, ⟨31, 1, .w1s, 0, .same, false, 0⟩]⟩,
  ⟨0x40010040, [(0x4, 16)], false,
    [⟨0, 16, .ro, 0, .same, false, 0⟩, ⟨16, 1, .ro, 0, .same, false, 0⟩, ⟨17, 1, .ro, 0, .same, false, 0⟩, ⟨18, 3, .ro, 0, .same, false, 0⟩, ⟨21, 11, .rsvd, 0, .same, false, 0⟩]⟩]

/-- Every register of 17_thermal_management.md. -/
def regs17 : List RegRow := regs17_0

/-! ### Registers of 18_performance_counters.md -/

def OBS_CTRL : Nat := 0x40370000
def OBS_CTRL_FREEZE : Fld := ⟨OBS_CTRL, 0, 1⟩
def OBS_CTRL_SNAP : Fld := ⟨OBS_CTRL, 1, 1⟩
def OBS_CTRL_UNPRIV_READ : Fld := ⟨OBS_CTRL, 2, 1⟩
def OBS_CTRL_LOCK : Fld := ⟨OBS_CTRL, 31, 1⟩
def OBS_SNAPSTAT : Nat := 0x40370004
def OBS_SNAPSTAT_SEQ : Fld := ⟨OBS_SNAPSTAT, 0, 16⟩
def OBS_SNAPSTAT_BUSY : Fld := ⟨OBS_SNAPSTAT, 16, 1⟩
def OBS_SNAPSTAT_MERGED : Fld := ⟨OBS_SNAPSTAT, 24, 8⟩
def OBS_SNAPT_LO : Nat := 0x40370008
def OBS_SNAPT_LO_TIME : Fld := ⟨OBS_SNAPT_LO, 0, 32⟩
def OBS_SNAPT_HI : Nat := 0x4037000C
def OBS_SNAPT_HI_TIME : Fld := ⟨OBS_SNAPT_HI, 0, 32⟩
def OBS_MODE (w : Nat) : Nat := 0x40370040 + 0x4 * w
def OBS_MODE_LEVEL (w : Nat) : Fld := ⟨OBS_MODE w, 0, 32⟩
def OBS_OVF (w : Nat) : Nat := 0x40370080 + 0x4 * w
def OBS_OVF_OVF (w : Nat) : Fld := ⟨OBS_OVF w, 0, 32⟩
def OBS_SOVF (w : Nat) : Nat := 0x403700C0 + 0x4 * w
def OBS_SOVF_OVF (w : Nat) : Fld := ⟨OBS_SOVF w, 0, 32⟩
def OBS_FSEL (j : Nat) : Nat := 0x40370100 + 0x4 * j
def OBS_FSEL_EVENT (j : Nat) : Fld := ⟨OBS_FSEL j, 0, 11⟩
def OBS_FSEL_MODE (j : Nat) : Fld := ⟨OBS_FSEL j, 11, 1⟩
def OBS_CNT_LO (k : Nat) : Nat := 0x40371000 + 0x8 * k
def OBS_CNT_LO_CNT_LO (k : Nat) : Fld := ⟨OBS_CNT_LO k, 0, 32⟩
def OBS_CNT_HI (k : Nat) : Nat := 0x40371004 + 0x8 * k
def OBS_CNT_HI_CNT_HI (k : Nat) : Fld := ⟨OBS_CNT_HI k, 0, 16⟩
def OBS_FCNT_LO (j : Nat) : Nat := 0x40371C00 + 0x8 * j
def OBS_FCNT_LO_CNT_LO (j : Nat) : Fld := ⟨OBS_FCNT_LO j, 0, 32⟩
def OBS_FCNT_HI (j : Nat) : Nat := 0x40371C04 + 0x8 * j
def OBS_FCNT_HI_CNT_HI (j : Nat) : Fld := ⟨OBS_FCNT_HI j, 0, 16⟩
def OBS_SCNT_LO (k : Nat) : Nat := 0x40372000 + 0x8 * k
def OBS_SCNT_LO_VAL_LO (k : Nat) : Fld := ⟨OBS_SCNT_LO k, 0, 32⟩
def OBS_SCNT_HI (k : Nat) : Nat := 0x40372004 + 0x8 * k
def OBS_SCNT_HI_VAL_HI (k : Nat) : Fld := ⟨OBS_SCNT_HI k, 0, 16⟩

/-- Rows of 18_performance_counters.md: OBS_CTRL, OBS_SNAPSTAT, OBS_SNAPT_LO, OBS_SNAPT_HI, OBS_MODE, OBS_OVF, OBS_SOVF, OBS_FSEL, OBS_CNT_LO, OBS_CNT_HI, OBS_FCNT_LO, OBS_FCNT_HI. -/
def regs18_0 : List RegRow := [
  ⟨0x40370000, [], false,
    [⟨0, 1, .rw, 0, .same, true, 0⟩, ⟨1, 1, .wo, 0, .same, true, 0⟩, ⟨2, 1, .rwl, 0, .same, true, 0⟩, ⟨3, 28, .rsvd, 0, .same, false, 0⟩, ⟨31, 1, .w1s, 0, .same, true, 0⟩]⟩,
  ⟨0x40370004, [], false,
    [⟨0, 16, .ro, 0, .same, false, 0⟩, ⟨16, 1, .ro, 0, .same, false, 0⟩, ⟨17, 7, .rsvd, 0, .same, false, 0⟩, ⟨24, 8, .rc, 0, .same, false, 0⟩]⟩,
  ⟨0x40370008, [], false,
    [⟨0, 32, .ro, 0, .same, false, 0⟩]⟩,
  ⟨0x4037000C, [], false,
    [⟨0, 32, .ro, 0, .same, false, 0⟩]⟩,
  ⟨0x40370040, [(0x4, 12)], true,
    [⟨0, 32, .rw, 0, .same, false, 0⟩]⟩,
  ⟨0x40370080, [(0x4, 13)], false,
    [⟨0, 32, .w1c, 0, .same, false, 0⟩]⟩,
  ⟨0x403700C0, [(0x4, 13)], false,
    [⟨0, 32, .ro, 0, .same, false, 0⟩]⟩,
  ⟨0x40370100, [(0x4, 16)], true,
    [⟨0, 11, .rw, 2047, .same, false, 0⟩, ⟨11, 1, .rw, 0, .same, false, 0⟩, ⟨12, 20, .rsvd, 0, .same, false, 0⟩]⟩,
  ⟨0x40371000, [(0x8, 384)], false,
    [⟨0, 32, .rw, 0, .same, false, 0⟩]⟩,
  ⟨0x40371004, [(0x8, 384)], false,
    [⟨0, 16, .rw, 0, .same, false, 0⟩, ⟨16, 16, .rsvd, 0, .same, false, 0⟩]⟩,
  ⟨0x40371C00, [(0x8, 16)], false,
    [⟨0, 32, .rw, 0, .same, false, 0⟩]⟩,
  ⟨0x40371C04, [(0x8, 16)], false,
    [⟨0, 16, .rw, 0, .same, false, 0⟩, ⟨16, 16, .rsvd, 0, .same, false, 0⟩]⟩]


/-- Rows of 18_performance_counters.md: OBS_SCNT_LO, OBS_SCNT_HI. -/
def regs18_1 : List RegRow := [
  ⟨0x40372000, [(0x8, 400)], false,
    [⟨0, 32, .ro, 0, .same, false, 0⟩]⟩,
  ⟨0x40372004, [(0x8, 400)], false,
    [⟨0, 16, .ro, 0, .same, false, 0⟩, ⟨16, 16, .rsvd, 0, .same, false, 0⟩]⟩]

/-- Every register of 18_performance_counters.md. -/
def regs18 : List RegRow := regs18_0 ++ regs18_1

/-- Every register of the device. -/
def allRegs : List RegRow :=
  regs01 ++ regs02 ++ regs03 ++ regs04 ++ regs05 ++ regs06 ++ regs07 ++ regs08 ++ regs10 ++ regs11 ++ regs12 ++ regs13 ++ regs14 ++ regs15 ++ regs16 ++ regs17 ++ regs18

end Sys2Proof.Machine
end

