-- ==== Sys2Proof/Machine/Tab.lean ====
section
/-! DEFINITION. Sparse tables: the one form in which the model holds registers, dictionary values and memories.
A table lists (key, value) pairs with strictly rising keys and no entry equal to what an unlisted key reads as. -/

namespace Sys2Proof.Machine

/-- A sparse table. -/
abbrev Tab (α : Type) := List (Nat × α)

/-- The value listed at key `k`, or `dflt`. -/
def tabGet {α : Type} (dflt : α) (k : Nat) : Tab α → α
  | [] => dflt
  | (j, v) :: t => if j = k then v else tabGet dflt k t

/-- Remove key `k`. -/
def tabDel {α : Type} (k : Nat) : Tab α → Tab α
  | [] => []
  | (j, v) :: t => if j = k then tabDel k t else (j, v) :: tabDel k t

/-- Insert or replace key `k`, keeping the keys rising. -/
def tabIns {α : Type} (k : Nat) (v : α) : Tab α → Tab α
  | [] => [(k, v)]
  | (j, w) :: t => if k < j then (k, v) :: (j, w) :: t else if k = j then (k, v) :: t else (j, w) :: tabIns k v t

/-- Store `v` at `k` in canonical form: storing what an unlisted key reads as removes the entry. -/
def tabPut {α : Type} [DecidableEq α] (dflt : α) (k : Nat) (v : α) (t : Tab α) : Tab α :=
  if v = dflt then tabDel k t else tabIns k v t

/-- Strictly rising keys, all above `lo` (`none`: no bound). -/
def tabRising {α : Type} : Option Nat → Tab α → Bool
  | _, [] => true
  | lo, (j, _) :: t => (match lo with | none => true | some l => decide (l < j)) && tabRising (some j) t

/-- The canonical form of a table whose unlisted key `k` reads as `dflt k`. -/
def tabWf {α : Type} [DecidableEq α] (dflt : Nat → α) (t : Tab α) : Bool :=
  tabRising none t && t.all (fun e => decide (e.2 ≠ dflt e.1))

/-- Keep the entries whose key satisfies `p`. -/
def tabKeep {α : Type} (p : Nat → Bool) (t : Tab α) : Tab α := t.filter (fun e => p e.1)

/-- One byte memory: the canonical list of the cells that do not read 0. -/
abbrev Mem := List Host.Cell

/-- One byte of a memory; a byte that nothing has written reads 0. -/
def memByte (m : Mem) (a : Nat) : BitVec 8 := tabGet 0 a m

/-- Store one byte. -/
def memPut (m : Mem) (a : Nat) (v : BitVec 8) : Mem := tabPut 0 a v m

/-- `n` bytes from `a` as a little-endian number (R3). -/
def memRead (m : Mem) (a : Nat) : Nat → Nat
  | 0 => 0
  | n + 1 => (memByte m a).toNat + 256 * memRead m (a + 1) n

/-- Store the `n` low bytes of `v` from `a`, little-endian (R3). -/
def memWrite (m : Mem) (a v : Nat) : Nat → Mem
  | 0 => m
  | n + 1 => memWrite (memPut m a (BitVec.ofNat 8 v)) (a + 1) (v / 256) n

/-- The canonical form of a memory. -/
abbrev Memory.wf (m : Mem) : Prop := tabWf (fun _ => (0 : BitVec 8)) m = true

end Sys2Proof.Machine
end

