-- ==== Sys2Proof/Word.lean ====
section
/-! DEFINITION. The words of the device: registers, instruction words and memory words are bit vectors (R5). -/

namespace Sys2Proof

/-- A register or bus word (R5). -/
abbrev Word := BitVec 32

/-- A byte of a memory. -/
abbrev Byte := BitVec 8

/-- A W register, a port value or a data-memory word of an engine (R189). -/
abbrev W16 := BitVec 16

/-- An accumulator of an engine (R189). -/
abbrev W40 := BitVec 40

end Sys2Proof
end

