-- ==== Sys2Proof/Machine/State.lean ====
section
/-! DEFINITION. The state of the device as plain data: the registers and dictionary values of the manual's tables, the
memories, and per block the state that the rules name beside them; with it the reasons of a stop and the state after a
power-on reset. -/

namespace Sys2Proof.Machine

/-- Reasons for which the machine stops with a fault. No command of this device ends so: R28 says that no access ends in
a bus fault. The one reason stands for a queue entry that no bus or protocol can carry. -/
inductive Fault where
  /-- raised by nothing in this model; safe -/
  | illFormed
deriving DecidableEq, Repr

/-- Reasons for which a command has no meaning in this model. -/
inductive Refusal where
  /-- the arm of `exec` for a command that has no meaning yet; safe -/
  | notModelled (mnemonic : String)
deriving DecidableEq, Repr

/-! ### Observability, violations, events (chapters 1, 14 and 18) -/

/-- One stored access violation (R35, R36). `cycle` is the cycle (ns) in which it was found. -/
structure AvEntry where
  addr   : Nat
  kind   : Nat
  ini    : Nat
  write  : Bool
  unpriv : Bool
  size   : Nat
  sess   : Nat
  time   : Nat
  cycle  : Nat
deriving DecidableEq, Repr

/-- The access-violation log (R35). -/
structure AvS where
  entries : List AvEntry := []
  lost    : Nat := 0
deriving DecidableEq, Repr

/-- One record of the event log (R407). -/
structure EvRec where
  seq  : Nat
  time : Nat
  ev   : Ev
  par  : List Nat
deriving DecidableEq, Repr

/-- A snapshot: its instant, the 400 values and the overflow bits (R486). -/
structure Snap where
  t   : Nat := 0
  cnt : Tab Nat := []
  ovf : Tab Nat := []
deriving DecidableEq, Repr

/-- Counters and snapshots (R476 to R488). Reader keys are initiator IDs, or 16 + session for the mirror agent (R40). -/
structure ObsS where
  /-- value of counter n; 384–399 are the fall-back counters -/
  cnt     : Tab Nat := []
  /-- overflow words by word number (R484) -/
  ovf     : Tab Nat := []
  /-- per reader: counter number and latched bits [47:32] (R482) -/
  latch   : Tab (Nat × Nat) := []
  /-- per writer: staged bits [47:32] (R483) -/
  stage   : Tab Nat := []
  /-- a requested snapshot and the ns at which the bank is due -/
  pending : Option (Nat × Snap) := none
  bank    : Snap := {}
  /-- conditions that held at the last counting cycle (R477) -/
  conds   : List Nat := []
  /-- value at the start of this cycle of each counter changed in it (R482, R486) -/
  start   : Tab Nat := []
  /-- increments of this cycle per counter (R483) -/
  incN    : Tab Nat := []
  /-- counters written in this cycle (R483) -/
  wrote   : List Nat := []
  /-- fall-back counters selected in this cycle (R481); occurrences of this cycle that FREEZE kept out, per counter (R485) -/
  sel     : List Nat := []
  lostN   : Tab Nat := []
  /-- the overflow words at the start of this cycle, once one has changed -/
  ovf0    : Option (Tab Nat) := none
deriving DecidableEq, Repr

/-- The time base states of R82. -/
inductive TbState where
  | unset | free | locking | locked | holdover
deriving DecidableEq, Repr

/-! ### Power, clocks and resets (chapter 2) -/

/-- The capacitance measurement of R72. -/
inductive CapPhase where
  | idle | first | second | ended
deriving DecidableEq, Repr

/-- The power-fail or shutdown save (R74, R77, R472). -/
inductive SaveS where
  | none | running | complete | exhausted
deriving DecidableEq, Repr

/-- Power, clocks, resets and start-up (R45 to R78, R507). -/
structure PwrS where
  /-- VAON good: AON is alive -/
  aon        : Bool := true
  /-- input switch open (R46, R72, R74) -/
  swOpen     : Bool := false
  buck       : Bool := false
  /-- VLINE comes from a local supply: no signature, no bleed (R45) -/
  localLine  : Bool := false
  /-- the second case of R48 is armed; a computation has found the fall -/
  eArmed     : Bool := false
  eFell      : Bool := false
  capPhase   : CapPhase := .idle
  /-- VHOLD readings of the measurement in mV, latest first (R72) -/
  capReads   : List Nat := []
  /-- measured capacitance in nF; none after a failed measurement (R72) -/
  capNF      : Option Nat := none
  /-- latest valid VHOLD and VLINE readings in mV -/
  vholdMV    : Nat := 0
  vlineMV    : Nat := 0
  /-- those readings as of the last round that passed its self-check (R159) -/
  vholdOk    : Nat := 0
  vlineOk    : Nat := 0
  /-- last completed step of R67 -/
  step       : Nat := 0
  bootSel    : Nat := 0
  /-- OUTPUTS_RELEASE (R69) -/
  released   : Bool := false
  /-- the configuration check found a range or load failure; a hold-up shortfall (R68, R73) -/
  cfgFailed  : Bool := false
  shortfall  : Bool := false
  hrdy       : Bool := false
  save       : SaveS := .none
  /-- VLINE came back above 17.5 V during or after a save (R76) -/
  lineBack   : Bool := false
  thermalOff : Bool := false
  rccDown    : Bool := false
  /-- nRESET is held low -/
  pinHeld    : Bool := false
  /-- context record: privileged address and recorded value (R50) -/
  ctx        : Tab Word := []
  /-- per domain: when the hold time of R44 ends, ns of the elapsed clock -/
  holdEnd    : Tab Nat := []
  /-- domains asked for by a wake, a posting or a window access (R53, R54, R119) -/
  wakeReq    : List Nat := []
  /-- cores that wait for an event, as a bit mask (R507) -/
  coreWait   : Nat := 0
  /-- halves that run (bit 0 CORE-A), halves left off, failed-start instants (R21) -/
  halves     : Nat := 0
  halfOff    : Nat := 0
  failTimes  : List Nat := []
  /-- when the take-over of R21 ends; requests are busy until then -/
  takeover   : Option Nat := none
  /-- watchdog reset instants (R63) -/
  wdogTimes  : List Nat := []
  /-- ns at which the last full restart happened (UPTIME) -/
  upSince    : Nat := 0
  /-- events recorded in NV during a save (R78) -/
  nvEvents   : List EvRec := []
  /-- DEEP was entered by FORCE_DEEP (R56) -/
  forced     : Bool := false
  /-- 1: an acknowledged FORCE_DEEP waits for IDLE or NAP and for the CAN channels to stop (R55, R56) -/
  deepReq    : Nat := 0
  /-- SCFG registers of slots and streams whose EN was written 1 while their domain was off (R182, R227) -/
  fresh      : List Nat := []
  /-- the retention latches of the AIO balls hold levels that stood at released balls (R493) -/
  ballsHeld  : Bool := false
  /-- CSEGn balls whose retention latch holds off while the CAN domain is off (R493) -/
  csegHeld   : Nat := 0
deriving DecidableEq, Repr

/-! ### Building time (chapter 3) -/

/-- One bin of the holdover table (R96): entries made and value, of the frequency correction of the reference and of the
32.768 kHz crystal, in 1/256 ppb. -/
structure HoBin where
  n   : Nat := 0
  f   : Int := 0
  n32 : Nat := 0
  f32 : Int := 0
deriving DecidableEq, Repr

/-- What an Announce carries (R85, R89, R91, R98). -/
structure PtpDs where
  prio1 : Nat
  cls   : Nat
  acc   : Nat
  var   : Nat
  prio2 : Nat
  gm    : Nat
  steps : Nat
  sender : Nat
  port  : Nat
  utc   : Int
  leap  : Nat
  valid : Bool
  /-- timeTraceable, frequencyTraceable and timeSource -/
  timeTr : Bool
  freqTr : Bool
  tsrc  : Nat
  path  : List Nat
  /-- GM_NODE of the sender's extension; 0xFFFF unknown (R91) -/
  gmNode : Nat
deriving DecidableEq, Repr

/-- A foreign master on a port: its dataset and the instants of its latest Announce messages, latest first. -/
structure Foreign where
  ds   : PtpDs
  seen : List Nat
deriving DecidableEq, Repr

/-- One PTP port (R85 to R87). -/
structure PtpPort where
  foreign : List Foreign := []
  /-- a two-step Sync that waits for its Follow_Up: sender, sequence number, receive time, correction -/
  sync    : Option (Nat × Nat × Nat × Int) := none
  /-- origin and receive time of the latest complete Sync -/
  last    : Option (Nat × Nat) := none
  /-- outstanding Delay_Req or Pdelay_Req: sequence number and transmit time -/
  dreq    : Option (Nat × Nat) := none
  /-- mean path delay in ns -/
  delay   : Int := 0
  seqSync : Nat := 0
  seqAnn  : Nat := 0
  seqDel  : Nat := 0
  /-- elapsed ns at which PRE_MASTER ends -/
  preEnd  : Nat := 0
deriving DecidableEq, Repr

/-- Building time (R79 to R104). -/
structure XtfS where
  /-- the counter: ns of TAI, and the fraction in 2^-32 ns (R4, R79) -/
  ns    : Nat := 0
  frac  : Nat := 0
  st    : TbState := .unset
  /-- 0 none, 1 PTP, 2 PPSIN -/
  src   : Nat := 0
  gm    : Bool := false
  unsync : Bool := true
  /-- the counter advances on 32.768 kHz edges; it leaves them at the next edge; time since the last edge in 1/64 ns; time
  spent so since the error estimate was last based, in ns (R81, R97) -/
  on32  : Bool := false
  leave32 : Bool := false
  edge  : Nat := 0
  on32ns : Nat := 0
  /-- frequency estimate and slew term in 1/256 ppb (R509) -/
  f     : Int := 0
  s     : Int := 0
  /-- the slew has ended while SERVO_EN was 0: S returns to 0 when the servo runs again -/
  slewOver : Bool := false
  /-- sum of the rate adjustment over all ticks -/
  rInt  : Int := 0
  /-- previous measured offset: value, elapsed ns, rate sum, source (R509) -/
  prev  : Option (Int × Nat × Int × Nat) := none
  /-- magnitudes of the latest offsets since entry to LOCKING, latest first, at most 16 (R97) -/
  offs  : List Nat := []
  lastOff : Int := 0
  /-- consecutive offsets for and against lock (R82) -/
  good  : Nat := 0
  bad   : Nat := 0
  /-- changes of F in the last 16 s, latest first: elapsed ns and value -/
  fHist : List (Nat × Int) := []
  /-- elapsed ns of entry to LOCKING; LOCKING was entered from HOLDOVER -/
  lockAt : Nat := 0
  fromHo : Bool := false
  /-- LOCKING was entered from UNSET and the first offset has not come: the counter still has no meaning -/
  fromUnset : Bool := false
  /-- mean of F before HOLDOVER (R96) -/
  hoMean : Int := 0
  /-- error estimate at entry to HOLDOVER, elapsed ns and TIME64 of that entry -/
  e0    : Nat := 0
  hoAt  : Nat := 0
  hoSince : Nat := 0
  /-- the error estimate lies above HOLDOVER_LIMIT -/
  limitHit : Bool := false
  /-- elapsed time corrected by F, in 2^-32 ns (R92) -/
  el    : Nat := 0
  ppsLast : Option Nat := none
  ppsMiss : Nat := 0
  ppsCap  : Nat := 0
  tsCap   : Nat := 0
  tsFull  : Bool := false
  ppsOut  : Bool := false
  /-- elapsed ns at which the pulse on PPSOUT ends (R94) -/
  ppsEnd  : Nat := 0
  /-- sum of the mean die temperature over all ticks; elapsed ns and sum at the start of the present 16 s, and the sums after each
  whole second since, latest first (R96) -/
  tInt    : Int := 0
  learnAt : Nat := 0
  tBase   : Int := 0
  tMarks  : List Int := []
  /-- holdover table; sum of squared differences and their number (R96) -/
  bins  : Tab HoBin := []
  rbSum : Nat := 0
  rbN   : Nat := 0
  /-- the last leap applied: UTC second of the end of day, and the change (R98, R100) -/
  leapAt : Option (Int × Int) := none
  /-- an inserted second is in progress: the end of day that it belongs to (R98, R100) -/
  leapIn : Option Int := none
  /-- sun events as last computed: local date, the nine instants, the bits above and below (R101, R103) -/
  sun   : List (Int × List Nat × Nat × Nat) := []
  /-- PTP: ports, the dataset of the present parent, the grandmaster last reported -/
  ports : Tab PtpPort := []
  parent : Option PtpDs := none
  gmId  : Nat := 0
deriving DecidableEq, Repr

/-! ### The action ledger (chapter 4) -/

/-- Retained status of one entry (R116, R122 to R125, R130). -/
structure LEnt where
  /-- consumed occurrence indices as intervals -/
  consumed : List (Nat × Nat) := []
  /-- occurrences counted toward COUNT -/
  used     : Nat := 0
  /-- starting point: an occurrence is considered when its instant lies strictly after it -/
  start    : Int := 0
  retired  : Bool := false
  lateLast : Bool := false
  guardedLast : Bool := false
  fallbackLast : Bool := false
  missed   : Nat := 0
  posted   : Nat := 0
deriving DecidableEq, Repr

/-- A wake requested for occurrence `idx` of an entry: the domains, and the lead in ns with which it was requested (R119). -/
structure LWake where
  entry : Nat
  idx   : Nat
  lead  : Nat
  doms  : List Nat
deriving DecidableEq, Repr

/-- An occurrence that is to post: entry (book × 256 + entry), index, and whether it is late. -/
structure Due where
  entry : Nat
  idx   : Nat
  late  : Bool
deriving DecidableEq, Repr

/-- The ledger (R105 to R134). -/
structure LdgS where
  /-- 0 OFF, 1 ARMED, 2 SUSPENDED (R121) -/
  st     : Nat := 0
  /-- armed books -/
  armed  : Nat := 0
  ents   : Tab LEnt := []
  /-- books that a request recorded while OFF arms or keeps unarmed (R121) -/
  reqArm : Nat := 0
  reqDis : Nat := 0
  /-- occurrences that wait to post: due or deferred in this cycle (R117) -/
  due    : List Due := []
  /-- how many at its front were deferred in an earlier cycle (R117) -/
  old    : Nat := 0
  /-- book-control actions of this cycle: code and TARGET (R114) -/
  ctl    : List (Nat × Nat) := []
  /-- entries committed in the cycle of their posting, with the new content, which applies from the cycle after it (R130) -/
  commits : List (Nat × Nat) := []
  posts  : Nat := 0
  late   : Nat := 0
  missed : Nat := 0
  deferred : Nat := 0
  guarded : Nat := 0
  /-- wakes requested for occurrences (R119) -/
  wakes  : List LWake := []
  /-- books whose image is being written, with the AUTO_ARM that the end of the write restores (R132) -/
  imgArm : List (Nat × Nat) := []
  /-- event codes that postings deliver to the runtime and that it has not handled, oldest first (R112) -/
  events : List Nat := []
deriving DecidableEq, Repr

/-! ### Converter units (chapters 5 and 6) -/

/-- One slice, held in the coefficient store (R142, R146). -/
structure SliceS where
  /-- 0 ACTIVE, 1 RESERVE, 2 RETIRED, 3 TRIAL -/
  st      : Nat
  pos     : Nat
  suspect : Bool := false
  off     : Int := 0
  gain    : Int := 0
  trim    : Int := 0
  sat     : Bool := false
  passes  : Nat := 0
  /-- mean die temperature at the last measurement, 0.01 °C -/
  temp    : Int := 2500
  /-- in a health window (R153) -/
  trial   : Bool := false
  /-- offset (LSB) and gain (0.001 %) corrections in force (R142) -/
  cOff    : Int := 0
  cGain   : Int := 0
  /-- powered time of its calibration window, ns (R142, R143) -/
  win     : Nat := 0
deriving DecidableEq, Repr

/-- What a unit converts: the regular entry in progress, or an injected request. -/
inductive Conv where
  | reg
  | inj (word : Nat)
deriving DecidableEq, Repr

/-- One converter unit beside its registers. -/
structure CvuS where
  slices  : List SliceS := [{ st := 0, pos := 0 }, { st := 0, pos := 1 },
    { st := 0, pos := 2 }, { st := 0, pos := 3 },
    { st := 0, pos := 4 }, { st := 0, pos := 5 },
    { st := 0, pos := 6 }, { st := 0, pos := 7 },
    { st := 1, pos := 15 }]
  /-- 0 ROTATING, 1 FOREGROUND, 2 OUT_OF_SERVICE (R147) -/
  mode    : Nat := 0
  /-- unit rate in force, S/s -/
  rate    : Nat := 20000000
  /-- foreground window: running; pending since (ns); start of the last one (TIME64) (R149) -/
  fgBusy  : Bool := false
  fgPend  : Option Nat := none
  fgLast  : Nat := 0
  rounds  : Nat := 0
  /-- REF_FAULT and consecutive readings for entry and exit (R138) -/
  refFault : Bool := false
  refRun  : Nat := 0
  /-- active calibration bank (R154) -/
  bank    : Nat := 0
  /-- the active bank is on trial; its health check has failed (R155) -/
  bankTrial : Bool := false
  bankFail : Bool := false
  /-- TIME64 from which the active bank applies (R155) -/
  bankAt  : Nat := 0
  /-- a pass is in progress or waits; it waits; it is late; its entry and the results delivered of it (R161, R167) -/
  on      : Bool := false
  waiting : Bool := false
  late    : Bool := false
  entry   : Nat := 0
  done    : Nat := 0
  /-- the entry was interrupted by an injected request (R172) -/
  mid     : Bool := false
  /-- a trigger is latched (R169) -/
  latched : Bool := false
  conv    : Option Conv := none
  /-- what the filter chain holds: the samples of the span of the last result (R170, R175) -/
  chain   : List Int := []
  /-- number of the pass's next sample, counted from 0 at its start; an interruption may have advanced it further (R167) -/
  samp    : Nat := 0
  gap     : Bool := false
  /-- injected requests; those that arrived after a window had been pending for 100 ms (R150, R171) -/
  queue   : List Nat := []
  heldQ   : List Nat := []
  /-- start of the previous pass (ns); the waiting pass waits for CONV_PACE (R471) -/
  passAt  : Option Nat := none
  paced   : Bool := false
  /-- counts since power-on -/
  missed  : Nat := 0
  restarted : Nat := 0
  lost    : Nat := 0
deriving DecidableEq, Repr

/-! ### Control engines (chapters 7 and 8) -/

/-- Kind of a run: ordinary, speculative, speculative and confirmed (R240), or a rerun after a void (R242). -/
inductive RunKind where
  | plain | spec | confirmed | rerun
deriving DecidableEq, Repr

/-- The slot states of R227. -/
inductive SlotSt where
  | disabled | armed | pending | running | spec | demoted
deriving DecidableEq, Repr

/-- One level of the loop stack (R188, R216): first and last address of the body and passes left, the present one
included. -/
structure LoopLvl where
  first : Nat
  last  : Nat
  left  : Nat
deriving DecidableEq, Repr

/-- A run in progress, or a speculative run that has reached END and waits for its sample instant (R188, R195, R235). -/
structure Run where
  slot  : Nat
  kind  : RunKind
  /-- PROG_ID of a library program, 0 for a loaded one -/
  lib   : Nat := 0
  dbase : Nat := 0
  sbase : Nat := 0
  slen  : Nat := 0
  w     : Vector W16 16 := Vector.replicate 16 0
  acc   : Vector W40 4 := Vector.replicate 4 0
  pt    : Vector (BitVec 10) 4 := Vector.replicate 4 0
  z     : Bool := false
  n     : Bool := false
  v     : Bool := false
  sat   : Bool := false
  pc    : Nat := 0
  loops : List LoopLvl := []
  cycles : Nat := 0
  /-- working copy of the state words (R195) -/
  work  : List Word := []
  /-- run escrow: ports written, with the last value, and held TRIG events in order (R236) -/
  out   : Tab W16 := []
  trigs : List Nat := []
  /-- per window port: the value IN returns and its invalid mark (R235, R239) -/
  ins   : List (W16 × Bool) := []
  /-- an ST was refused in this speculative run (R195) -/
  stRefused : Bool := false
  /-- an overrun since the run started (R245) -/
  overrun : Bool := false
  /-- END has been reached -/
  ended : Bool := false
  /-- probes that have captured in this run, and samples held with the escrow: probe and value (R255, R257) -/
  probed  : List Nat := []
  samples : List (Nat × W16) := []
deriving DecidableEq, Repr

/-- Held escrow (R236): ports, TRIG events, and status and sequence number of the run for a probe at release (R256). -/
structure HeldEsc where
  out    : Tab W16
  trigs  : List Nat
  status : Nat
  seq    : Nat
deriving DecidableEq, Repr

/-- What a PENDING slot waits for (R227, R229). -/
inductive PendKind where
  | plain | spec | rerun
deriving DecidableEq, Repr

/-- One slot; history, escrow, misses, demotion and SEQ are held in retained engine memory (R249). -/
structure SlotS where
  st     : SlotSt := .disabled
  pend   : PendKind := .plain
  /-- the last two latched samples of the window, latest first (R238) -/
  hist   : List (List (W16 × Bool)) := []
  tPrev  : Option Nat := none
  held   : Option HeldEsc := none
  miss   : Nat := 0
  seq    : Nat := 0
  satLast : Bool := false
  cause  : Nat := 0
  port   : Nat := 0
  /-- values latched at the sample instant for the rerun; none: the rerun latches at its start -/
  rerunIns : Option (List (W16 × Bool)) := none
  /-- a speculative run that has reached END before its sample instant -/
  waiting : Option Run := none
  /-- SCFG, SKEEP and the eight SAFE words as the latest trigger found them; empty before one (R225) -/
  lat     : List Word := []
deriving DecidableEq, Repr

/-- The swap record of an engine beside its dictionary entries (R250 to R252). -/
structure SwapS where
  /-- 0 idle, 1 pending, 2 on trial, 3 committed, 4 rolled back -/
  st      : Nat := 0
  slot    : Nat := 0
  code    : Nat := 0
  oldProg : Nat := 0
  newProg : Nat := 0
  at_     : Nat := 0
  /-- the health check has failed; the next boundary rolls back -/
  failed  : Bool := false
deriving DecidableEq, Repr

/-- One engine beside its registers. -/
structure EngS where
  run   : Option Run := none
  slots : Tab SlotS := []
  swap  : SwapS := {}
  /-- last released value per OUT port (R232 class 2) -/
  outs  : Tab W16 := []
  /-- slot and program counter of the run last ended (CE_STAT) -/
  lastSlot : Nat := 0
  lastPc   : Nat := 0
  /-- TIME64 captured for CE_TSTART; the first sample after enable is still to come -/
  tstart : Nat := 0
  tfirst : Bool := false
  /-- counts since power-on: settles, voids, and overruns per slot -/
  settled : Nat := 0
  voided  : Nat := 0
  overruns : Tab Nat := []
deriving DecidableEq, Repr

/-- The control engine array. -/
structure CeaS where
  eng    : Tab EngS := []
  /-- engine values 0–1,023 (R233) -/
  vals   : Tab W16 := []
  /-- host inputs written since the last start (R232 class 6) -/
  hostIn : List Nat := []
  /-- latest VALUE16 and INVALID flag per converter source (R232 class 1) -/
  conv   : Tab (W16 × Bool) := []
deriving DecidableEq, Repr

/-! ### Postings that wait for a domain (R17, R118) -/

/-- A part of a posting held at a target whose domain is not ready: an engine release, or a posting's action; and a
dictionary write whose action needs the block. -/
inductive HeldPart where
  /-- value released on a port -/
  | release (eng port : Nat) (v : W16)
  /-- an action of R112 late under FIRE_LATE: code, TARGET, VALUE, entry and occurrence index; `first` marks one part of
  each occurrence -/
  | action (code target value entry idx : Nat) (first : Bool)
  /-- the same of an entry whose content has been replaced since; `t` is the TIME64 that its posting names (R130) -/
  | old (code target value entry idx t : Nat) (first : Bool)
  /-- a dictionary write whose action waits for the domain of its block (R381) -/
  | write (sess idx sub len v : Nat)
deriving DecidableEq, Repr

/-! ### Zones, lighting and day books (chapter 9) -/

/-- A threshold condition, and consecutive evaluations toward its other state (R265). -/
structure Cond where
  on  : Bool := false
  cnt : Nat := 0
deriving DecidableEq, Repr

/-- One zone beside its entries (R261 to R273, R279). -/
structure ZoneS where
  /-- it was enabled at the last evaluation -/
  seen : Bool := false
  /-- excluded sources, bit k for SRC_(k + 1); consecutive disagreements and readmission counts per source (R264) -/
  excl : Nat := 0
  dis  : Tab Nat := []
  back : Tab Nat := []
  lost : Bool := false
  comfort : Cond := {}
  frost : Cond := {}
  window : Cond := {}
  condense : Cond := {}
  /-- ns of the last presence (R268) -/
  presAt : Option Nat := none
  mode : Nat := 0
  /-- 0 LOOP, 1 HOST, 2 TABLE, 3 MANUAL (R270) -/
  outSrc : Nat := 2
  /-- track word in force; none for no tracking (R271); the hold of R272 is in force -/
  trk  : Option Int := none
  hold : Bool := false
deriving DecidableEq, Repr

/-- One lighting group (R285 to R287): scheduled and commanded state, and the state source. -/
structure LightS where
  sched : Bool := false
  on    : Bool := false
  src   : Nat := 0
deriving DecidableEq, Repr

/-- The runtime's floor functions (R260 to R289). -/
structure FloorS where
  zones  : Tab ZoneS := []
  lights : Tab LightS := []
  /-- ns of the last heartbeat and consecutive heartbeats (R288) -/
  beat   : Option Nat := none
  beats  : Nat := 0
  /-- the local date of the active day book, and of the one whose swap waits: book and date (R283) -/
  day    : Option Int := none
  next   : Option (Nat × Int) := none
  /-- a change asks for recompilation (R283) -/
  dirty  : Bool := false
  /-- latch groups' restages that wait, as lighting groups (R286) -/
  restage : List Nat := []
  /-- capture counts of the GPIO at the last evaluation (R268) -/
  caps   : Tab Nat := []
deriving DecidableEq, Repr

/-! ### Motor and fan drive (chapter 10) -/

/-- One motor channel beside its registers (R290 to R299, R309). -/
structure MotorS where
  /-- applied PER, DT, FLT_FILT, TRIG_OFS and duties A, B, C (R290, R293) -/
  per      : Nat := 6250
  dt       : Nat := 40
  filt     : Nat := 4
  trigOfs  : Nat := 0
  duty     : List Nat := [0, 0, 0]
  /-- PER and duties of the period before the present one; none in the first after the counter's start (R292) -/
  prev     : Option (Nat × List Nat) := none
  /-- a duty has been written since the previous valley (R297) -/
  written  : Bool := false
  /-- loop watchdog: it has begun, and periods without a duty write (R297) -/
  wdogOn   : Bool := false
  wdogCnt  : Nat := 0
  /-- consecutive valleys of the decision of R298 -/
  valleys  : Nat := 0
  /-- fraction of SPDCMD carried by the accumulator, in LSB / 10^8 (R299) -/
  frac     : Nat := 0
  /-- COAST has not yet passed since the bridge was last turned off (R298) -/
  coast    : Bool := false
  /-- SPDCMD has reached 0 in STOPPING (R298) -/
  atZero   : Bool := false
  /-- pending copies of RUN and TARGET (R309) -/
  pendRun  : Nat := 0
  pendTgt  : Nat := 0
  /-- RUN and TARGET that were applied when the domain turned off, of a channel with a latch group (R56, R309) -/
  offRun   : Nat := 0
  offTgt   : Nat := 0
  /-- the attempt count is 16, which ATTEMPT cannot hold (R298) -/
  more     : Bool := false
deriving DecidableEq, Repr

/-- One fan channel beside its registers (R302 to R306, R309). -/
structure FanS where
  /-- duty that takes effect at the next period start (R302) -/
  next     : Nat := 0
  trim     : Int := 0
  /-- complete revolutions since pulses resumed, at most 2 (R303) -/
  revs     : Nat := 0
  pendTgt  : Nat := 0
  /-- the TARGET that was applied when the domain turned off, of a channel with a latch group (R56, R309) -/
  offTgt   : Nat := 0
  /-- the attempt count is 16, which ATTEMPT cannot hold (R305) -/
  more     : Bool := false
  /-- learning: updates per band, the band of the last second, and for how many seconds the duty has been in it (R306) -/
  bandN    : Tab Nat := []
  band     : Nat := 0
  bandSecs : Nat := 0
deriving DecidableEq, Repr

/-- One drive: target and ageing (R307 to R313). Ratios are held in units of 2^-40. -/
structure DriveS where
  target  : Int := 0
  source  : Nat := 0
  /-- speeds of the last ten seconds, latest first; none marks an invalid speed -/
  speeds  : List (Option Nat) := []
  learning : Bool := false
  sums    : Tab Nat := []
  cnts    : Tab Nat := []
  a       : Int := 0x10000000000
  warn    : Bool := false
  alarm   : Bool := false
  warnCnt : Nat := 0
  alarmCnt : Nat := 0
deriving DecidableEq, Repr

/-- The motor drive unit. -/
structure MduS where
  motors : Tab MotorS := []
  fans   : Tab FanS := []
  drives : Tab DriveS := []
  /-- latch groups to apply at the end of this cycle (R309) -/
  latch  : Nat := 0
  /-- channels whose counter has restarted in this cycle (R290) -/
  starts : Nat := 0
  /-- balls MFLT whose level is low (R296) -/
  mflt   : Nat := 0
deriving DecidableEq, Repr

/-! ### Actuators, GPIO and I²C (chapter 11) -/


/-- One I²C controller beside its registers (R330 to R334). -/
structure I2cS where
  round   : Nat := 0
  /-- entries of the round still to poll -/
  left    : List Nat := []
  cur     : Option Nat := none
  /-- waiting between write and read (R332) -/
  waiting : Bool := false
  /-- the first round after EN has begun (R330) -/
  onceDone : Bool := false
  /-- consecutive failed rounds per entry; entries whose readings are lost -/
  fails   : Tab Nat := []
  lost    : List Nat := []
deriving DecidableEq, Repr

/-- Actuator and I/O unit. -/
structure AioS where
  /-- pending copies (R321) -/
  pendAct  : Nat := 0
  pendGpio : Nat := 0
  pendDrv  : Tab Nat := []
  pendDac  : Tab Nat := []
  /-- latch groups to apply at the end of this cycle (R322) -/
  latch    : Nat := 0
  /-- outputs in a pulse (R318) -/
  pulse    : Nat := 0
  /-- accepted levels of the balls (1 high), capture counts and times, held in AON (R325, R326) -/
  gpio     : Nat := 0
  capN     : Tab Nat := []
  capT     : Tab Nat := []
  /-- captures since power-on (GPIO_n COUNT) -/
  capAll   : Tab Nat := []
  /-- levels that the retention latches hold while the domain is off: ACT, DAC codes, GPIO outputs, GPIO directions (R493) -/
  held     : Option (Nat × Tab Nat × Nat × Nat) := none
  i2c      : Tab I2cS := []
deriving DecidableEq, Repr

/-- What a bus write of this cycle to an MDU or AIO register found and left: its address, and the registers and the states of both
blocks before and after it (R19). -/
structure IoBack where
  addr  : Nat
  regs0 : Tab Word
  regs1 : Tab Word
  mdu0  : MduS
  mdu1  : MduS
  aio0  : AioS
  aio1  : AioS
deriving DecidableEq, Repr

/-- A sample on its way to a trace ring (R256). -/
structure TraceSample where
  slot   : Nat
  status : Nat
  seq    : Nat
  val    : W16
deriving DecidableEq, Repr

/-- WR and FULL of a trace ring at the start of this cycle, and the samples written since, with their probes (R256). -/
structure TraceBack where
  wr   : Nat
  full : Nat
  l    : List (Nat × TraceSample)
deriving DecidableEq, Repr

/-- What one clock cycle has seen so far, for the coincidence rules R9 and R19. Emptied when the cycle ends. -/
structure CycleS where
  /-- posted register bits: address, mask and value -/
  posted : List (Nat × Word × Word) := []
  /-- data-memory words of engines that a bus write of this cycle changed: value before and bits written (R192) -/
  data0  : Tab (W16 × W16) := []
  /-- bus writes: address, data, initiator, session, unprivileged -/
  wrote  : List (Nat × Word × Nat × Nat × Bool) := []
  /-- W1C bits that hardware set -/
  hwSet  : List (Nat × Word) := []
  /-- values that registers held before the bus writes of this cycle (R19) -/
  before : Tab Word := []
  /-- bus writes of this cycle to MDU and AIO registers, latest first (R19) -/
  ioBack : List IoBack := []
  /-- phase duties written in this cycle, as 4 × channel + phase, with their values before it (R293) -/
  duty0  : Tab Nat := []
  /-- violations of this cycle, stored or lost, in the order of R35 -/
  viols  : List AvEntry := []
  /-- RC fields that hardware changed, with the value that a read returns and the sum of the changes since -/
  rcOld  : List (Fld × Nat × Nat) := []
  /-- postings applied (R117) -/
  posts  : Nat := 0
  /-- slots triggered in this cycle, as 16 × engine + slot (R228) -/
  trigged : List Nat := []
  /-- engine OUT ports released in this cycle, with value and invalid mark before (R236) -/
  portOld : Tab (W16 × Bool) := []
  /-- triggers and escrow postings, as 16 × engine + slot, that met a run that may still end in this cycle; slots whose ARM was written
  in it (R228, R237, R247) -/
  ceOver  : List Nat := []
  cePost  : List Nat := []
  ceArm   : List Nat := []
  /-- triggers, as 16 × engine + slot, of which the whole effect waits for the end of the cycle: sample instants and swap boundaries; and what
  the triggers of this cycle have counted, as key and source (R228) -/
  ceTrig  : List Nat := []
  ceCnt   : List (Nat × Nat) := []
  /-- trace samples that engines have written in this cycle (R256) -/
  trace   : Tab TraceBack := []
  /-- units triggered in this cycle; those whose pass runs, with whether the trigger was held; those whose pass has ended in it (R169) -/
  cvuTrig : List Nat := []
  trigRun : List (Nat × Bool) := []
  passEnd : List Nat := []
  /-- units whose pass has begun in this cycle, with the start of their previous one (R169) -/
  passNew : List (Nat × Option Nat) := []
  /-- by unit, the requests that bus writes have queued in this cycle, and whether the first of them is being converted (R171) -/
  injBus  : Tab (Nat × Bool) := []
  /-- rings that an overwrite advanced in this cycle, as 16 × unit + stream; RD before a consumer's write in it, and the value written
  (R184) -/
  ringAdv : List Nat := []
  ringRd  : Tab (Nat × Nat) := []
  /-- cancellations and requests of TX buffers, as 32 × channel + buffer, and the buffers that a cancellation of this cycle has taken from
  PENDING, which a SOF of this cycle still chooses (R348) -/
  canCan  : List Nat := []
  canReq  : List Nat := []
  canLate : List Nat := []
  /-- VLAN entries as they stood before a write of this cycle (R366); ports that went DOWN in it (R373) -/
  vlan0   : Tab Word := []
  netDown : List Nat := []
  /-- domains that a wake request has reached in this cycle (R54) -/
  woken   : List Nat := []
  /-- GPIO captures of this cycle: count and time of the input before the first of them (R326) -/
  cap0   : Tab (Nat × Nat) := []
  /-- GPIO inputs (1 active) and ledger flags at the start of this cycle, once one has changed (R111) -/
  gpio0  : Option Nat := none
  flags0 : Option Nat := none
  /-- state of the time base and the release at the start of this cycle; none before the first cycle has ended (R111) -/
  tb0    : Option TbState := none
  rel0   : Option Bool := none
deriving DecidableEq, Repr

/-! ### CAN channels (chapter 12) -/

/-- A HUSH that awaits its answer (R357): frame contents, instant of the request, end of its transmission, HUSH_ACK of the
target, and whether another frame has been seen in the silence window. -/
structure HushS where
  target  : Nat
  dur     : Nat
  release : Bool
  req     : Nat
  sent    : Option Nat := none
  acked   : Bool := false
  noisy   : Bool := false
deriving DecidableEq, Repr

/-- A Hegus message being received from a node (R360). -/
structure HegRx where
  node  : Nat
  total : Nat
  data  : List Nat
  s     : Nat := 1
deriving DecidableEq, Repr

/-- A Hegus message to a node (R360). `st`: 0 the next frame can be sent, 1 a frame is in buffer 30, 2 a FLOW is awaited;
`blk` frames left before the next FLOW, none for no limit. -/
structure HegTx where
  node : Nat
  msg  : List Nat
  pos  : Nat := 0
  s    : Nat := 0
  st   : Nat := 0
  blk  : Option Nat := none
deriving DecidableEq, Repr

/-- One CAN channel beside its registers and its message RAM. -/
structure CanS where
  /-- buffer being transmitted, 32 for the clearing-house buffer; it has been cancelled since its SOF (R348) -/
  act     : Option Nat := none
  cancel  : Bool := false
  /-- MODE has been written 0 and the frame in progress has not ended (R342) -/
  stop    : Bool := false
  /-- present rate candidate and consecutive good frames (R344) -/
  cand    : Nat := 0
  good    : Nat := 0
  /-- error counters and the instants of bus-offs (R354) -/
  tec     : Nat := 0
  rec_    : Nat := 0
  boTimes : List Nat := []
  /-- per queue: RAM slots of the frames held, head first, and the owner of the head lock (R352, R353) -/
  q0      : List Nat := []
  q1      : List Nat := []
  lock0   : Option Nat := none
  lock1   : Option Nat := none
  seq     : Nat := 0
  /-- clearing-house frames to send, first first: identifier and data (R356) -/
  chq     : List (Nat × List Nat) := []
  beaconSeq : Nat := 0
  hush    : Option HushS := none
  /-- consecutive windows above BABBLE_LOAD (R357) -/
  babble  : Nat := 0
  /-- instants of intrusions of the last 100 ms; CAN_INTRUSION was raised in this window (R355, R358) -/
  intr    : List Nat := []
  intrSeen : Bool := false
  /-- instants of cuts, and the cause of the last interruption (R358, R362) -/
  cuts    : List Nat := []
  segCause : Nat := 0
  /-- identifiers (bit 29: extended) of frames with errors and their instants (R350) -/
  dups    : List (Nat × Nat) := []
  /-- Hegus transport: transfers, FLOW frames to send, and messages handed to the Hegus layer (node, bytes), latest first -/
  rx      : List HegRx := []
  tx      : List HegTx := []
  flows   : List (Nat × List Nat) := []
  inbox   : List (Nat × List Nat) := []
deriving DecidableEq, Repr

/-! ### Field network switch (chapter 13) -/

/-- A learned address (R364). -/
structure MacEnt where
  addr : Nat
  port : Nat
  seen : Nat
deriving DecidableEq, Repr

/-- A frame in a queue: it occupies shared buffer space, or the guarantee of its queue (R367). -/
structure QFrame where
  frame  : NetFrame
  shared : Bool := false
  /-- the VLAN in which it travels -/
  vid    : Nat := 0
  /-- for a PTP message of the device: kind and content (R87) -/
  msg    : Option (Nat × List Nat) := none
deriving DecidableEq, Repr

/-- The switch beside its registers, and the addressing of R376. -/
structure NetS where
  macs    : List MacEnt := []
  /-- queues by 8 × port + class, first frame first -/
  queues  : Tab (List QFrame) := []
  /-- policer buckets by 8 × port + class: content in 10^-9 bit, and the instant it was computed (R368) -/
  buckets : Tab (Nat × Nat) := []
  /-- broadcast limiter per port: second and frames admitted in it -/
  bcast   : Tab (Nat × Nat) := []
  /-- loop check per port: the last detection; periods without its own frame; frames seen in this period (R375) -/
  loopT   : Tab Nat := []
  loopMiss : Tab Nat := []
  loopHit : Nat := 0
  /-- unanswered DHCPv4 attempts; the link-local address under probing, as four bytes (R376) -/
  dhcp    : Nat := 0
  llCand  : Nat := 0
  /-- IPv6 addresses in conflict, of which no further attempt is made: bit 0 link-local, bit 1 global (R376) -/
  v6Stop  : Nat := 0
  /-- peers of the IP interface and the MAC addresses their frames came from, latest first -/
  nbrs    : List (Nat × Nat) := []
deriving DecidableEq, Repr

/-! ### Hegus sessions and the host interface (chapter 14) -/

/-- The transports of R396. -/
inductive Transport where
  | spi | udp | can
deriving DecidableEq, Repr

/-- A response (R384, R394). -/
structure Resp where
  op     : Nat
  req    : Nat
  status : Nat
  detail : Nat := 0
  body   : Octets := ⟨0, 0⟩
deriving DecidableEq, Repr

/-- A subscription (R391). -/
structure Subscription where
  id       : Nat
  idx      : Nat
  sub      : Nat
  mode     : Nat
  period   : Nat
  deadband : Nat
  /-- value last notified; none before the first NOTIFY -/
  last     : Option Octets := none
  /-- dropped values carried into the next NOTIFY (R392) -/
  carried  : Nat := 0
  /-- SEQ of the next event record to send, in mode EVENTS -/
  next     : Nat := 0
deriving DecidableEq, Repr

/-- A queued NOTIFY (R392). -/
structure Notification where
  sub       : Nat
  status    : Nat
  coalesced : Nat
  time      : Nat
  value     : Octets
deriving DecidableEq, Repr

/-- A block transfer (R393); for a read `data` is the value, for a write the bytes received. -/
structure BlockXfer where
  id    : Nat
  idx   : Nat
  sub   : Nat
  write : Bool
  total : Nat
  data  : Octets := ⟨0, 0⟩
  last  : Nat
deriving DecidableEq, Repr

/-- One Hegus session (R396, R383, R395, R399). -/
structure Sess where
  num     : Nat
  /-- tells it from other sessions of the same number -/
  sid     : Nat := 0
  via     : Transport
  role    : Nat
  /-- source: IP address and port, CAN node, or 0 for the host SPI -/
  peer    : Nat := 0
  /-- the UDP port at which its handshake arrived (R397) -/
  lport   : Nat := 0
  /-- ns of the last message from the peer -/
  last    : Nat := 0
  /-- the 8 most recent responses, latest first -/
  cache   : List Resp := []
  /-- requests still being executed -/
  open_   : List Nat := []
  /-- per-session entries by index × 256 + sub (R383) -/
  vals    : Tab Nat := []
  subs    : List Subscription := []
  queue   : List Notification := []
  xfers   : List BlockXfer := []
  /-- authenticated on the host SPI (R398) -/
  authed  : Bool := false
  /-- AUTH_BEGIN in progress: role asked, certificate, and the two bodies that the proof signs (R398) -/
  authing : Option (Nat × Octets × List Nat) := none
  /-- sequence number of the next NOTIFY (R384) -/
  seq     : Nat := 0
deriving DecidableEq, Repr

/-- A timed request (R389, R390). States as TIMED STATE; `late` is its bit 7. -/
structure TimedReq where
  id     : Nat
  time   : Nat
  role   : Nat
  sess   : Nat
  /-- the session that was accepted, and its per-session values then -/
  sid    : Nat := 0
  vals   : Tab Nat := []
  items  : List WItem
  state  : Nat := 1
  late   : Bool := false
  detail : Nat := 0
deriving DecidableEq, Repr

/-- A message that the device has formed and handed to its network interface. -/
structure Sent where
  kind : Nat
  dest : Nat
  body : List Nat
  /-- the class in which it travels, where the manual names one (R367, R397, R405) -/
  cls  : Option Nat := none
deriving DecidableEq, Repr

/-- Hegus access (R382 to R408). -/
structure HegS where
  sessions : List Sess := []
  /-- per source: credit in 10^-9 token, instant of the last refill, ERR_LIMIT answers and the start of the second they
  fall in (R399) -/
  buckets  : Tab (Nat × Nat × Nat × Nat) := []
  /-- per source: instants of failed authentications; ends of lockouts; ClientHello instants -/
  fails    : Tab (List Nat) := []
  lockout  : Tab Nat := []
  hellos   : Tab (List Nat) := []
  /-- the last response sent: session and response -/
  resp     : Option (Nat × Resp) := none
  /-- host SPI: frame key, frame counters, consecutive tag failures, frames held for the host -/
  key      : Option Nat := none
  rxCtr    : Nat := 0
  txCtr    : Nat := 0
  tagFails : Nat := 0
  /-- each with the key of its tag, none without one -/
  outq     : List (Option Nat × Octets) := []
  /-- the receive buffer holds a frame of this cycle (R402) -/
  rxFull   : Bool := false
  /-- frame of the last transfer: what the device sent -/
  lastOut  : Octets := ⟨0, 0⟩
  timed    : List TimedReq := []
  nextTid  : Nat := 1
  /-- PUBLISH counters: publication sequence numbers and key-set counters (R405) -/
  pubSeq   : Tab Nat := []
  pubCtr   : Tab Nat := []
  /-- datagrams, frames and messages sent since the last reset, latest first, at most 64 kept -/
  sent     : List Sent := []
  limited  : Nat := 0
  /-- sessions opened since the restart -/
  sids     : Nat := 0
  /-- the timed request being applied: its session, the role and the per-session values of its acceptance (R389) -/
  tctx     : Option (Nat × Nat × Tab Nat) := none
  /-- single writes whose action waits for a domain: session, index, sub-index, REQ_ID, opcode; and their answers (R381) -/
  heldAcks : List (Nat × Nat × Nat × Nat × Nat) := []
  acks     : List (Nat × Resp) := []
deriving DecidableEq, Repr

/-! ### Non-volatile store (chapter 15) -/

/-- A two-copy record: payload and SEQ of each copy; none marks a copy whose CRC does not match (R428). -/
structure TwoCopy where
  a : Option (Nat × Nat) := some (0, 1)
  b : Option (Nat × Nat) := some (0, 0)
deriving DecidableEq, Repr

/-- A running WRITE or TXN_COMMIT transaction (R416, R419): operation, home pages, the instants (ns) at which the header and
the commit point fall; for a WRITE the first page still to do, the transactions completed, the range that it was given, and the
journal pages of a transaction that stays open beside it. -/
structure NvRun where
  op     : Nat
  homes  : List Nat
  hdrAt  : Nat
  commitAt : Nat
  next   : Nat := 0
  txns   : Nat := 0
  addr   : Nat := 0
  len    : Nat := 0
  sofs   : Nat := 0
  kept   : Mem := []
deriving DecidableEq, Repr

/-- Journal control (R418): TXN_SEQ, HOME pages, PCRC of their journal pages, and whether HCRC, COMMIT and DONE are valid. Its bytes are
those of `journalCtl`. -/
structure Journal where
  seq   : Nat := 0
  homes : List Nat := []
  pcrc  : List Nat := []
  ok    : Bool := true
  commit : Bool := true
  done  : Bool := true
deriving DecidableEq, Repr

/-- What the runtime and the device keep in the shadow area beside the bytes that bus writes put there (R390, R96, R306,
R312): SHD entry values, pending timed requests, the holdover table, ageing and tachometer bands. -/
structure ShadowImg where
  dict  : Tab Nat := []
  timed : List TimedReq := []
  bins  : Tab HoBin := []
  rbSum : Nat := 0
  rbN   : Nat := 0
  drives : Tab DriveS := []
  bands : Tab Word := []
deriving DecidableEq, Repr

/-- A shadow descriptor with a valid DCRC, and the image it describes (R424). -/
structure ShadowDesc where
  seq   : Nat
  time  : Nat
  cause : Nat
  img   : ShadowImg
deriving DecidableEq, Repr

/-- The NVS beside its registers. -/
structure NvsS where
  /-- the array from page 0x010 -/
  arr    : Mem := []
  jc     : Journal := {}
  run    : Option NvRun := none
  /-- home pages of the open transaction; page i lies in journal page i -/
  open_  : Option (List Nat) := none
  /-- seal counters, tallies, region table (BASE + LIMIT × 2^16 + EN × 2^32), verifiers by 2 × region + kind (0 none), failure
  counts -/
  seals  : Tab TwoCopy := []
  tallies : Tab TwoCopy := []
  regions : Tab TwoCopy := []
  verif  : Tab TwoCopy := []
  fails  : Tab TwoCopy := []
  /-- unlocks: session (0 the owner of the interface), region, kind -/
  unlk   : List (Nat × Nat × Nat) := []
  /-- lockout ends (ns) by region -/
  lock   : Tab Nat := []
  descA  : Option ShadowDesc := none
  descB  : Option ShadowDesc := none
  /-- save-start marker (R424) -/
  marker : Option Nat := none
  /-- a save or checkpoint in progress, captured at its start: cause, TIME64 and image -/
  saving : Option ShadowDesc := none
  /-- a checkpoint is to start when no command is running -/
  ckptPend : Bool := false
  /-- bus writes to the shadow area that wait for a checkpoint: address, size, data (R426) -/
  shdWait : List (Nat × Nat × Nat) := []
  /-- window reads that wait for the domain: initiator, offset, size (R53) -/
  winWait : List (Nat × Nat × Nat) := []
  /-- ns of the last NV_LOWPWR event -/
  lowAt  : Option Nat := none
  /-- UNLOCK or SET_PWD that waits for the Teller (R459): operation, region, kind, staging bytes 0 to 15 and 16 to 31 -/
  pwd    : Option (Nat × Nat × Nat × Nat × Nat) := none
deriving DecidableEq, Repr

/-! ### Security (chapter 16) -/

/-- An activation record beside its entries (R455 to R457). -/
structure ActS where
  /-- 0 idle, 1 pending, 2 on trial, 3 committed, 4 rolled back -/
  st      : Nat := 0
  at_     : Nat := 0
  /-- its entry of book 15 -/
  entry   : Option Nat := none
  /-- number of the health condition that failed; 0 none -/
  failed  : Nat := 0
  /-- the window has ended and the group has not -/
  ended   : Bool := false
  confirmed : Bool := false
  /-- role and session that wrote ACTIVATE_AT (R460) -/
  role    : Nat := 0
  sess    : Nat := 0
  version : Nat := 0
  sealNo  : Nat := 255
  /-- slot, book or identity replaced -/
  old     : Nat := 0
  /-- reverse set of a configuration set, held in NV (R460) -/
  rev     : List WItem := []
deriving DecidableEq, Repr

/-- A runtime handover in progress (R458): the stage of its table, the slot it moves to, whether it is a rollback, the half
that moves first, and whether it moves that half only. -/
structure Handover where
  stage : Nat
  slot  : Nat
  back  : Bool := false
  first : Nat := 1
  only  : Bool := false
deriving DecidableEq, Repr

/-- A request that waits for fresh randomness (R437): session, REQ_ID, opcode, its arguments, and the ns at which it came. -/
structure Waiting where
  /-- session; 0 for a handshake, a timed request or a configuration set -/
  sess : Nat
  req  : Nat
  op   : Nat
  args : List Nat
  at_  : Nat
  /-- it waits for the NV store, which the debug port owns (R435) -/
  nv   : Bool := false
deriving DecidableEq, Repr

/-- The security unit, its OTP and the Vault (R437 to R461). -/
structure SecS where
  /-- OTP: life cycle, owner key hashes by slot, revoked Dalori keys, flag word of certified mode (0, 1 set, 2 left) -/
  lcs      : Nat := 0
  owner    : Tab Nat := []
  revoked  : Nat := 0
  certOtp  : Nat := 0
  /-- certified mode in force -/
  certified : Bool := false
  /-- ns at which a write of CERTIFIED_MODE starts a full restart -/
  restartAt : Option Nat := none
  /-- the Vault erase on entry to RMA has completed; keys must be set anew (R442) -/
  erased   : Bool := false
  newKeys  : Bool := false
  /-- the operational key, once the first OPERATIONAL_CSR write has drawn it (R440) -/
  opKey    : Option Nat := none
  /-- debug port: an authorised session is open; challenge; refused tokens since the last reset (R443) -/
  dbgOpen  : Bool := false
  nonce    : Nat := 0
  refused  : Nat := 0
  /-- instants (ns) of security resets for tamper (R442) -/
  tampers  : List Nat := []
  /-- requests that wait for randomness (R437) -/
  waits    : List Waiting := []
  /-- slots that run: the Teller's and those of the two halves; SCU_BOOTSTAT shows them while SEC is powered (R31, R448) -/
  slotT    : Nat := 0
  slotA    : Nat := 0
  slotB    : Nat := 0
  /-- the Teller restarts (R459) -/
  tellerBusy : Bool := false
  /-- recovery: the slot that failed (0 Teller, 1 runtime), and the transport (0 host SPI, 1 TL0) (R450) -/
  recovery : Option (Nat × Nat) := none
  /-- stops of each half after SEC_BLOCK_FAIL (R449) -/
  blockStops : Tab Nat := []
  acts     : Tab ActS := []
  handover : Option Handover := none
  /-- parts whose trial has failed and whose group does not know it yet (R457) -/
  failing  : List Nat := []
  /-- staged container per part: VERSION and SEAL; PAYLOAD_HASH per part loaded from a container, with the bank × 0x1000 for a calibration set (R451) -/
  staged   : Tab (Nat × Nat) := []
  hashes   : Tab Nat := []
  /-- ns of the last update of TIME_FLOOR (R452) -/
  floorAt  : Option Nat := none
deriving DecidableEq, Repr

/-! ### Thermal management (chapter 17) -/

/-- A critical shutdown in progress or past (R472, R473). -/
structure ThmS where
  /-- disagreement and readmission counts per sensor (R463) -/
  dis   : Tab Nat := []
  back  : Tab Nat := []
  /-- consecutive skipped rounds (R465) -/
  skipped : Nat := 0
  /-- ABOVE_1 to ABOVE_4 and ABOVE_CRIT with their counts (R466) -/
  above : Tab Cond := []
  /-- ns at which HOLD ends (R467) -/
  hold  : Option Nat := none
  /-- instants of critical shutdowns (ns), latest first; the device stays off until a reset (R473) -/
  crits : List Nat := []
  stay  : Bool := false
  /-- consecutive rounds with H below THR_CRIT − 2,000 (R473); a pin reset waits for them -/
  cool  : Nat := 0
  pinWait : Bool := false
  /-- the mean has been valid -/
  shown : Bool := false
deriving DecidableEq, Repr

/-! ### The device -/

/-- Everything the manual gives the device. -/
structure Dev where
  /-- ns since power-on: the AON timer and the elapsed time of R477 -/
  now   : Nat := 0
  /-- registers that differ from their reset values, by privileged address -/
  regs  : Tab Word := []
  /-- dictionary values that differ from their defaults, by index × 256 + sub -/
  dict  : Tab Nat := []
  /-- SRAM 0x2000_0000–0x203F_FFFF (R27) -/
  sram  : Mem := []
  /-- ring words marked invalid (R33) -/
  badWords : List Nat := []
  /-- peripheral memory windows 0x4100_0000–0x41FF_FFFF (R32) -/
  win   : Mem := []
  /-- external flash, by offset; holds the complement of each byte, so that an erased byte (0xFF) is unlisted -/
  flash : Mem := []
  /-- size of the fitted flash device in bytes (R28) -/
  flashSize : Nat := 0x4000000
  av    : AvS := {}
  obs   : ObsS := {}
  evLog : List EvRec := []
  evSeq : Nat := 0
  cyc   : CycleS := {}
  pwr   : PwrS := {}
  /-- latched high words of register pairs, by reader key × 2^32 + address (R80, R40) -/
  tlatch : Tab Nat := []
  /-- value that the last register read, dictionary read or mirror access returned -/
  bus   : Nat := 0
  /-- uses of free values so far (this model's own counter) -/
  free  : Nat := 0
  xtf   : XtfS := {}
  ldg   : LdgS := {}
  cvu   : Tab CvuS := []
  cea   : CeaS := {}
  /-- held parts by domain, in posting order -/
  held  : List (Nat × HeldPart) := []
  floor : FloorS := {}
  /-- ns of the last update of each source of R261, by class × 65536 + index -/
  stamps : Tab Nat := []
  mdu   : MduS := {}
  aio   : AioS := {}
  can   : Tab CanS := []
  net   : NetS := {}
  heg   : HegS := {}
  nvs   : NvsS := {}
  sec   : SecS := {}
  thm   : ThmS := {}
deriving DecidableEq, Repr

/-- The state of the machine: the device and the queue of waiting commands, first in, first out. -/
structure State where
  dev     : Dev := {}
  pending : List Instr := []
deriving DecidableEq, Repr

/-- The device right after a power-on reset, with VAON good and step 1 of the power-up order running (R62, R67). -/
def State.reset : State := {}

end Sys2Proof.Machine
end

