-- ==== Sys2Proof/Machine/CeIsa.lean ====
section
/-! DEFINITION. The instruction set of the control engines as functions on a run and its data memory (chapter 7): operand
forms, flags, saturation, the word check and the effect of every instruction word. -/

namespace Sys2Proof.Machine

/-! ### Instruction words (R200, R218) -/

/-- The fields of an instruction word. -/
structure CeWord where
  op  : Nat
  d   : Nat
  s   : Nat
  t   : Nat
  imm : Nat
deriving DecidableEq, Repr

/-- The fields of a 32-bit word (R200). -/
def ceFields (w : Nat) : CeWord :=
  ⟨w / 0x4000000 % 64, w / 0x400000 % 16, w / 0x40000 % 16, w / 0x4000 % 16, w % 0x4000⟩

/-- The word of given fields (R200). -/
def ceEncode (i : CeWord) : Nat :=
  i.op % 64 * 0x4000000 + i.d % 16 * 0x400000 + i.s % 16 * 0x40000 + i.t % 16 * 0x4000 + i.imm % 0x4000

/-- The I bit: the second operand is the immediate (R200). -/
def CeWord.isImm (i : CeWord) : Bool := i.imm.testBit 13

/-- A register-or-immediate operand: with I, t is 0; without it, imm[12:0] is 0 (R200). -/
def opOk (i : CeWord) : Bool := if i.isImm then i.t = 0 else i.imm = 0

/-- A shift operand: with I, t and imm[12:4] are 0 (R206). -/
def shOk (i : CeWord) : Bool := if i.isImm then i.t = 0 && i.imm % 0x2000 < 16 else i.imm = 0

/-- The addressing field of LD and ST: mode 0 to 2, unused bits 0 (R193). -/
def dataOk (i : CeWord) : Bool := i.s < 12 && (i.s / 4 ≠ 0 || i.s % 4 = 0) && i.imm < 0x400 && i.t = 0

/-- The addressing field of LDS, STS, LDA and STA (R194). -/
def stateOk (i : CeWord) : Bool := i.s < 12 && (i.s / 4 ≠ 0 || i.s % 4 = 0) && i.imm < 0x100 && i.t = 0

/-- The word check on the word at address `pc` (R218, with the forms of R200 to R217). -/
def ceWordOk (i : CeWord) (pc : Nat) : Bool :=
  match i.op with
  | 0x00 => i.d = 0 && i.s = 0 && i.t = 0 && i.imm = 0
  | 0x01 => i.t = 0 && (i.s = 0 || (i.s = 1 && i.d < 4 && i.imm < 0x400))
  | 0x02 => i.s = 0 && i.t = 0 && i.imm < 0x100
  | 0x03 => i.t = 0 && i.imm < 7 && (match i.imm with
      | 1 => i.s < 4 | 2 => i.d < 4 | 3 => i.d < 4 | 4 => i.s < 4 | 5 => i.d < 4 && i.s < 4 | 6 => i.d < 4 && i.s < 4
      | _ => true)
  | 0x04 | 0x05 => dataOk i
  | 0x06 | 0x07 => stateOk i
  | 0x08 | 0x09 => i.s = 0 && i.t = 0 && i.imm < 0x100
  | 0x0A | 0x0B | 0x0C | 0x0D | 0x10 | 0x11 | 0x12 | 0x13 | 0x14 => opOk i
  | 0x0E | 0x0F | 0x24 | 0x26 => i.t = 0 && i.imm = 0
  | 0x15 | 0x16 | 0x17 => shOk i
  | 0x18 | 0x19 | 0x1A => i.d < 4 && i.imm = 0
  | 0x1B => i.d < 4 && i.s = 0 && i.t = 0 && i.imm = 0
  | 0x1C | 0x1D => i.d < 4 && stateOk i
  | 0x1E => i.d < 4 && i.s = 0 && i.t = 0 && i.imm < 0x40
  | 0x1F => i.d = 0 && opOk i
  | 0x20 | 0x21 | 0x22 | 0x25 => i.imm = 0
  | 0x23 => i.t < 4 && i.imm < 0x20 && 1 ≤ i.imm % 16 && i.imm % 16 ≤ 8
  | 0x27 => i.d = 0 && i.s = 0 && i.t = 0 && i.imm < 0x800
  | 0x28 => i.d < 10 && i.s = 0 && i.t = 0 && i.imm < 0x800
  | 0x29 => i.t = 0 && i.imm % 0x2000 < 0x800 && i.imm % 0x800 > pc && (i.isImm || i.d = 0)
  | 0x2A => i.d = 0 && i.s = 0 && i.t = 0 && i.imm < 16
  | 0x2B => i.d = 0 && i.s = 0 && i.t = 0 && i.imm = 0
  | _ => false

/-- Cycles of an instruction (R189). -/
def ceCycles (op : Nat) : Nat :=
  match op with
  | 0x23 => 3 | 0x24 => 4 | 0x25 => 17 | 0x26 => 18 | _ => 1

/-! ### Registers and flags of a run -/

/-- W register `i mod 16`. -/
def Run.wr (r : Run) (i : Nat) : W16 := r.w[i % 16]'(Nat.mod_lt _ (by decide))
/-- W register as a signed integer. -/
def Run.wi (r : Run) (i : Nat) : Int := (r.wr i).toInt
/-- Write W register `i mod 16`. -/
def Run.setW (r : Run) (i : Nat) (v : W16) : Run := { r with w := r.w.set (i % 16) v (Nat.mod_lt _ (by decide)) }
/-- Accumulator `i mod 4`. -/
def Run.ac (r : Run) (i : Nat) : W40 := r.acc[i % 4]'(Nat.mod_lt _ (by decide))
/-- Write accumulator `i mod 4`. -/
def Run.setA (r : Run) (i : Nat) (v : W40) : Run := { r with acc := r.acc.set (i % 4) v (Nat.mod_lt _ (by decide)) }
/-- Pointer `i mod 4`. -/
def Run.ptr (r : Run) (i : Nat) : BitVec 10 := r.pt[i % 4]'(Nat.mod_lt _ (by decide))
/-- Write pointer `i mod 4`. -/
def Run.setP (r : Run) (i : Nat) (v : BitVec 10) : Run := { r with pt := r.pt.set (i % 4) v (Nat.mod_lt _ (by decide)) }

/-- Write a W result with Z and N from it and the given V (R199). -/
def Run.resW (r : Run) (i : Nat) (x : W16) (v : Bool) : Run :=
  { r.setW i x with z := x = 0, n := x.msb, v := v }

/-- Write an accumulator result with Z and N from it and the given V (R199). -/
def Run.resA (r : Run) (i : Nat) (x : W40) (v : Bool) : Run :=
  { r.setA i x with z := x = 0, n := x.msb, v := v }

/-- Set SAT when `b` holds (R198). -/
def Run.satIf (r : Run) (b : Bool) : Run := { r with sat := r.sat || b }

/-- The value lies outside the signed range of `w` bits. -/
def outside (w : Nat) (x : Int) : Bool := decide (x < -(2 ^ (w - 1) : Nat)) || decide (x > (2 ^ (w - 1) : Nat) - 1)

/-- Saturation to the signed range of `w` bits (R198). -/
def satTo (w : Nat) (x : Int) : Int :=
  if x < -(2 ^ (w - 1) : Nat) then -(2 ^ (w - 1) : Nat) else if x > (2 ^ (w - 1) : Nat) - 1 then (2 ^ (w - 1) : Nat) - 1 else x

/-- Write a saturated W result, setting V and SAT when it saturates. -/
def Run.satW (r : Run) (i : Nat) (x : Int) : Run :=
  (r.resW i (BitVec.ofInt 16 (satTo 16 x)) (outside 16 x)).satIf (outside 16 x)

/-- Write a saturated accumulator result, setting V and SAT when it saturates. -/
def Run.satA (r : Run) (i : Nat) (x : Int) : Run :=
  (r.resA i (BitVec.ofInt 40 (satTo 40 x)) (outside 40 x)).satIf (outside 40 x)

/-- A number of `w` bits, sign-extended. -/
def sextN (w x : Nat) : Int := if x % 2 ^ w < 2 ^ (w - 1) then ((x % 2 ^ w : Nat) : Int) else ((x % 2 ^ w : Nat) : Int) - (2 ^ w : Nat)

/-- The second operand of a register-or-immediate form (R200, R205). -/
def op2 (r : Run) (i : CeWord) : Int := if i.isImm then sextN 13 i.imm else r.wi i.t

/-- The same operand as a 16-bit pattern. -/
def op2w (r : Run) (i : CeWord) : W16 := BitVec.ofInt 16 (op2 r i)

/-- The shift amount (R206). -/
def shAmt (r : Run) (i : CeWord) : Nat := if i.isImm then i.imm % 16 else (r.wr i.t).toNat % 16

/-! ### Addressing (R193, R194) -/

/-- Add a signed offset to a data address modulo 1,024. -/
def ptAdd (p : BitVec 10) (x : Int) : BitVec 10 := p + BitVec.ofInt 10 x

/-- Effective address of LD and ST, and the run after its side effect (R193). -/
def dataEa (r : Run) (i : CeWord) : Nat × Run :=
  let off := sextN 10 i.imm
  match i.s / 4 with
  | 0 => ((r.dbase + i.imm % 1024) % 1024, r)
  | 1 => ((ptAdd (r.ptr i.s) off).toNat, r)
  | _ => ((r.ptr i.s).toNat, r.setP i.s (ptAdd (r.ptr i.s) off))

/-- State offset of LDS, STS, LDA and STA, and the run after its side effect (R194). -/
def stateOff (r : Run) (i : CeWord) : Nat × Run :=
  let off := sextN 8 i.imm
  match i.s / 4 with
  | 0 => (i.imm % 256, r)
  | 1 => ((((r.ptr i.s).toNat % 256 : Nat) + off) % 256 |>.toNat, r)
  | _ => ((r.ptr i.s).toNat % 256, r.setP i.s (ptAdd (r.ptr i.s) off))

/-! ### Functions -/

/-- Entries 0 to 31 of the quarter-wave table. -/
def sinQ0 : List Int := [0, 201, 402, 603, 804, 1005, 1206, 1407, 1608, 1809, 2009, 2210, 2410, 2611, 2811, 3012, 3212, 3412, 3612, 3811, 4011, 4210, 4410, 4609, 4808, 5007, 5205, 5404, 5602, 5800, 5998, 6195]

/-- Entries 32 to 63 of the quarter-wave table. -/
def sinQ1 : List Int := [6393, 6590, 6786, 6983, 7179, 7375, 7571, 7767, 7962, 8157, 8351, 8545, 8739, 8933, 9126, 9319, 9512, 9704, 9896, 10087, 10278, 10469, 10659, 10849, 11039, 11228, 11417, 11605, 11793, 11980, 12167, 12353]

/-- Entries 64 to 95 of the quarter-wave table. -/
def sinQ2 : List Int := [12539, 12725, 12910, 13094, 13279, 13462, 13645, 13828, 14010, 14191, 14372, 14553, 14732, 14912, 15090, 15269, 15446, 15623, 15800, 15976, 16151, 16325, 16499, 16673, 16846, 17018, 17189, 17360, 17530, 17700, 17869, 18037]

/-- Entries 96 to 127 of the quarter-wave table. -/
def sinQ3 : List Int := [18204, 18371, 18537, 18703, 18868, 19032, 19195, 19357, 19519, 19680, 19841, 20000, 20159, 20317, 20475, 20631, 20787, 20942, 21096, 21250, 21403, 21554, 21705, 21856, 22005, 22154, 22301, 22448, 22594, 22739, 22884, 23027]

/-- Entries 128 to 159 of the quarter-wave table. -/
def sinQ4 : List Int := [23170, 23311, 23452, 23592, 23731, 23870, 24007, 24143, 24279, 24413, 24547, 24680, 24811, 24942, 25072, 25201, 25329, 25456, 25582, 25708, 25832, 25955, 26077, 26198, 26319, 26438, 26556, 26674, 26790, 26905, 27019, 27133]

/-- Entries 160 to 191 of the quarter-wave table. -/
def sinQ5 : List Int := [27245, 27356, 27466, 27575, 27683, 27790, 27896, 28001, 28105, 28208, 28310, 28411, 28510, 28609, 28706, 28803, 28898, 28992, 29085, 29177, 29268, 29358, 29447, 29534, 29621, 29706, 29791, 29874, 29956, 30037, 30117, 30195]

/-- Entries 192 to 223 of the quarter-wave table. -/
def sinQ6 : List Int := [30273, 30349, 30424, 30498, 30571, 30643, 30714, 30783, 30852, 30919, 30985, 31050, 31113, 31176, 31237, 31297, 31356, 31414, 31470, 31526, 31580, 31633, 31685, 31736, 31785, 31833, 31880, 31926, 31971, 32014, 32057, 32098]

/-- Entries 224 to 255 of the quarter-wave table. -/
def sinQ7 : List Int := [32137, 32176, 32213, 32250, 32285, 32318, 32351, 32382, 32412, 32441, 32469, 32495, 32521, 32545, 32567, 32589, 32609, 32628, 32646, 32663, 32678, 32692, 32705, 32717, 32728, 32737, 32745, 32752, 32757, 32761, 32765, 32766]

/-- Entries 256 to 256 of the quarter-wave table. -/
def sinQ8 : List Int := [32767]

/-- The quarter-wave table of the engine ROM: Q[i] = 32,767 sin(pi i / 512), rounded (R212). -/
def sinTab : List Int := sinQ0 ++ sinQ1 ++ sinQ2 ++ sinQ3 ++ sinQ4 ++ sinQ5 ++ sinQ6 ++ sinQ7 ++ sinQ8

/-- The quarter-wave function of R212. -/
def sinS (x : Nat) : Int :=
  let i := x / 64
  let f : Int := (x % 64 : Nat)
  if i = 256 then sinTab.getD 256 0
  else sinTab.getD i 0 + ((sinTab.getD (i + 1) 0 - sinTab.getD i 0) * f + 32) / 64

/-- Integer square root, rounded down, of a number below 4^`k`: one bit of the root after the other. -/
def rootOf (k x : Nat) : Nat :=
  (List.range k).foldl (fun r i => let b := r + 2 ^ (k - 1 - i); if b * b ≤ x then b else r) 0

/-- Integer square root, rounded down, of a number below 2^34. -/
def isqrt (x : Nat) : Nat := rootOf 17 x

/-- The sine of R212; `u` counts 1/32,768 of pi. -/
def sinOf (u : Nat) : Int :=
  let q := u % 65536 / 16384
  let r := u % 16384
  if q = 0 then sinS r else if q = 1 then sinS (16384 - r) else if q = 2 then -(sinS r) else -(sinS (16384 - r))

/-- The interpolation of R211 with table entries `tab`. -/
def lutOf (tab : Nat → Int) (ws : Int) (k : Nat) (uni : Bool) : Int :=
  let u : Nat := if uni then ws.toNat else (ws + 32768).toNat
  let h := if uni then 15 - k else 16 - k
  let i := u / 2 ^ h
  let f : Int := (u % 2 ^ h : Nat)
  tab i + ((tab (i + 1) - tab i) * f + (2 ^ (h - 1) : Nat)) / (2 ^ h : Nat)

/-- |x| with −32,768 taken as 32,767 (R210). -/
def mag (x : Int) : Int := if x = -32768 then 32767 else if x < 0 then -x else x

/-- SLEW of R210. -/
def slewOf (wd ws wt : Int) : Int × Bool :=
  let step := mag wt
  if ws - wd > step then (wd + step, true) else if ws - wd < -step then (wd - step, true) else (ws, false)

/-- DEADB of R210. -/
def deadbOf (ws wt : Int) : Int × Bool :=
  let w := mag wt
  if ws > w then (ws - w, false) else if ws < -w then (ws + w, false) else (0, true)

/-- LIM of R210. -/
def limOf (wd ws wt : Int) : Int := max (min wd wt) ws

/-- DIV of R213: quotient before saturation. -/
def divOf (ws wt : Int) : Int := Int.tdiv (ws * 32768) wt

/-- The condition of BCC (R215). -/
def ceCond (r : Run) (c : Nat) : Bool :=
  match c with
  | 0 => r.z | 1 => !r.z | 2 => r.n | 3 => !r.n | 4 => !r.z && !r.n | 5 => r.z || r.n
  | 6 => r.v | 7 => !r.v | 8 => r.sat | 9 => !r.sat | _ => false

/-! ### Control flow (R216) -/

/-- The address after the instruction at `pc` when no branch is taken, and the loop stack then; innermost loop first. -/
def loopNext (pc : Nat) : List LoopLvl → Nat × List LoopLvl
  | [] => (pc + 1, [])
  | l :: rest =>
    if l.last = pc then (if l.left > 1 then (l.first, { l with left := l.left - 1 } :: rest) else loopNext pc rest)
    else (pc + 1, l :: rest)

/-- The run after a sequential instruction. -/
def Run.seqNext (r : Run) : Run :=
  let p := loopNext r.pc r.loops
  { r with pc := p.1, loops := p.2 }

/-- The run after a taken branch: loops whose body does not hold the target leave the stack. -/
def Run.branchTo (r : Run) (a : Nat) : Run :=
  { r with pc := a, loops := r.loops.filter (fun l => decide (l.first ≤ a ∧ a ≤ l.last)) }

/-! ### The effect of one instruction -/

/-- Result of an instruction: the run goes on, possibly after a store to data memory; or it ends in a run fault. -/
inductive CeRes where
  | ok (r : Run)
  | store (r : Run) (a : Nat) (v : W16)
  | fault (code : Nat)
deriving DecidableEq, Repr

/-- An instruction that only writes registers and flags. -/
def ceSeq (r : Run) : CeRes := .ok r.seqNext

/-- The value and mark that IN returns for a port, given IN_BASE of the slot (R204, R235). -/
def portIn (r : Run) (base port : Nat) : W16 × Bool :=
  if base ≤ port then r.ins.getD (port - base) (0, true) else (0, true)

/-- A data word of the engine. -/
abbrev DataMem := Nat → W16

def ceLDI (i : CeWord) (r : Run) : CeRes :=
  ceSeq (if i.s = 0 then r.setW i.d (BitVec.ofInt 16 (sextN 14 i.imm))
    else r.setP i.d (BitVec.ofNat 10 (r.dbase + i.imm % 1024)))

def ceLDIH (i : CeWord) (r : Run) : CeRes :=
  ceSeq (r.setW i.d (BitVec.ofNat 16 (i.imm % 256 * 256 + (r.wr i.d).toNat % 256)))

/-- The seven forms of MOV (R202). -/
def ceMOV (i : CeWord) (r : Run) : CeRes :=
  ceSeq (match i.imm with
    | 0 => r.setW i.d (r.wr i.s)
    | 1 => r.satW i.d (((r.ac i.s).toInt + 32768) / 65536)
    | 2 => r.setA i.d (BitVec.ofInt 40 (r.wi i.s * 65536))
    | 3 => r.setP i.d (BitVec.ofNat 10 (r.wr i.s).toNat)
    | 4 => r.setW i.d (BitVec.ofNat 16 (r.ptr i.s).toNat)
    | 5 => r.setA i.d (r.ac i.s)
    | _ => r.setP i.d (r.ptr i.s))

def ceLD (mem : DataMem) (i : CeWord) (r : Run) : CeRes :=
  let e := dataEa r i
  ceSeq (e.2.setW i.d (mem e.1))

/-- ST; in a speculative run the store is refused and the run will be voided (R195). -/
def ceST (i : CeWord) (r : Run) : CeRes :=
  let e := dataEa r i
  if r.kind = .spec then .ok { e.2.seqNext with stRefused := true }
  else .store e.2.seqNext e.1 (r.wr i.d)

/-- A state access: STATE_RANGE beyond SLEN (R194). -/
def stateAcc (i : CeWord) (r : Run) (f : Nat → Run → Run) : CeRes :=
  let e := stateOff r i
  if e.1 ≥ r.slen then .fault 5 else ceSeq (f e.1 e.2)

def ceLDS (i : CeWord) (r : Run) : CeRes :=
  stateAcc i r (fun off r => r.setW i.d ((r.work.getD off 0).extractLsb' 16 16))

def ceSTS (i : CeWord) (r : Run) : CeRes :=
  stateAcc i r (fun off r' => { r' with work := r'.work.set off ((r.wr i.d).zeroExtend 32 <<< 16) })

def ceLDA (i : CeWord) (r : Run) : CeRes :=
  stateAcc i r (fun off r => r.setA i.d ((r.work.getD off 0).signExtend 40))

def ceSTA (i : CeWord) (r : Run) : CeRes :=
  stateAcc i r (fun off r =>
    { r with work := r.work.set off (BitVec.ofInt 32 (satTo 32 (r.ac i.d).toInt)),
             sat := r.sat || outside 32 (r.ac i.d).toInt })

def ceIN (base : Nat) (i : CeWord) (r : Run) : CeRes :=
  let p := portIn r base (i.imm % 256)
  ceSeq (r.resW i.d p.1 p.2)

def ceOUT (i : CeWord) (r : Run) : CeRes :=
  ceSeq { r with out := tabIns (i.imm % 256) (r.wr i.d) r.out }

/-- ADD and SUB: low 16 bits, V outside the range (R205). -/
def ceADD (i : CeWord) (r : Run) : CeRes :=
  let x := r.wi i.s + op2 r i
  ceSeq (r.resW i.d (BitVec.ofInt 16 x) (outside 16 x))

def ceADDS (i : CeWord) (r : Run) : CeRes := ceSeq (r.satW i.d (r.wi i.s + op2 r i))

def ceSUB (i : CeWord) (r : Run) : CeRes :=
  let x := r.wi i.s - op2 r i
  ceSeq (r.resW i.d (BitVec.ofInt 16 x) (outside 16 x))

def ceSUBS (i : CeWord) (r : Run) : CeRes := ceSeq (r.satW i.d (r.wi i.s - op2 r i))

def ceNEG (i : CeWord) (r : Run) : CeRes := ceSeq (r.satW i.d (-(r.wi i.s)))

def ceABS (i : CeWord) (r : Run) : CeRes := ceSeq (r.satW i.d (r.wi i.s).natAbs)

def ceMIN (i : CeWord) (r : Run) : CeRes :=
  ceSeq (r.resW i.d (BitVec.ofInt 16 (min (r.wi i.s) (op2 r i))) false)

def ceMAX (i : CeWord) (r : Run) : CeRes :=
  ceSeq (r.resW i.d (BitVec.ofInt 16 (max (r.wi i.s) (op2 r i))) false)

def ceAND (i : CeWord) (r : Run) : CeRes := ceSeq (r.resW i.d (r.wr i.s &&& op2w r i) false)
def ceOR (i : CeWord) (r : Run) : CeRes := ceSeq (r.resW i.d (r.wr i.s ||| op2w r i) false)
def ceXOR (i : CeWord) (r : Run) : CeRes := ceSeq (r.resW i.d (r.wr i.s ^^^ op2w r i) false)

/-- SHL: V when the product lies outside the range (R206). -/
def ceSHL (i : CeWord) (r : Run) : CeRes :=
  ceSeq (r.resW i.d (r.wr i.s <<< shAmt r i) (outside 16 (r.wi i.s * (2 ^ shAmt r i : Nat))))

def ceSHR (i : CeWord) (r : Run) : CeRes := ceSeq (r.resW i.d (r.wr i.s >>> shAmt r i) false)

def ceSAR (i : CeWord) (r : Run) : CeRes := ceSeq (r.resW i.d ((r.wr i.s).sshiftRight (shAmt r i)) false)

/-- The exact doubled product (R208). -/
def prod2 (i : CeWord) (r : Run) : Int := r.wi i.s * r.wi i.t * 2

def ceMPY (i : CeWord) (r : Run) : CeRes := ceSeq (r.resA i.d (BitVec.ofInt 40 (prod2 i r)) false)
def ceMAC (i : CeWord) (r : Run) : CeRes := ceSeq (r.satA i.d ((r.ac i.d).toInt + prod2 i r))
def ceMSU (i : CeWord) (r : Run) : CeRes := ceSeq (r.satA i.d ((r.ac i.d).toInt - prod2 i r))
def ceCLRA (i : CeWord) (r : Run) : CeRes := ceSeq (r.resA i.d 0 false)

/-- SHA: shift by sext(imm[5:0]) (R209). -/
def ceSHA (i : CeWord) (r : Run) : CeRes :=
  let k := sextN 6 i.imm
  if k > 0 then ceSeq (r.satA i.d ((r.ac i.d).toInt * (2 ^ k.toNat : Nat)))
  else ceSeq (r.resA i.d (BitVec.ofInt 40 ((r.ac i.d).toInt / (2 ^ (-k).toNat : Nat))) false)

/-- CMP: the true signed comparison (R207). -/
def ceCMP (i : CeWord) (r : Run) : CeRes :=
  ceSeq { r with z := r.wi i.s = op2 r i, n := r.wi i.s < op2 r i, v := false }

def ceLIM (i : CeWord) (r : Run) : CeRes :=
  let x := limOf (r.wi i.d) (r.wi i.s) (r.wi i.t)
  ceSeq (r.resW i.d (BitVec.ofInt 16 x) (x ≠ r.wi i.d))

def ceSLEW (i : CeWord) (r : Run) : CeRes :=
  let x := slewOf (r.wi i.d) (r.wi i.s) (r.wi i.t)
  ceSeq (r.resW i.d (BitVec.ofInt 16 x.1) x.2)

def ceDEADB (i : CeWord) (r : Run) : CeRes :=
  let x := deadbOf (r.wi i.s) (r.wi i.t)
  ceSeq (r.resW i.d (BitVec.ofInt 16 x.1) x.2)

def ceLUT (mem : DataMem) (i : CeWord) (r : Run) : CeRes :=
  let tab := fun (j : Nat) => (mem (((r.ptr i.t).toNat + j) % 1024)).toInt
  ceSeq (r.resW i.d (BitVec.ofInt 16 (lutOf tab (r.wi i.s) (i.imm % 16) (i.imm.testBit 4))) false)

def ceSINCOS (i : CeWord) (r : Run) : CeRes :=
  let u := (r.wr i.s).toNat
  let x := r.resW i.d (BitVec.ofInt 16 (sinOf u)) false
  ceSeq (x.setW (i.d + 1) (BitVec.ofInt 16 (sinOf (u + 16384))))

/-- DIV with its zero-divisor corner (R213). -/
def ceDIV (i : CeWord) (r : Run) : CeRes :=
  let a := r.wi i.s
  let b := r.wi i.t
  if b = 0 then
    ceSeq ((r.resW i.d (if a > 0 then 0x7FFF else if a < 0 then 0x8000 else 0) true).satIf true)
  else ceSeq (r.satW i.d (divOf a b))

/-- SQRT (R214). -/
def ceSQRT (i : CeWord) (r : Run) : CeRes :=
  if r.wi i.s < 0 then ceSeq ((r.resW i.d 0 true).satIf true)
  else ceSeq (r.resW i.d (BitVec.ofNat 16 (isqrt ((r.wi i.s).toNat * 32768))) false)

def ceBRA (i : CeWord) (r : Run) : CeRes := .ok (r.branchTo (i.imm % 2048))

def ceBCC (i : CeWord) (r : Run) : CeRes :=
  if ceCond r i.d then .ok (r.branchTo (i.imm % 2048)) else ceSeq r

/-- LOOP: count 0 continues at the word after its end, whatever loop ends there too; a third level, or an end beyond an active loop's, is LOOP_NEST (R216). -/
def ceLOOP (i : CeWord) (r : Run) : CeRes :=
  let last := i.imm % 2048
  let cnt := if i.isImm then i.d * 16 + i.s else (r.wr i.s).toNat
  if r.loops.any (fun l => decide (last > l.last)) || (cnt ≠ 0 && r.loops.length ≥ 2) then .fault 1
  else if cnt = 0 then .ok { r with pc := last + 1 }
  else .ok { r with pc := r.pc + 1, loops := ⟨r.pc + 1, last, cnt⟩ :: r.loops }

def ceTRIG (i : CeWord) (r : Run) : CeRes := ceSeq { r with trigs := r.trigs ++ [i.imm % 16] }

end Sys2Proof.Machine
end

