-- ==== Sys2Proof/Machine/Ops.lean ====
section
/-! DEFINITION. The named operations over registers, dictionary values, counters, events, violations and power domains.
Every command's meaning is written over these. -/

namespace Sys2Proof.Machine

/-! ### Words and fields -/

/-- Bits `[lo + w - 1 : lo]` set. -/
def wMask (lo w : Nat) : Word := BitVec.ofNat 32 ((2 ^ w - 1) * 2 ^ lo)

/-- The field of `w` bits from bit `lo`. -/
def wGet (v : Word) (lo w : Nat) : Nat := v.toNat / 2 ^ lo % 2 ^ w

/-- Replace the field of `w` bits from bit `lo` by the low bits of `x`. -/
def wSet (v : Word) (lo w x : Nat) : Word :=
  (v &&& ~~~(wMask lo w)) ||| BitVec.ofNat 32 (x % 2 ^ w * 2 ^ lo)

/-- Bit `n` of a number. -/
def bitOf (x n : Nat) : Bool := x.testBit n

/-- Set or clear bit `n`. -/
def setBit (x n : Nat) (b : Bool) : Nat :=
  if x.testBit n then (if b then x else x - 2 ^ n) else (if b then x + 2 ^ n else x)

/-- A number of `w` bits read as two's complement. -/
def sx (w x : Nat) : Int := if x % 2 ^ w < 2 ^ (w - 1) then (x % 2 ^ w : Nat) else ((x % 2 ^ w : Nat) : Int) - 2 ^ w

/-- The two's complement encoding of an integer in `w` bits. -/
def ux (w : Nat) (i : Int) : Nat := (i % (2 ^ w : Nat)).toNat

/-- Saturation to a signed range of `w` bits. -/
def satI (w : Nat) (i : Int) : Int :=
  if i < -(2 ^ (w - 1) : Nat) then -(2 ^ (w - 1) : Nat) else if i > (2 ^ (w - 1) : Nat) - 1 then (2 ^ (w - 1) : Nat) - 1 else i

/-- Clamp to an interval. -/
def clampI (lo hi i : Int) : Int := if i < lo then lo else if i > hi then hi else i

/-- Division with rounding half away from zero. -/
def rdiv (a b : Int) : Int :=
  if b = 0 then 0 else if a ≥ 0 then (2 * a + b) / (2 * b) else -((-(2 * a) + b) / (2 * b))

/-- The `n` low bytes of a number, lowest first (R3). -/
def leBytes (v : Nat) : Nat → List Byte
  | 0 => []
  | n + 1 => BitVec.ofNat 8 v :: leBytes (v / 256) n

/-- A little-endian byte string as a number (R3). -/
def leNat : List Byte → Nat
  | [] => 0
  | b :: t => b.toNat + 256 * leNat t

/-- One step of the IEEE 802.3 CRC-32 over a byte. -/
def crcByte (c b : Nat) : Nat :=
  (List.range 8).foldl (fun c _ => if c % 2 = 1 then c / 2 ^^^ 0xEDB88320 else c / 2) (c ^^^ b)

/-- The numbers 0 … n − 1. -/
def upto (n : Nat) : List Nat := List.range n

/-! ### Register tables -/

/-- The indices of an offset under the strides of a row, outermost first. -/
def dimIdx : Nat → List (Nat × Nat) → Option (List Nat)
  | r, [] => if r = 0 then some [] else none
  | r, (s, c) :: t =>
    if r / s < c then (dimIdx (r % s) t).map (r / s :: ·) else none

/-- The row and indices of the register at privileged address `a`. -/
def regIdx (a : Nat) (r : RegRow) : Option (List Nat) :=
  if r.base ≤ a then dimIdx (a - r.base) r.dims else none

/-- The register table row that holds address `a`, with its indices. -/
def findReg (a : Nat) : Option (RegRow × List Nat) :=
  allRegs.findSome? (fun r => (regIdx a r).map (fun ix => (r, ix)))

/-- The reset value of a field at given indices (R6). -/
def fieldRst (f : FieldRow) (ix : List Nat) : Nat :=
  match f.rstMod with
  | .same => f.rst
  | .step dim k => f.rst + k * ix.getD dim 0
  | .at dim i v => if ix.getD dim 0 = i then v else f.rst

/-- The reset value of a register (R6). -/
def resetOf (a : Nat) : Word :=
  match findReg a with
  | none => 0
  | some (r, ix) => r.fields.foldl (fun acc f => wSet acc f.lo f.width (fieldRst f ix)) 0

/-! ### Registers -/

/-- The stored value of a register. -/
def Dev.rd (d : Dev) (a : Nat) : Word := tabGet (resetOf a) a d.regs

/-- Store a register value. -/
def Dev.wr (d : Dev) (a : Nat) (v : Word) : Dev := { d with regs := tabPut (resetOf a) a v d.regs }

/-- A named field. -/
def Dev.get (d : Dev) (f : Fld) : Nat := wGet (d.rd f.addr) f.lo f.width

/-- A named field read as two's complement. -/
def Dev.sget (d : Dev) (f : Fld) : Int := sx f.width (d.get f)

/-- Hardware sets a named field. -/
def Dev.set (d : Dev) (f : Fld) (x : Nat) : Dev := d.wr f.addr (wSet (d.rd f.addr) f.lo f.width x)

/-- Hardware sets a named field from an integer. -/
def Dev.setI (d : Dev) (f : Fld) (x : Int) : Dev := d.set f (ux f.width x)

/-- A one-bit field. -/
def Dev.bit (d : Dev) (f : Fld) : Bool := d.get f != 0

/-- Hardware sets a one-bit field from a truth value. -/
def Dev.setB (d : Dev) (f : Fld) (b : Bool) : Dev := d.set f b.toNat

/-- Bit `n` of a field. -/
def Dev.bitN (d : Dev) (f : Fld) (n : Nat) : Bool := (d.get f).testBit n

/-- Hardware sets bit `n` of a field. -/
def Dev.setN (d : Dev) (f : Fld) (n : Nat) (b : Bool) : Dev := d.set f (setBit (d.get f) n b)

/-- Hardware sets a W1C bit; a write of 1 in the same cycle leaves it set (R9). -/
def Dev.flagUp (d : Dev) (f : Fld) : Dev :=
  let d := d.set f (2 ^ f.width - 1)
  { d with cyc.hwSet := (f.addr, wMask f.lo f.width) :: d.cyc.hwSet }

/-- Hardware sets bit `n` of a W1C field (R9). -/
def Dev.flagUpN (d : Dev) (f : Fld) (n : Nat) : Dev :=
  let d := d.setN f n true
  { d with cyc.hwSet := (f.addr, wMask (f.lo + n) 1) :: d.cyc.hwSet }

/-- Note that hardware has added `n` to the RC field `f`, whose value at the start of the cycle is `old` (R9). -/
def rcNote (f : Fld) (old n : Nat) : List (Fld × Nat × Nat) → List (Fld × Nat × Nat)
  | [] => [(f, old, n)]
  | p :: t => if p.1 = f then (f, p.2.1, p.2.2 + n) :: t else p :: rcNote f old n t

/-- Hardware adds to an RC field, saturating; a read in the same cycle returns the value before (R9). -/
def Dev.bump (d : Dev) (f : Fld) (n : Nat := 1) : Dev :=
  let old := d.get f
  let d := d.set f (min (old + n) (2 ^ f.width - 1))
  { d with cyc.rcOld := rcNote f old n d.cyc.rcOld }

/-- The block instance number of an engine, unit, channel and so on is an argument of the register's name; the domain bit
of R52 that holds the register at a privileged address; none for AON (R30). -/
def domainOf (a : Nat) : Option Nat :=
  let b := a / 0x10000 % 0x100
  let o := a % 0x10000
  if a / 0x1000000 = 0x41 then
    if b < 16 then some 2 else if b < 32 then some 3 else if b = 0x20 ∨ b = 0x21 then some 9 else none
  else if b = 0x02 then (if o ≥ 0x8000 then some 8 else none)
  else if 0x10 ≤ b ∧ b < 0x20 then some 2
  else if 0x20 ≤ b ∧ b < 0x30 then some 3
  else if b = 0x30 then (if o < 0x2000 then some 4 else if o < 0x8000 then some 5 else none)
  else if b = 0x31 then some 6
  else if b = 0x32 then some 7
  else if b = 0x33 then some 9
  else if b = 0x34 then some 8
  else if b = 0x35 then some 10
  else if b = 0x36 then (if 0x800 ≤ o ∧ o < 0x920 then none else some 11)
  else none

/-- Domain `n` is ready (R31). -/
def Dev.ready (d : Dev) (n : Nat) : Bool := d.bitN PMC_DOMSTAT_READY n

/-- AON is still held in its power-on reset: the buck has not started since power-on (R47). -/
def aonHeld (d : Dev) : Bool := decide (d.pwr.step = 0 ∧ d.pwr.save = .none) && !d.pwr.buck

/-- The device is held in reset by nRESET (R62); a save and a thermal shutdown go on first (R472, R473). -/
def resetHeld (d : Dev) : Bool := d.pwr.pinHeld && !d.pwr.thermalOff && decide (d.pwr.save = .none)

/-- The device takes commands: VAON is good, and no reset holds it (R47, R62). -/
def Dev.live (d : Dev) : Bool := d.pwr.aon && !aonHeld d && !resetHeld d

/-- The domain of address `a` is AON or ready. -/
def Dev.readyAt (d : Dev) (a : Nat) : Bool :=
  match domainOf a with
  | none => true
  | some n => d.ready n

/-- Domain bit of engine `n`. -/
def ceaDom (n : Nat) : Nat := if n < 16 then 2 else 3

/-- Domain bit of converter unit `u`. -/
def cvuDom (u : Nat) : Nat := if u < 2 then 4 else 5

/-! ### Dictionary values -/

/-- The row of an entry. -/
def entRow (idx sub : Nat) : Option DictRow :=
  allEntries.find? (fun r => decide (r.idx ≤ idx ∧ idx < r.idx + r.cnt ∧ r.sub ≤ sub ∧ sub < r.sub + r.subCnt))

/-- Key of an entry in the value table. -/
def entKey (idx sub : Nat) : Nat := idx * 256 + sub

/-- The default of the entry with key `k`. -/
def entDflt (k : Nat) : Nat :=
  match entRow (k / 256) (k % 256) with
  | none => 0
  | some r => r.dflt

/-- The stored value of an entry, as a little-endian number. -/
def Dev.ent (d : Dev) (idx sub : Nat) : Nat := tabGet (entDflt (entKey idx sub)) (entKey idx sub) d.dict

/-- Store the value of an entry. -/
def Dev.setEnt (d : Dev) (idx sub v : Nat) : Dev :=
  { d with dict := tabPut (entDflt (entKey idx sub)) (entKey idx sub) v d.dict }

/-- Byte `i` of a BLOB entry. -/
def Dev.entByte (d : Dev) (idx sub i : Nat) : Nat := d.ent idx sub / 256 ^ i % 256

/-- The 16-bit value at byte `2 i` of a BLOB entry. -/
def Dev.entHalf (d : Dev) (idx sub i : Nat) : Nat := d.ent idx sub / 65536 ^ i % 65536

/-! ### Time and free values -/

/-- The present TIME64 (R4). -/
def Dev.time64 (d : Dev) : Nat := d.xtf.ns % 2 ^ 64

/-- Take the next free value. -/
def Dev.freeVal (d : Dev) : Nat × Dev := (Config.freeNat d.free, { d with free := d.free + 1 })

/-! ### Counters and events -/

/-- Add 1 to counter `k` of the OBS unless frozen (R476, R484, R485); tells whether it wrapped. -/
def obsAdd (k : Nat) (d : Dev) : Bool × Dev :=
  if d.obs.sel.contains k then (false, d)
  else if d.bit OBS_CTRL_FREEZE then (false, { d with obs.lostN := tabIns k (tabGet 0 k d.obs.lostN + 1) d.obs.lostN }) else
  let old := tabGet 0 k d.obs.cnt
  let first := tabGet old k d.obs.start
  let wrap := old + 1 ≥ 2 ^ 48 || (d.obs.wrote.contains k && first + 1 ≥ 2 ^ 48)
  let o := d.obs
  let o := { o with cnt := tabPut 0 k ((old + 1) % 2 ^ 48) o.cnt, start := tabIns k first o.start,
                    incN := tabPut 0 k (tabGet 0 k o.incN + 1) o.incN }
  let o := if wrap then
      { o with ovf0 := some (o.ovf0.getD o.ovf),
               ovf := tabPut 0 (k / 32) (setBit (tabGet 0 (k / 32) o.ovf) (k % 32) true) o.ovf }
    else o
  let d := { d with obs := o }
  (wrap, if wrap then { d with cyc.hwSet := (OBS_OVF (k / 32), wMask (k % 32) 1) :: d.cyc.hwSet } else d)

/-- The counters that an occurrence of extended source `n` reaches: the dedicated one and the fall-back counters that
select it (R479, R480). -/
def obsTargets (n : Nat) (d : Dev) : List Nat :=
  (if n < 0x180 then [n] else []) ++
    d.regs.filterMap (fun e =>
      if OBS_FSEL 0 ≤ e.1 ∧ e.1 < OBS_FSEL 16 ∧ wGet e.2 0 11 = n then some (384 + (e.1 - OBS_FSEL 0) / 4) else none)

/-- Record an event in the NV event area, which holds 16 (R78, R410); one that finds it full is not recorded (DESIGN CHOICE, log entry 166). -/
def nvRecord (r : EvRec) (d : Dev) : Dev := { d with pwr.nvEvents := (d.pwr.nvEvents ++ [r]).take 16 }

/-- Record an event in the log (R407); during a save also in NV (R78). -/
def logEvent (e : Ev) (par : List Nat) (d : Dev) : Dev :=
  let r : EvRec := ⟨d.evSeq, d.time64, e, par⟩
  let d := { d with evLog := (r :: d.evLog).take 256, evSeq := d.evSeq + 1 }
  if d.pwr.save = .running then nvRecord r d else d

/-- Count one occurrence, raising OBS_OVERFLOW for a wrap (R477, R484). The fuel bounds wraps of the overflow counter. -/
def countF : Nat → Nat → Dev → Dev
  | 0, _, d => d
  | fuel + 1, n, d =>
    (obsTargets n d).foldl (fun d k =>
      let r := obsAdd k d
      if r.1 then countF fuel 0x16B (logEvent .OBS_OVERFLOW [k] r.2) else r.2) d

/-- Count one occurrence of source `n` (R479, R480). -/
def count (n : Nat) (d : Dev) : Dev := countF 3 n d

/-- One occurrence of source `n`, counted in this cycle, is taken back. -/
def uncount (n : Nat) (d : Dev) : Dev :=
  (obsTargets n d).foldl (fun d k =>
    let i := tabGet 0 k d.obs.incN
    if i = 0 then d
    else { d with obs.cnt := tabPut 0 k ((tabGet 0 k d.obs.cnt + (2 ^ 48 - 1)) % 2 ^ 48) d.obs.cnt, obs.incN := tabPut 0 k (i - 1) d.obs.incN }) d

/-- Raise an event: record it and count it. -/
def raise (e : Ev) (par : List Nat) (d : Dev) : Dev :=
  let d := logEvent e par d
  match e.counter with
  | none => d
  | some n => count n d

/-- Count `k` occurrences. -/
def countN (n : Nat) : Nat → Dev → Dev
  | 0, d => d
  | k + 1, d => countN n k (count n d)

/-- A health condition of a part on trial has failed (R455, R457). -/
def trialFails (part : Nat) (d : Dev) : Dev :=
  if (tabGet {} part d.sec.acts : ActS).st = 2 then { d with sec.failing := d.sec.failing ++ [part] } else d

/-! ### Access violations -/

/-- Insert into the entries of one cycle by initiator, then address (R35). -/
def avInsert (e : AvEntry) : List AvEntry → List AvEntry
  | [] => [e]
  | x :: t =>
    if x.cycle = e.cycle ∧ (e.ini < x.ini ∨ (e.ini = x.ini ∧ e.addr < x.addr)) then e :: x :: t
    else x :: avInsert e t

/-- Record one access violation, or count it as lost (R35, R36). Its event waits for the end of the cycle, since a violation
of a lower initiator may yet take its place. -/
def violation (kind addr ini sess : Nat) (write unpriv : Bool) (size : Nat) (d : Dev) : Dev :=
  let e : AvEntry := ⟨addr, kind, ini, write, unpriv, (if size = 4 then 2 else if size = 2 then 1 else 0), sess, d.time64, d.now⟩
  let l := avInsert e d.av.entries
  let d := count kind (count 0 d)
  let d : Dev := { d with cyc.viols := avInsert e d.cyc.viols }
  if l.length ≤ 16 then { d with av.entries := l }
  else { d with av.entries := l.take 16, av.lost := min (d.av.lost + 1) 65535 }

/-- The events of the violations that this cycle has stored (R35). -/
def avEvents (d : Dev) : Dev :=
  (d.av.entries.filter (fun e => decide (e.cycle = d.now))).foldl (fun d e => raise .ACCESS_VIOLATION [e.kind, e.addr, e.ini] d) d

/-! ### Boot slots (R448, R458, R459) -/

/-- The Teller runs from slot `s`. -/
def tellerSlotPut (s : Nat) (d : Dev) : Dev := { d.set SCU_BOOTSTAT_TELLER_SLOT s with sec.slotT := s }

/-- Half `h` runs from slot `s`. -/
def halfSlotPut (h s : Nat) (d : Dev) : Dev :=
  if h = 0 then { d.set SCU_BOOTSTAT_RT_SLOT_A s with sec.slotA := s } else { d.set SCU_BOOTSTAT_RT_SLOT_B s with sec.slotB := s }

/-! ### Lists of instants -/

/-- The instants of `l` that lie within the last `win` ns, with `now` added. -/
def within (now win : Nat) (l : List Nat) : List Nat := now :: l.filter (fun t => decide (now < t + win))

/-- A source of R261 has been updated: class and index. -/
def stamp (cls i : Nat) (d : Dev) : Dev := { d with stamps := tabIns (cls * 65536 + i) d.now d.stamps }

/-! ### Sessions -/

/-- The open session with a number. -/
def Dev.session (d : Dev) (n : Nat) : Option Sess := d.heg.sessions.find? (fun s => s.num == n)

/-- Replace a session. -/
def Dev.setSession (d : Dev) (s : Sess) : Dev :=
  { d with heg.sessions := d.heg.sessions.map (fun x => if x.num = s.num then s else x) }

/-- The role of a session; OBSERVER when none is open. A timed request is applied with the role of its acceptance (R389). -/
def Dev.sessRole (d : Dev) (n : Nat) : Nat :=
  match d.heg.tctx with
  | some (m, r, _) => if m = n then r else ((d.session n).map (·.role)).getD 0
  | none => ((d.session n).map (·.role)).getD 0

/-- The role in which an access is made (R508): cores qualify for every role, the debug port as OWNER, the mirror agent as
its session; no other initiator qualifies. -/
def Dev.roleOf (d : Dev) (ini sess : Nat) : Nat :=
  if ini = 14 then d.sessRole sess else if ini < 8 ∨ ini = 12 then 3 else 0

/-- The key under which a reader's latches are held (R40). -/
def readerKey (ini sess : Nat) : Nat := if ini = 14 then 16 + sess else ini

/-- Record a message that the device sends in class `c`; the latest 64 are kept. -/
def sendIn (c : Option Nat) (kind dest : Nat) (body : List Nat) (d : Dev) : Dev :=
  { d with heg.sent := (⟨kind, dest, body, c⟩ :: d.heg.sent).take 64 }

/-- Record a message for which the manual names no class. -/
def sendMsg (kind dest : Nat) (body : List Nat) (d : Dev) : Dev := sendIn none kind dest body d

end Sys2Proof.Machine
end

