-- ==== Sys2Proof/Machine/CeLib.lean ====
section
/-! DEFINITION. The standard program library of the engines (R258): what a run of a library program writes to its OUT ports
and state words. Values for which the manual states no arithmetic are free values. -/

namespace Sys2Proof.Machine

/-- Input, data and output helpers of one library run: the run, the data memory and the OUT base of its slot. -/
structure LibEnv where
  r    : Run
  mem  : Nat → W16
  base : Nat

/-- Data word `j` from DBASE, as Q15. -/
def LibEnv.dw (e : LibEnv) (j : Nat) : Int := (e.mem ((e.r.dbase + j) % 1024)).toInt
/-- Data word `j` as a raw number. -/
def LibEnv.raw (e : LibEnv) (j : Nat) : Nat := (e.mem ((e.r.dbase + j) % 1024)).toNat
/-- Value of IN port `j` of the window. -/
def LibEnv.inp (e : LibEnv) (j : Nat) : Int := (e.r.ins.getD j (0, true)).1.toInt
/-- IN port `j` of the window is valid. -/
def LibEnv.ok (e : LibEnv) (j : Nat) : Bool := !(e.r.ins.getD j (0, true)).2
/-- State word `j` of the run's working copy. -/
def LibEnv.sw (e : LibEnv) (j : Nat) : Word := e.r.work.getD j 0
/-- Bits [31:16] of a state word, signed. -/
def hiOf (w : Word) : Int := ((w.extractLsb' 16 16) : W16).toInt

/-- Write OUT port `j` of the window. -/
def Run.put (r : Run) (base j : Nat) (x : Int) : Run := { r with out := tabIns (base + j) (BitVec.ofInt 16 x) r.out }
/-- Write a state word. -/
def Run.stw (r : Run) (j : Nat) (w : Word) : Run := { r with work := r.work.set j w }
/-- A state word from a signed high half and a low half. -/
def packHi (hi : Int) (lo : Nat) : Word := BitVec.ofInt 32 (hi * 65536 + (lo % 65536 : Nat))

/-- rnd(x, 16) of R275. -/
def rnd16 (x : Int) : Int := (x + 32768) / 65536
/-- Saturate to Q15, noting it in SAT. -/
def sat16N (x : Int) (s : Bool) : Int × Bool := (satTo 16 x, s || outside 16 x)

/-- The P term of R275 with its saturation mark. -/
def pTerm (kp e : Int) (ps : Nat) : Int × Bool := sat16N (rnd16 (kp * e * 2 * (2 ^ ps : Nat))) false
/-- The feed-forward term of R275. -/
def ffTerm (k x : Int) : Int × Bool :=
  let d := sat16N x false
  sat16N (rnd16 (k * d.1 * 2)) d.2

/-- The limits of a loop: when the lower exceeds the upper, the lower is used for both (R274). -/
def limPair (lo hi : Int) : Int × Int := (lo, if lo > hi then lo else hi)
/-- lim() of R275. -/
def limTo (l : Int × Int) (x : Int) : Int := max (min x l.2) l.1
/-- Output slewing of R274: 0 holds, 0x7FFF is unlimited. -/
def slewTo (prev u s : Int) : Int := if s = 32767 then u else (slewOf prev u s).1

/-- The integrator preset sat32((u − p − ff) << 16). -/
def preset (u p ff : Int) : Int := satTo 32 ((u - p - ff) * 65536)

/-- One zone of ZPI (R275): new run. -/
def zpiZone (v : LibEnv) (i : Nat) (r : Run) : Run :=
  let okz := v.ok (1 + 2 * i) && v.ok (2 + 2 * i)
  let d := sat16N (v.inp (1 + 2 * i) - v.inp (2 + 2 * i)) false
  let e := if okz then (deadbOf d.1 (v.dw (10 + 4 * i))).1 else 0
  let p := if okz then pTerm (v.dw (8 + 4 * i)) e (min (v.raw 0) 7) else (0, false)
  let ff := if v.ok 0 then ffTerm (v.dw 4) (v.inp 0 - v.dw 5) else (0, false)
  let lim := limPair (v.dw 1) (v.dw 2)
  let trk := v.raw (11 + 4 * i)
  let st := v.sw (2 * i + 1)
  let prev := hiOf st
  let r := r.satIf ((okz && d.2) || p.2 || ff.2)
  let fin := fun (u integ : Int) (tr : Nat) (s : Bool) =>
    ((((r.satIf s).stw (2 * i) (BitVec.ofInt 32 integ)).stw (2 * i + 1) (packHi u tr)).put v.base i u)
  if trk ≠ 0x8000 then
    let u := limTo lim (v.dw (11 + 4 * i))
    fin u (preset u p.1 ff.1) 1 (outside 32 ((u - p.1 - ff.1) * 65536))
  else if !okz then r
  else if st.getLsbD 0 then fin prev (preset prev p.1 ff.1) 0 (outside 32 ((prev - p.1 - ff.1) * 65536))
  else
    let integ := max (min ((v.sw (2 * i)).toInt + v.dw (9 + 4 * i) * e * 2) (lim.2 * 65536)) (lim.1 * 65536)
    let s := sat16N (rnd16 integ + p.1 + ff.1) false
    fin (slewTo prev (limTo lim s.1) (v.dw 3)) integ 0 s.2

/-- ZPI (R274, R275). -/
def zpiRun (v : LibEnv) (zones : Nat) : Run := (List.range zones).foldl (fun r i => zpiZone v i r) v.r

/-- One loop of CASC as a ZPI zone with DB 0: output before slewing, integrator and saturation mark. -/
def cascLoop (e kp ki integ ff : Int) (lim : Int × Int) (ps : Nat) : Int × Int × Bool :=
  let p := pTerm kp e ps
  let i := max (min (integ + ki * e * 2) (lim.2 * 65536)) (lim.1 * 65536)
  let s := sat16N (rnd16 i + p.1 + ff) false
  (limTo lim s.1, i, p.2 || s.2)

/-- CASC (R276). -/
def cascRun (v : LibEnv) : Run :=
  let ps := min (v.raw 14) 7
  let st := v.sw 3
  let valve := hiOf st
  let fan : Int := ((BitVec.ofNat 16 (st.toNat % 65536 / 2 * 2)) : W16).toInt
  let tracked := st.getLsbD 0
  let tl := limPair (v.dw 2) (v.dw 3)
  let eo := sat16N (v.inp 0 - v.inp 1) false
  let outer := if v.ok 0 && v.ok 1 then cascLoop eo.1 (v.dw 0) (v.dw 1) (v.sw 0).toInt 0 tl ps
    else (limTo tl (satTo 16 (rnd16 (v.sw 0).toInt)), (v.sw 0).toInt, false)
  let ts := outer.1
  let r := (v.r.satIf (outer.2.2 || (v.ok 0 && v.ok 1 && eo.2))).stw 0 (BitVec.ofInt 32 outer.2.1)
  let vl := limPair (v.dw 7) (v.dw 8)
  let ei := sat16N (ts - v.inp 2) false
  let ff := if v.ok 3 then ffTerm (v.dw 6) (ts - v.inp 3) else (0, false)
  let pi := pTerm (v.dw 4) ei.1 ps
  let inner : Option (Int × Int × Bool × Bool) :=
    if !v.ok 2 then none
    else if v.raw 15 ≠ 0x8000 then
      let u := limTo vl (v.dw 15)
      some (u, preset u pi.1 ff.1, true, outside 32 ((u - pi.1 - ff.1) * 65536))
    else if tracked then some (valve, preset valve pi.1 ff.1, false, outside 32 ((valve - pi.1 - ff.1) * 65536))
    else
      let x := cascLoop ei.1 (v.dw 4) (v.dw 5) (v.sw 1).toInt ff.1 vl ps
      some (x.1, x.2.1, false, x.2.2)
  let r := match inner with
    | none => r
    | some (u, i, _, s) => ((r.satIf (s || ei.2 || ff.2 || pi.2)).stw 1 (BitVec.ofInt 32 i)).put v.base 0 u
  let valve' := match inner with | none => valve | some (u, _) => u
  let tr' := match inner with | none => tracked | some (_, _, t, _) => t
  let ep := sat16N (v.inp 4 - v.inp 5) false
  let okp := v.ok 4 && v.ok 5
  let pr := cascLoop ep.1 (v.dw 9) (v.dw 10) (v.sw 2).toInt 0 (limPair (v.dw 11) (v.dw 12)) ps
  let fan' := if okp then slewTo fan pr.1 (v.dw 13) else fan
  let r := if okp then ((r.satIf (pr.2.2 || ep.2)).stw 2 (BitVec.ofInt 32 pr.2.1)).put v.base 1 fan' else r
  r.stw 3 (packHi valve' ((BitVec.ofInt 16 fan').toNat / 2 * 2 + tr'.toNat))

/-- DEWP (R277). -/
def dewpRun (v : LibEnv) : Run :=
  let d := max (satTo 16 (-(v.inp 2))) 0
  let cnt := (hiOf (v.sw 0)).toNat
  let lim := hiOf (v.sw 1) ≠ 0
  if !(v.ok 0 && v.ok 1) then (v.r.stw 0 0).put v.base 0 0
  else
    let m := sat16N (v.inp 1 - v.inp 0) false
    let hi := v.dw 0
    let lo := v.dw 1
    let dwell := min (max (v.raw 3) 1) 255
    let hit := if lim then decide (m.1 ≥ hi + v.dw 2) else decide (m.1 < hi)
    let n := if hit then cnt + 1 else 0
    let lim' := if n ≥ dwell then !lim else lim
    let n' := if n ≥ dwell then 0 else n
    let q := if lo ≥ hi then 0 else max (min (satTo 16 (divOf (satTo 16 (m.1 - lo)) (satTo 16 (hi - lo)))) 32767) 0
    let out := if lim' then rnd16 (d * q * 2) else d
    ((((v.r.satIf m.2).stw 0 (packHi n' 0)).stw 1 (if lim' then 0x7FFF0000 else 0)).put v.base 0 out)

/-! #### VSEN (R278)

The reference quantities carry 18 decimal digits. The program's own values lie within the tolerances of R278 of them and are
free inside (log entry 134). -/

/-- One, in the reference quantities. -/
def vsOne : Int := 1000000000000000000

/-- exp(x) by its series, for x from −7 to 4. -/
def vsExp (x : Int) : Int := (List.range 45).foldr (fun (n : Nat) (acc : Int) => vsOne + x * acc / (((n : Int) + 1) * vsOne)) vsOne

/-- ln of a ratio `y` from 1 to 2, as twice the area tangent of (y − 1) / (y + 1). -/
def vsLnCore (y : Int) : Int :=
  let a := (y - vsOne) * vsOne / (y + vsOne)
  let a2 := a * a / vsOne
  2 * a * ((List.range 19).foldr (fun (n : Nat) (acc : Int) => vsOne / (2 * (n : Int) + 1) + a2 * acc / vsOne) 0) / vsOne

/-- ln of a positive Q15 number. -/
def vsLn (q : Nat) : Int :=
  let k := Nat.log2 q
  ((k : Int) - 15) * 693147180559945309 + vsLnCore ((q : Int) * vsOne / (2 ^ k : Nat))

/-- 17.62 T / (243.12 + T) at a temperature in 1/512 °C. -/
def vsMagnus (q : Int) : Int := 1762 * q * vsOne / (12447744 + 100 * q)

/-- Td of R278 at an engine temperature and a positive Q15 humidity, in 10^-18 °C. -/
def vsDew (q : Int) (rh : Nat) : Int :=
  let g := vsLn rh + vsMagnus q
  24312 * g * vsOne / (1762 * vsOne - 100 * g)

/-- h of R278 in 10^-18 kJ/kg; none where the vapour pressure reaches the air pressure of `p` units of 4 Pa. -/
def vsEnth (q : Int) (rh p : Nat) : Option Int :=
  let v := 6112 * vsExp (vsMagnus q) / 10 * (rh : Int) / 32768
  let rest := 4 * (p : Int) * vsOne - v
  if rest ≤ 0 then none
  else
    let w := 622 * v * vsOne / (1000 * rest)
    some (1006 * q * vsOne / 512000 + w * (2501 * 51200 + 186 * q) / 51200)

/-- A free number within `tol` thousandths of a unit of the last place of `x`, `unit` being one such place; saturated. -/
def vsWithin (x unit tol : Int) (free : Nat) : Int :=
  let lo := -((tol * unit / 1000 - x) / unit)
  let hi := (x + tol * unit / 1000) / unit
  satTo 16 (lo + (Config.freeNat free : Int) % (hi - lo + 1))

/-- VSEN (R278): the dew point to ±0.15 °C and the enthalpy to ±0.3 kJ/kg, for 0 °C to 50 °C and 5 % to 100 %; free elsewhere. -/
def vsenRun (v : LibEnv) (free : Nat) : Run × Nat :=
  if v.ok 0 && v.ok 1 then
    let t := clampI (v.dw 1) (v.dw 2) (v.inp 0)
    let rh := max (v.inp 1) (v.dw 3)
    let any := fun (k : Nat) => (Config.freeNat k : Int)
    let good := decide (0 ≤ t ∧ t ≤ 25600 ∧ 5 * 32768 ≤ 100 * rh)
    let td := if good then vsWithin (vsDew t rh.toNat) (vsOne / 512) 76800 free else any free
    let h := match vsEnth t rh.toNat (v.raw 0) with
      | some h => if good then vsWithin h (vsOne / 256) 76800 (free + 1) else any (free + 1)
      | none => any (free + 1)
    ((v.r.put v.base 0 td).put v.base 1 h, free + 2)
  else (v.r, free)

/-- The largest valid input of FANC (R308). -/
def fancDemand (v : LibEnv) (n : Nat) : Option Int :=
  (List.range n).foldl (fun a j =>
    if v.ok j then (match a with | none => some (v.inp j) | some x => some (max x (v.inp j))) else a) none

/-- The curve of FANC (R308) at demand `x`. -/
def fancCurve (v : LibEnv) (x : Int) : Int :=
  if x < v.dw 0 then v.dw 8
  else
    let i := (List.range 8).foldl (fun a j => if v.dw j ≤ x then j else a) 0
    if i ≥ 7 then v.dw 15
    else v.dw (8 + i) + Int.tdiv ((v.dw (9 + i) - v.dw (8 + i)) * (x - v.dw i)) (v.dw (i + 1) - v.dw i)

/-- FANC (R308). -/
def fancRun (v : LibEnv) (n : Nat) : Run :=
  let u := match fancDemand v n with
    | none => -32768
    | some x => max (fancCurve v x) (v.dw 16)
  (v.r.stw 0 (packHi u 0)).put v.base 0 u

/-- State words whose contents the manual leaves open. -/
def freeWords (from_ n free : Nat) (r : Run) : Run :=
  (List.range n).foldl (fun r k => r.stw (from_ + k) (BitVec.ofNat 32 (Config.freeNat (free + k)))) r

/-- FOC_I's start sequence (R300): runs of the alignment, the forced speed in 1/256 Q15 LSB, consecutive runs within LOCK_ERR, and
that the observer has locked. Where the state words hold it is the model's choice (log entry 162). -/
structure FocStart where
  runs : Nat
  spd  : Nat
  near : Nat
  lock : Bool
deriving DecidableEq, Repr

/-- The start sequence as state words 20 to 22 hold it. -/
def focLoad (v : LibEnv) : FocStart :=
  ⟨(v.sw 20).toNat / 65536, (v.sw 21).toNat, (v.sw 20).toNat % 65536, (v.sw 22).getLsbD 0⟩

/-- One run of START: ALIGN_RUNS runs along angle 0, then a forced angle whose speed rises by RAMP_RATE / 256 up to RAMP_END, until the
observer has been within LOCK_ERR of it (`close`) for LOCK_RUNS runs. -/
def focStep (v : LibEnv) (close : Bool) (x : FocStart) : FocStart :=
  if x.lock then x
  else if x.runs < v.raw 15 then { x with runs := x.runs + 1 }
  else
    let near := if close then min (x.near + 1) 65535 else 0
    { x with spd := min (x.spd + v.raw 17) ((max (v.dw 18) 0).toNat * 256), near := near, lock := decide (v.raw 20 ≤ near) }

/-- Duties of three phases: min-max centring of a voltage vector within VMAX, each within 0 to 0x7FFF. The vector is free. -/
def focDuties (vmax free : Nat) : List Int :=
  let y := [0, 1, 2].map (fun k => (Config.freeNat (free + k) % (2 * vmax + 1) : Nat) - (vmax : Int))
  let mid := (y.foldl max (-32768) + y.foldl min 32768) / 2
  y.map (fun x => clampI 0 32767 (16384 - (Config.freeNat (free + 3) % 2 : Nat) + x - mid))

/-- FOC_I (R300). HALT clears its state, which a slot at its enabling finds clear as well; the regulators' and the observer's arithmetic is not
stated, so what they hold and the duties are free. -/
def focIRun (v : LibEnv) (free : Nat) : Run × Nat :=
  if !(v.ok 0 && v.ok 1 && v.ok 2) then (v.r, free)
  else if v.inp 3 = -32767 ∨ v.inp 3 = -32766 then
    (((List.range 24).foldl (fun r k => r.stw k 0) v.r).put v.base 3 (-32768), free)
  else
    let start := decide (v.inp 3 = -32768)
    let x := focLoad v
    let x := if start then focStep v (Config.freeNat (free + 21) % 2 = 1) x else x
    let r := freeWords 23 1 (free + 20) (freeWords 0 20 free v.r)
    let r := ((r.stw 20 (BitVec.ofNat 32 (x.runs * 65536 + x.near))).stw 21 (BitVec.ofNat 32 x.spd)).stw 22 (BitVec.ofNat 32 x.lock.toNat)
    let u := focDuties (if start then 32767 else (max (v.dw 13) 0).toNat) (free + 22)
    let r := (upto 3).foldl (fun r k => r.put v.base k (u.getD k 0)) r
    (r.put v.base 3 (if x.lock then (Config.freeNat (free + 26) : Nat) else -32768), free + 27)

/-- FOC_S (R301). State word 1 holds the previous output in [31:16] and, in bit 0, that the last reference was valid; the
other words are open. -/
def focSRun (v : LibEnv) (free : Nat) : Run × Nat :=
  let prev := hiOf (v.sw 1)
  let was := (v.sw 1).getLsbD 0
  let qmax := min (max (v.dw 3) 0) 32765
  let fin := fun (u : Int) (ok : Bool) =>
    (((freeWords 2 2 (free + 1) (v.r.stw 0 (BitVec.ofNat 32 (Config.freeNat free)))).stw 1 (packHi u ok.toNat)).put v.base 0 u, free + 4)
  if !v.ok 0 then fin (if v.inp 0 = 1 then -32768 else -32767) false
  else if !v.ok 1 ∨ v.inp 1 = -32768 then (v.r.put v.base 0 prev, free)
  else if !was then fin (clampI (-qmax) qmax (if v.inp 0 < 0 then -(v.dw 4) else v.dw 4)) true
  else fin (max (min ((BitVec.ofNat 16 (Config.freeNat (free + 3)) : W16).toInt) qmax) (-qmax)) true

/-- A two-bit signed field. -/
def two (w : Word) (lo : Nat) : Int := ((w.extractLsb' lo 2) : BitVec 2).toInt

/-- The working values of FLT3 (R335, R336). -/
structure Flt where
  pos : Int
  past : Int
  runs : Nat
  idle : Nat
  dir : Int
  last : Int
  at_ : Int
  sync : Bool
deriving DecidableEq, Repr

/-- What FLT3 steers toward: closed −1, open 1, hold 0, or a position. -/
inductive FltGoal where
  | closed | opened | hold | to (u : Int)
deriving DecidableEq, Repr

/-- The travel and resynchronization part of R336. -/
def fltMove (v : LibEnv) (f : Flt) : Flt :=
  let f := if f.dir > 0 then
      let x := f.pos + v.dw 0
      { f with past := if x > 32767 then min (f.past + (x - 32767)) 65535 else f.past, pos := min x 32767 }
    else if f.dir < 0 then
      let x := f.pos - v.dw 1
      { f with past := if x < 0 then min (f.past - x) 65535 else f.past, pos := max x 0 }
    else f
  let f := if f.dir ≠ 0 then { f with runs := min (f.runs + 1) 65535 } else f
  let f := if f.dir < 0 ∧ (f.past ≥ v.dw 5 ∨ (v.ok 1 ∧ v.inp 1 > 0)) then { f with pos := 0, sync := true, at_ := -1 } else f
  if f.dir > 0 ∧ f.past ≥ v.dw 5 then { f with pos := 32767, sync := true, at_ := 1 } else f

/-- The goal of R336. -/
def fltGoal (v : LibEnv) (f : Flt) : FltGoal :=
  if !f.sync then .closed
  else if !v.ok 0 then .hold
  else if v.inp 0 ≤ v.dw 6 then .closed
  else if v.inp 0 ≥ v.dw 7 then .opened
  else .to (v.inp 0)

/-- The decision part of R336. -/
def fltDecide (v : LibEnv) (f : Flt) : Flt :=
  let want : Int := match fltGoal v f with
    | .closed => if f.at_ = -1 then 0 else -1
    | .opened => if f.at_ = 1 then 0 else 1
    | .hold => 0
    | .to g => if g - f.pos > v.dw 2 then 1 else if f.pos - g > v.dw 2 then -1 else 0
  let want := if want = 0 ∧ f.dir ≠ 0 ∧ f.at_ = 0 ∧ f.runs < v.raw 3 then f.dir else want
  let want := if want ≠ 0 ∧ want = -f.last ∧ f.idle < v.raw 4 then 0 else want
  let f := if want ≠ 0 ∧ want ≠ f.dir then { f with runs := 0, past := 0, at_ := 0 } else f
  let f := if want = 0 then { f with idle := min (f.idle + 1) 65535 } else { f with idle := 0, last := want }
  { f with dir := want }

/-- FLT3 (R335, R336). -/
def flt3Run (v : LibEnv) : Run :=
  let s3 := v.sw 3
  let f : Flt := ⟨hiOf (v.sw 0), (v.sw 1).toNat / 65536, (v.sw 2).toNat / 65536, (v.sw 2).toNat % 65536,
    two s3 30, two s3 28, two s3 26, s3.getLsbD 25⟩
  let f := fltDecide v (fltMove v f)
  let w3 := (f.dir % 4).toNat * 0x40000000 + (f.last % 4).toNat * 0x10000000 + (f.at_ % 4).toNat * 0x4000000 + f.sync.toNat * 0x2000000
  ((((((v.r.stw 0 (packHi f.pos 0)).stw 1 (packHi f.past 0)).stw 2 (BitVec.ofNat 32 (f.runs * 65536 + f.idle))).stw 3
    (BitVec.ofNat 32 w3)).put v.base 0 (f.dir * 16384)).put v.base 1 f.pos)

/-- PROG_ID and SLEN of the library programs, and their cycle limits (R258). -/
def libSlen (pid : Nat) : Option Nat :=
  match pid with
  | 0xF001 => some 16 | 0xF002 => some 4 | 0xF003 => some 24 | 0xF004 => some 4
  | 0xF005 => some 2 | 0xF006 => some 2 | 0xF007 => some 4 | 0xF008 => some 0
  | _ => none

/-- The cycle maximum of a library run (R258). -/
def libCycles (pid inN outN : Nat) : Nat :=
  match pid with
  | 0xF001 => 24 + 46 * outN | 0xF002 => 410 | 0xF003 => 236 | 0xF004 => 120
  | 0xF005 => 30 + 3 * inN | 0xF006 => 90 | 0xF007 => 60 | _ => 150

/-- The port counts that fit a library program (R258, code 10 of R226). -/
def libPorts (pid inN outN : Nat) : Bool :=
  match pid with
  | 0xF001 => 1 ≤ outN && outN ≤ 8 && inN = 1 + 2 * outN
  | 0xF002 => inN = 6 && outN = 2
  | 0xF003 => inN = 4 && outN = 4
  | 0xF004 => inN = 2 && outN = 1
  | 0xF005 => 1 ≤ inN && inN ≤ 64 && outN = 1
  | 0xF006 => inN = 3 && outN = 1
  | 0xF007 => inN = 2 && outN = 2
  | 0xF008 => inN = 2 && outN = 2
  | _ => true

/-- The whole run of a library program at its END: OUT values, state words and cycles; the second component is the next
free value. -/
def libRun (mem : Nat → W16) (outBase inN outN free : Nat) (r : Run) : Run × Nat :=
  let v : LibEnv := ⟨r, mem, outBase⟩
  let x : Run × Nat := match r.lib with
    | 0xF001 => (zpiRun v outN, free)
    | 0xF002 => (cascRun v, free)
    | 0xF003 => focIRun v free
    | 0xF004 => focSRun v free
    | 0xF005 => (fancRun v inN, free)
    | 0xF006 => (dewpRun v, free)
    | 0xF007 => (flt3Run v, free)
    | _ => vsenRun v free
  ({ x.1 with cycles := Config.freeNat x.2 % libCycles r.lib inN outN + 1 }, x.2 + 1)

end Sys2Proof.Machine
end

