-- ==== Sys2Proof/Machine/IoOps.lean ====
section
/-! DEFINITION. Writes that reach the fields of the MDU and the AIO: pending copies and latch groups (R309, R321, R322),
pairs (R319), pulses (R318), the levels of the balls (R66, R324, R493) and the bridge (R295). Bus writes, postings and
engine releases all come here. -/

namespace Sys2Proof.Machine

/-! ### State of one channel -/

def Dev.motor (d : Dev) (m : Nat) : MotorS := tabGet {} m d.mdu.motors
def Dev.setMotor (d : Dev) (m : Nat) (s : MotorS) : Dev := { d with mdu.motors := tabPut {} m s d.mdu.motors }
def Dev.fan (d : Dev) (f : Nat) : FanS := tabGet {} f d.mdu.fans
def Dev.setFan (d : Dev) (f : Nat) (s : FanS) : Dev := { d with mdu.fans := tabPut {} f s d.mdu.fans }
def Dev.drive (d : Dev) (n : Nat) : DriveS := tabGet {} n d.mdu.drives
def Dev.setDrive (d : Dev) (n : Nat) (s : DriveS) : Dev := { d with mdu.drives := tabPut {} n s d.mdu.drives }
def Dev.i2c (d : Dev) (c : Nat) : I2cS := tabGet {} c d.aio.i2c
def Dev.setI2c (d : Dev) (c : Nat) (s : I2cS) : Dev := { d with aio.i2c := tabPut {} c s d.aio.i2c }

/-! ### Pairs and pulses -/

/-- ACT `n` is a member of an enabled pair (R319). -/
def inPair (d : Dev) (n : Nat) : Bool := d.bit (AIO_PAIRCFG_EN (n / 2))

/-- The direction that a DRV code commands: 1 open, 2 close, 0 stop (R319). -/
def drvDir (x : Nat) : Nat := if x = 1 then 1 else if x = 3 then 2 else 0

/-- The pair follows the DRV value in force without a gap: at the end of a gap, and at the output release (R319, R324). -/
def pairFollow (p : Nat) (d : Dev) : Dev :=
  if d.bit (AIO_PAIRCFG_EN p) && d.pwr.released then d.set (AIO_PAIR_STATE p) (drvDir (d.get (AIO_PAIR_DRV p)))
  else d.set (AIO_PAIR_STATE p) 0

/-- A new applied DRV value reaches a pair (R319). -/
def pairApply (p x : Nat) (d : Dev) : Dev :=
  let d := d.set (AIO_PAIR_DRV p) x
  if !(d.bit (AIO_PAIRCFG_EN p) && d.pwr.released) then d.set (AIO_PAIR_STATE p) 0
  else
    let st := d.get (AIO_PAIR_STATE p)
    let w := drvDir x
    if st = 3 then (if w = 0 then d.set (AIO_PAIR_STATE p) 0 else d)
    else if st ≠ 0 ∧ w ≠ 0 ∧ st ≠ w ∧ d.get (AIO_PAIRCFG_GAP p) ≠ 0 then count 0x0D7 (d.set (AIO_PAIR_STATE p) 3)
    else d.set (AIO_PAIR_STATE p) w

/-- A new applied level of ACT `n` (R318): in PULSE mode a change from 0 to 1 starts or restarts the pulse, which a 0 does not
end; a PULSE of 0 is over at once, with the pending copy cleared as at the end of any pulse. -/
def actApply (n : Nat) (b : Bool) (d : Dev) : Dev :=
  let old := d.bitN AIO_ACTOUT_LEVEL n
  let d := d.setN AIO_ACTOUT_LEVEL n b
  if inPair d n || d.get (AIO_ACTCFG_MODE n) ≠ 1 then d
  else if b && !old then
    if d.get (AIO_ACTCFG_PULSE n) = 0 then { d.setN AIO_ACTOUT_LEVEL n false with aio.pendAct := setBit d.aio.pendAct n false }
    else { d with aio.pulse := setBit d.aio.pulse n true }
  else d

/-- Write the ACT levels in `mask`; those with a latch group go to the pending copy (R321). -/
def actWrite (v mask : Nat) (d : Dev) : Dev :=
  (upto 32).foldl (fun d n =>
    if !mask.testBit n then d
    else if d.get (AIO_ACTCFG_LATCH n) = 15 then actApply n (v.testBit n) d
    else { d with aio.pendAct := setBit d.aio.pendAct n (v.testBit n) }) d

/-- GPIO output bit `n` takes a value (R328). -/
def gpioApply (n : Nat) (b : Bool) (d : Dev) : Dev :=
  if n < 32 then d.setN AIO_GPIOOUT_LO_OUT n b else d.setN AIO_GPIOOUT_HI_OUT (n - 32) b

/-- Write GPIO outputs `base + n` for the bits in `mask` (R321). -/
def gpioWrite (base v mask : Nat) (d : Dev) : Dev :=
  (upto 32).foldl (fun d n =>
    if !mask.testBit n then d
    else if d.get (AIO_GPIOCFG_LATCH (base + n)) = 15 then gpioApply (base + n) (v.testBit n) d
    else { d with aio.pendGpio := setBit d.aio.pendGpio (base + n) (v.testBit n) }) d

/-- Write the DRV field of a pair (R321). -/
def drvWrite (p x : Nat) (d : Dev) : Dev :=
  if d.get (AIO_PAIRCFG_LATCH p) = 15 then pairApply p x d
  else { d with aio.pendDrv := tabPut 0 p x d.aio.pendDrv }

/-- Write a DAC code; `latch` is the group in force when the write arrives (R320, R321). -/
def dacWrite (n x latch : Nat) (d : Dev) : Dev :=
  if latch = 15 then d.set (AIO_DAC_CODE n) x else { d with aio.pendDac := tabPut 0 n x d.aio.pendDac }

/-- The AIO latch groups in `mask` apply (R321, R322). -/
def aioApplyGroups (mask : Nat) (d : Dev) : Dev :=
  let hit := fun (g : Nat) => g < 15 && mask.testBit g
  let d := (upto 32).foldl (fun d n => if hit (d.get (AIO_ACTCFG_LATCH n)) then actApply n (d.aio.pendAct.testBit n) d else d) d
  let d := (upto 64).foldl (fun d n => if hit (d.get (AIO_GPIOCFG_LATCH n)) then gpioApply n (d.aio.pendGpio.testBit n) d else d) d
  let d := (upto 16).foldl (fun d p => if hit (d.get (AIO_PAIRCFG_LATCH p)) then pairApply p (tabGet 0 p d.aio.pendDrv) d else d) d
  let d := (upto 24).foldl (fun d n => if hit (d.get (AIO_DAC_LATCH n)) then d.set (AIO_DAC_CODE n) (tabGet 0 n d.aio.pendDac) else d) d
  countN 0x0D6 ((upto 15).filter hit).length d

/-! ### Levels at the balls -/

/-- ACT `n` is commanded to conduct by the AIO registers (R317 to R319). -/
def actLive (d : Dev) (n : Nat) : Bool :=
  !d.bitN AIO_ACTOC_OC n &&
    (if inPair d n then d.get (AIO_PAIR_STATE (n / 2)) = (if n % 2 = 0 then 1 else 2)
     else if d.get (AIO_ACTCFG_MODE n) = 1 then d.aio.pulse.testBit n
     else d.bitN AIO_ACTOUT_LEVEL n)

/-- nFAULT is driven low: before the outputs are released, while RCC_DOWN holds, from a line failure or a critical shutdown to the
restart, and at a thermal level of 2 or higher (R63, R65, R70, R74). -/
def nFaultLow (d : Dev) : Bool :=
  d.pwr.aon && (!d.pwr.released || d.pwr.rccDown || decide (d.pwr.save ≠ .none) || decide (2 ≤ d.get THM_STATUS_LEVEL))

/-- VIO supplies the balls: the buck runs (R47, R74). -/
def vioOn (d : Dev) : Bool := d.pwr.aon && d.pwr.buck

/-- The levels that the retention latches of the AIO balls hold while its domain is off; none where they stood in their safe state
(R493). -/
def ballsKept (d : Dev) : Option (Nat × Tab Nat × Nat × Nat) := if d.pwr.ballsHeld then d.aio.held else none

/-- CSEGn as its registers drive it: on unless the segment is CUT, HELD or OFF (R358). -/
def csegLive (d : Dev) (n : Nat) : Bool := d.get (CAN_STAT_SEG n) = 0 || d.get (CAN_STAT_SEG n) = 2

/-- The level of CSEGn at the ball: high through its pull-up without VIO, on before release, and held while the CAN domain is off
(R66, R358, R492, R493). -/
def csegOn (d : Dev) (n : Nat) : Bool :=
  !vioOn d || !d.pwr.released || (if d.ready 9 then csegLive d n else !d.pwr.csegHeld.testBit n)

/-- ACT `n` conducts at its ball (R66, R74, R317, R324, R493). -/
def actOn (d : Dev) (n : Nat) : Bool :=
  vioOn d && d.pwr.released && (if d.ready 7 then actLive d n else (match ballsKept d with | none => false | some h => h.1.testBit n))

/-- The DAC code at ball AOUT `n` (R66, R74, R320, R493). -/
def dacBall (d : Dev) (n : Nat) : Nat :=
  if !vioOn d ∨ !d.pwr.released then 0
  else if d.ready 7 then d.get (AIO_DAC_CODE n) else (match ballsKept d with | none => 0 | some h => tabGet 0 n h.2.1)

/-- GPIO ball `n`: none while it is an input, its level while it is driven (R66, R328, R493). -/
def gpioBall (d : Dev) (n : Nat) : Option Bool :=
  if !vioOn d ∨ !d.pwr.released then none
  else if d.ready 7 then
    if d.bit (AIO_GPIOCFG_DIR n) then
      some ((if n < 32 then d.bitN AIO_GPIOOUT_LO_OUT n else d.bitN AIO_GPIOOUT_HI_OUT (n - 32)) != d.bit (AIO_GPIOCFG_POL n))
    else none
  else
    match ballsKept d with
    | none => none
    | some (_, _, out, dir) => if dir.testBit n then some (out.testBit n) else none

/-- A mask of the numbers below `n` that satisfy `p`. -/
def maskOf (n : Nat) (p : Nat → Bool) : Nat := (upto n).foldl (fun m i => if p i then m + 2 ^ i else m) 0

/-- The retention latches take the levels of the AIO balls when the domain turns off (R493). -/
def aioRetain (d : Dev) : Dev :=
  { d with aio.held := some (maskOf 32 (actLive d),
      (upto 24).foldl (fun t n => tabPut 0 n (d.get (AIO_DAC_CODE n)) t) [],
      maskOf 64 (fun n => (if n < 32 then d.bitN AIO_GPIOOUT_LO_OUT n else d.bitN AIO_GPIOOUT_HI_OUT (n - 32)) != d.bit (AIO_GPIOCFG_POL n)),
      maskOf 64 (fun n => d.bit (AIO_GPIOCFG_DIR n))), pwr.ballsHeld := d.pwr.released }

/-- The retention latches of the CSEG balls when the CAN domain turns off (R493). -/
def csegRetain (d : Dev) : Dev := { d with pwr.csegHeld := if d.pwr.released then maskOf 8 (fun n => !csegLive d n) else 0 }

/-! ### Motor and fan channels -/

/-- The attempt count of a motor (R298): its field and the count of 16 that the field cannot hold. -/
def motorTries (d : Dev) (m : Nat) : Nat := d.get (MDU_MSTAT_ATTEMPT m) + 16 * (d.motor m).more.toNat

/-- The attempt count of a motor becomes `n`; the field shows its low four bits (DEDUCED, log entry 160). -/
def motorTriesPut (m n : Nat) (d : Dev) : Dev :=
  (d.set (MDU_MSTAT_ATTEMPT m) (n % 16)).setMotor m { d.motor m with more := decide (16 ≤ n) }

/-- The attempt count of a fan (R305). -/
def fanTries (d : Dev) (f : Nat) : Nat := d.get (MDU_FSTAT_ATTEMPT f) + 16 * (d.fan f).more.toNat

/-- The attempt count of a fan becomes `n` (DEDUCED, log entry 160). -/
def fanTriesPut (f n : Nat) (d : Dev) : Dev :=
  (d.set (MDU_FSTAT_ATTEMPT f) (n % 16)).setFan f { d.fan f with more := decide (16 ≤ n) }

/-- Turn a bridge off: MEN low, COAST begins, and has passed at once where it is 0 (R295, R298). `cause` as MDU_MSTAT.CAUSE. -/
def bridgeOff (m st cause : Nat) (d : Dev) : Dev :=
  let d := d.set (MDU_MSTAT_STATE m) st
  let d := d.set (MDU_MSTAT_CAUSE m) cause
  let d := d.set (MDU_MSTAT_MEN m) 0
  let d := d.set (MDU_MSPD_SPDCMD m) 0
  let s := d.motor m
  d.setMotor m { s with coast := decide (d.get (MDU_MSTART_COAST m) ≠ 0), wdogOn := false, wdogCnt := 0, valleys := 0, frac := 0, atZero := false }

/-- Enter START (R298): attempt + 1, SPDCMD 1 and invalid, the start window begins. -/
def motorStart (m : Nat) (d : Dev) : Dev :=
  let d := motorTriesPut m (motorTries d m + 1) d
  let d := d.set (MDU_MSTAT_STATE m) 1
  let d := d.set (MDU_MSPD_SPDCMD m) 1
  let s := d.motor m
  d.setMotor m { s with coast := false, wdogOn := false, wdogCnt := 0, valleys := 0, written := false, frac := 0, atZero := false }

/-- The first row of R298: OFF with RUN 1, outputs released and COAST passed enters START. -/
def motorTryStart (m : Nat) (d : Dev) : Dev :=
  if d.get (MDU_MSTAT_STATE m) = 0 ∧ d.bit (MDU_MCMD_RUN m) ∧ d.pwr.released ∧ !(d.motor m).coast then motorStart m d else d

/-- A new applied value of RUN (R298). -/
def runApply (m : Nat) (b : Bool) (d : Dev) : Dev :=
  let d := d.setB (MDU_MCMD_RUN m) b
  let st := d.get (MDU_MSTAT_STATE m)
  if b then
    if st = 0 then motorTryStart m d
    else if st = 3 then d.setMotor m { d.motor m with atZero := false, valleys := 0 } |>.set (MDU_MSTAT_STATE m) 2
    else d
  else
    if st = 2 then d.setMotor m { d.motor m with atZero := false, valleys := 0 } |>.set (MDU_MSTAT_STATE m) 3
    else if st = 1 ∨ st = 4 then motorTriesPut m 0 (bridgeOff m 0 1 d)
    else d

/-- The curve of R304: linear between the points, truncating toward zero. `pts` are (speed, duty), ascending. -/
def curveAt (pts : List (Nat × Nat)) (x : Nat) : Nat :=
  match pts with
  | [] => 0
  | (s0, y0) :: t =>
    if x ≤ s0 then y0
    else
      (t.foldl (fun (acc : Option Nat × Nat × Nat) p =>
        match acc.1 with
        | some _ => acc
        | none =>
          if p.1 ≤ acc.2.1 then acc
          else if x ≤ p.1 then
            (some (((acc.2.2 : Int) + Int.tdiv (((p.2 : Int) - acc.2.2) * ((x : Int) - acc.2.1)) ((p.1 : Int) - acc.2.1)).toNat), acc.2.1, acc.2.2)
          else (none, p.1, p.2)) (none, s0, y0) |> fun r => r.1.getD r.2.2)

/-- The CURVE points of a fan. -/
def fanCurve (f : Nat) (d : Dev) : List (Nat × Nat) :=
  (upto 8).map (fun k => (d.get (MDU_FCURVE_SPEED f k), d.get (MDU_FCURVE_DUTY f k)))

/-- The duty that a fan's state, target and mode ask for (R304, R305). -/
def fanDuty (f : Nat) (d : Dev) : Nat :=
  let st := d.get (MDU_FSTAT_STATE f)
  let t := (clampI 0 32767 (d.sget (MDU_FTGT_TARGET f))).toNat
  if st = 1 then 32767
  else if st = 2 then
    if d.bit (MDU_FCFG_MODE f) then t
    else (clampI 0 32767 ((curveAt (fanCurve f d) t : Int) + (d.fan f).trim)).toNat
  else if st = 3 then (if d.bit (MDU_FCFG_MODE f) then t else min 32767 (curveAt (fanCurve f d) t))
  else 0

/-- Compute a fan's new duty; it takes effect at the next period start (R302). -/
def fanRefresh (f : Nat) (d : Dev) : Dev := d.setFan f { d.fan f with next := fanDuty f d }

/-- Enter SPINUP (R305): duty 32,767 for KICK, attempt + 1, trim 0 (R304); a KICK of 0 goes straight to RUN. -/
def fanSpinup (f : Nat) (d : Dev) : Dev :=
  let d := fanTriesPut f (fanTries d f + 1) d
  let d := d.set (MDU_FSTAT_STATE f) (if d.get (MDU_FCFG_KICK f) = 0 then 2 else 1)
  fanRefresh f (d.setFan f { d.fan f with trim := 0 })

/-- The fan is in OFF; its attempt count stays (R305). -/
def fanRest (f : Nat) (d : Dev) : Dev := fanRefresh f (d.set (MDU_FSTAT_STATE f) 0)

/-- Enter OFF with attempt 0 (R305). -/
def fanOff (f : Nat) (d : Dev) : Dev := fanRest f (fanTriesPut f 0 d)

/-- The fan's state follows its target (R305). -/
def fanFollow (f : Nat) (d : Dev) : Dev :=
  let st := d.get (MDU_FSTAT_STATE f)
  if d.sget (MDU_FTGT_TARGET f) ≤ 0 then (if st = 5 ∨ st = 0 then d else fanOff f d)
  else if st = 0 ∧ d.pwr.released then fanSpinup f d
  else fanRefresh f d

/-- A new applied fan target. -/
def fanTargetApply (f x : Nat) (d : Dev) : Dev := fanFollow f (d.set (MDU_FTGT_TARGET f) x)

/-- Write RUN and TARGET of a motor for the fields in the mask: bit 0 RUN, bit 1 TARGET (R309). -/
def mcmdWrite (m : Nat) (v : Word) (run tgt : Bool) (d : Dev) : Dev :=
  if d.get (MDU_MTRIG_LATCH m) = 15 then
    let d := if tgt then d.set (MDU_MCMD_TARGET m) (wGet v 16 16) else d
    if run then runApply m (wGet v 0 1 = 1) d else d
  else
    let s := d.motor m
    d.setMotor m { s with pendRun := if run then wGet v 0 1 else s.pendRun, pendTgt := if tgt then wGet v 16 16 else s.pendTgt }

/-- Write a fan's TARGET (R309). -/
def ftgtWrite (f x : Nat) (d : Dev) : Dev :=
  if d.get (MDU_FCFG_LATCH f) = 15 then fanTargetApply f x d
  else d.setFan f { d.fan f with pendTgt := x }

/-- The duties that take effect at a valley in this cycle: those written before the cycle (R293). -/
def dutyTaken (m : Nat) (d : Dev) : List Nat :=
  (upto 3).map (fun x => tabGet (d.get (MDU_MDUTY_DUTY m x)) (4 * m + x) d.cyc.duty0)

/-- Write a phase duty: pending until the next valley of a later cycle (R293); seen by the watchdog and by MEN in START (R297,
R298). -/
def dutyWrite (m x v : Nat) (d : Dev) : Dev :=
  let old := tabGet (d.get (MDU_MDUTY_DUTY m x)) (4 * m + x) d.cyc.duty0
  let d : Dev := { d with cyc.duty0 := tabIns (4 * m + x) old d.cyc.duty0 }
  let d := d.set (MDU_MDUTY_DUTY m x) v
  let st := d.get (MDU_MSTAT_STATE m)
  let s := d.motor m
  let d := d.setMotor m { s with written := true, wdogOn := s.wdogOn || st = 1 || st = 2 || st = 3 }
  if st = 1 then d.set (MDU_MSTAT_MEN m) 1 else d

/-- The MDU latch groups in `mask` apply (R309). -/
def mduApplyGroups (mask : Nat) (d : Dev) : Dev :=
  let hit := fun (g : Nat) => g < 15 && mask.testBit g
  let d := (upto 8).foldl (fun d m =>
    if hit (d.get (MDU_MTRIG_LATCH m)) then
      let s := d.motor m
      runApply m (s.pendRun = 1) (d.set (MDU_MCMD_TARGET m) s.pendTgt)
    else d) d
  let d := (upto 16).foldl (fun d f =>
    if hit (d.get (MDU_FCFG_LATCH f)) then fanTargetApply f (d.fan f).pendTgt d else d) d
  countN 0x0D6 ((upto 15).filter hit).length d

/-- Turn a bridge off into FAULT (R295 to R298). -/
def motorFault (m cause : Nat) (d : Dev) : Dev := raise .MOTOR_FAULT [m, cause] (bridgeOff m 6 cause d)

/-- The level of ball MFLT is the active one: low while FLT_POL is 0, high while it is 1 (R296). -/
def mfltActive (d : Dev) (m : Nat) : Bool := d.mdu.mflt.testBit m != d.bit (MDU_MCFG_FLT_POL m)

/-- MFLT follows the ball's level and FLT_POL; an active one turns the bridge off into FAULT (R295, R296; log entry 161). -/
def mfltShow (m : Nat) (d : Dev) : Dev :=
  let d := d.setB (MDU_MSTAT_MFLT m) (mfltActive d m)
  if mfltActive d m ∧ d.get (MDU_MSTAT_STATE m) ≠ 6 then motorFault m 4 d else d

/-- Writing CLEAR to a motor: FAULT or BLOCKED returns to OFF while MFLT is inactive (R296, R298). -/
def motorClear (m : Nat) (d : Dev) : Dev :=
  let st := d.get (MDU_MSTAT_STATE m)
  if (st = 5 ∨ st = 6) ∧ !d.bit (MDU_MSTAT_MFLT m) then
    motorTryStart m (motorTriesPut m 0 (d.set (MDU_MSTAT_STATE m) 0))
  else d

/-- Writing the fan CLEAR: FAILED returns to OFF (R305). -/
def fanClear (f : Nat) (d : Dev) : Dev :=
  if d.get (MDU_FSTAT_STATE f) = 5 then fanFollow f (fanOff f d) else d

/-- TMR_EN written from 0 to 1: the counter restarts from 0, a valley, whose event is raised at the end of the cycle (R290,
R294). -/
def tmrStart (m : Nat) (d : Dev) : Dev :=
  let s := d.motor m
  let d : Dev := { d with mdu.starts := setBit d.mdu.starts m true }
  d.setMotor m { s with
    per := d.get (MDU_MCFG_PER m), dt := d.get (MDU_MCFG_DT m), filt := d.get (MDU_MCFG_FLT_FILT m),
    trigOfs := d.get (MDU_MTRIG_TRIG_OFS m), duty := dutyTaken m d, prev := none, written := false }

/-- CMPx of R291 from the applied duty and PER. -/
def cmpOf (duty per : Nat) : Nat := (duty * per + 32768) / 65536

/-- Every bridge off and every FPWM low, at a line failure, a withdrawn release or a forced DEEP (R56, R70, R74, R298, R305). -/
def outputsOff (cause : Nat) (d : Dev) : Dev :=
  let d := (upto 8).foldl (fun d m =>
    let st := d.get (MDU_MSTAT_STATE m)
    if st = 5 ∨ st = 6 then d
    else if st = 0 then d.set (MDU_MSTAT_CAUSE m) cause
    else bridgeOff m 0 cause d) d
  (upto 16).foldl (fun d f =>
    fanRest f (d.set (MDU_FSTAT_DUTY f) 0)) d

/-! ### I²C controllers: entries, EN (R330, R331) -/

/-- A bit field of poll entry `p` of controller `c`. -/
def i2cFld (d : Dev) (c p w lo width : Nat) : Nat := wGet (d.rd (AIO_I2CP c p w)) lo width

/-- Data bytes of an entry, CRC bytes not counted (R330). -/
def i2cDataLen (d : Dev) (c p : Nat) : Nat :=
  let n := i2cFld d c p 0 11 4
  if i2cFld d c p 0 24 2 = 1 then n - n / 3 else n

/-- Low bit of extraction `k` in word 2 (R330). -/
def i2cX (k : Nat) : Nat := if k = 0 then 0 else 16

/-- The code of R331 for one entry; 0 for none. -/
def i2cEntryCheck (d : Dev) (c p : Nat) : Nat :=
  let f := i2cFld d c p
  let crc := f 0 24 2
  if f 0 0 7 < 8 ∨ f 0 0 7 > 0x77 then 1
  else if f 0 8 3 > 4 ∨ f 0 11 4 > 8 then 2
  else if crc = 1 ∧ f 0 11 4 ≠ 3 ∧ f 0 11 4 ≠ 6 then 3
  else if [0, 1].any (fun k => decide (f 2 (i2cX k + 9) 1 = 1 ∧ f 2 (i2cX k) 3 + 2 > i2cDataLen d c p)) then 4
  else if crc > 1 ∨ f 0 26 6 ≠ 0 ∨ f 2 10 6 ≠ 0 ∨ f 2 26 6 ≠ 0 ∨ f 3 0 32 ≠ 0 then 5
  else 0

/-- The first entry with EN 1 that R331 refuses, and its code. -/
def i2cCheck (d : Dev) (c : Nat) : Option (Nat × Nat) :=
  (upto 16).findSome? (fun p =>
    if i2cFld d c p 0 7 1 = 1 ∧ i2cEntryCheck d c p ≠ 0 then some (p, i2cEntryCheck d c p) else none)

/-- Every reading of a controller reads VALID 0 (R331). -/
def i2cInvalidate (c : Nat) (d : Dev) : Dev := (upto 32).foldl (fun d k => d.set (AIO_I2CRD_VALID (32 * c + k)) 0) d

/-- EN written from 0 to 1 (R331). -/
def i2cEnable (c : Nat) (d : Dev) : Dev :=
  match i2cCheck d c with
  | some (p, code) =>
    let d := (d.set (AIO_I2CSTAT_CFGERR c) code).set (AIO_I2CSTAT_BADENTRY c) p
    raise .I2C_CFG_ERROR [c, p, code] (d.set (AIO_I2CCFG_EN c) 0)
  | none =>
    let d := (d.set (AIO_I2CSTAT_CFGERR c) 0).set (AIO_I2CSTAT_BADENTRY c) 0
    let d := (d.set (AIO_I2CSTAT_STATE c) 1).set (AIO_I2CCFG_EN c) 1
    d.setI2c c { round := (d.i2c c).round }

/-- EN written 0 (R331). -/
def i2cDisable (c : Nat) (d : Dev) : Dev :=
  let d := (d.set (AIO_I2CCFG_EN c) 0).set (AIO_I2CSTAT_STATE c) 0
  i2cInvalidate c (d.setI2c c { round := (d.i2c c).round })

/-! ### One write of an MDU or AIO register -/

/-- The bits in `mask` of the MDU or AIO register at `a` take the bits of `v` (R293, R309, R321, R322). -/
def ioStore (a : Nat) (v mask : Word) (d : Dev) : Dev :=
  let old := d.rd a
  let nv := (old &&& ~~~mask) ||| (v &&& mask)
  if a = AIO_ACTOUT then actWrite v.toNat mask.toNat d
  else if a = AIO_GPIOOUT_LO then gpioWrite 0 v.toNat mask.toNat d
  else if a = AIO_GPIOOUT_HI then gpioWrite 32 v.toNat mask.toNat d
  else if a = AIO_LATCH then { d with aio.latch := d.aio.latch ||| (v &&& mask).toNat % 32768 }
  else if AIO_PAIR 0 ≤ a ∧ a < AIO_PAIR 16 then
    if mask.toNat % 4 ≠ 0 then drvWrite ((a - AIO_PAIR 0) / 4) (nv.toNat % 4) d else d
  else if AIO_PAIRCFG 0 ≤ a ∧ a < AIO_PAIRCFG 16 then
    let p := (a - AIO_PAIRCFG 0) / 4
    let was := d.bit (AIO_PAIRCFG_EN p)
    let d := d.wr a nv
    if was != d.bit (AIO_PAIRCFG_EN p) then pairFollow p d else d
  else if AIO_DAC 0 ≤ a ∧ a < AIO_DAC 24 then
    let n := (a - AIO_DAC 0) / 4
    let latch := d.get (AIO_DAC_LATCH n)
    let d := d.wr a (wSet nv 0 16 (d.get (AIO_DAC_CODE n)))
    if mask.toNat % 65536 ≠ 0 then dacWrite n (nv.toNat % 65536) latch d else d
  else if AIO_I2CCFG 0 ≤ a ∧ a < AIO_I2CCFG 8 ∧ a % 0x100 = 0 then
    let c := (a - AIO_I2CCFG 0) / 0x100
    let was := d.bit (AIO_I2CCFG_EN c)
    let d := d.wr a nv
    if was = d.bit (AIO_I2CCFG_EN c) then d else if was then i2cDisable c d else i2cEnable c d
  else if MDU_MCFG 0 ≤ a ∧ a < MDU_MCFG 8 then
    let m := (a - MDU_MCFG 0) / 0x100
    let o := (a - MDU_MCFG 0) % 0x100
    if o = 0 then
      let d := d.wr a nv
      let d := if wGet old 28 1 = wGet nv 28 1 then d else mfltShow m d
      if wGet old 29 1 = 0 ∧ wGet nv 29 1 = 1 then tmrStart m d else d
    else if o = 0x10 ∨ o = 0x14 ∨ o = 0x18 then
      if mask.toNat % 65536 ≠ 0 then dutyWrite m ((o - 0x10) / 4) (nv.toNat % 65536) d else d
    else if o = 0x20 then
      let d := if wGet mask 0 1 = 1 ∨ wGet mask 16 16 ≠ 0 then
          mcmdWrite m nv (wGet mask 0 1 = 1) (wGet mask 16 16 ≠ 0) d else d
      if wGet (v &&& mask) 1 1 = 1 then motorClear m d else d
    else d.wr a nv
  else if MDU_FCFG 0 ≤ a ∧ a < MDU_FCFG 16 then
    let f := (a - MDU_FCFG 0) / 0x80
    let o := (a - MDU_FCFG 0) % 0x80
    if o = 0 then
      let d := d.wr a (wSet nv 28 1 0)
      if wGet (v &&& mask) 28 1 = 1 then fanClear f d else fanRefresh f d
    else if o = 4 then (if mask.toNat % 65536 ≠ 0 then ftgtWrite f (nv.toNat % 65536) d else d)
    else fanRefresh f (d.wr a nv)
  else d.wr a nv

end Sys2Proof.Machine
end

