-- ==== Sys2Proof/Machine/Ctx.lean ====
section
/-! DEFINITION. The context record of the power domains (R50, R51), values of configuration registers while a domain is
off, and parts held for a domain that is not ready (R17). -/

namespace Sys2Proof.Machine

/-- Fields that the context record holds: RW and RWL fields and LOCK fields, the only W1S fields of the device (R50). -/
def recordable : Acc → Bool
  | .rw | .rwl | .w1s => true
  | _ => false

/-- The bits of the register at `a` that the context record holds. -/
def recMask (a : Nat) : Word :=
  match findReg a with
  | none => 0
  | some (r, _) => r.fields.foldl (fun m f => if recordable f.acc then m ||| wMask f.lo f.width else m) 0

/-- The entry of the context record for address `a`. -/
def ctxFind (a : Nat) : Tab Word → Option Word
  | [] => none
  | (j, v) :: t => if j = a then some v else ctxFind a t

/-- Record the bits in `mask` of a write of `v` to the register at `a`; with the record full, the domain is pinned instead
(R50, R51). -/
def ctxPut (a : Nat) (v mask : Word) (d : Dev) : Dev :=
  match domainOf a with
  | none => d
  | some n =>
    let m := mask &&& recMask a
    if m = 0 then d else
    match ctxFind a d.pwr.ctx with
    | some old => { d with pwr.ctx := tabIns a ((old &&& ~~~m) ||| (v &&& m)) d.pwr.ctx }
    | none =>
      if d.pwr.ctx.length < 2048 then
        { d with pwr.ctx := tabIns a (((resetOf a &&& recMask a) &&& ~~~m) ||| (v &&& m)) d.pwr.ctx }
      else raise .CONTEXT_FULL [n] (d.setN PMC_PINNED_PINNED n true)

/-- The value of a configuration register: while its domain is off, the value that replay will give it. -/
def Dev.cfg (d : Dev) (a : Nat) : Word :=
  if d.readyAt a then d.rd a
  else match ctxFind a d.pwr.ctx with
    | none => resetOf a
    | some v => (resetOf a &&& ~~~(recMask a)) ||| v

/-- A named field of a configuration register. -/
def Dev.cget (d : Dev) (f : Fld) : Nat := wGet (d.cfg f.addr) f.lo f.width

/-- GPIO `n` is active: its accepted level by POL (R325). -/
def gpioIn (d : Dev) (n : Nat) : Bool := d.aio.gpio.testBit n != decide (d.cget (AIO_GPIOCFG_POL n) = 1)

/-- The device as domain `n` will find it once its context record is replayed (R50). -/
def domView (n : Nat) (d : Dev) : Dev :=
  let d := (d.pwr.ctx.filter (fun e => decide (domainOf e.1 = some n))).foldl (fun d e =>
    let m := recMask e.1
    d.wr e.1 ((d.rd e.1 &&& ~~~m) ||| (e.2 &&& m))) d
  d.setN PMC_DOMSTAT_READY n true

/-- Hold a part of a posting for domain `n` (R17). -/
def holdPart (n : Nat) (p : HeldPart) (d : Dev) : Dev := { d with held := d.held ++ [(n, p)] }

/-- A posted write of the bits in `mask`, at a target that is ready. -/
def postField (a : Nat) (v mask : Word) (d : Dev) : Dev := ctxPut a v mask (ioStore a v mask d)

end Sys2Proof.Machine
end

