-- ==== Sys2Proof/Machine/CeOps.lean ====
section
/-! DEFINITION. Operations of the control engines over the device (chapter 8): memories, clearing table, slot check,
triggers, runs, escrow, run-ahead, overruns, demotion, program swap and tracing. -/

namespace Sys2Proof.Machine

/-! ### State and memories of one engine -/

def Dev.eng (d : Dev) (n : Nat) : EngS := tabGet {} n d.cea.eng
def Dev.setEng (d : Dev) (n : Nat) (e : EngS) : Dev := { d with cea.eng := tabPut {} n e d.cea.eng }
def Dev.slot (d : Dev) (n s : Nat) : SlotS := tabGet {} s (d.eng n).slots
def Dev.setSlot (d : Dev) (n s : Nat) (x : SlotS) : Dev :=
  let e := d.eng n
  d.setEng n { e with slots := tabPut {} s x e.slots }
def Dev.setRun (d : Dev) (n : Nat) (r : Option Run) : Dev := d.setEng n { d.eng n with run := r }

/-- Address of a byte of the window of engine `n` (R190). -/
def ceWin (n off : Nat) : Nat := 0x41000000 + n * 0x10000 + off

/-- Program word `a` of engine `n`. -/
def progWord (d : Dev) (n a : Nat) : Nat := memRead d.win (ceWin n (4 * a)) 4
/-- The bus bytes of data word `a` of engine `n`. -/
def dataRaw (d : Dev) (n a : Nat) : W16 := BitVec.ofNat 16 (memRead d.win (ceWin n (0x2000 + 2 * a)) 2)
/-- Data word `a` of engine `n`, as a load sees it: before a bus write of the same cycle (R192). -/
def dataWord (d : Dev) (n a : Nat) : W16 :=
  (tabGet (dataRaw d n a, 0) (ceWin n (0x2000 + 2 * a)) d.cyc.data0).1
/-- Store a data word; the bits that a bus write of the same cycle wrote stand (R192). -/
def setData (n a : Nat) (v : W16) (d : Dev) : Dev :=
  let m := (tabGet (0, 0) (ceWin n (0x2000 + 2 * a)) d.cyc.data0).2
  let x := (v &&& ~~~m) ||| (dataRaw d n a &&& m)
  { d with win := memWrite d.win (ceWin n (0x2000 + 2 * a)) x.toNat 2 }
/-- A bus write of a whole data word of engine `n` (R192). -/
def busData (n a : Nat) (v : W16) (d : Dev) : Dev :=
  let key := ceWin n (0x2000 + 2 * a)
  { d with cyc.data0 := tabIns key ((tabGet (dataRaw d n a, 0) key d.cyc.data0).1, BitVec.allOnes 16) d.cyc.data0,
           win := memWrite d.win key v.toNat 2 }
/-- State word `a` of engine `n`. -/
def stateWord (d : Dev) (n a : Nat) : Word := BitVec.ofNat 32 (memRead d.win (ceWin n (0x3000 + 4 * a)) 4)
/-- Store a state word. -/
def setState (n a : Nat) (v : Word) (d : Dev) : Dev :=
  { d with win := memWrite d.win (ceWin n (0x3000 + 4 * a)) v.toNat 4 }

/-- A program descriptor (R221). -/
structure Desc where
  entry   : Nat
  codeLen : Nat
  sbase   : Nat
  slen    : Nat
  dbase   : Nat
  progId  : Nat
  valid   : Nat
deriving DecidableEq, Repr

/-- Entry `i` of the descriptor table. -/
def descAt (d : Dev) (n i : Nat) : Desc :=
  let h := fun (k : Nat) => memRead d.win (ceWin n (0x3800 + 16 * i + 2 * k)) 2
  ⟨h 0, h 1, h 2, h 3, h 4, h 5, h 6 % 256⟩

/-- Write entry `i` of the descriptor table. -/
def setDesc (n i : Nat) (x : Desc) (d : Dev) : Dev :=
  let v := x.entry + 65536 * (x.codeLen + 65536 * (x.sbase + 65536 * (x.slen + 65536 * (x.dbase + 65536 * (x.progId + 65536 * x.valid)))))
  { d with win := memWrite d.win (ceWin n (0x3800 + 16 * i)) v 16 }

/-- The table index of the valid descriptor with a PROG_ID. -/
def findDescIx (d : Dev) (n pid : Nat) : Option Nat :=
  (upto 32).find? (fun i => let x := descAt d n i; decide (x.valid ≠ 0 ∧ x.progId = pid))

/-- The valid descriptor with a PROG_ID. -/
def findDesc (d : Dev) (n pid : Nat) : Option Desc := (findDescIx d n pid).map (descAt d n)

/-! ### Windows and enabled slots -/

/-- IN_BASE and IN_COUNT (R225). -/
def inWin (d : Dev) (n s : Nat) : Nat × Nat := (d.cget (CE_SWIN_IN_BASE n s), d.cget (CE_SWIN_IN_COUNT n s))
/-- OUT_BASE and OUT_COUNT (R225). -/
def outWin (d : Dev) (n s : Nat) : Nat × Nat := (d.cget (CE_SWIN_OUT_BASE n s), d.cget (CE_SWIN_OUT_COUNT n s))
/-- A port lies in a window. -/
def inRange (w : Nat × Nat) (p : Nat) : Bool := decide (w.1 ≤ p ∧ p < w.1 + w.2)

/-- The enabled slots of engine `n` (R227). -/
def enabledSlots (d : Dev) (n : Nat) : List Nat :=
  (d.eng n).slots.filterMap (fun x => if x.2.st ≠ .disabled then some x.1 else none)

/-- Every enabled slot as (engine, slot). -/
def allEnabled (d : Dev) : List (Nat × Nat) :=
  (d.cea.eng.map (fun e => (enabledSlots d e.1).map (fun s => (e.1, s)))).flatten

/-- The fields that take a write while the slot is enabled, as the slot's latest trigger found them: one of CE_SCFG, KEEP of port `j`, and the
safe value of port `j` (R225). -/
def trigCfg (d : Dev) (n s : Nat) (f : Fld) : Nat :=
  match (d.slot n s).lat with
  | [] => d.get f
  | w :: _ => wGet w f.lo f.width
def trigKeep (d : Dev) (n s j : Nat) : Bool :=
  match (d.slot n s).lat with
  | _ :: w :: _ => w.getLsbD j
  | _ => d.bitN (CE_SKEEP_KEEP n s) j
def trigSafe (d : Dev) (n s j : Nat) : W16 :=
  let f := if j % 2 = 0 then CE_SAFE_SAFE_LO n s (j / 2) else CE_SAFE_SAFE_HI n s (j / 2)
  match (d.slot n s).lat with
  | _ :: _ :: l => BitVec.ofNat 16 (wGet (l.getD (j / 2) 0) f.lo f.width)
  | _ => BitVec.ofNat 16 (d.get f)

/-- A trigger finds the slot's configuration (R225). -/
def latchCfg (n s : Nat) (d : Dev) : Dev :=
  d.setSlot n s { d.slot n s with lat := d.rd (CE_SCFG n s) :: d.rd (CE_SKEEP n s) :: (upto 8).map (fun k => d.rd (CE_SAFE n s k)) }

/-- Slot `s` runs FOC_I or FOC_S, or has ESSENTIAL set (R248). -/
def essential (d : Dev) (n s : Nat) : Bool :=
  trigCfg d n s (CE_SCFG_ESSENTIAL n s) = 1 || d.cget (CE_SCFG_PROG_ID n s) = 0xF003 || d.cget (CE_SCFG_PROG_ID n s) = 0xF004

/-- Run-ahead of non-essential slots is restricted (R248, R469). -/
def runAheadRestricted (d : Dev) : Bool := decide (d.get THM_STATUS_LEVEL ≥ 1)
/-- Non-essential slots are restricted (R248, R469). -/
def slotsRestricted (d : Dev) : Bool := decide (d.get THM_STATUS_LEVEL ≥ 4)

/-! ### Sources of IN ports (R232) -/

/-- The present value and invalid mark of an engine OUT port; within a cycle, as it stood at the start (R236). -/
def outPort (d : Dev) (n p : Nat) : W16 × Bool :=
  match d.cyc.portOld.find? (fun x => x.1 = n * 256 + p) with
  | some x => x.2
  | none =>
    (tabGet 0 p (d.eng n).outs,
      !(enabledSlots d n).any (fun s => inRange (outWin d n s) p && (d.slot n s).st ≠ .demoted))

/-- The speed of a fan as an IN route (R303). -/
def tachIn (d : Dev) (f : Nat) : W16 :=
  BitVec.ofNat 16 (min (d.get (MDU_FTACH_RPM f) * 32768 / max (d.get (MDU_FIS_SPEED_FS f)) 1) 32767)

/-- MDU measurement `i` (R314). -/
def mduMeas (d : Dev) (i : Nat) : W16 × Bool :=
  if i < 128 then
    let m := i / 16
    let st := d.get (MDU_MSTAT_STATE m)
    match i % 16 with
    | 0 => (BitVec.ofNat 16 (d.get (MDU_MSPD_SPDCMD m)), !(st = 2 || st = 3))
    | 1 => (BitVec.ofNat 16 (d.get (MDU_MSPD_SPDEST m)), d.get (MDU_MSPD_SPDEST m) = 0x8000)
    | _ => (BitVec.ofNat 16 st, false)
  else if i < 144 then (BitVec.ofNat 16 (d.get (MDU_FSTAT_DUTY (i - 128))), false)
  else (BitVec.ofNat 16 (d.get (MDU_FSTAT_STATE (i - 144))), false)

/-- The value and invalid mark of IN port `p` of engine `n` (R232, R323). -/
def latchPort (d : Dev) (n p : Nat) : W16 × Bool :=
  let i := d.get (CE_INRT_INDEX n p)
  match d.get (CE_INRT_CLASS n p) with
  | 1 => tabGet (0, true) i d.cea.conv
  | 2 => outPort d (i / 256) (i % 256)
  | 3 => (if gpioIn d i then 0x7FFF else 0, false)
  | 4 => (tachIn d i, !d.bit (MDU_FTACH_VALID i))
  | 5 => (BitVec.ofNat 16 (d.get (AIO_I2CRD_VALUE i)), !d.bit (AIO_I2CRD_VALID i))
  | 6 => (BitVec.ofNat 16 (d.ent (0x4800 + i) 0), !d.cea.hostIn.contains i)
  | 7 => (BitVec.ofNat 16 (d.get (HKC_RESULT_VALUE i)), !d.bit (HKC_RESULT_VALID i))
  | 8 => mduMeas d i
  | _ => (0, true)

/-- Latch the IN window of a slot (R235). -/
def latchWin (d : Dev) (n s : Nat) : List (W16 × Bool) :=
  let w := inWin d n s
  (upto w.2).map (fun j => latchPort d n (w.1 + j))

/-! ### Routes (R226, R232, R233) -/

/-- The register address, lowest bit and width of a class 1 route. -/
def routeField (d : Dev) (n p : Nat) : Option (Nat × Nat × Nat) :=
  if d.cget (CE_OUTRT_CLASS n p) = 1 then
    some ((if d.cget (CE_OUTRT_BLOCK n p) = 0 then 0x40310000 else 0x40320000) + 4 * d.cget (CE_OUTRT_WORD n p),
      d.cget (CE_OUTRT_LSB n p), d.cget (CE_OUTRT_WIDTH_M1 n p) + 1)
  else none

/-- The field is one that its owning chapter marks as bindable (R315, R323). -/
def bindable (a lo w : Nat) (signed : Bool) : Bool :=
  (upto 8).any (fun m =>
    (lo = 0 && w = 16 && (a = MDU_MDUTY m 0 || a = MDU_MDUTY m 1 || a = MDU_MDUTY m 2)) ||
    (a = MDU_MSPD m && lo = (MDU_MSPD_SPDEST m).lo && w = 16) ||
    (a = MDU_MCMD m && ((lo = 0 && w = 1) || (lo = 16 && w = 16)))) ||
  (upto 16).any (fun f => a = MDU_FTGT f && lo = 0 && w = 16) ||
  ((a = AIO_ACTOUT || a = AIO_GPIOOUT_LO || a = AIO_GPIOOUT_HI) && w = 1 && lo < 32) ||
  (upto 16).any (fun p => a = AIO_PAIR p && lo = 0 && w = 2 && signed) ||
  (upto 24).any (fun k => a = AIO_DAC k && lo = 0 && w = 16 && !signed)

/-- An IN route is assigned and in range (R232). -/
def inRouteOk (d : Dev) (n p : Nat) : Bool :=
  let i := d.get (CE_INRT_INDEX n p)
  match d.get (CE_INRT_CLASS n p) with
  | 0 => i = 0
  | 1 => i < 132
  | 2 => i < 8192
  | 3 => i < 64
  | 4 => i < 16
  | 5 => i < 256
  | 6 => i < 1024
  | 7 => i < 48
  | 8 => (i < 128 && i % 16 < 3) || (128 ≤ i && i < 160)
  | _ => false

/-- An OUT route is assigned, in range and bindable (R233). -/
def outRouteOk (d : Dev) (n p : Nat) : Bool :=
  match d.get (CE_OUTRT_CLASS n p) with
  | 0 => (d.rd (CE_OUTRT n p)) = 0
  | 1 => match routeField d n p with
    | none => false
    | some (a, lo, w) => bindable a lo w (d.bit (CE_OUTRT_SIGNED n p))
  | 2 => d.get (CE_OUTRT_WORD n p) < 1024 && (d.rd (CE_OUTRT n p)).toNat / 0x80000 = 0 && !d.bit (CE_OUTRT_BLOCK n p)
  | _ => false

/-- Two OUT routes name a common register field or engine value. -/
def routesClash (d : Dev) (n p n' p' : Nat) : Bool :=
  match routeField d n p, routeField d n' p' with
  | some (a, lo, w), some (a', lo', w') => a = a' && lo < lo' + w' && lo' < lo + w
  | _, _ => d.cget (CE_OUTRT_CLASS n p) = 2 && d.cget (CE_OUTRT_CLASS n' p') = 2 &&
      d.cget (CE_OUTRT_WORD n p) = d.cget (CE_OUTRT_WORD n' p')

/-- The bits of the register at `a` that are bound, and by which engine (R18, R227). -/
def bindings (d : Dev) (a : Nat) : List (Nat × Word) :=
  ((allEnabled d).map (fun x =>
    let w := outWin d x.1 x.2
    (upto w.2).filterMap (fun j =>
      match routeField d x.1 (w.1 + j) with
      | some (b, lo, wd) => if b = a then some (x.1, wMask lo wd) else none
      | none => none))).flatten

/-- All bound bits of the register at `a`. -/
def boundMask (d : Dev) (a : Nat) : Word := (bindings d a).foldl (fun m x => m ||| x.2) 0

/-! ### The slot check (R226) -/

/-- The event numbers that R231 assigns. -/
def eventAssigned (e : Nat) : Bool :=
  e < 0x84 || (0x100 ≤ e && e < 0x350) || (0x350 ≤ e && e < 0x360) || e = 0xFFF

/-- Code and port of the first refusal of slot `s` of engine `n`; code 0 for none. -/
def slotCheck (d : Dev) (n s : Nat) : Nat × Nat :=
  let pid := d.get (CE_SCFG_PROG_ID n s)
  let iw := inWin d n s
  let ow := outWin d n s
  let outs := (upto ow.2).map (ow.1 + ·)
  let others := (enabledSlots d n).filter (· ≠ s)
  let far := (allEnabled d).filter (· ≠ (n, s))
  match findDesc d n pid with
  | none => (1, 0)
  | some desc =>
    if iw.2 > 64 ∨ iw.1 + iw.2 > 256 then (2, iw.1)
    else if ow.2 > 16 ∨ ow.1 + ow.2 > 256 then (3, ow.1)
    else match outs.find? (fun p => others.any (fun t => inRange (outWin d n t) p)) with
    | some p => (4, p)
    | none =>
      match outs.find? (fun p =>
        far.any (fun x => let w := outWin d x.1 x.2; (upto w.2).any (fun j => routesClash d n p x.1 (w.1 + j))) ||
        outs.any (fun q => q < p && routesClash d n p n q)) with
      | some p => (5, p)
      | none =>
        if d.bit (CE_SCFG_SPEC_EN n s) ∧ (d.get (CE_SPER_PERIOD n s) = 0 ∨ d.get (CE_STRIG_LEAD n s) ≥ d.get (CE_SPER_PERIOD n s)) then (6, 0)
        else if !eventAssigned (d.get (CE_STRIG_TRIG_SRC n s)) then (7, 0)
        else match ((upto iw.2).map (iw.1 + ·)).find? (fun p => !inRouteOk d n p) with
        | some p => (8, p)
        | none =>
          match outs.find? (fun p => !outRouteOk d n p) with
          | some p => (8, p)
          | none => if desc.valid = 2 ∧ !libPorts pid iw.2 ow.2 then (10, 0) else (0, 0)

/-- Record a refusal in CE_CFGERR and raise its event. -/
def cfgErr (n s code port : Nat) (d : Dev) : Dev :=
  let d := d.set (CE_CFGERR_CODE n) code
  let d := d.set (CE_CFGERR_SLOT n) s
  let d := d.set (CE_CFGERR_PORT n) port
  raise .CE_CFG_ERROR [n, s, code, port] d

/-! ### Tracing (R255 to R257) -/

/-- Write one sample to the trace ring (R256). -/
def traceWrite (n probe : Nat) (y : TraceSample) (d : Dev) : Dev :=
  if !d.bit (CE_TCTRL_EN n) ∨ (d.bit (CE_TCTRL_MODE n) ∧ d.bit (CE_TCTRL_FULL n)) then d
  else
    let wr := d.get (CE_TCTRL_WR n)
    let x := y.val.toNat + 0x10000 * (probe + 4 * (y.slot + 16 * (y.status + 4 * (y.seq % 256))))
    let d := { d with win := memWrite d.win (ceWin n (0x4000 + 4 * wr)) x 4 }
    let e := d.eng n
    let d := if e.tfirst then d.setEng n { e with tfirst := false, tstart := d.time64 } else d
    if wr = 4095 then
      if d.bit (CE_TCTRL_MODE n) then d.set (CE_TCTRL_FULL n) 1 else d.set (CE_TCTRL_WR n) 0
    else d.set (CE_TCTRL_WR n) (wr + 1)

/-- The enabled probes of a slot and kind. -/
def probesOf (d : Dev) (n s kind : Nat) : List Nat :=
  (upto 4).filter (fun k => d.bit (CE_TPROBE_EN n k) && d.get (CE_TPROBE_SLOT n k) = s && d.get (CE_TPROBE_KIND n k) = kind)

/-- New samples of one kind for run `r`: a probe captures at most once per run. -/
def newSamples (d : Dev) (n kind : Nat) (r : Run) (f : Nat → Option W16) : List (Nat × W16) :=
  (probesOf d n r.slot kind).filterMap (fun k => if r.probed.contains k then none else (f k).map (fun v => (k, v)))

/-- Samples in probe order. -/
def probeOrder {α : Type} (l : List (Nat × α)) : List (Nat × α) := ((upto 4).map (fun k => l.filter (fun x => x.1 = k))).flatten

/-- Write samples with a status. Those that the engine has written in this cycle are written again with them, so that all of them stand in
probe order (R256). -/
def writeSamples (n slot status seq : Nat) (l : List (Nat × W16)) (d : Dev) : Dev :=
  if l = [] ∨ !d.bit (CE_TCTRL_EN n) then d
  else
    let x := tabGet ⟨d.get (CE_TCTRL_WR n), d.get (CE_TCTRL_FULL n), []⟩ n d.cyc.trace
    let all := x.l ++ l.map (fun y => (y.1, ⟨slot, status, seq, y.2⟩))
    let d := (d.set (CE_TCTRL_WR n) x.wr).set (CE_TCTRL_FULL n) x.full
    (probeOrder all).foldl (fun d y => traceWrite n y.1 y.2 d) { d with cyc.trace := tabIns n ⟨x.wr, x.full, all⟩ d.cyc.trace }

/-- STATUS of a run's samples once its outcome is decided. -/
def runStatus (k : RunKind) : Nat := match k with | .plain => 0 | .spec => 1 | .confirmed => 1 | .rerun => 3

/-- Capture samples during a run: a speculative run holds them, another run writes them at once (R257). -/
def capture (n kind : Nat) (f : Nat → Option W16) (r : Run) (d : Dev) : Run × Dev :=
  let l := newSamples d n kind r f
  let r := { r with probed := r.probed ++ l.map (fun x => x.1) }
  if r.kind = .spec ∨ r.kind = .confirmed then ({ r with samples := r.samples ++ l }, d)
  else (r, writeSamples n r.slot (runStatus r.kind) (d.slot n r.slot).seq l d)

/-! ### Release (R236) -/

/-- The field value that a port value gives (R233). -/
def routeVal (v : W16) (w : Nat) (signed : Bool) : Nat :=
  if signed then ux w (v.toInt / (2 ^ (16 - w) : Nat))
  else (max v.toInt 0).toNat * (2 ^ w - 1) + 16383 |> (· / 32767)

/-- One port reaches its destination and the engine values (R233, R236, R17). -/
def deliver (n p : Nat) (v : W16) (d : Dev) : Dev :=
  let old := outPort d n p
  let d := if d.cyc.portOld.any (fun x => x.1 = n * 256 + p) then d else { d with cyc.portOld := tabIns (n * 256 + p) old d.cyc.portOld }
  let e := d.eng n
  let d := d.setEng n { e with outs := tabPut 0 p v e.outs }
  if d.cget (CE_OUTRT_CLASS n p) = 2 then
    let k := d.cget (CE_OUTRT_WORD n p) % 1024
    stamp 3 k { d with cea.vals := tabPut 0 k v d.cea.vals }
  else match routeField d n p with
    | none => d
    | some (a, lo, w) =>
      let x := routeVal v w (d.cget (CE_OUTRT_SIGNED n p) = 1)
      if d.readyAt a then postField a (BitVec.ofNat 32 (x * 2 ^ lo)) (wMask lo w) d
      else match domainOf a with
        | none => d
        | some dom => holdPart dom (.release n p v) d

/-- A held release applies once its destination's domain is ready (R17). -/
def deliverHeld (n p : Nat) (v : W16) (d : Dev) : Dev :=
  match routeField d n p with
  | none => d
  | some (a, lo, w) => postField a (BitVec.ofNat 32 (routeVal v w (d.cget (CE_OUTRT_SIGNED n p) = 1) * 2 ^ lo)) (wMask lo w) d

/-- Release escrow of slot `s`: ports in ascending order, then the TRIG events, answered as event numbers (R236). -/
def release (n s : Nat) (h : HeldEsc) (d : Dev) : Dev × List Nat :=
  let w := outWin d n s
  let d := h.out.foldl (fun d x => if inRange w x.1 then deliver n x.1 x.2 d else count 0x080 d) d
  (d, ((upto 16).filter h.trigs.contains).map (fun e => 0x100 + 16 * n + e))

/-- Samples of kind OUT at a release (R255). -/
def outSamples (d : Dev) (n s : Nat) (h : HeldEsc) : List (Nat × W16) :=
  let w := outWin d n s
  (probesOf d n s 1).filterMap (fun k =>
    let p := d.get (CE_TPROBE_SEL n k)
    (h.out.find? (fun x => decide (x.1 = p) && inRange w p)).map (fun x => (k, x.2)))

/-! ### Ends of a run -/

/-- Abandon whatever run slot `s` has in progress or waiting (R227). -/
def abandon (n s : Nat) (d : Dev) : Dev :=
  let e := d.eng n
  let d := match e.run with
    | some r => if r.slot = s then d.setEng n { e with run := none, lastSlot := s, lastPc := r.pc % 2048 } else d
    | none => d
  let x := d.slot n s
  d.setSlot n s { x with waiting := none, rerunIns := none, pend := .plain }

/-- A miss or a demotion during a swap's trial fails its health check (R252). -/
def swapMiss (n s : Nat) (d : Dev) : Dev :=
  let e := d.eng n
  if e.swap.st = 2 ∧ e.swap.slot = s then
    let d := d.setEng n { e with swap := { e.swap with failed := true } }
    { d with sec.failing := d.sec.failing ++ [0x300 + n] }
  else d

/-- A DEMOTED slot is armed again (R247). -/
def rearm (n s : Nat) (d : Dev) : Dev :=
  d.setSlot n s { d.slot n s with st := .armed, miss := 0, hist := [], held := none, pend := .plain }

/-- Demotion (R246); where ARM was written in this cycle, the slot ends it ARMED (R247). -/
def demote (n s : Nat) (d : Dev) : Dev :=
  let d := abandon n s d
  let d := d.setSlot n s { d.slot n s with st := .demoted, held := none }
  let w := outWin d n s
  let d := (upto w.2).foldl (fun d j =>
    if trigKeep d n s j then d else deliver n (w.1 + j) (trigSafe d n s j) d) d
  let d := raise .SLOT_DEMOTED [n, s] (swapMiss n s d)
  if d.cyc.ceArm.contains (16 * n + s) then rearm n s d else d

/-- Add one to the miss count, demoting the slot at DEMOTE_N (R245). -/
def missed (n s : Nat) (d : Dev) : Dev :=
  let x := d.slot n s
  let m := min (x.miss + 1) 15
  let d := swapMiss n s (d.setSlot n s { x with miss := m })
  let k := trigCfg d n s (CE_SCFG_DEMOTE_N n s)
  if k ≠ 0 ∧ m ≥ k then demote n s d else d

/-- An overrun, by a trigger or by an ESCROW_POST (R244). -/
def overrun (n s : Nat) (byTrigger : Bool) (d : Dev) : Dev :=
  let e := d.eng n
  let e := { e with overruns := tabPut 0 s (tabGet 0 s e.overruns + 1) e.overruns,
                    run := e.run.map (fun r => if r.slot = s then { r with overrun := true } else r) }
  let d := d.setEng n e
  let x := d.slot n s
  let d := d.setSlot n s { x with waiting := x.waiting.map (fun r => { r with overrun := true }) }
  let d := d.bump (CE_SCNT_OVERRUNS n s)
  let d := raise .CE_SLOT_OVERRUN [n, s] (count (0x580 + 16 * n + s) d)
  let d := if trigCfg d n s (CE_SCFG_POLICY n s) = 1 then
      let d := abandon n s d
      d.setSlot n s { d.slot n s with st := if byTrigger then .pending else .armed }
    else d
  missed n s d

/-- The voids of R242 and R243; `again` gives the rerun, with the values it uses when they are known. -/
def voidRun (n s cause port : Nat) (again : Option (Option (List (W16 × Bool)))) (r : Run) (d : Dev) : Dev :=
  let d := if d.bit (CE_TCTRL_KEEP_VOID n) then
      let cyc := if r.ended then newSamples d n 4 r (fun _ => some (BitVec.ofNat 16 (min r.cycles 0xFFFF))) else []
      writeSamples n s 2 (d.slot n s).seq (r.samples ++ cyc) d
    else d
  let d := abandon n s d
  let d := (d.bump (CE_SPECCNT_VOIDED n)).bump (CE_SCNT_VOIDS n s)
  let e := d.eng n
  let d := d.setEng n { e with voided := e.voided + 1 }
  let d := count (0x380 + 16 * n + s) (count (0x078 + (cause - 1)) d)
  let x := d.slot n s
  match again with
  | some vals => d.setSlot n s { x with cause := cause, port := port, st := .pending, pend := .rerun, rerunIns := vals }
  | none => d.setSlot n s { x with cause := cause, port := port, st := .armed, hist := [] }

/-- Commit the working copy, then release the escrow or hold it (R235, R236, R241). Answers raised events. -/
def commit (n s : Nat) (r : Run) (d : Dev) : Dev × List Nat :=
  let d := (upto r.slen).foldl (fun d k => setState n (r.sbase + k) (r.work.getD k 0) d) d
  let isSpec := r.kind = .spec ∨ r.kind = .confirmed
  let d := if isSpec then
      let e := d.eng n
      count 0x077 ((d.setEng n { e with settled := e.settled + 1 }).bump (CE_SPECCNT_SETTLED n))
    else d
  let d := count (0x180 + 16 * n + s) d
  let x := d.slot n s
  let d := d.setSlot n s { x with st := .armed, waiting := none, satLast := r.sat, miss := if r.overrun ∨ r.ended then x.miss else 0 }
  let h : HeldEsc := ⟨r.out, r.trigs, runStatus r.kind, x.seq⟩
  let posted := d.get (CE_SCFG_RELEASE n s) = 1
  let own := newSamples d n 4 r (fun _ => some (BitVec.ofNat 16 (min r.cycles 0xFFFF))) ++
    newSamples d n 3 r (fun k => (r.work[d.get (CE_TPROBE_SEL n k)]?).map (fun w => w.extractLsb' 16 16)) ++
    (if posted then [] else outSamples d n s h)
  let d := writeSamples n s (runStatus r.kind) x.seq (r.samples ++ own) d
  if posted then
    let x := d.slot n s
    let d := if x.held.isSome then count 0x081 d else d
    (d.setSlot n s { x with held := if r.out = [] ∧ r.trigs = [] then none else some h }, [])
  else release n s h d

/-- A run reaches END (R217, R235): it commits, or waits for its sample instant; without an overrun the miss count is reset (R245). -/
def runEnd (n : Nat) (r : Run) (d : Dev) : Dev × List Nat :=
  let d := d.set (CE_LASTRUN_CYCLES n) r.cycles
  let d := d.setEng n { d.eng n with run := none, lastSlot := r.slot, lastPc := r.pc % 2048 }
  if r.kind = .spec then
    let x := d.slot n r.slot
    (d.setSlot n r.slot { x with waiting := some { r with ended := true }, miss := if r.overrun then x.miss else 0 }, [])
  else commit n r.slot r d

/-- A run fault (R219): the run ends before the instruction, its escrow and working copy are discarded. -/
def runFault (n code : Nat) (r : Run) (d : Dev) : Dev :=
  let d := d.set (CE_LASTRUN_CYCLES n) r.cycles
  let d := if d.get (CE_FAULT_CODE n) = 0 then
      ((d.set (CE_FAULT_CODE n) code).set (CE_FAULT_SLOT n) r.slot).set (CE_FAULT_PC n) r.pc
    else d
  let d := raise .CE_RUN_FAULT [n, r.slot, code, r.pc % 2048] (d.bump (CE_FAULTCNT_COUNT n))
  let x := d.slot n r.slot
  match r.kind with
  | .spec => voidRun n r.slot 4 0 (some none) r d
  | .confirmed => voidRun n r.slot 4 0 (some x.hist.head?) r d
  | _ =>
    let d := abandon n r.slot d
    missed n r.slot (d.setSlot n r.slot { d.slot n r.slot with st := .armed })

/-! ### Sample instant (R240 to R243) -/

/-- Tolerance of window port `j` (R240). -/
def tolOf (d : Dev) (n s j : Nat) : Nat :=
  d.get (if j % 2 = 0 then CE_TOL_TOL_LO n s (j / 2) else CE_TOL_TOL_HI n s (j / 2))

/-- The first failing window port and its cause: 2 INVALID, 1 TOLERANCE (R240, R243). -/
def compareRun (d : Dev) (n s : Nat) (r : Run) (vals : List (W16 × Bool)) : Option (Nat × Nat) :=
  (upto vals.length).findSome? (fun j =>
    let x := vals.getD j (0, true)
    let p := (r.ins.getD j (0, true)).1
    if x.2 then some (2, j)
    else if (x.1.toInt - p.toInt).natAbs > tolOf d n s j then some (1, j) else none)

/-- The sample instant of a speculative run `r` of slot `s` (R240). -/
def sampleInstant (n s : Nat) (r : Run) (d : Dev) : Dev × List Nat :=
  let vals := latchWin d n s
  let x := d.slot n s
  let d := d.setSlot n s { x with hist := (vals :: x.hist).take 2 }
  let base := (inWin d n s).1
  let diff := newSamples d n 5 r (fun k =>
    let p := d.get (CE_TPROBE_SEL n k)
    if base ≤ p ∧ p < base + vals.length then
      some (BitVec.ofInt 16 (satTo 16 ((vals.getD (p - base) (0, true)).1.toInt - (r.ins.getD (p - base) (0, true)).1.toInt)))
    else none)
  let r := { r with samples := r.samples ++ diff, probed := r.probed ++ diff.map (fun y => y.1) }
  if r.stRefused then
    (voidRun n s 3 (match compareRun d n s r vals with | some c => c.2 | none => 0) (some (some vals)) r d, [])
  else match compareRun d n s r vals with
    | some (c, p) => (voidRun n s c p (some (some vals)) r d, [])
    | none =>
      if r.ended then commit n s r d
      else (d.setRun n (some { r with kind := .confirmed }), [])

/-- The speculative run of a slot that has not met its sample instant. -/
def openSpec (d : Dev) (n s : Nat) : Option Run :=
  match (d.slot n s).waiting with
  | some r => some r
  | none => match (d.eng n).run with
    | some r => if r.slot = s ∧ r.kind = .spec then some r else none
    | none => none

/-! ### Program swap (R250 to R253) -/

/-- Entry `k` of a state map: DST, SRC, OP, SHIFT, K (R253). -/
def mapEntry (map k : Nat) : Nat × Nat × Nat × Nat × Int :=
  let b := fun (i : Nat) => map / 256 ^ (8 * k + i) % 256
  (b 0, b 1, b 2, b 3, sx 16 (b 4 + 256 * b 5))

/-- Apply a state map from the range at `src` to the range at `dst` (R251, R253). -/
def applyMap (n dst src map cnt : Nat) (d : Dev) : Dev :=
  let old := (upto 256).map (fun k => stateWord d n (src + k))
  (upto cnt).foldl (fun d k =>
    let (ds, sr, op, sh, kq) := mapEntry map k
    let x : Int := (old.getD sr 0).toInt
    let v : Word := if op = 0 then old.getD sr 0 else if op = 1 then 0
      else BitVec.ofInt 32 (satTo 32 ((x * kq * (2 ^ sh : Nat) + 16384) / 32768))
    setState n (dst + ds) v d) d

/-- A swap is due at this instant for slot `s`: an activation whose time has come, or a rollback (R251, R252). -/
def swapDue (d : Dev) (n s : Nat) : Bool :=
  let w := (d.eng n).swap
  w.slot = s && ((w.st = 1 && w.at_ ≤ d.time64) || (w.st = 2 && w.failed))

/-- The boundary of a swap or of its rollback (R251, R252). -/
def swapBoundary (n s : Nat) (d : Dev) : Dev :=
  let e := d.eng n
  let w := e.swap
  let newB := ((findDesc d n w.newProg).map (fun x => x.sbase)).getD 0
  let oldB := ((findDesc d n w.oldProg).map (fun x => x.sbase)).getD 0
  if w.st = 1 then
    let d := applyMap n newB oldB (d.ent (0x4300 + n) 3) (d.ent (0x4300 + n) 4) d
    let d := d.set (CE_SCFG_PROG_ID n s) w.newProg
    let d := ctxPut (CE_SCFG n s) (d.rd (CE_SCFG n s)) 0xFFFF0000 d
    let d := d.setEng n { d.eng n with swap := { w with st := 2, failed := false } }
    let a : ActS := tabGet {} (0x300 + n) d.sec.acts
    let d := { d with ldg.events := d.ldg.events.filter (fun v => decide (v ≠ 0x15000300 + n)) }
    raise .ACT_ACTIVATED [0x300 + n, a.version] (raise .CE_SWAP_ACTIVATED [n, s, w.oldProg, w.newProg] d)
  else
    let d := applyMap n oldB newB (d.ent (0x4300 + n) 5) (d.ent (0x4300 + n) 6) d
    let d := d.set (CE_SCFG_PROG_ID n s) w.oldProg
    let d := ctxPut (CE_SCFG n s) (d.rd (CE_SCFG n s)) 0xFFFF0000 d
    let d := d.setEng n { d.eng n with swap := { w with st := 4, failed := false } }
    let x := d.slot n s
    let d := d.setSlot n s { x with miss := 0, st := if x.st = .demoted then .armed else x.st }
    let a : ActS := tabGet {} (0x300 + n) d.sec.acts
    raise .ACT_ROLLED_BACK [0x300 + n, a.version, if a.failed = 0 then 2 else a.failed]
      (raise .CE_SWAP_ROLLBACK [n, s, w.newProg, w.oldProg] d)

/-! ### Triggers (R228) -/

/-- No run of the slot is in progress, so a boundary may fall here; a DEMOTED slot meets only the boundary of its rollback
(R251, R252). -/
def boundaryFree (d : Dev) (n s : Nat) : Bool :=
  match (d.slot n s).st with
  | .armed => true
  | .demoted => (d.eng n).swap.st = 2
  | .pending => (d.slot n s).pend ≠ .rerun
  | _ => false

/-- A trigger is counted under source `src`; the count is taken back where EN is written 0 in the same cycle (R228). -/
def trigCount (n s src : Nat) (d : Dev) : Dev := count src { d with cyc.ceCnt := (16 * n + s, src) :: d.cyc.ceCnt }

/-- What a trigger does to an enabled slot. One that meets a run that may still reach END in this cycle waits for the end of the cycle,
`last`, when it is an overrun unless the run has ended (R228, R244). -/
def trigAct (n s : Nat) (last : Bool) (d : Dev) : Dev × List Nat :=
  let x := d.slot n s
  let late : Dev × List Nat := if last then (overrun n s true d, []) else ({ d with cyc.ceOver := (16 * n + s) :: d.cyc.ceOver }, [])
  match x.st with
  | .disabled | .demoted => (count 0x07E d, [])
  | .armed => (d.setSlot n s { x with st := .pending, pend := .plain }, [])
  | .pending => if x.pend = .spec then (trigCount n s 0x07D (d.setSlot n s { x with pend := .plain }), []) else late
  | .running => late
  | .spec => match openSpec d n s with
    | some r => sampleInstant n s r d
    | none => late

/-- A trigger takes effect; answers the events that a settle raises. -/
def slotTake (n s : Nat) (d : Dev) : Dev × List Nat :=
  let d := if boundaryFree d n s && swapDue d n s then swapBoundary n s d else d
  let x := d.slot n s
  match x.st with
  | .disabled | .demoted => (count 0x07E d, [])
  | st =>
    let d := latchCfg n s d
    if slotsRestricted d ∧ !essential d n s ∧ !(st = .spec ∧ (openSpec d n s).isSome) then (trigCount n s 0x07F d, [])
    else trigAct n s false (d.setSlot n s { d.slot n s with tPrev := some d.now })

/-- The trigger reaches the boundary of a swap, or is the sample instant of a speculative run. -/
def trigWaits (d : Dev) (n s : Nat) : Bool :=
  (boundaryFree d n s && swapDue d n s) || (decide ((d.slot n s).st = .spec) && (openSpec d n s).isSome)

/-- One trigger of a slot; answers the events that it raises. A swap boundary or a sample instant is settled at the end of the cycle, when it
is known that EN has not been written 0 in it (R228, R237); `now`: this command is that end. -/
def slotTrig (n s : Nat) (now : Bool) (d : Dev) : Dev × List Nat :=
  let key := 16 * n + s
  if !d.ready (ceaDom n) ∨ d.cyc.trigged.contains key then (d, [])
  else
    let d : Dev := { d with cyc.trigged := key :: d.cyc.trigged }
    if !now && trigWaits d n s then ({ d with cyc.ceTrig := key :: d.cyc.ceTrig }, []) else slotTake n s d

/-- The slots whose TRIG_SRC selects event `e` (R231). -/
def slotsOn (d : Dev) (e : Nat) : List (Nat × Nat) :=
  if e = 0xFFF then [] else
  d.regs.filterMap (fun x =>
    let o := x.1 - 0x40100108
    if 0x40100108 ≤ x.1 ∧ o / 0x10000 < 32 ∧ o % 0x10000 < 0x200 ∧ o % 0x20 = 0 ∧ wGet x.2 0 12 = e then
      some (o / 0x10000, o % 0x10000 / 0x20) else none)

/-- Raise events; each triggers its slots, whose settles may raise more. A slot is triggered once in a cycle, so the fuel
of 600 is never used up (R228, R231). -/
def fireF : Nat → List Nat → Dev → Dev
  | 0, _, d => d
  | _, [], d => d
  | fuel + 1, e :: es, d =>
    let r := (slotsOn d e).foldl (fun (a : Dev × List Nat) x => let t := slotTrig x.1 x.2 false a.1; (t.1, a.2 ++ t.2)) (d, [])
    fireF fuel (es ++ r.2) r.1

/-- Raise engine-visible events (R231). -/
def fire (es : List Nat) (d : Dev) : Dev := fireF 8800 es d

/-- Follow up the events of an operation. -/
def followUp (x : Dev × List Nat) : Dev := fire x.2 x.1

/-- Triggers of several slots of one engine (R112, SLOT_START). -/
def trigMask (n mask : Nat) (d : Dev) : Dev :=
  (upto 16).foldl (fun d s => if mask.testBit s then followUp (slotTrig n s false d) else d) d

/-- An ESCROW_POST reaches a slot: its held escrow is released; with none, a run that goes on has overrun (R230, R244). -/
def escrowOne (n s : Nat) (d : Dev) : Dev :=
  let x := d.slot n s
  if x.st = .disabled ∨ x.st = .demoted then d
  else match x.held with
    | some h =>
      let d := d.setSlot n s { x with held := none }
      let d := writeSamples n s h.status h.seq (outSamples d n s h) d
      followUp (release n s h d)
    | none => if x.st = .armed then d else overrun n s false d

/-- ESCROW_POST for the slots in a mask (R230, R244). A slot with a run that may still reach END in this cycle waits for the end of the
cycle (R237). -/
def escrowPost (n mask : Nat) (d : Dev) : Dev :=
  (upto 16).foldl (fun d s =>
    if !mask.testBit s ∨ d.get (CE_SCFG_RELEASE n s) ≠ 1 then d
    else if (d.slot n s).st = .armed ∨ (d.slot n s).st = .disabled ∨ (d.slot n s).st = .demoted then escrowOne n s d
    else { d with cyc.cePost := (16 * n + s) :: d.cyc.cePost }) d

/-- The end of a cycle for the engines: END, settles, voids and demotions are decided, and what waited for them follows, triggers first and
in ascending engine and slot (R228, R237). A release may trigger further slots, hence the fuel; a slot is triggered once in a cycle. -/
def engineSettle : Nat → Dev → Dev
  | 0, d => d
  | fuel + 1, d =>
    let keys := fun (l : List Nat) => if l = [] then [] else (upto 512).filter l.contains
    let takes := keys d.cyc.ceTrig
    let trigs := keys d.cyc.ceOver
    let posts := keys d.cyc.cePost
    if takes = [] ∧ trigs = [] ∧ posts = [] then d
    else
      let d : Dev := { d with cyc.ceTrig := [], cyc.ceOver := [], cyc.cePost := [] }
      let d := takes.foldl (fun d k =>
        if (d.slot (k / 16) (k % 16)).st = .disabled then d else followUp (slotTake (k / 16) (k % 16) d)) d
      let d := trigs.foldl (fun d k =>
        if (d.slot (k / 16) (k % 16)).st = .disabled then d else followUp (trigAct (k / 16) (k % 16) true d)) d
      engineSettle fuel (posts.foldl (fun d k => escrowOne (k / 16) (k % 16) d) d)

/-! ### Starting a run (R229, R235, R239) -/

/-- R229's choice among the PENDING slots: reruns first, then the highest PRIO, then the lowest number. -/
def pickSlot (d : Dev) (n : Nat) : Option Nat :=
  let pend := (d.eng n).slots.filterMap (fun x => if x.2.st = .pending then some x.1 else none)
  let again := pend.filter (fun s => (d.slot n s).pend = .rerun)
  let prio := fun (s : Nat) => trigCfg d n s (CE_SCFG_PRIO n s)
  (if again = [] then pend else again).foldl (fun best s => match best with
    | none => some s
    | some b => if prio s > prio b then some s else best) none

/-- The prediction sat(2 x[k] − x[k−1]) of every window port (R239). -/
def predict (hist : List (List (W16 × Bool))) : List (W16 × Bool) :=
  let a := hist.getD 0 []
  let b := hist.getD 1 []
  (upto a.length).map (fun j =>
    (BitVec.ofInt 16 (satTo 16 (2 * (a.getD j (0, true)).1.toInt - (b.getD j (0, true)).1.toInt)), false))

/-- Two consecutive valid samples on every port of the window (R238). -/
def histValid (d : Dev) (n s : Nat) : Bool :=
  let h := (d.slot n s).hist
  let k := (inWin d n s).2
  h.length = 2 && h.all (fun l => l.length = k && l.all (fun x => !x.2))

/-- The speculative start time of slot `s` (R238). -/
def specTs (d : Dev) (n s : Nat) : Option Nat :=
  (d.slot n s).tPrev.map (fun t => t + 5 * (d.cget (CE_SPER_PERIOD n s) - d.cget (CE_STRIG_LEAD n s)))

/-- The conditions of a speculative start beside its time (R238, R248, R251). -/
def specOk (d : Dev) (n s : Nat) : Bool :=
  let w := (d.eng n).swap
  (d.slot n s).st = .armed && d.cget (CE_SCFG_SPEC_EN n s) = 1 && (d.slot n s).tPrev.isSome && histValid d n s &&
    !(runAheadRestricted d && !essential d n s) &&
    !(w.slot = s && (w.st = 1 && w.at_ ≤ d.time64 + 5 * d.cget (CE_STRIG_LEAD n s)))

/-- A slot of the engines of domain `n` starts a speculative run within the next `win` ns (R238). -/
def specWithin (d : Dev) (n win : Nat) : Bool :=
  d.cea.eng.any (fun e => ceaDom e.1 = n && e.2.slots.any (fun s => specOk d e.1 s.1 &&
    (match specTs d e.1 s.1 with
     | some t => decide (d.now ≤ t ∧ t ≤ d.now + win)
     | none => false)))

/-- Start the run of slot `s` (R229): latch or predict the inputs and take the working copy. -/
def startRun (n s : Nat) (d : Dev) : Dev :=
  let x := d.slot n s
  match findDesc d n (d.get (CE_SCFG_PROG_ID n s)) with
  | none => d.setSlot n s { x with st := .armed, pend := .plain }
  | some ds =>
    let fresh := latchWin d n s
    let ins := match x.pend with
      | .spec => predict x.hist
      | .plain => fresh
      | .rerun => x.rerunIns.getD fresh
    let push := match x.pend with | .plain => true | .rerun => x.rerunIns.isNone | .spec => false
    let kind : RunKind := match x.pend with | .spec => .spec | .plain => .plain | .rerun => .rerun
    let r : Run := {
      slot := s, kind := kind, lib := if ds.valid = 2 then ds.progId else 0, dbase := ds.dbase, sbase := ds.sbase, slen := ds.slen,
      pt := Vector.replicate 4 (BitVec.ofNat 10 ds.dbase), pc := ds.entry, ins := ins,
      work := (upto ds.slen).map (fun k => stateWord d n (ds.sbase + k)) }
    let d := d.setSlot n s { x with
      st := if kind = .spec then .spec else .running, pend := .plain, rerunIns := none, seq := x.seq + 1,
      hist := if push then (ins :: x.hist).take 2 else x.hist }
    let base := (inWin d n s).1
    let rd := capture n 0 (fun k => some (portIn r base (d.get (CE_TPROBE_SEL n k))).1) r d
    rd.2.setRun n (some rd.1)

/-- The engine starts its chosen PENDING slot when no run is in progress (R229). -/
def runStart (n : Nat) (d : Dev) : Dev :=
  if !d.ready (ceaDom n) ∨ (d.eng n).run.isSome then d
  else match pickSlot d n with
    | none => d
    | some s => startRun n s d

/-! ### Enabling and disabling (R226, R227) -/

/-- EN written 0 to 1, the register holding every other field already (R226, R227). -/
def slotEnable (n s : Nat) (d : Dev) : Dev :=
  let c := slotCheck d n s
  if c.1 = 0 then
    let x := d.slot n s
    let d := (d.set (CE_SCFG_EN n s) 1).setSlot n s { x with
      st := .armed, pend := .plain, hist := [], miss := 0, held := none, waiting := none, rerunIns := none, tPrev := none, lat := [] }
    ctxPut (CE_SCFG n s) 1 1 d
  else cfgErr n s c.1 c.2 (ctxPut (CE_SCFG n s) 1 1 (d.set (CE_SCFG_EN n s) 0))

/-- EN written 0 (R227, R228): a trigger of the same cycle is ignored. -/
def slotDisable (n s : Nat) (d : Dev) : Dev :=
  let d := ctxPut (CE_SCFG n s) 0 1 (d.set (CE_SCFG_EN n s) 0)
  let x := d.slot n s
  if x.st = .disabled then d
  else
    let key := 16 * n + s
    let d := if x.st ≠ .demoted ∧ d.cyc.trigged.contains key then count 0x07E d else d
    let d := (d.cyc.ceCnt.filter (fun c => c.1 = key)).foldl (fun d c => uncount c.2 d)
      { d with cyc.ceCnt := d.cyc.ceCnt.filter (fun c => c.1 ≠ key), cyc.ceTrig := d.cyc.ceTrig.filter (· ≠ key) }
    let d := abandon n s d
    d.setSlot n s { d.slot n s with st := .disabled, held := none }

/-- ARM written 1 (R247): ignored where the slot is not DEMOTED, but for a demotion later in the cycle. -/
def slotArm (n s : Nat) (d : Dev) : Dev :=
  if (d.slot n s).st = .demoted then rearm n s d else { d with cyc.ceArm := (16 * n + s) :: d.cyc.ceArm }

/-! ### One instruction (R189, R219) -/

/-- The run in progress on engine `n` that executes program words: not a library run. -/
def codeRun (d : Dev) (n : Nat) : Option Run :=
  if !d.ready (ceaDom n) then none
  else match (d.eng n).run with
    | some r => if r.lib = 0 then some r else none
    | none => none

/-- The conditions that end a run before it executes word `i`: 3 RUN_LIMIT, 2 PC_RANGE, 4 BAD_WORD (R218, R219). -/
def preFault (i : CeWord) (r : Run) : Option Nat :=
  if r.cycles ≥ 65536 then some 3 else if r.pc > 2047 then some 2 else if !ceWordOk i r.pc then some 4 else none

/-- The word that the run has reached is not `i`: the command then names an instruction that the engine does not execute (log entry 133). -/
def ceMiss (d : Dev) (n : Nat) (i : CeWord) (r : Run) : Bool := decide (r.pc ≤ 2047) && decide (ceFields (progWord d n r.pc) ≠ i)

/-- Engine `n` executes the instruction word `i` at its program counter, other than END. With no run of program words in progress, or with
another word there, nothing happens. -/
def ceStep (n : Nat) (i : CeWord) (sem : Dev → CeWord → Run → CeRes) (d : Dev) : Dev :=
  match codeRun d n with
  | none => d
  | some r =>
    if ceMiss d n i r then d else
    match preFault i r with
    | some c => runFault n c r d
    | none =>
      let rd := capture n 2 (fun k => if d.get (CE_TPROBE_TAP n k) = r.pc then
          some (r.wr (d.get (CE_TPROBE_SEL n k))) else none) r d
      match sem d i rd.1 with
      | .fault c => runFault n c rd.1 rd.2
      | .ok r' =>
        let d := if i.op = 5 ∧ rd.1.kind = .spec then rd.2.bump (CE_FAULTCNT_SPEC_ST n) else rd.2
        d.setRun n (some { r' with cycles := r.cycles + ceCycles i.op })
      | .store r' a v => (setData n a v rd.2).setRun n (some { r' with cycles := r.cycles + ceCycles i.op })

/-- END of a run of program words, or the end of a library run (R217, R254). -/
def ceEnd (n : Nat) (d : Dev) : Dev :=
  if !d.ready (ceaDom n) then d
  else match (d.eng n).run with
    | none => d
    | some r =>
      if r.lib = 0 then
        if ceMiss d n ⟨0x2B, 0, 0, 0, 0⟩ r then d else
        match preFault ⟨0x2B, 0, 0, 0, 0⟩ r with
        | some c => runFault n c r d
        | none =>
          -- a sample at END is written with the others of its cycle, in probe order (R256)
          let l := newSamples d n 2 r (fun k => if d.get (CE_TPROBE_TAP n k) = r.pc then some (r.wr (d.get (CE_TPROBE_SEL n k))) else none)
          followUp (runEnd n { r with cycles := r.cycles + 1, probed := r.probed ++ l.map (·.1), samples := r.samples ++ l } d)
      else
        let x := libRun (dataWord d n) (outWin d n r.slot).1 (inWin d n r.slot).2 (outWin d n r.slot).2 d.free r
        followUp (runEnd n x.1 { d with free := x.2 })

end Sys2Proof.Machine
end

