-- ==== Sys2Proof/Machine/PwrOps.lean ====
section
/-! DEFINITION. Waking: a domain is asked for, and a wake source brings the device back to RUN (R52, R54, R55, R57, R507). -/

namespace Sys2Proof.Machine

/-- The halves that run or may run: not left off (R21, R63). -/
def halfAvailable (d : Dev) (h : Nat) : Bool := !d.pwr.rccDown && !d.pwr.halfOff.testBit h

/-- Domain `n` is asked for: it is powered when the buck runs, no save or thermal shutdown forbids it, and it is no half that is
left off (R21, R47, R54, R63). Its DOMAIN_READY follows; no power-down of the same cycle takes it off again (R54). -/
def wakeDomain (n : Nat) (d : Dev) : Dev :=
  if n < 12 ∧ d.pwr.buck ∧ d.pwr.save = .none ∧ !d.pwr.thermalOff ∧ (n < 2 → halfAvailable d n) then
    { d.setN PMC_DOMSTAT_ON n true with cyc.woken := n :: d.cyc.woken }
  else d

/-- Add a domain to those asked for. -/
def wakeAdd (n : Nat) (l : List Nat) : List Nat := if l.contains n then l else n :: l

/-- A foreground window of a unit of domain `n` is pending or runs: it requests the domain as a hold does (R149). -/
def fgHolds (d : Dev) (n : Nat) : Bool :=
  (n = 4 || n = 5) && (upto 2).any (fun k => let s : CvuS := tabGet {} (2 * (n - 4) + k) d.cvu; s.fgBusy || s.fgPend.isSome)

/-- Domain `n` is held on: by the runtime, by a pin or by a foreground window (R51, R54, R149). -/
def heldOn (d : Dev) (n : Nat) : Bool := d.bitN PMC_DOMREQ_HOLD n || d.bitN PMC_PINNED_PINNED n || fgHolds d n

/-- A wake source returns the device to RUN: the reference, unless it is lost, and the PLLs start, the counter leaves 32.768 kHz at
the next edge, waiting halves resume and set their HOLD bits again, and held domains are powered, after a forced DEEP also those
whose channels start again (R55 to R58, R60, R81, R507). -/
def wakeUp (d : Dev) : Dev :=
  let st := d.get PMC_PSTATE_STATE
  let d := { d with pwr.coreWait := 0 }
  let d := (upto 2).foldl (fun d h => if halfAvailable d h then wakeDomain h (d.setN PMC_DOMREQ_HOLD h true) else d) d
  if st = 0 then d
  else
    let d := d.set PMC_PSTATE_STATE 0
    let d := d.set PMC_CLKSTAT_PLL_LOCK 7
    let d := if st = 3 ∧ !d.bit PMC_CLKSTAT_ON_RC then
        let d := d.set PMC_CLKSTAT_REF_OK 1
        { d with xtf.leave32 := d.xtf.on32 }
      else d
    let d := if st = 3 ∧ d.pwr.forced then wakeDomain 9 (wakeDomain 8 (wakeDomain 6 d)) else d
    (upto 12).foldl (fun d n => if heldOn d n then wakeDomain n d else d) d

/-- Wake source `src` of R57 can wake the device. -/
def wakeArmed (d : Dev) (src : Nat) : Bool :=
  match src with
  | 0 => d.ldg.st = 1
  | 1 => decide (d.get PMC_PSTATE_STATE ≠ 3) && d.ready 8 && (upto 6).any (fun p => d.bit (FNS_PORTCFG_EN p))
  | 2 => (upto 8).any (fun n => decide (wGet (d.cfg (CAN_CFG n)) 0 3 ≠ 0))
  | 3 => (upto 64).any (fun n => decide (d.cget (AIO_GPIOCFG_WAKE n) ≠ 0))
  | 4 | 6 | 7 | 8 => true
  | 5 => d.bit XTF_PPS_PPSIN_WAKE
  | _ => false

/-- A wake source: the device returns to RUN with the domains that the source needs (R55, R57). -/
def wakeEvent (src : Nat) (d : Dev) : Dev :=
  if !wakeArmed d src ∨ d.pwr.save ≠ .none ∨ d.pwr.step < 4 then d
  else
    let d := wakeUp d
    match src with
    | 2 => wakeDomain 9 d
    | 3 => wakeDomain 7 d
    | 4 => wakeDomain 11 d
    | _ => d

/-- What arrives is a wake source: it acts outside RUN, and in RUN while a core waits (R57, R507). -/
def wakeIfIdle (src : Nat) (d : Dev) : Dev := if d.get PMC_PSTATE_STATE = 0 ∧ d.pwr.coreWait = 0 then d else wakeEvent src d

/-- An edge on the CRX of an enabled channel (R57). -/
def crxEdge (d : Dev) : Dev := if d.ready 9 then wakeIfIdle 2 d else wakeEvent 2 d

/-- The core that handles events of the ledger: CORE0, or CORE4 while CORE-A is off (DESIGN CHOICE, log entry 146). -/
def eventCore (d : Dev) : Nat := if d.ready 0 then 0 else 4

/-- A core has an event to handle: it no longer waits, IDLE ends, and so do NAP and DEEP (R55, R507). -/
def coreEvent (d : Dev) : Dev :=
  if 2 ≤ d.get PMC_PSTATE_STATE then wakeUp d
  else
    let e : Dev := { d with pwr.coreWait := setBit d.pwr.coreWait (eventCore d) false }
    if d.get PMC_PSTATE_STATE = 1 then e.set PMC_PSTATE_STATE 0 else e

/-! ### The powered device on TL0 (R45) -/

/-- The detection signature is presented. -/
def pdSignature (d : Dev) : Bool := !d.pwr.localLine

/-- The class code that answers SCCP; none presents no classification. -/
def pdClass (d : Dev) : Option Nat := if pdSignature d ∧ d.ent 0xA001 7 ≠ 0xFF then some (d.ent 0xA001 7) else none

/-- The bleed load that keeps the maintain power signature is on. -/
def bleedOn (d : Dev) : Bool :=
  d.pwr.aon && pdSignature d && Config.drawBelowMps (d.get PMC_PSTATE_STATE) (d.get PMC_DOMSTAT_ON)

/-- The PSE has detected the signature; `ok`: it has read a class code. A device on a local supply presents none. -/
def sccpOp (ok : Bool) (d : Dev) : Dev := if pdSignature d then d.setB PMC_LINE_PD (ok && (pdClass d).isSome) else d

end Sys2Proof.Machine
end

