-- ==== Sys2Proof/Machine/AioOps.lean ====
section
/-! DEFINITION. Operations of the I²C controllers and of GPIO capture (R325 to R334). -/

namespace Sys2Proof.Machine

/-! ### I²C rounds -/

/-- An entry with WLEN 0 and RLEN 0 does nothing (R15, R330). -/
def i2cEmpty (d : Dev) (c p : Nat) : Bool := decide (i2cFld d c p 0 8 3 = 0 ∧ i2cFld d c p 0 11 4 = 0)

/-- The entries that a round polls, ascending (R330, R332). -/
def i2cPolled (d : Dev) (c : Nat) : List Nat :=
  (upto 16).filter (fun p => decide (i2cFld d c p 0 7 1 = 1) && !i2cEmpty d c p &&
    (i2cFld d c p 0 15 1 = 0 || !(d.i2c c).onceDone))

/-- The readings of an entry whose extraction is enabled, as (reading, k). -/
def i2cReadings (d : Dev) (c p : Nat) : List (Nat × Nat) :=
  ([0, 1].filter (fun k => decide (i2cFld d c p 2 (i2cX k + 9) 1 = 1))).map (fun k => (32 * c + 2 * p + k, k))

/-- The value of extraction `k` from the data bytes (R330). -/
def i2cExtract (d : Dev) (c p k : Nat) (data : List Nat) : Nat :=
  let x := i2cX k
  let o := i2cFld d c p 2 x 3
  let a := data.getD o 0 % 256
  let b := data.getD (o + 1) 0 % 256
  let v := if i2cFld d c p 2 (x + 3) 1 = 0 then 256 * a + b else 256 * b + a
  let sh := i2cFld d c p 2 (x + 4) 4
  if i2cFld d c p 2 (x + 8) 1 = 1 then ux 16 (sx 16 v / (2 ^ sh : Nat)) else v / 2 ^ sh

/-- Eight steps of the CRC-8 of R330, polynomial 0x31. -/
def crc8Bits : Nat → Nat → Nat
  | 0, c => c
  | n + 1, c => crc8Bits n (if 128 ≤ c then (2 * c % 256) ^^^ 0x31 else 2 * c)

/-- The CRC-8 of R330 over a list of bytes, from 0xFF. -/
def crc8 (l : List Nat) : Nat := l.foldl (fun c b => crc8Bits 8 (c ^^^ b % 256)) 0xFF

/-- The data bytes among the bytes read for an entry; none where a CRC byte does not match (R330, R333). -/
def i2cData (d : Dev) (c p : Nat) (bytes : List Nat) : Option (List Nat) :=
  let n := i2cFld d c p 0 11 4
  let b := fun (k : Nat) => bytes.getD k 0 % 256
  if i2cFld d c p 0 24 2 ≠ 1 then some ((upto n).map b)
  else if (upto (n / 3)).all (fun g => crc8 [b (3 * g), b (3 * g + 1)] = b (3 * g + 2)) then
    some (((upto n).filter (fun k => k % 3 ≠ 2)).map b)
  else none

/-- An entry fails: counted in ERRORS; after FAIL_N consecutive failed rounds its readings are lost (R333). -/
def i2cFail (c p : Nat) (d : Dev) : Dev :=
  let d := d.bump (AIO_I2CSTAT_ERRORS c)
  let s := d.i2c c
  let n := tabGet 0 p s.fails + 1
  let d := d.setI2c c { s with fails := tabPut 0 p n s.fails }
  if n ≥ max (d.get (AIO_I2CCFG_FAIL_N c)) 1 ∧ !s.lost.contains p then
    let d := d.setI2c c { d.i2c c with lost := p :: s.lost }
    (i2cReadings d c p).foldl (fun d r => raise .I2C_READING_LOST [r.1] (d.set (AIO_I2CRD_VALID r.1) 0)) d
  else d

/-- An entry succeeds: its readings are updated (R332, R333). -/
def i2cOk (c p : Nat) (data : List Nat) (d : Dev) : Dev :=
  let s := d.i2c c
  let was := s.lost.contains p
  let d := d.setI2c c { s with fails := tabPut 0 p 0 s.fails, lost := s.lost.filter (· ≠ p) }
  (i2cReadings d c p).foldl (fun d r =>
    let d := d.set (AIO_I2CRD_VALUE r.1) (i2cExtract d c p r.2 data)
    let d := d.set (AIO_I2CRD_VALID r.1) 1
    let d := stamp 2 r.1 (d.set (AIO_I2CRD_ROUND r.1) s.round)
    if was then raise .I2C_READING_BACK [r.1] d else d) d

/-- The round ends: event 0x350 + c (R332). -/
def i2cRoundEnd (c : Nat) (d : Dev) : Dev :=
  let d := d.setI2c c { d.i2c c with left := [], cur := none, waiting := false }
  fire [0x350 + c] (d.set (AIO_I2CSTAT_STATE c) 1)

/-- What a START meets on the bus (R334): a stuck one fails the entries `rest` of the round and ends it; a recovered one counts as an
error, and the START proceeds with `go`. -/
def i2cMeet (c : Nat) (bus : I2cBus) (rest : List Nat) (go : Dev → Dev) (d : Dev) : Dev :=
  match bus with
  | .stuck =>
    let d := raise .I2C_BUS_STUCK [c] (d.set (AIO_I2CSTAT_STUCK c) 1)
    i2cRoundEnd c (rest.foldl (fun d q => i2cFail c q d) d)
  | _ =>
    if bus = .recovered ∨ d.bit (AIO_I2CSTAT_STUCK c) then
      let d := d.bump (AIO_I2CSTAT_ERRORS c)
      go (if d.bit (AIO_I2CSTAT_STUCK c) then raise .I2C_BUS_RECOVERED [c] (d.set (AIO_I2CSTAT_STUCK c) 0) else d)
    else go d

/-- The next START of a round, with what it meets on the bus (R332, R334). -/
def i2cNext (c : Nat) (bus : I2cBus) (d : Dev) : Dev :=
  let s := d.i2c c
  match s.left with
  | [] => i2cRoundEnd c d
  | p :: t =>
    i2cMeet c bus s.left (fun d =>
      let d := (d.set (AIO_I2CSTAT_STATE c) 2).set (AIO_I2CSTAT_ENTRY c) p
      d.setI2c c { d.i2c c with
        left := t, cur := some p,
        waiting := decide (i2cFld d c p 0 8 3 ≠ 0 ∧ i2cFld d c p 0 11 4 ≠ 0 ∧ i2cFld d c p 0 16 8 ≠ 0) }) d

/-- A line failure ends the transfer in progress, and its round (R332). -/
def i2cHalt (c : Nat) (d : Dev) : Dev :=
  let s := d.i2c c
  if s.cur.isNone ∧ s.left = [] then d
  else (d.setI2c c { s with left := [], cur := none, waiting := false }).set (AIO_I2CSTAT_STATE c) 1

/-- A round starts, or is skipped (R332); after a line failure none starts. -/
def i2cRoundStart (c : Nat) (bus : I2cBus) (d : Dev) : Dev :=
  if !d.bit (AIO_I2CCFG_EN c) ∨ d.get (AIO_I2CCFG_PERIOD c) = 0 ∨ d.bit PMC_LINE_FAIL then d
  else
    let s := d.i2c c
    if s.cur.isSome ∨ s.left ≠ [] then count 0x0D8 (d.bump (AIO_I2CSTAT_SKIPPED c))
    else
      let l := i2cPolled d c
      i2cNext c bus (d.setI2c c { s with round := s.round + 1, left := l, onceDone := true })

/-! ### GPIO inputs -/

/-- The accepted level of a ball changes (R325); guards see the inputs as they were at the start of the cycle (R111). -/
def gpioSet (n : Nat) (level : Bool) (d : Dev) : Dev :=
  { d with cyc.gpio0 := some (d.cyc.gpio0.getD (maskOf 64 (gpioIn d))), aio.gpio := setBit d.aio.gpio n level }

/-- Count and time of the captures of GPIO `n` before this cycle (R326). -/
def capBefore (d : Dev) (n : Nat) : Nat × Nat := tabGet (tabGet 0 n d.aio.capN, tabGet 0 n d.aio.capT) n d.cyc.cap0

/-- A capture (R326): the count, the time of the raw transition, and event 0x300 + n. -/
def gpioCapture (n raw : Nat) (d : Dev) : Dev :=
  let d : Dev := { d with cyc.cap0 := tabIns n (capBefore d n) d.cyc.cap0 }
  let d := { d with aio.capN := tabPut 0 n ((tabGet 0 n d.aio.capN + 1) % 65536) d.aio.capN }
  let d := { d with aio.capT := tabPut 0 n raw d.aio.capT }
  let d := { d with aio.capAll := tabPut 0 n ((tabGet 0 n d.aio.capAll + 1) % 4294967296) d.aio.capAll }
  fire [0x300 + n] (count 0x0D9 d)

/-- A level of GPIO `n` is accepted; the stage runs in AON (R325 to R327). -/
def gpioAccept (n : Nat) (level : Bool) (raw : Nat) (d : Dev) : Dev :=
  let act : Bool := level != decide (d.cget (AIO_GPIOCFG_POL n) = 1)
  if d.aio.gpio.testBit n = level then d
  else
    let d := gpioSet n level d
    let d := if (d.cget (AIO_GPIOCFG_EDGE n)).testBit (if act then 0 else 1) then gpioCapture n raw d else d
    if d.cget (AIO_GPIOCFG_WAKE n) = 1 then wakeUp d else d

end Sys2Proof.Machine
end

