-- ==== Sys2Proof/Machine/CeLoad.lean ====
section
/-! DEFINITION. Engine images, library descriptors and program swap records (R220 to R223, R250, R254). -/

namespace Sys2Proof.Machine

/-- A byte string as its length and little-endian number. -/
structure Blob where
  len : Nat
  val : Nat
deriving DecidableEq, Repr

/-- A byte string from its bytes. -/
def Blob.ofBytes (l : List Nat) : Blob := ⟨l.length, l.foldr (fun b a => b % 256 + 256 * a) 0⟩

/-- `k` bytes from offset `o`, little-endian; bytes beyond the end read 0. -/
def Blob.at (b : Blob) (o k : Nat) : Nat := b.val / 256 ^ o % 256 ^ k

/-- CRC-32 of the first `n` bytes (R220). -/
def crc32 (b : Blob) (n : Nat) : Nat := (List.range n).foldl (fun c i => crcByte c (b.at i 1)) 0xFFFFFFFF ^^^ 0xFFFFFFFF

/-- One section of an image (R222): type, first word, count and byte offset of its header. -/
structure Sec where
  ty    : Nat
  start : Nat
  cnt   : Nat
  off   : Nat
deriving DecidableEq, Repr

/-- Bytes of one word of a section type. -/
def secWord (ty : Nat) : Nat := if ty = 2 then 2 else 4
/-- Words of the memory of a section type. -/
def secMem (ty : Nat) : Nat := if ty = 1 then 2048 else if ty = 2 then 1024 else if ty = 3 then 256 else 0
/-- Bytes of a section with its padding. -/
def secLen (s : Sec) : Nat := 8 + (s.cnt * secWord s.ty + 3) / 4 * 4
/-- Word `j` of a section. -/
def secGet (b : Blob) (s : Sec) (j : Nat) : Nat := b.at (s.off + 8 + j * secWord s.ty) (secWord s.ty)

/-- The sections from `pos` to `stop`, or the offset at which one runs beyond the image. -/
def secList (b : Blob) : Nat → Nat → Nat → List Sec × Option Nat
  | 0, pos, stop => ([], if pos = stop then none else some pos)
  | k + 1, pos, stop =>
    let s : Sec := ⟨b.at pos 1, b.at (pos + 2) 2, b.at (pos + 4) 2, pos⟩
    if pos + secLen s > stop then ([], some pos)
    else
      let r := secList b k (pos + secLen s) stop
      (s :: r.1, r.2)

/-- Descriptor `k` of an image (R221). -/
def imgDesc (b : Blob) (k : Nat) : Desc :=
  let o := 32 + 16 * k
  ⟨b.at o 2, b.at (o + 2) 2, b.at (o + 4) 2, b.at (o + 6) 2, b.at (o + 8) 2, b.at (o + 10) 2, 1⟩

/-- The lowest byte offset in `[lo, hi)` that is not 0. -/
def firstNz (b : Blob) (lo hi : Nat) : Option Nat := (List.range (hi - lo)).findSome? (fun i => if b.at (lo + i) 1 ≠ 0 then some (lo + i) else none)

/-- Word ranges overlap. -/
def overlaps (a n b m : Nat) : Bool := decide (n ≠ 0 ∧ m ≠ 0 ∧ a < b + m ∧ b < a + n)

/-- An enabled slot of engine `n` runs PROG_ID `pid`. -/
def inUse (d : Dev) (n pid : Nat) : Bool := (enabledSlots d n).any (fun s => d.get (CE_SCFG_PROG_ID n s) = pid)

/-- The descriptors that enabled slots run. -/
def liveDescs (d : Dev) (n : Nat) : List Desc :=
  (upto 32).filterMap (fun i => let x := descAt d n i; if x.valid ≠ 0 ∧ inUse d n x.progId then some x else none)

/-- Sections of one type that overlap: the later one's number. -/
def secClash (l : List Sec) : Option Nat :=
  (List.range l.length).find? (fun j => match l[j]? with
    | none => false
    | some s => (l.take j).any (fun t => t.ty = s.ty && overlaps s.start s.cnt t.start t.cnt))

/-- Code 7 for one descriptor: out of range, code outside the program sections, PROG_ID repeated or reserved (R223, R254). -/
def descBad (secs : List Sec) (b : Blob) (k : Nat) : Bool :=
  let x := imgDesc b k
  x.entry > 2047 || x.codeLen = 0 || x.codeLen > 2048 || x.sbase > 255 || x.slen > 256 || x.sbase + x.slen > 256 || x.dbase > 1023 ||
    (upto x.codeLen).any (fun j => !(secs.any (fun s => s.ty = 1 && decide (s.start ≤ x.entry + j ∧ x.entry + j < s.start + s.cnt)))) ||
    (upto k).any (fun j => (imgDesc b j).progId = x.progId) || (0xF000 ≤ x.progId && x.progId ≤ 0xF0FF)

/-- Code 4: the lowest offending byte offset. -/
def reservedBad (b : Blob) (nd : Nat) (secs : List Sec) : Option Nat :=
  let l := [if b.at 16 2 > 32 then some 16 else none, if nd > 16 then some 18 else none, firstNz b 20 32] ++
    (upto nd).map (fun k => firstNz b (32 + 16 * k + 12) (32 + 16 * k + 16)) ++
    (secs.map (fun s => [firstNz b (s.off + 1) (s.off + 2), firstNz b (s.off + 6) (s.off + 8),
      firstNz b (s.off + 8 + s.cnt * secWord s.ty) (s.off + secLen s)])).flatten
  l.foldl (fun a x => match a, x with
    | none, y => y
    | some m, none => some m
    | some m, some y => some (min m y)) none

/-- The load check (R223): code and DETAIL of the first refusal, or the sections. -/
def loadCheck (d : Dev) (n : Nat) (b : Blob) : (Nat × Nat) × List Sec :=
  let nd := b.at 18 2
  let stop := b.len - 4
  if b.len < 6 ∨ b.at 0 4 ≠ 0x31504543 ∨ b.at 4 2 ≠ 1 then ((1, 0), [])
  else if b.at 6 2 ≠ 32 ∨ b.len < 8 then ((2, 6), [])
  else if b.at 8 4 ≠ b.len then ((2, 8), [])
  else if b.len < 36 ∨ (nd ≤ 16 ∧ 32 + 16 * nd > stop) then ((2, b.len), [])
  else if 32 + 16 * nd > stop then
    ((if crc32 b stop ≠ b.at stop 4 then (3, 0) else (4, if b.at 16 2 > 32 then 16 else 18)), [])
  else
    let secs := secList b (b.at 16 2) (32 + 16 * nd) stop
    match secs.2 with
    | some o => ((2, o), [])
    | none =>
      if crc32 b stop ≠ b.at stop 4 then ((3, 0), []) else
      match reservedBad b nd secs.1 with
      | some o => ((4, o), [])
      | none =>
        match (List.range secs.1.length).find? (fun j => match secs.1[j]? with
          | none => false
          | some s => s.ty < 1 || s.ty > 3 || s.start + s.cnt > secMem s.ty), secClash secs.1 with
        | some j, some k => ((5, min j k), [])
        | some j, none => ((5, j), [])
        | none, some k => ((5, k), [])
        | none, none =>
          match secs.1.findSome? (fun s => if s.ty ≠ 1 then none else
            (upto s.cnt).findSome? (fun j => if ceWordOk (ceFields (secGet b s j)) (s.start + j) then none else some (s.start + j))) with
          | some a => ((6, a), [])
          | none =>
            match (upto nd).find? (descBad secs.1 b) with
            | some k => ((7, k), [])
            | none =>
              let live := liveDescs d n
              match (upto nd).find? (fun k => live.any (fun x => x.progId = (imgDesc b k).progId)) with
              | some k => ((8, k), [])
              | none =>
                match (List.range secs.1.length).find? (fun j => match secs.1[j]? with
                  | none => false
                  | some s => live.any (fun x =>
                      (s.ty = 1 && overlaps s.start s.cnt x.entry x.codeLen) || (s.ty = 3 && overlaps s.start s.cnt x.sbase x.slen))) with
                | some j => ((8, j), [])
                | none =>
                  let freeN := ((upto 32).filter (fun i => (descAt d n i).valid = 0)).length
                  let fresh := (upto nd).filter (fun k => (findDescIx d n (imgDesc b k).progId).isNone)
                  match fresh[freeN]? with
                  | some k => ((9, k), [])
                  | none => ((0, 0), secs.1)

/-- Report a load result (R223, R224). -/
def loadStat (n code detail version : Nat) (d : Dev) : Dev :=
  let d := (d.set (CE_LOADSTAT_RESULT n) code).set (CE_LOADSTAT_DETAIL n) detail
  if code = 0 then d else raise .CE_IMAGE_REFUSED [n, code, detail, version] d

/-- Enter a descriptor: it replaces one with the same PROG_ID or takes a free entry (R223). -/
def enterDesc (n : Nat) (x : Desc) (d : Dev) : Dev :=
  match findDescIx d n x.progId with
  | some i => setDesc n i x d
  | none => match (upto 32).find? (fun i => (descAt d n i).valid = 0) with
    | some i => setDesc n i x d
    | none => d

/-- Write one section; data words are written as the runtime's bus writes (R192, R223). -/
def writeSec (n : Nat) (b : Blob) (s : Sec) (d : Dev) : Dev :=
  let base := if s.ty = 1 then 0 else if s.ty = 2 then 0x2000 else 0x3000
  if s.ty = 2 then (upto s.cnt).foldl (fun d j => busData n (s.start + j) (BitVec.ofNat 16 (secGet b s j)) d) d
  else { d with win := (upto s.cnt).foldl (fun m j =>
      memWrite m (ceWin n (base + (s.start + j) * secWord s.ty)) (secGet b s j) (secWord s.ty)) d.win }

/-- Load an image (R223); the answer tells whether it was accepted. -/
def imageLoad (n : Nat) (b : Blob) (d : Dev) : Bool × Dev :=
  let c := loadCheck d n b
  if c.1.1 ≠ 0 then (false, loadStat n c.1.1 c.1.2 (b.at 12 4) d)
  else
    let d := c.2.foldl (fun d s => writeSec n b s d) d
    let d := (upto (b.at 18 2)).foldl (fun d k => enterDesc n (imgDesc b k) d) d
    (true, loadStat n 0 0 0 d)

/-- LIB_BIND (R254): PROG_ID, SBASE, DBASE and a zero word. -/
def libBind (n pid sbase dbase last : Nat) (d : Dev) : Bool × Dev :=
  match libSlen pid with
  | none => (false, loadStat n 7 0 0 d)
  | some slen =>
    if sbase > 255 ∨ sbase + slen > 256 ∨ dbase > 1023 ∨ last ≠ 0 then (false, loadStat n 7 0 0 d)
    else if inUse d n pid then (false, loadStat n 8 0 0 d)
    else if (findDescIx d n pid).isNone ∧ !(upto 32).any (fun i => (descAt d n i).valid = 0) then (false, loadStat n 9 0 0 d)
    else (true, loadStat n 0 0 0 (enterDesc n ⟨0, 0, sbase, slen, dbase, pid, 2⟩ d))

/-- LIB_BIND of a whole entry. -/
def libBindWord (n v : Nat) (d : Dev) : Bool × Dev := libBind n (v % 65536) (v / 2 ^ 16 % 65536) (v / 2 ^ 32 % 65536) (v / 2 ^ 48) d

/-- REMOVE_PROG (R254): refused while an enabled slot or a pending swap names the descriptor. -/
def removeProg (n pid : Nat) (d : Dev) : Bool × Dev :=
  let w := (d.eng n).swap
  if inUse d n pid ∨ (w.st = 1 ∧ (w.oldProg = pid ∨ w.newProg = pid)) then (false, d)
  else match findDescIx d n pid with
    | none => (true, d)
    | some i => (true, setDesc n i ⟨0, 0, 0, 0, 0, 0, 0⟩ d)

/-- A write of entry 0x4000 + `n`:`sub` that changes the memories of engine `n`: what is accepted is kept in the entry. While the domain is
not ready, the check is made on what the domain will find; an accepted write is kept, and held until the domain is ready, which it wakes
(R17, R191, R223, R254). -/
def engineWrite (n sub sess len v : Nat) (f : Dev → Bool × Dev) (d : Dev) : Bool × Dev :=
  let dom := ceaDom n
  if d.ready dom then
    let r := f d
    (r.1, if r.1 then r.2.setEnt (0x4000 + n) sub v else r.2)
  else
    let x := f (domView dom d)
    if x.1 then (true, wakeDomain dom (holdPart dom (.write sess (0x4000 + n) sub len v) (d.setEnt (0x4000 + n) sub v)))
    else (false, wakeDomain dom (x.2.setN PMC_DOMSTAT_READY dom false))

/-- A state map is well formed for ranges of `dl` and `sl` words (R250 code 4, R253). -/
def mapOk (map cnt dl sl : Nat) : Bool :=
  (upto cnt).all (fun k =>
    let (ds, sr, op, sh, _) := mapEntry map k
    ds < dl && sr < sl && op ≤ 2 && sh ≤ 15 && map / 256 ^ (8 * k + 6) % 65536 = 0)

/-- The check of a swap record when ACTIVATE_AT is written (R250): its code, 0 for none. -/
def swapCheck (d : Dev) (n t : Nat) : Nat :=
  let e := d.ent (0x4300 + n)
  let s := e 1
  let w := (d.eng n).swap
  if (d.slot n s).st = .disabled ∨ w.st = 1 ∨ w.st = 2 then 1
  else match findDesc d n (e 2), findDesc d n (d.cget (CE_SCFG_PROG_ID n s)) with
    | some nw, some old =>
      if overlaps nw.sbase nw.slen old.sbase old.slen then 3
      else if !(mapOk (e 3) (e 4) nw.slen old.slen && mapOk (e 5) (e 6) old.slen nw.slen) then 4
      else if t ≤ d.time64 then 5 else 0
    | _, _ => 2

/-- Writing ACTIVATE_AT of a swap record (R250): the code, and the device with the swap pending or the code recorded. -/
def swapArm (n t : Nat) (d : Dev) : Nat × Dev :=
  let c := swapCheck d n t
  let e := d.eng n
  let s := d.ent (0x4300 + n) 1
  if c ≠ 0 then
    let w := e.swap
    let busy := decide (w.st = 1 ∨ w.st = 2)
    (c, d.setEng n { e with swap := { w with code := c, slot := if busy then w.slot else s, st := if busy then w.st else 0 } })
  else (0, d.setEng n { e with swap := ⟨1, s, 0, d.cget (CE_SCFG_PROG_ID n s), d.ent (0x4300 + n) 2, t, false⟩ })

/-- Trace EN written 0 to 1 (CE_TCTRL). -/
def traceEnable (n : Nat) (d : Dev) : Dev :=
  let d := ((d.set (CE_TCTRL_WR n) 0).set (CE_TCTRL_FULL n) 0).set (CE_TCTRL_EN n) 1
  let d : Dev := { d with cyc.trace := tabDel n d.cyc.trace }
  ctxPut (CE_TCTRL n) 1 1 (d.setEng n { d.eng n with tstart := d.time64, tfirst := true })

/-- A clearing-table route write (R234): refused with code 9 when its port lies in a window of an enabled slot. -/
def routeWrite (n : Nat) (out : Bool) (p : Nat) (v mask : Word) (d : Dev) : Dev :=
  match (enabledSlots d n).find? (fun s => inRange (if out then outWin d n s else inWin d n s) p) with
  | some s => cfgErr n s 9 p d
  | none =>
    let a := if out then CE_OUTRT n p else CE_INRT n p
    ctxPut a v mask (d.wr a ((d.rd a &&& ~~~mask) ||| (v &&& mask)))

end Sys2Proof.Machine
end

