-- ==== Sys2Proof/Machine/Ce.lean ====
section
/-! DEFINITION. The commands of chapters 7 and 8: the instructions of the control engines, their faults, images, slots,
triggers, run-ahead, routes, swap boundary and trace. -/

namespace Sys2Proof.Machine

/-- The device after a change of everything but the queue; a device without power or held in reset stays as it is (R47, R62). -/
def State.app (s : State) (f : Dev → Dev) : Host.Outcome State Fault Refusal :=
  .next { s with dev := if s.dev.live then f s.dev else s.dev }

/-- A change of the line or the clocks: it reaches the device also while nRESET holds it (R47, R60, R74). -/
def State.appLine (s : State) (f : Dev → Dev) : Host.Outcome State Fault Refusal :=
  .next { s with dev := if s.dev.pwr.aon && !aonHeld s.dev then f s.dev else s.dev }

/-- A change of the supply or of nRESET: it reaches every device whose VAON is good. -/
def State.appSupply (s : State) (f : Dev → Dev) : Host.Outcome State Fault Refusal :=
  .next { s with dev := if s.dev.pwr.aon then f s.dev else s.dev }

/-- The fields of an instruction word. -/
def ceWord (op d s t imm : Nat) : CeWord := ceFields (ceEncode ⟨op, d, s, t, imm⟩)

/-- NOP_INSTR (R201): NOP does nothing for one cycle. -/
def execNopI (n d s t imm : Nat) (st : State) : Host.Outcome State Fault Refusal :=
  st.app (ceStep n (ceWord 0x00 d s t imm) (fun _ _ r => ceSeq r))

/-- LDI (R201): LDI loads a sign-extended immediate into a W register or a pointer. -/
def execLdi (n d s t imm : Nat) (st : State) : Host.Outcome State Fault Refusal :=
  st.app (ceStep n (ceWord 0x01 d s t imm) (fun _ => ceLDI))

/-- LDIH (R201): LDIH loads the high byte of a W register. -/
def execLdih (n d s t imm : Nat) (st : State) : Host.Outcome State Fault Refusal :=
  st.app (ceStep n (ceWord 0x02 d s t imm) (fun _ => ceLDIH))

/-- MOV (R202): MOV copies between W, accumulator and pointer registers in the form selected by imm. -/
def execMov (n d s t imm : Nat) (st : State) : Host.Outcome State Fault Refusal :=
  st.app (ceStep n (ceWord 0x03 d s t imm) (fun _ => ceMOV))

/-- LD (R193): LD loads a data-memory word at the effective address. -/
def execLd (n d s t imm : Nat) (st : State) : Host.Outcome State Fault Refusal :=
  st.app (ceStep n (ceWord 0x04 d s t imm) (fun d => ceLD (dataWord d n)))

/-- ST (R195): ST stores a W register to data memory, or in a speculative run is refused and forces a void. -/
def execSt (n d s t imm : Nat) (st : State) : Host.Outcome State Fault Refusal :=
  st.app (ceStep n (ceWord 0x05 d s t imm) (fun _ => ceST))

/-- LDS (R203): LDS loads the high half of a state word. -/
def execLds (n d s t imm : Nat) (st : State) : Host.Outcome State Fault Refusal :=
  st.app (ceStep n (ceWord 0x06 d s t imm) (fun _ => ceLDS))

/-- STS (R203): STS stores a W register to the high half of a state word. -/
def execSts (n d s t imm : Nat) (st : State) : Host.Outcome State Fault Refusal :=
  st.app (ceStep n (ceWord 0x07 d s t imm) (fun _ => ceSTS))

/-- IN (R204): IN returns the latched or predicted port value with V as its invalid mark. -/
def execInP (n d s t imm : Nat) (st : State) : Host.Outcome State Fault Refusal :=
  st.app (ceStep n (ceWord 0x08 d s t imm) (fun d i r => ceIN (d.get (CE_SWIN_IN_BASE n r.slot)) i r))

/-- OUT (R204): OUT places a value in the run's escrow for a port. -/
def execOutP (n d s t imm : Nat) (st : State) : Host.Outcome State Fault Refusal :=
  st.app (ceStep n (ceWord 0x09 d s t imm) (fun _ => ceOUT))

/-- ADD (R205): ADD writes the low 16 bits of a sum. -/
def execAdd (n d s t imm : Nat) (st : State) : Host.Outcome State Fault Refusal :=
  st.app (ceStep n (ceWord 0x0A d s t imm) (fun _ => ceADD))

/-- ADDS (R205): ADDS writes a saturated sum. -/
def execAdds (n d s t imm : Nat) (st : State) : Host.Outcome State Fault Refusal :=
  st.app (ceStep n (ceWord 0x0B d s t imm) (fun _ => ceADDS))

/-- SUB (R205): SUB writes the low 16 bits of a difference. -/
def execSub (n d s t imm : Nat) (st : State) : Host.Outcome State Fault Refusal :=
  st.app (ceStep n (ceWord 0x0C d s t imm) (fun _ => ceSUB))

/-- SUBS (R205): SUBS writes a saturated difference. -/
def execSubs (n d s t imm : Nat) (st : State) : Host.Outcome State Fault Refusal :=
  st.app (ceStep n (ceWord 0x0D d s t imm) (fun _ => ceSUBS))

/-- NEG (R205): NEG writes the saturated negation. -/
def execNeg (n d s t imm : Nat) (st : State) : Host.Outcome State Fault Refusal :=
  st.app (ceStep n (ceWord 0x0E d s t imm) (fun _ => ceNEG))

/-- ABS (R205): ABS writes the saturated absolute value. -/
def execAbs (n d s t imm : Nat) (st : State) : Host.Outcome State Fault Refusal :=
  st.app (ceStep n (ceWord 0x0F d s t imm) (fun _ => ceABS))

/-- MIN (R201): MIN writes the signed minimum. -/
def execMin (n d s t imm : Nat) (st : State) : Host.Outcome State Fault Refusal :=
  st.app (ceStep n (ceWord 0x10 d s t imm) (fun _ => ceMIN))

/-- MAX (R201): MAX writes the signed maximum. -/
def execMax (n d s t imm : Nat) (st : State) : Host.Outcome State Fault Refusal :=
  st.app (ceStep n (ceWord 0x11 d s t imm) (fun _ => ceMAX))

/-- AND (R201): AND writes the bitwise AND. -/
def execAndI (n d s t imm : Nat) (st : State) : Host.Outcome State Fault Refusal :=
  st.app (ceStep n (ceWord 0x12 d s t imm) (fun _ => ceAND))

/-- OR (R201): OR writes the bitwise OR. -/
def execOrI (n d s t imm : Nat) (st : State) : Host.Outcome State Fault Refusal :=
  st.app (ceStep n (ceWord 0x13 d s t imm) (fun _ => ceOR))

/-- XOR (R201): XOR writes the bitwise XOR. -/
def execXorI (n d s t imm : Nat) (st : State) : Host.Outcome State Fault Refusal :=
  st.app (ceStep n (ceWord 0x14 d s t imm) (fun _ => ceXOR))

/-- SHL (R206): SHL shifts left logically. -/
def execShl (n d s t imm : Nat) (st : State) : Host.Outcome State Fault Refusal :=
  st.app (ceStep n (ceWord 0x15 d s t imm) (fun _ => ceSHL))

/-- SHR (R206): SHR shifts right logically. -/
def execShr (n d s t imm : Nat) (st : State) : Host.Outcome State Fault Refusal :=
  st.app (ceStep n (ceWord 0x16 d s t imm) (fun _ => ceSHR))

/-- SAR (R206): SAR shifts right arithmetically, taking the floor. -/
def execSar (n d s t imm : Nat) (st : State) : Host.Outcome State Fault Refusal :=
  st.app (ceStep n (ceWord 0x17 d s t imm) (fun _ => ceSAR))

/-- MPY (R208): MPY writes the doubled product to an accumulator. -/
def execMpy (n d s t imm : Nat) (st : State) : Host.Outcome State Fault Refusal :=
  st.app (ceStep n (ceWord 0x18 d s t imm) (fun _ => ceMPY))

/-- MAC (R208): MAC adds the doubled product to an accumulator, saturating. -/
def execMac (n d s t imm : Nat) (st : State) : Host.Outcome State Fault Refusal :=
  st.app (ceStep n (ceWord 0x19 d s t imm) (fun _ => ceMAC))

/-- MSU (R208): MSU subtracts the doubled product from an accumulator, saturating. -/
def execMsu (n d s t imm : Nat) (st : State) : Host.Outcome State Fault Refusal :=
  st.app (ceStep n (ceWord 0x1A d s t imm) (fun _ => ceMSU))

/-- CLRA (R201): CLRA clears an accumulator. -/
def execClra (n d s t imm : Nat) (st : State) : Host.Outcome State Fault Refusal :=
  st.app (ceStep n (ceWord 0x1B d s t imm) (fun _ => ceCLRA))

/-- LDA (R203): LDA loads a state word into an accumulator, extending its sign. -/
def execLda (n d s t imm : Nat) (st : State) : Host.Outcome State Fault Refusal :=
  st.app (ceStep n (ceWord 0x1C d s t imm) (fun _ => ceLDA))

/-- STA (R203): STA stores an accumulator to a state word, saturated to Q31. -/
def execSta (n d s t imm : Nat) (st : State) : Host.Outcome State Fault Refusal :=
  st.app (ceStep n (ceWord 0x1D d s t imm) (fun _ => ceSTA))

/-- SHA (R209): SHA shifts an accumulator by a signed amount. -/
def execSha (n d s t imm : Nat) (st : State) : Host.Outcome State Fault Refusal :=
  st.app (ceStep n (ceWord 0x1E d s t imm) (fun _ => ceSHA))

/-- CMP (R207): CMP sets the flags of a signed comparison. -/
def execCmp (n d s t imm : Nat) (st : State) : Host.Outcome State Fault Refusal :=
  st.app (ceStep n (ceWord 0x1F d s t imm) (fun _ => ceCMP))

/-- LIM (R210): LIM clamps a register between two bounds. -/
def execLim (n d s t imm : Nat) (st : State) : Host.Outcome State Fault Refusal :=
  st.app (ceStep n (ceWord 0x20 d s t imm) (fun _ => ceLIM))

/-- SLEW (R210): SLEW moves a register toward a target by at most a step. -/
def execSlew (n d s t imm : Nat) (st : State) : Host.Outcome State Fault Refusal :=
  st.app (ceStep n (ceWord 0x21 d s t imm) (fun _ => ceSLEW))

/-- DEADB (R210): DEADB applies a dead band. -/
def execDeadb (n d s t imm : Nat) (st : State) : Host.Outcome State Fault Refusal :=
  st.app (ceStep n (ceWord 0x22 d s t imm) (fun _ => ceDEADB))

/-- LUT (R211): LUT interpolates in a data-memory table. -/
def execLut (n d s t imm : Nat) (st : State) : Host.Outcome State Fault Refusal :=
  st.app (ceStep n (ceWord 0x23 d s t imm) (fun d => ceLUT (dataWord d n)))

/-- SINCOS (R212): SINCOS writes the sine and cosine of an angle. -/
def execSincos (n d s t imm : Nat) (st : State) : Host.Outcome State Fault Refusal :=
  st.app (ceStep n (ceWord 0x24 d s t imm) (fun _ => ceSINCOS))

/-- DIV (R213): DIV writes the truncated Q15 quotient. -/
def execDiv (n d s t imm : Nat) (st : State) : Host.Outcome State Fault Refusal :=
  st.app (ceStep n (ceWord 0x25 d s t imm) (fun _ => ceDIV))

/-- SQRT (R214): SQRT writes the floor of the Q15 square root. -/
def execSqrt (n d s t imm : Nat) (st : State) : Host.Outcome State Fault Refusal :=
  st.app (ceStep n (ceWord 0x26 d s t imm) (fun _ => ceSQRT))

/-- BRA (R201): BRA branches unconditionally, removing loops it leaves. -/
def execBra (n d s t imm : Nat) (st : State) : Host.Outcome State Fault Refusal :=
  st.app (ceStep n (ceWord 0x27 d s t imm) (fun _ => ceBRA))

/-- BCC (R215): BCC branches when its condition holds. -/
def execBcc (n d s t imm : Nat) (st : State) : Host.Outcome State Fault Refusal :=
  st.app (ceStep n (ceWord 0x28 d s t imm) (fun _ => ceBCC))

/-- LOOP (R216): LOOP starts a hardware loop, or faults with LOOP_NEST. -/
def execLoopI (n d s t imm : Nat) (st : State) : Host.Outcome State Fault Refusal :=
  st.app (ceStep n (ceWord 0x29 d s t imm) (fun _ => ceLOOP))

/-- TRIG (R217): TRIG holds an engine event with the run's escrow. -/
def execTrig (n d s t imm : Nat) (st : State) : Host.Outcome State Fault Refusal :=
  st.app (ceStep n (ceWord 0x2A d s t imm) (fun _ => ceTRIG))

/-- END (R217, R235, R236). -/
def execEndI (n : Nat) (st : State) : Host.Outcome State Fault Refusal := st.app (ceEnd n)

/-- The fault that the word at the program counter of engine `n` meets, if any (R218, R219). -/
def fetchFault (d : Dev) (n : Nat) (r : Run) : Option Nat :=
  let i := ceFields (progWord d n r.pc)
  match preFault i r with
  | some c => some c
  | none =>
    if i.op = 6 ∨ i.op = 7 ∨ i.op = 0x1C ∨ i.op = 0x1D then (if (stateOff r i).1 ≥ r.slen then some 5 else none)
    else if i.op = 0x29 then (match ceLOOP i r with | .fault c => some c | _ => none)
    else none

/-- RUN_FAULT (R219): the fetched word faults. -/
def execRunFault (n : Nat) (st : State) : Host.Outcome State Fault Refusal :=
  st.app (fun d => match codeRun d n with
    | none => d
    | some r => match fetchFault d n r with
      | none => d
      | some c => Sys2Proof.Machine.runFault n c r d)

/-- RUN_LIMIT (R219): a run that has reached 65,536 cycles without END. -/
def execRunLimit (n : Nat) (st : State) : Host.Outcome State Fault Refusal :=
  st.app (fun d => match codeRun d n with
    | none => d
    | some r => if r.cycles ≥ 65536 then Sys2Proof.Machine.runFault n 3 r d else d)

/-- FAULT_CLR (R219): CE_FAULT is cleared. -/
def execFaultClr (n : Nat) (st : State) : Host.Outcome State Fault Refusal :=
  st.app (fun d => if d.ready (ceaDom n) then d.wr (CE_FAULT n) 0 else d)

/-- ENGINE_IMAGE_LOAD (R220 to R223): an accepted image is kept in the IMAGE entry. -/
def execEngineImageLoad (n : Nat) (image : List Nat) (st : State) : Host.Outcome State Fault Refusal :=
  st.app (fun d =>
    let b := Blob.ofBytes image
    (engineWrite n 1 0 b.len b.val (imageLoad n b) d).2)

/-- LIB_BIND (R254). -/
def execLibBind (n pid sbase dbase last : Nat) (st : State) : Host.Outcome State Fault Refusal :=
  st.app (fun d =>
    let v := pid % 65536 + 65536 * (sbase % 65536 + 65536 * (dbase % 65536 + 65536 * (last % 65536)))
    (engineWrite n 3 0 8 v (Sys2Proof.Machine.libBind n pid sbase dbase last) d).2)

/-- REMOVE_PROG (R254). -/
def execRemoveProg (n pid : Nat) (st : State) : Host.Outcome State Fault Refusal :=
  st.app (fun d => (engineWrite n 4 0 2 pid (Sys2Proof.Machine.removeProg n pid) d).2)

/-- SLOT_ENABLE (R226, R227): EN written from 0 to 1. -/
def execSlotEnable (n s : Nat) (st : State) : Host.Outcome State Fault Refusal :=
  st.app (fun d => if d.ready (ceaDom n) ∧ (d.slot n s).st = .disabled then Sys2Proof.Machine.slotEnable n s d else d)

/-- SLOT_DISABLE (R227): EN written 0. -/
def execSlotDisable (n s : Nat) (st : State) : Host.Outcome State Fault Refusal :=
  st.app (fun d => if d.ready (ceaDom n) then Sys2Proof.Machine.slotDisable n s d else d)

/-- SLOT_START_WRITE (R228): a write of 1 to START is a trigger. -/
def execSlotStartWrite (n s : Nat) (st : State) : Host.Outcome State Fault Refusal :=
  st.app (fun d => followUp (slotTrig n s false d))

/-- SLOT_TRIGGER (R228): a trigger reaches the slot. -/
def execSlotTrigger (n s : Nat) (st : State) : Host.Outcome State Fault Refusal :=
  st.app (fun d => followUp (slotTrig n s false d))

/-- RUN_START (R229). -/
def execRunStart (n : Nat) (st : State) : Host.Outcome State Fault Refusal :=
  st.app (Sys2Proof.Machine.runStart n)

/-- The conditions of a speculative start (R238, R248, R251). -/
def specStartOk (d : Dev) (n s : Nat) : Bool := d.ready (ceaDom n) && specOk d n s

/-- SPEC_START_TIME (R238). -/
def execSpecStartTime (n s : Nat) (st : State) : Host.Outcome State Fault Refusal :=
  st.app (fun d => if specStartOk d n s then d.setSlot n s { d.slot n s with st := .pending, pend := .spec } else d)

/-- SAMPLE_INSTANT (R240): the first trigger after ts of a slot with a speculative run. -/
def execSampleInstant (n s : Nat) (st : State) : Host.Outcome State Fault Refusal :=
  st.app (fun d => if (openSpec d n s).isSome then followUp (slotTrig n s true d) else d)

/-- SPEC_NO_TRIGGER (R243, code 5). -/
def execSpecNoTrigger (n s : Nat) (st : State) : Host.Outcome State Fault Refusal :=
  st.app (fun d => if !d.ready (ceaDom n) then d else
    match openSpec d n s with
    | some r => voidRun n s 5 0 none r d
    | none => if (d.slot n s).st = .pending ∧ (d.slot n s).pend = .spec then voidRun n s 5 0 none { slot := s, kind := .spec } d else d)

/-- SLOT_ARM (R247). -/
def execSlotArm (n s : Nat) (st : State) : Host.Outcome State Fault Refusal :=
  st.app (fun d => if d.ready (ceaDom n) then Sys2Proof.Machine.slotArm n s d else d)

/-- ROUTE_WRITE (R234). -/
def execRouteWrite (n : Nat) (out : Bool) (p v : Nat) (st : State) : Host.Outcome State Fault Refusal :=
  st.app (fun d => if d.ready (ceaDom n) then
    Sys2Proof.Machine.routeWrite n out p (BitVec.ofNat 32 v) (if out then 0x1FFFFFFF else 0x1FFF0F) d else d)

/-- SWAP_BOUNDARY (R251, R252): the slot's first free trigger once a swap or a rollback is due. -/
def execSwapBoundary (n : Nat) (st : State) : Host.Outcome State Fault Refusal :=
  st.app (fun d =>
    let s := (d.eng n).swap.slot
    if d.ready (ceaDom n) ∧ swapDue d n s ∧ boundaryFree d n s then followUp (slotTrig n s true d) else d)

/-- TRACE_ENABLE (R256): trace EN written from 0 to 1. -/
def execTraceEnable (n : Nat) (st : State) : Host.Outcome State Fault Refusal :=
  st.app (fun d => if d.ready (ceaDom n) ∧ !d.bit (CE_TCTRL_EN n) then Sys2Proof.Machine.traceEnable n d else d)

end Sys2Proof.Machine
end

