-- ==== Sys2Proof/Machine/CanOps.lean ====
section
/-! DEFINITION. The CAN channels (chapter 12): timing checks, buffers, arbitration, faults, the receive path, clearing-house
frames, segments, nodes and the Hegus transport. -/

namespace Sys2Proof.Machine

/-- Channel `n` beside its registers. -/
def Dev.canS (d : Dev) (n : Nat) : CanS := tabGet {} n d.can

/-- Replace channel `n`. -/
def Dev.setCan (d : Dev) (n : Nat) (s : CanS) : Dev := { d with can := tabPut {} n s d.can }

/-- Data bytes of a DLC code (R339). -/
def dlcLen (fdf : Bool) (dlc : Nat) : Nat :=
  if dlc ≤ 8 then dlc else if fdf then [12, 16, 20, 24, 32, 48, 64].getD (dlc - 9) 64 else 8

/-- The smallest DLC code that holds `len` bytes (R339). -/
def lenDlc (len : Nat) : Nat :=
  if len ≤ 8 then len
  else if len ≤ 12 then 9 else if len ≤ 16 then 10 else if len ≤ 20 then 11
  else if len ≤ 24 then 12 else if len ≤ 32 then 13 else if len ≤ 48 then 14 else 15

/-- Length of a frame (R339). -/
def canLen (f : CanFrame) : Nat := if f.rtr then 0 else dlcLen f.fdf f.dlc

/-! ### The channel check (R340) -/

/-- The nominal rate and ranges are allowed. -/
def nominalOk (d : Dev) (n : Nat) : Bool :=
  let brp := d.get (CAN_NBT_BRP_M1 n) + 1
  let t1 := d.get (CAN_NBT_TSEG1_M1 n) + 1
  let t2 := d.get (CAN_NBT_TSEG2_M1 n) + 1
  let sjw := d.get (CAN_NBT_SJW_M1 n) + 1
  decide (2 ≤ t1 ∧ 2 ≤ t2 ∧ sjw ≤ t2 ∧ 8 ≤ 1 + t1 + t2 ∧ 1 + t1 + t2 ≤ 385 ∧ 80 ≤ brp * (1 + t1 + t2))

/-- Clock cycles of a data bit. -/
def dataBit (d : Dev) (n : Nat) : Nat :=
  (d.get (CAN_DBT_BRP_M1 n) + 1) * (3 + d.get (CAN_DBT_TSEG1_M1 n) + d.get (CAN_DBT_TSEG2_M1 n))

/-- The data timing and rate are allowed. -/
def canDataOk (d : Dev) (n : Nat) : Bool :=
  let tq := 3 + d.get (CAN_DBT_TSEG1_M1 n) + d.get (CAN_DBT_TSEG2_M1 n)
  decide (d.get (CAN_DBT_SJW_M1 n) ≤ d.get (CAN_DBT_TSEG2_M1 n) ∧ 5 ≤ tq ∧ tq ≤ 49 ∧ 10 ≤ dataBit d n)

/-- The code with which the channel check refuses `mode`; 0 where it passes. -/
def channelCheck (d : Dev) (n mode : Nat) : Nat :=
  if !nominalOk d n then 1
  else if d.bit (CAN_CFG_FD_EN n) && !canDataOk d n then 2
  else if dataBit d n < 80 ∧ !d.bit (CAN_TDC_TDC_EN n) then 3
  else if mode = 4 ∧ d.get (CAN_ADR_CAND n) = 0 then 4
  else if 5 ≤ mode then 5
  else 0

/-! ### Message RAM and buffers (R345, R361) -/

/-- Address of channel `n`'s message RAM. -/
def canRam (n : Nat) : Nat := 0x41200000 + 0x3000 * n

/-- Address of TX buffer `b`; 32 is the clearing-house buffer. -/
def txAddr (n b : Nat) : Nat := if b < 32 then canRam n + 72 * b else canRam n + 0x2D00

/-- Address of slot `k` of queue `q`. -/
def rxAddr (n q k : Nat) : Nat := canRam n + 0x900 + 0x1200 * q + 72 * k

/-- Word `w` of TX buffer `b`. -/
def txWord (d : Dev) (n b w : Nat) : Word := BitVec.ofNat 32 (memRead d.win (txAddr n b + 4 * w) 4)

/-- Store a word of the message RAM. -/
def ramPut (a : Nat) (v : Word) (d : Dev) : Dev := { d with win := memWrite d.win a v.toNat 4 }

/-- Store the bytes of a data field from `a`, whole words. -/
def ramBytes (a : Nat) : List Nat → Dev → Dev
  | [], d => d
  | x :: t, d => ramBytes (a + 1) t { d with win := memPut d.win a (BitVec.ofNat 8 x) }

/-- The frame that TX buffer `b` holds. -/
def txFrame (d : Dev) (n b : Nat) : CanFrame :=
  let w0 := txWord d n b 0
  let w1 := txWord d n b 1
  let xtd := w0.getLsbD 29
  let f : CanFrame := { id := if xtd then wGet w0 0 29 else wGet w0 18 11, xtd := xtd, rtr := w0.getLsbD 30, fdf := w1.getLsbD 5,
                        brs := w1.getLsbD 4, dlc := wGet w1 0 4 }
  { f with data := (upto (canLen f)).map (fun i => (memByte d.win (txAddr n b + 8 + i)).toNat) }

/-- Status of TX buffer `b` (after R350). -/
def txStatus (d : Dev) (n b : Nat) : Nat := d.get (CAN_TXSTAT_STATUS n b)

/-- Give TX buffer `b` a status and show it in CAN_TXPEND. -/
def txSet (n b st : Nat) (d : Dev) : Dev :=
  (d.set (CAN_TXSTAT_STATUS n b) st).setN (CAN_TXPEND_PEND n) b (st = 1 || st = 2)

/-- The identifier is reserved for clearing-house frames (R355). -/
def reservedId (xtd : Bool) (id : Nat) : Bool := if xtd then decide (id / 2 ^ 18 < 8) else decide (id < 8)

/-- The request check of TX buffer `b` (R346): 0, or the number of the case that fails. -/
def txCheck (d : Dev) (n b : Nat) : Nat :=
  let w0 := txWord d n b 0
  let w1 := txWord d n b 1
  if w0.getLsbD 31 || w1.getLsbD 6 || decide (wGet w1 8 24 ≠ 0) || (!w0.getLsbD 29 && decide (wGet w0 0 18 ≠ 0)) then 1
  else if w0.getLsbD 30 && w1.getLsbD 5 then 2
  else if w1.getLsbD 4 && !w1.getLsbD 5 then 3
  else if w1.getLsbD 5 && !d.bit (CAN_CFG_FD_EN n) then 4
  else if reservedId (w0.getLsbD 29) (if w0.getLsbD 29 then wGet w0 0 29 else wGet w0 18 11) then 5
  else 0

/-- TX buffer `b` is cancelled: a PENDING one at once, an ACTIVE one at the end of its frame (R348). -/
def txDrop (n b : Nat) (d : Dev) : Dev :=
  if txStatus d n b = 1 then txSet n b 5 d
  else if txStatus d n b = 2 then d.setCan n { d.canS n with cancel := true }
  else d

/-- Cancel TX buffer `b` (R348); one that was PENDING before this cycle may still meet its SOF in it. -/
def txCancelOne (n b : Nat) (d : Dev) : Dev :=
  let k := 32 * n + b
  let d : Dev := { d with
    cyc.canCan := k :: d.cyc.canCan,
    cyc.canLate := if txStatus d n b = 1 ∧ !d.cyc.canReq.contains k then k :: d.cyc.canLate else d.cyc.canLate }
  txDrop n b d

/-- TX buffer `b` was PENDING until a cancellation of this cycle (R348). -/
def txLate (d : Dev) (n b : Nat) : Bool := decide (txStatus d n b = 5) && d.cyc.canLate.contains (32 * n + b)

/-- Request TX buffer `b` (R346); a cancellation of the same cycle follows it (R348). -/
def txRequestOne (n b : Nat) (d : Dev) : Dev :=
  let d : Dev := { d with cyc.canReq := (32 * n + b) :: d.cyc.canReq }
  if txStatus d n b = 1 ∨ txStatus d n b = 2 ∨ txLate d n b then count 0x0EF d
  else
    match txCheck d n b with
    | 0 =>
      let d := (txSet n b 1 d).set (CAN_TXSTAT_CLASHES n b) 0
      if d.cyc.canCan.contains (32 * n + b) then txSet n b 5 d else d
    | k => raise .CAN_CFG_ERROR [n, b, k] (txSet n b 9 d)

/-- The buffers that a mask of a user reaches: 30 and 31 belong to the Hegus transport (R360). -/
def userMask (d : Dev) (n mask : Nat) : List Nat :=
  (upto 32).filter (fun b => mask.testBit b && !(d.bit (CAN_CFG_HEGUS_EN n) && decide (30 ≤ b)))

/-- Request the buffers of a mask: a write of CAN_TXREQ or a CAN_QUEUE posting (R346). -/
def txRequest (n mask : Nat) (d : Dev) : Dev := (userMask d n mask).foldl (fun d b => txRequestOne n b d) d

/-- Cancel the buffers of a mask (R348). -/
def txCancel (n mask : Nat) (d : Dev) : Dev := (userMask d n mask).foldl (fun d b => txCancelOne n b d) d

/-! ### The Hegus transport: sending (R360) -/

/-- Frame length of the channel. -/
def heFrame (d : Dev) (n : Nat) : Nat := if d.bit (CAN_CFG_FD_EN n) then 64 else 8

/-- Load a frame for `node` into a transport buffer and request it. -/
def heLoad (n b node : Nat) (bytes : List Nat) (d : Dev) : Dev :=
  let fd := d.bit (CAN_CFG_FD_EN n)
  let dlc := lenDlc bytes.length
  let d := ramPut (txAddr n b) (wSet 0 18 11 (0x740 + node)) d
  let d := ramPut (txAddr n b + 4) (wSet (wSet 0 0 4 dlc) 4 2 (if fd then 3 else 0)) d
  let d := ramBytes (txAddr n b + 8) (bytes ++ List.replicate (dlcLen fd dlc - bytes.length) 0) d
  txRequestOne n b d

/-- The next frame of a message. -/
def heBytes (flen : Nat) (t : HegTx) : List Nat :=
  let l := t.msg.length
  if t.pos = 0 then
    if l + 2 ≤ flen then 0x00 :: l :: t.msg else 0x40 :: l % 256 :: l / 256 :: t.msg.take (flen - 3)
  else (0x80 + t.s) :: (t.msg.drop t.pos).take (flen - 1)

/-- The transfer after its frame has been sent; none when the message is complete. -/
def heAfter (flen : Nat) (t : HegTx) : Option HegTx :=
  let l := t.msg.length
  if t.pos = 0 then
    if l + 2 ≤ flen then none else some { t with pos := flen - 3, s := 1, st := 2 }
  else
    let pos := t.pos + (flen - 1)
    if l ≤ pos then none
    else
      let blk := t.blk.map (· - 1)
      some { t with pos := pos, s := (t.s + 1) % 64, blk := blk, st := if blk = some 0 then 2 else 0 }

/-- A transport buffer is free. -/
def heFree (d : Dev) (n b : Nat) : Bool := !(txStatus d n b = 1 || txStatus d n b = 2)

/-- The transport sends what it can: a FLOW frame in buffer 31, the next frame of a message in buffer 30. -/
def heKick (n : Nat) (d : Dev) : Dev :=
  if !d.bit (CAN_CFG_HEGUS_EN n) then d else
  let d := match (d.canS n).flows with
    | (node, bytes) :: t => if heFree d n 31 then heLoad n 31 node bytes (d.setCan n { d.canS n with flows := t }) else d
    | [] => d
  let c := d.canS n
  if heFree d n 30 && c.tx.all (fun t => decide (t.st ≠ 1)) then
    match c.tx.find? (fun t => decide (t.st = 0)) with
    | none => d
    | some t =>
      let d := d.setCan n { c with tx := c.tx.map (fun x => if x.node = t.node then { x with st := 1 } else x) }
      heLoad n 30 t.node (heBytes (heFrame d n) t) d
  else d

/-- A Hegus message for `node`: it is carried after one that is in transfer to that node. -/
def heSend (n node : Nat) (msg : List Nat) (d : Dev) : Dev :=
  let c := d.canS n
  let busy := c.tx.any (fun t => decide (t.node = node))
  heKick n (d.setCan n { c with tx := c.tx ++ [{ node := node, msg := msg, st := if busy then 3 else 0 }] })

/-- The first message that waits for `node` can start. -/
def heTxFree (node : Nat) : List HegTx → List HegTx
  | [] => []
  | x :: y => if x.node = node then { x with st := 0 } :: y else x :: heTxFree node y

/-- Drop the transfer to `node` that is in progress; the next message to it can start. -/
def heTxEnd (node : Nat) : List HegTx → List HegTx
  | [] => []
  | t :: r => if t.node = node then heTxFree node r else t :: heTxEnd node r

/-- The frame in buffer 30 was sent (`ok`) or ended in another way. -/
def heSent (n : Nat) (ok : Bool) (d : Dev) : Dev :=
  let c := d.canS n
  match c.tx.find? (fun t => decide (t.st = 1)) with
  | none => heKick n d
  | some t =>
    match (if ok then heAfter (heFrame d n) t else none) with
    | none => heKick n (d.setCan n { c with tx := heTxEnd t.node c.tx })
    | some t' => heKick n (d.setCan n { c with tx := c.tx.map (fun x => if x.node = t.node ∧ x.st = 1 then t' else x) })

/-! ### The clearing house: sending (R356) -/

/-- Show the first clearing-house frame in its buffer. -/
def chLoad (n : Nat) (d : Dev) : Dev :=
  match (d.canS n).chq with
  | [] => d
  | (id, bytes) :: _ =>
    let d := ramPut (txAddr n 32) (wSet 0 18 11 id) d
    let d := ramPut (txAddr n 32 + 4) (wSet 0 0 4 bytes.length) d
    ramBytes (txAddr n 32 + 8) bytes d

/-- Queue a clearing-house frame. -/
def chSend (n id : Nat) (bytes : List Nat) (d : Dev) : Dev :=
  let c := d.canS n
  chLoad n (d.setCan n { c with chq := c.chq ++ [(id, bytes)] })

/-- Request a HUSH; a request while one awaits its answer is merged with it (R357). -/
def hushRequest (n target dur : Nat) (release : Bool) (d : Dev) : Dev :=
  if (d.canS n).hush.isSome then d
  else
    let dur := if release then 0 else dur
    let d := d.setCan n { d.canS n with hush := some { target := target, dur := dur, release := release, req := d.now } }
    chSend n 0 [target, release.toNat, dur % 256, dur / 256 % 256] d

/-! ### Transmitting (R347 to R349, R354) -/

/-- The arbitration field as a number: the lower wins (ISO 11898-1). -/
def arbKey (f : CanFrame) : Nat :=
  if f.xtd then f.id / 2 ^ 18 * 2 ^ 21 + 2 ^ 20 + 2 ^ 19 + f.id % 2 ^ 18 * 2 + f.rtr.toNat
  else f.id * 2 ^ 21 + f.rtr.toNat * 2 ^ 20

/-- The better of two candidates; the earlier one on a tie. -/
def arbBest (d : Dev) (n : Nat) : List Nat → Option Nat
  | [] => none
  | b :: t =>
    match arbBest d n t with
    | none => some b
    | some c => if arbKey (txFrame d n b) ≤ arbKey (txFrame d n c) then some b else some c

/-- The buffer that would be chosen at an opportunity to start a frame: the clearing-house buffer first (R347). -/
def txChoose (d : Dev) (n : Nat) : Option Nat :=
  if (d.canS n).chq ≠ [] then some 32 else arbBest d n ((upto 32).filter (fun b => decide (txStatus d n b = 1) || txLate d n b))

/-- The channel may start a frame: NORMAL, outputs released, not in bus-off, its segment connected, no frame in progress. -/
def canMaySend (d : Dev) (n : Nat) : Bool :=
  d.get (CAN_STAT_MODE n) = 1 && d.pwr.released && decide (d.get (CAN_STAT_FAULT n) < 2) && d.get (CAN_STAT_SEG n) = 0 &&
    (d.canS n).act.isNone && !(d.canS n).stop

/-- A chosen buffer becomes ACTIVE at its SOF (R347); a cancellation of the same cycle stands and is a late one (R348). -/
def canSofOp (n : Nat) (d : Dev) : Dev :=
  if !canMaySend d n then d else
  match txChoose d n with
  | none => d
  | some b =>
    let d := d.setCan n { d.canS n with act := some b, cancel := b < 32 && txLate d n b }
    if b = 32 then d else txSet n b 2 d

/-- The channel is OFF: pending buffers are dropped (R342). -/
def canOff (n : Nat) (d : Dev) : Dev :=
  let d := (upto 32).foldl (fun d b => if txStatus d n b = 1 ∨ txStatus d n b = 2 then txSet n b 8 d else d) d
  let d := d.set (CAN_STAT_MODE n) 0
  d.setCan n { d.canS n with act := none, cancel := false, stop := false, good := 0, tx := [], flows := [] }

/-- The frame in progress has ended: a channel that waits for it becomes OFF, and drops the frame's buffer unless it was sent (R342). -/
def canEnd (n : Nat) (d : Dev) : Dev :=
  let c := d.canS n
  let d := d.setCan n { c with act := none, cancel := false }
  if !c.stop then d
  else
    canOff n (match c.act with
      | some b => if b < 32 ∧ txStatus d n b ≠ 3 ∧ txStatus d n b ≠ 4 then txSet n b 8 d else d
      | none => d)

/-- Show the error counters and the fault state; entry to error-passive is raised (R354). -/
def canFault (n : Nat) (d : Dev) : Dev :=
  let c := d.canS n
  let d := (d.set (CAN_STAT_TEC n) (min c.tec 255)).set (CAN_STAT_REC n) (min c.rec_ 255)
  let old := d.get (CAN_STAT_FAULT n)
  if 2 ≤ old then d
  else
    let new := if 128 ≤ c.tec ∨ 128 ≤ c.rec_ then 1 else 0
    let d := d.set (CAN_STAT_FAULT n) new
    if new = 1 ∧ old = 0 then raise .CAN_ERROR_PASSIVE [n] d else d

/-- Entry to bus-off, held after BO_LIMIT bus-offs in 60 s (R354). -/
def busOff (n : Nat) (d : Dev) : Dev :=
  let c := d.canS n
  let times := (within d.now 60000000000 c.boTimes).take 16
  let d := d.setCan n { c with boTimes := times }
  let d := (d.set (CAN_STAT_TEC n) 255).bump (CAN_ERRCNT_BUSOFF n)
  let d := d.setEnt (0x1210 + n) 3 ((d.ent (0x1210 + n) 3 + 1) % 2 ^ 32)
  let d := raise .CAN_BUS_OFF [n] (d.set (CAN_STAT_FAULT n) 2)
  let lim := d.get (CAN_BOCFG_BO_LIMIT n)
  if lim ≠ 0 ∧ lim ≤ times.length then raise .CAN_BUSOFF_HELD [n] (d.set (CAN_STAT_FAULT n) 3) else d

/-- The error counters change as ISO 11898-1 says; only in NORMAL (R342, R354). -/
def errCount (n : Nat) (e : CanErr) (d : Dev) : Dev :=
  if d.get (CAN_STAT_MODE n) ≠ 1 ∨ 2 ≤ d.get (CAN_STAT_FAULT n) ∨ !d.pwr.released then d
  else
    let c := d.canS n
    let c := if e.tx then { c with tec := c.tec + (if e.exempt then 0 else 8) + 8 * e.more }
      else { c with rec_ := c.rec_ + (if e.exempt then 0 else 1) + (if e.dominant then 8 else 0) + 8 * e.more }
    let d := d.setCan n c
    if 256 ≤ c.tec then busOff n d else canFault n d

/-- A frame of another sender met an error after its arbitration field (R350). -/
def dupNote (n : Nat) (id : Nat × Bool) (d : Dev) : Dev :=
  let c := d.canS n
  let key := id.1 + (if id.2 then 2 ^ 29 else 0)
  let l := (key, d.now) :: c.dups.filter (fun p => decide (d.now < p.2 + 1000000000))
  if 3 ≤ (l.filter (fun p => decide (p.1 = key))).length then
    let d := d.setCan n { c with dups := l.filter (fun p => decide (p.1 ≠ key)) }
    raise .CAN_DUP_SUSPECT [n, key] ((d.set (CAN_DUP_ID n) id.1).setB (CAN_DUP_XTD n) id.2)
  else d.setCan n { c with dups := l }

/-- The frame in progress fails: `clash` after won arbitration (R347 to R349). -/
def txFail (n : Nat) (clash : Bool) (d : Dev) : Dev :=
  match (d.canS n).act with
  | none => d
  | some b =>
    if b = 32 then canEnd n d
    else
      let k := if clash then d.get (CAN_TXSTAT_CLASHES n b) + 1 else 0
      let f := txFrame d n b
      let c := (d.canS n).cancel
      let d := d.set (CAN_TXSTAT_CLASHES n b) k
      let d := if c then txSet n b 5 d
        else if (txWord d n b 1).getLsbD 7 then txSet n b 7 d
        else if 2 ≤ k then raise .CAN_CLASH [n, b, f.id] (txSet n b 6 d)
        else txSet n b 1 d
      let lost := b = 30 && d.bit (CAN_CFG_HEGUS_EN n) && decide (txStatus d n b ≠ 1)
      canEnd n (if lost then heSent n false d else d)

/-- The channel sees a frame that it does not send, other than a clearing-house frame (R357). -/
def hushNoise (n : Nat) (d : Dev) : Dev :=
  match (d.canS n).hush with
  | some h =>
    match h.sent with
    | some t => if t + 1000000 ≤ d.now ∧ d.now ≤ h.req + 50000000 then d.setCan n { d.canS n with hush := some { h with noisy := true } } else d
    | none => d
  | none => d

/-- CAN_ERROR: an error ends a frame (R349, R350, R354). -/
def canErrorOp (n : Nat) (e : CanErr) (d : Dev) : Dev :=
  if d.get (CAN_STAT_MODE n) = 0 then d else
  let d := count (0x790 + n) d
  let tx := e.tx && (d.canS n).act.isSome
  let d := match e.delay with
    | some v => if tx ∧ d.bit (CAN_TDC_TDC_EN n) ∧ v ≤ 127 then d.set (CAN_TDC_TDCV n) v else d
    | none => d
  let d := if tx then txFail n e.clash d else
    match e.id with
    | some i => dupNote n i (if reservedId i.2 i.1 then d else hushNoise n d)
    | none => d
  let d := if d.get (CAN_STAT_MODE n) = 4 then d.setCan n { d.canS n with good := 0 } else d
  errCount n { e with tx := tx } d

/-- The frame in progress has been sent without error (R347, R348). -/
def txDone (n : Nat) (d : Dev) : Dev :=
  match (d.canS n).act with
  | none => d
  | some b =>
    let d := count (0x0F0 + n) d
    let c := d.canS n
    let d := if b = 32 then
        let id : Nat := (c.chq.head?.map (·.1)).getD 4
        let d := d.setCan n { c with chq := c.chq.drop 1 }
        let d := chLoad n d
        if id = 0 then
          let d := count 0x0EE d
          match c.hush with
          | some h => d.setCan n { d.canS n with hush := some { h with sent := some d.now } }
          | none => d
        else d
      else (txSet n b (if c.cancel then 4 else 3) d).set (CAN_TXSTAT_CLASHES n b) 0
    let d := d.setCan n { d.canS n with tec := (d.canS n).tec - 1 }
    let d := canEnd n (canFault n d)
    if !d.bit (CAN_CFG_HEGUS_EN n) then d
    else if b = 30 then heSent n true d
    else heKick n d

/-- CAN_FRAME_SENT (R341, R347): a transmitter delay above 127 cycles counts as a bit error. -/
def frameSent (n : Nat) (won : Bool) (delay : Option Nat) (d : Dev) : Dev :=
  match (d.canS n).act with
  | none => d
  | some b =>
    if !won then txFail n false d
    else
      match delay with
      | none => txDone n d
      | some v =>
        if (txFrame d n b).brs ∧ d.bit (CAN_TDC_TDC_EN n) then
          if 127 < v then canErrorOp n { tx := true, clash := true } d else txDone n (d.set (CAN_TDC_TDCV n) v)
        else txDone n d

/-- Transmission is abandoned without an error: the buffer returns to PENDING, with no clash to count (R343, R349, R358). -/
def txAbandon (n : Nat) (d : Dev) : Dev :=
  match (d.canS n).act with
  | none => d
  | some b =>
    let c := (d.canS n).cancel
    let d := if b = 32 then d else (txSet n b (if c then 5 else 1) d).set (CAN_TXSTAT_CLASHES n b) 0
    canEnd n d

/-- OUTPUTS_RELEASE is withdrawn (R343). -/
def canRelease (d : Dev) : Dev := (upto 8).foldl (fun d n => txAbandon n d) d

/-! ### Segments (R358) -/

/-- The segment is cut; clearing-house frames are not sent any more. `cause` 1 HUSH unanswered, 2 intrusions. -/
def segCut (n cause : Nat) (d : Dev) : Dev :=
  if d.get (CAN_STAT_SEG n) ≠ 0 then d
  else
    let d := txAbandon n d
    let d := d.setCan n { d.canS n with chq := [], hush := none, intr := [], segCause := cause, cuts := (within d.now 600000000000 (d.canS n).cuts).take 16 }
    let d := (d.set (CAN_STAT_SEG n) 1).bump (CAN_ERRCNT_CUTS n)
    raise .CAN_SEG_CUT [n, cause] d

/-! ### Receiving (R344, R351 to R353, R355, R359, R360) -/

/-- The frames held by queue `q`. -/
def CanS.q (c : CanS) (q : Nat) : List Nat := if q = 0 then c.q0 else c.q1
def CanS.setQ (c : CanS) (q : Nat) (l : List Nat) : CanS := if q = 0 then { c with q0 := l } else { c with q1 := l }
/-- The owner of the head lock of queue `q`. -/
def CanS.lock (c : CanS) (q : Nat) : Option Nat := if q = 0 then c.lock0 else c.lock1
def CanS.setLock (c : CanS) (q : Nat) (o : Option Nat) : CanS := if q = 0 then { c with lock0 := o } else { c with lock1 := o }

/-- Show level and lock of queue `q`. -/
def rxShow (n q : Nat) (d : Dev) : Dev :=
  let c := d.canS n
  (d.set (CAN_RXSTAT_LEVEL n q) (c.q q).length).setB (CAN_RXSTAT_LOCKED n q) (c.lock q).isSome

/-- A frame is lost at queue `q` (R352). -/
def rxLost (n q : Nat) (d : Dev) : Dev :=
  let d := ((d.bump (CAN_RXSTAT_LOST n q)).flagUp (CAN_RXSTAT_OVF n q)).setEnt (0x1210 + n) 4 ((d.ent (0x1210 + n) 4 + 1) % 2 ^ 32)
  count 0x0ED d

/-- Make room for a frame in queue `q`: none where the frame is discarded (R352). -/
def rxRoom (n q : Nat) (d : Dev) : Option Dev × Dev :=
  let c := d.canS n
  if (c.q q).length < 64 then (some d, d)
  else
    let d := rxLost n q d
    if !d.bit (CAN_RXCTL_POLICY n q) then (none, d)
    else
      let c := d.canS n
      let l := if (c.lock q).isSome then (c.q q).take 1 ++ (c.q q).drop 2 else (c.q q).drop 1
      let d := d.setCan n (c.setQ q l)
      (some d, d)

/-- Place a frame in queue `q` with its accepting filter and CH mark (R345, R352). -/
def rxPlace (n q filter : Nat) (ch : Bool) (f : CanFrame) (d : Dev) : Dev :=
  match rxRoom n q d with
  | (none, d) => d
  | (some d, _) =>
    let c := d.canS n
    let slot := ((upto 64).find? (fun k => !(c.q q).contains k)).getD 0
    let a := rxAddr n q slot
    let w0 := wSet (wSet 0 0 29 (if f.xtd then f.id else f.id * 2 ^ 18)) 29 2 (f.xtd.toNat + 2 * f.rtr.toNat)
    let w1 := wSet (wSet (wSet 0 0 4 f.dlc) 4 3 (f.brs.toNat + 2 * f.fdf.toNat + 4 * f.esi.toNat)) 8 7 (filter + 64 * ch.toNat)
    let d := ramPut (a + 4) (wSet w1 16 16 c.seq) (ramPut a w0 d)
    let d := ramBytes (a + 8) (f.data.take (canLen f)) d
    let c := c.setQ q (c.q q ++ [slot])
    let d := d.setCan n { c with seq := (c.seq + 1) % 65536 }
    rxShow n q (count (0x0F8 + n) d)

/-- Place a frame that no filter accepted: its FILTER index is a free value (log entry 137). -/
def rxPlaceNone (n q : Nat) (ch : Bool) (f : CanFrame) (d : Dev) : Dev :=
  let x := d.freeVal
  rxPlace n q (x.1 % 64) ch f x.2

/-- Filter `k` of channel `n`: enable, format, match, mask and destination; filter 63 belongs to the transport with
HEGUS_EN 1 (R351, R360). -/
def filterOf (d : Dev) (n k : Nat) : Bool × Bool × Nat × Nat × Nat :=
  if k = 63 ∧ d.bit (CAN_CFG_HEGUS_EN n) then (true, false, 0x700 * 2 ^ 18, 0x7C0 * 2 ^ 18, 1)
  else (d.bit (CAN_FMATCH_EN n k), d.bit (CAN_FMATCH_XTD n k), d.get (CAN_FMATCH_MATCH n k), d.get (CAN_FMASK_MASK n k),
        d.get (CAN_FMASK_DEST n k))

/-- Filter `k` accepts the frame. -/
def filterHit (d : Dev) (n : Nat) (f : CanFrame) (k : Nat) : Bool :=
  let p := filterOf d n k
  let id := if f.xtd then f.id else f.id * 2 ^ 18
  p.1 && p.2.1 == f.xtd && decide ((id ^^^ p.2.2.1) &&& p.2.2.2.1 = 0)

/-- Drop a reception from `node`. -/
def heRxDrop (n node : Nat) (d : Dev) : Dev :=
  let c := d.canS n
  d.setCan n { c with rx := c.rx.filter (fun r => decide (r.node ≠ node)) }

/-- A message is complete: it is handed to the Hegus layer. -/
def heDeliver (n node : Nat) (msg : List Nat) (d : Dev) : Dev :=
  let c := d.canS n
  d.setCan n { c with inbox := ((node, msg) :: c.inbox).take 16 }

/-- Queue a FLOW frame to `node`. -/
def heFlow (n node code : Nat) (d : Dev) : Dev :=
  let c := d.canS n
  heKick n (d.setCan n { c with flows := c.flows ++ [(node, [0xC0 + code, 0, 0])] })

/-- A transport frame of `node` (R360). -/
def heFrameIn (n node : Nat) (f : CanFrame) (d : Dev) : Dev :=
  let c := d.canS n
  let bytes := f.data.take (canLen f)
  let pci := bytes.getD 0 0xFF
  let b1 := bytes.getD 1 0
  let b2 := bytes.getD 2 0
  if bytes = [] then d
  else if pci = 0 then
    if 1 ≤ b1 ∧ b1 + 2 ≤ bytes.length then heDeliver n node ((bytes.drop 2).take b1) (heRxDrop n node d) else d
  else if pci = 0x40 then
    let total := b1 + 256 * b2
    if 4096 < total then heFlow n node 2 (heRxDrop n node d)
    else if bytes.length < 4 ∨ total + 1 < bytes.length then d
    else
      let d := heRxDrop n node d
      let c := d.canS n
      heFlow n node 0 (d.setCan n { c with rx := c.rx ++ [{ node := node, total := total, data := bytes.drop 3 }] })
  else if 0x80 ≤ pci ∧ pci < 0xC0 then
    match c.rx.find? (fun r => decide (r.node = node)) with
    | none => d
    | some r =>
      if pci - 0x80 ≠ r.s then heRxDrop n node d
      else
        let data := (r.data ++ bytes.drop 1).take r.total
        if r.total ≤ data.length then heDeliver n node data (heRxDrop n node d)
        else d.setCan n { c with rx := c.rx.map (fun x => if x.node = node then { x with data := data, s := (r.s + 1) % 64 } else x) }
  else if pci = 0xC0 then
    heKick n (d.setCan n { c with tx := c.tx.map (fun t =>
      if t.node = node ∧ t.st = 2 then { t with st := 0, blk := if b1 = 0 then none else some b1 } else t) })
  else if pci = 0xC2 then
    if c.tx.any (fun t => decide (t.node = node ∧ t.st = 2)) then heKick n (d.setCan n { c with tx := heTxEnd node c.tx }) else d
  else d

/-- The frame goes where the first matching filter, or NOMATCH, sends it (R351). The transport takes its own frames from Q1 as they are
placed (R360; DEDUCED, log entry 163). -/
def rxFilter (n : Nat) (f : CanFrame) (d : Dev) : Dev :=
  match (upto 64).find? (filterHit d n f) with
  | some k =>
    let dest := (filterOf d n k).2.2.2.2
    if k = 63 ∧ d.bit (CAN_CFG_HEGUS_EN n) then
      let e := rxPlace n 1 63 false f d
      if (e.canS n).seq = (d.canS n).seq then e
      else heFrameIn n (f.id - 0x700) f (rxShow n 1 (e.setCan n { e.canS n with q1 := (e.canS n).q1.dropLast }))
    else if dest < 2 then rxPlace n dest k false f d
    else d
  | none =>
    if d.get (CAN_CFG_NOMATCH n) = 1 then rxPlaceNone n 0 false f d
    else if d.get (CAN_CFG_NOMATCH n) = 2 then rxPlaceNone n 1 false f d
    else d

/-- Identity and BOUND of node `k` of the node table (R359). -/
def nodeIdent (d : Dev) (n k : Nat) : Nat := d.ent (0x1220 + n) 5 / 256 ^ (8 * k) % 2 ^ 48
def nodeBound (d : Dev) (n k : Nat) : Bool := (d.ent (0x1220 + n) 5 / 256 ^ (8 * k + 6)).testBit 0

/-- Bind node `k` to an identity: its eight bytes are rewritten. -/
def nodeBind (n k ident : Nat) (d : Dev) : Dev :=
  let v := d.ent (0x1220 + n) 5
  let hi := v / 256 ^ (8 * k + 8) * 256 ^ (8 * k + 8)
  d.setEnt (0x1220 + n) 5 (hi + (ident % 2 ^ 48 + 2 ^ 48) * 256 ^ (8 * k) + v % 256 ^ (8 * k))

/-- An identity that announces itself while a rebinding of the channel is on trial: the new one meets, the old one fails the
health check (R455). -/
def nodeTrial (n ident : Nat) (d : Dev) : Dev :=
  let p := 0x800 + n
  let a : ActS := tabGet {} p d.sec.acts
  if a.st ≠ 2 then d
  else if ident = d.ent (0x9330 + n) 7 then { d with sec.acts := tabIns p { a with confirmed := true } d.sec.acts }
  else if (a.old / 2 ^ 48).testBit 0 ∧ ident = a.old % 2 ^ 48 then trialFails p d
  else d

/-- A NODE_ANNOUNCE (R359). -/
def nodeAnnounceOp (n node ident : Nat) (d : Dev) : Dev :=
  let d := nodeTrial n ident d
  if node = 0xFF then
    match (upto 64).find? (fun k => nodeBound d n k && decide (nodeIdent d n k = ident)) with
    | some k => chSend n 3 (((leBytes ident 6).map (·.toNat)) ++ [k, 0]) d
    | none => d
  else if !nodeBound d n node then nodeBind n node ident d
  else if nodeIdent d n node = ident then d
  else raise .CAN_NODE_MISMATCH [n, node, nodeIdent d n node, ident] d

/-- A HUSH_ACK from `node` answers a completed targeted HUSH (R357). -/
def hushAckOp (n node : Nat) (d : Dev) : Dev :=
  match (d.canS n).hush with
  | some h =>
    if h.target = node ∧ h.sent.isSome ∧ d.now ≤ h.req + 50000000 then d.setCan n { d.canS n with hush := some { h with acked := true } }
    else d
  | none => d

/-- An intrusion (R355, R358). -/
def intrusion (n : Nat) (f : CanFrame) (d : Dev) : Dev :=
  let d := d.bump (CAN_ERRCNT_INTRUSIONS n)
  let c := d.canS n
  let l := (within d.now 100000000 c.intr).take 16
  let d := d.setCan n { c with intr := l, intrSeen := true }
  let d := if c.intrSeen then d else raise .CAN_INTRUSION [n, f.id] d
  let k := d.get (CAN_SEGCFG_INTRUDE_N n)
  if k ≠ 0 ∧ k ≤ l.length then segCut n 2 d else d

/-- A frame with a reserved identifier (R355, R356). -/
def chFrame (n : Nat) (f : CanFrame) (d : Dev) : Dev :=
  let b := fun i => f.data.getD i 0
  let plain := !f.xtd && !f.fdf && !f.rtr
  let copy := fun (d : Dev) => if d.bit (CAN_CFG_CH_COPY n) then rxPlaceNone n 0 true f d else d
  if plain ∧ f.id = 1 ∧ f.dlc = 2 ∧ b 0 < 64 ∧ b 1 = 0 then copy (hushAckOp n (b 0) d)
  else if plain ∧ f.id = 2 ∧ f.dlc = 8 ∧ (b 0 < 64 ∨ b 0 = 0xFF) ∧ b 7 = 0 then
    copy (nodeAnnounceOp n (b 0) (b 1 + 2 ^ 8 * b 2 + 2 ^ 16 * b 3 + 2 ^ 24 * b 4 + 2 ^ 32 * b 5 + 2 ^ 40 * b 6) d)
  else intrusion n f d

/-- Fields that a rate found loads into CAN_NBT: BRP, TSEG1, TSEG2 and SJW of the candidates (R344). -/
def rateTable : List (Nat × Nat × Nat × Nat) :=
  [(4, 15, 4, 4), (5, 15, 4, 4), (8, 15, 4, 4), (16, 15, 4, 4), (32, 15, 4, 4), (80, 15, 4, 4), (200, 15, 4, 4), (200, 31, 8, 8)]

/-- The present candidate is the rate: its timing is loaded and AUTO_NEXT is entered (R344). -/
def rateFound (n : Nat) (d : Dev) : Dev :=
  let k := (d.canS n).cand
  let t := rateTable.getD k (4, 15, 4, 4)
  let d := d.wr (CAN_NBT n) (wSet (wSet (wSet (wSet 0 0 8 (t.1 - 1)) 8 8 (t.2.1 - 1)) 16 7 (t.2.2.1 - 1)) 23 7 (t.2.2.2 - 1))
  let next := d.get (CAN_CFG_AUTO_NEXT n)
  let d := (d.set (CAN_ADR_FOUND n) k).set (CAN_STAT_MODE n) (if next = 0 then 1 else next)
  raise .CAN_RATE_FOUND [n] d

/-- A good frame in AUTO (R344). -/
def rateGood (n : Nat) (f : CanFrame) (d : Dev) : Dev :=
  if d.get (CAN_STAT_MODE n) ≠ 4 ∨ f.brs then d
  else
    let c := d.canS n
    if 3 ≤ c.good then rateFound n (d.setCan n { c with good := 0 }) else d.setCan n { c with good := c.good + 1 }

/-- Enabled candidates. -/
def candidates (d : Dev) (n : Nat) : List Nat := (upto 8).filter (fun k => d.bitN (CAN_ADR_CAND n) k)

/-- The end of a candidate's dwell (R344). -/
def adrNext (n : Nat) (d : Dev) : Dev :=
  if d.get (CAN_STAT_MODE n) ≠ 4 then d
  else
    let c := d.canS n
    match (candidates d n).find? (fun k => decide (c.cand < k)) with
    | some k => d.setCan n { c with cand := k, good := 0 }
    | none =>
      let d := d.setCan n { c with cand := (candidates d n).headD 0, good := 0 }
      let d := d.set (CAN_ADR_CYCLES n) (min (d.get (CAN_ADR_CYCLES n) + 1) 65535)
      raise .CAN_RATE_UNKNOWN [n] d

/-- The receive error counter after a good reception (ISO 11898-1). -/
def recGood (n : Nat) (d : Dev) : Dev :=
  if d.get (CAN_STAT_MODE n) ≠ 1 ∨ !d.pwr.released then d
  else
    let c := d.canS n
    canFault n (d.setCan n { c with rec_ := if 127 < c.rec_ then 119 else c.rec_ - 1 })

/-- A frame received without error. An FD frame on a channel with FD_EN 0 is an error after its arbitration field (R338, R350); one with BRS
does not break a run of AUTO (R344). -/
def canReceive (n : Nat) (f : CanFrame) (d : Dev) : Dev :=
  if d.get (CAN_STAT_MODE n) = 0 ∨ 2 ≤ d.get (CAN_STAT_FAULT n) then d
  else if f.fdf ∧ !d.bit (CAN_CFG_FD_EN n) then
    let e := canErrorOp n { tx := false, id := some (f.id, f.xtd) } d
    if f.brs then e.setCan n { e.canS n with good := (d.canS n).good } else e
  else
    let d := recGood n d
    let d := rateGood n f d
    if reservedId f.xtd f.id then chFrame n f d else rxFilter n f (hushNoise n d)

/-! ### The queue head (R353) -/

/-- Remove the head of queue `q`, with its lock. -/
def rxRemove (n q : Nat) (d : Dev) : Dev :=
  let c := d.canS n
  rxShow n q (d.setCan n ((c.setQ q ((c.q q).drop 1)).setLock q none))

/-- Free the lock of queue `q` and keep the frame. -/
def rxUnlockOp (n q : Nat) (d : Dev) : Dev := rxShow n q (d.setCan n ((d.canS n).setLock q none))

/-- A read of word `w` of the head window of queue `q`. -/
def rxhReadOp (key n q w : Nat) (d : Dev) : Nat × Dev :=
  let c := d.canS n
  match (c.q q).head? with
  | none => (0, d)
  | some k =>
    let a := rxAddr n q k
    let v := memRead d.win (a + 4 * w) 4
    let w0 := memRead d.win a 4
    let w1 := memRead d.win (a + 4) 4
    let len := if w0.testBit 30 then 0 else dlcLen (w1.testBit 5) (w1 % 16)
    let rel := 1 + (len + 3) / 4
    match c.lock q with
    | none => if w = 0 then (v, rxShow n q (d.setCan n (c.setLock q (some key)))) else (v, d)
    | some o => if o = key ∧ w = rel then (v, rxRemove n q d) else (v, d)

/-- The locks that reader `key` holds are freed (R40). -/
def rxUnlockAll (key : Nat) (d : Dev) : Dev :=
  (upto 8).foldl (fun d n => (upto 2).foldl (fun d q => if (d.canS n).lock q = some key then rxUnlockOp n q d else d) d) d

/-! ### Mode (R340, R342) -/

/-- A refused write of MODE records its code (R340). -/
def modeRefuse (n k : Nat) (d : Dev) : Dev := raise .CAN_CFG_ERROR [n, CAN_CFG n, k] (d.set (CAN_STAT_CFGERR n) k)

/-- A write of MODE. -/
def canMode (n mode : Nat) (d : Dev) : Dev :=
  let c := d.canS n
  if mode = 0 then
    let d := postField (CAN_CFG n) 0 7 d
    if d.get (CAN_STAT_MODE n) = 0 then d
    else if c.act.isSome then d.setCan n { c with stop := true } else canOff n d
  else if d.get (CAN_STAT_MODE n) ≠ 0 then d
  else
    match channelCheck d n mode with
    | 0 =>
      let d := postField (CAN_CFG n) (BitVec.ofNat 32 mode) 7 d
      let d := (d.set (CAN_STAT_MODE n) mode).set (CAN_STAT_CFGERR n) 0
      d.setCan n { c with cand := (candidates d n).headD 0, good := 0 }
    | k => modeRefuse n k d

/-- A write of SEG_OFF (R358). -/
def segOffOp (n : Nat) (off : Bool) (d : Dev) : Dev :=
  let d := postField (CAN_SEGCTL n) (if off then 4 else 0) 4 d
  let st := d.get (CAN_STAT_SEG n)
  if off ∧ (st = 0 ∨ st = 2) then
    let d := txAbandon n d
    (d.setCan n { d.canS n with segCause := 3 }).set (CAN_STAT_SEG n) 4
  else if !off ∧ st = 4 then d.set (CAN_STAT_SEG n) 2
  else d

/-- A write of SEG_CLEAR (R358). -/
def segClearOp (n : Nat) (d : Dev) : Dev :=
  if d.get (CAN_STAT_SEG n) = 3 then (d.setCan n { d.canS n with cuts := [] }).set (CAN_STAT_SEG n) 2 else d

/-- A write of CLEAR_BO (R354). -/
def clearBoOp (n : Nat) (d : Dev) : Dev := if d.get (CAN_STAT_FAULT n) = 3 then d.set (CAN_STAT_FAULT n) 2 else d

end Sys2Proof.Machine
end

