-- ==== Sys2Proof/Machine/CvuOps.lean ====
section
/-! DEFINITION. Operations of the converter units: profiles and the sequence check, the filter chain, results and rings,
triggers, passes and injected requests (chapter 6), slices and calibration windows (chapter 5). -/

namespace Sys2Proof.Machine

def Dev.cvuS (d : Dev) (u : Nat) : CvuS := tabGet {} u d.cvu
def Dev.setCvu (d : Dev) (u : Nat) (s : CvuS) : Dev := { d with cvu := tabPut {} u s d.cvu }

/-! ### Profiles (R163, R165, R174, R176) -/

/-- An effective profile: K, D_eff, comb, R, L50, L60, and whether a comb length is held at a limit. -/
structure Prof where
  k : Nat
  dec : Nat
  comb : Bool
  r : Nat
  l50 : Nat
  l60 : Nat
  clamp : Bool
deriving DecidableEq, Repr

/-- floor(f_d / m + 0.5) at rate `rate` and decimation `dec`. -/
def combLen (rate dec m : Nat) : Nat := (2 * rate + m * dec) / (2 * m * dec)

/-- Profile `p` of unit `u` at unit rate `rate`. -/
def profAt (d : Dev) (u p rate : Nat) : Prof :=
  let dd := d.get (CVU_FPB_DEC_M1 u p) + 1
  let comb := d.bit (CVU_FPA_COMB_EN u p)
  let dec := if comb ∧ rate ≠ 20000000 then (clampI 2 65536 ((2 * dd * rate + 20000000) / 40000000 : Nat)).toNat else dd
  let a := combLen rate dec 50
  let b := combLen rate dec 60
  let hold := fun (x : Nat) => min 256 (max 2 x)
  ⟨d.get (CVU_FPA_ORDER_M1 u p) + 1, dec, comb, d.get (CVU_FPA_COMB_DEC_M1 u p) + 1, hold a, hold b,
    comb && (a < 2 || a > 256 || b < 2 || b > 256)⟩

/-- The profile in force. -/
def prof (d : Dev) (u p : Nat) : Prof := profAt d u p (d.cvuS u).rate

/-- Show the effective profiles, and which of them a comb limit holds (R176). -/
def profShow (u : Nat) (d : Dev) : Dev :=
  (upto 4).foldl (fun d p =>
    let x := prof d u p
    let d := d.setN (CVU_SEQ_STATUS_CLAMP u) p x.clamp
    let d := d.set (CVU_FPSTAT_DEFF_M1 u p) (x.dec - 1)
    let d := d.set (CVU_FPSTAT_L50_M1 u p) (if x.comb then x.l50 - 1 else 0)
    d.set (CVU_FPSTAT_L60_M1 u p) (if x.comb then x.l60 - 1 else 0)) d

/-! ### The sequence check (R164) -/

/-- An input may be named: 0–23, and not the odd input of a differential pair. Answers code 2 or 3, or 0. -/
def inputCheck (d : Dev) (u i : Nat) : Nat :=
  if i > 23 then 2 else if i % 2 = 1 ∧ d.bitN (CVU_CFG_DIFF u) (i / 2) then 3 else 0

/-- The code of a profile, or 0. -/
def profCheck (d : Dev) (u p : Nat) : Nat :=
  let x := prof d u p
  if x.k > 5 then 4 else if d.get (CVU_FPB_DEC_M1 u p) = 0 then 5 else if x.clamp then 6 else 0

/-- Code, first failing entry and first failing profile. -/
def seqCheck (d : Dev) (u : Nat) : Nat × Nat × Nat :=
  let len := d.get (CVU_SEQ_CTRL_LEN u)
  let ent := (upto (min len 32)).find? (fun e => inputCheck d u (d.get (CVU_SEQE_INPUT u e)) ≠ 0)
  let pr := (upto 4).find? (fun p => profCheck d u p ≠ 0)
  let code := if len > 32 then 1 else match ent with
    | some e => inputCheck d u (d.get (CVU_SEQE_INPUT u e))
    | none => match pr with
      | some p => profCheck d u p
      | none => 0
  (code, ent.getD 0, pr.getD 0)

/-! ### The filter chain (R173 to R175) -/

/-- Sum of a list. -/
def lsum (l : List Int) : Int := l.foldl (· + ·) 0

/-- Moving sums of length `n`. -/
def movSum (n : Nat) (l : List Int) : List Int := (upto (l.length + 1 - n)).map (fun i => lsum ((l.drop i).take n))

/-- `k` moving sums in cascade. -/
def movSums (n : Nat) : Nat → List Int → List Int
  | 0, l => l
  | k + 1, l => movSums n k (movSum n l)

/-- The outputs of the sinc stage over a span of samples in the 24-bit scale, rounded once (R173). -/
def sincOut (k dec : Nat) (samples : List Int) : List Int :=
  let w := k * (dec - 1) + 1
  if samples.length < w then []
  else (upto ((samples.length - w) / dec + 1)).map (fun j =>
    let s := (movSums dec k ((samples.drop ((samples.length - w) % dec + j * dec)).take w)).getLast?.getD 0
    let q : Int := (dec ^ k : Nat)
    (2 * s + q) / (2 * q))

/-- Samples that the first result of an entry takes, and those that each further one takes (R165). -/
def spanLen (x : Prof) : Nat := (if x.comb then x.k + x.l50 + x.l60 - 2 else x.k) * x.dec
def stepLen (x : Prof) : Nat := (if x.comb then x.r else 1) * x.dec

/-- The span of the next result: the samples that have arrived since the last one, behind those that the chain holds. None where their
number is not that of R165 (log entry 126). -/
def resultSpan (x : Prof) (chain fresh : List Int) : Option (List Int) :=
  if chain = [] then (if fresh.length = spanLen x then some fresh else none)
  else if fresh.length = stepLen x then some ((chain ++ fresh).drop ((chain ++ fresh).length - spanLen x))
  else none

/-- The chain's last output as a fraction: numerator and denominator in the 24-bit scale (R173, R174). -/
def chainOut (x : Prof) (samples : List Int) : Int × Int :=
  let s := sincOut x.k x.dec samples
  if x.comb then
    let s := s.drop (s.length - (x.l50 + x.l60 - 1))
    ((movSum x.l60 (movSum x.l50 s)).getLast?.getD 0, ((x.l50 * x.l60 : Nat) : Int))
  else (s.getLast?.getD 0, 1)

/-! ### Calibration sets (R154, R155) -/

/-- A 32-bit word of a calibration set. -/
def calWord (set i : Nat) : Nat := set / 2 ^ (8 * i) % 2 ^ 32

/-- The set passes R155: CRC, reserved bytes and gains. -/
def calsetOk (set : Nat) : Bool :=
  set / 2 ^ 2048 = 0 && calWord set 4 = 0 && set / 2 ^ 1600 % 2 ^ 416 = 0 &&
    (upto 24).all (fun i => decide (0x20000000 ≤ calWord set (8 + 8 * i) ∧ calWord set (8 + 8 * i) ≤ 0x60000000)) &&
    crc32 ⟨256, set⟩ 252 = calWord set 252

/-- Limits of a result (R178). -/
def resRange (diff : Bool) : Int × Int := (if diff then -0x7FFFFF else 0, 0x7FFFFF)

/-- A result after calibration: value, held at full scale by calibration, inside the range before it. One beyond its range before
calibration takes the full-scale code (R154, R178). -/
def calibrate (set input : Nat) (diff : Bool) (num den : Int) : Int × Bool × Bool :=
  let (lo, hi) := resRange diff
  if num < lo * den then (lo, true, false) else if num > hi * den then (hi, true, false) else
  let i := if diff then input / 2 * 2 else input
  let g : Int := calWord set (8 + 8 * i)
  let o := sx 32 (calWord set (12 + 8 * i))
  let n := g * num + o * 4194304 * den
  let dd := 1073741824 * den
  let v := (2 * n + dd) / (2 * dd)
  (clampI lo hi v, decide (v < lo ∨ v > hi), true)

/-! ### Results, rings and ports (R178 to R185) -/

/-- A delivered result. -/
structure CvuRes where
  value : Int
  ovr   : Bool
  invalid : Bool
  age   : Bool
  inj   : Bool
  late  : Bool
  input : Nat
  /-- entry of a regular result, TAG of an injected one -/
  tag   : Nat
  time  : Nat
deriving DecidableEq, Repr

/-- VALUE of 24 bits. -/
def CvuRes.v24 (r : CvuRes) : Nat := if r.invalid then 0x800000 else ux 24 r.value

/-- VALUE16 (R178). -/
def CvuRes.v16 (r : CvuRes) : W16 :=
  if r.invalid then 0x8000 else BitVec.ofInt 16 (clampI (-32767) 32767 ((r.value + 128) / 256))

/-- The ring word in a format, as a number (R180). -/
def ringWord (fmt pass : Nat) (r : CvuRes) : Nat :=
  if fmt = 0 then
    r.v16.toNat + 65536 * (r.input % 32) + 2 ^ 21 * r.ovr.toNat + 2 ^ 22 * r.invalid.toNat + 2 ^ 23 * r.age.toNat +
      2 ^ 24 * (r.tag % 32) + 2 ^ 29 * r.inj.toNat + 2 ^ 30 * r.late.toNat
  else
    let w0 := r.v24 + 2 ^ 24 * r.ovr.toNat + 2 ^ 25 * r.invalid.toNat + 2 ^ 26 * r.age.toNat + 2 ^ 27 * r.inj.toNat + 2 ^ 28 * r.late.toNat
    let w1 := r.input % 32 + (if r.inj then 65536 * (r.tag % 256) else 32 * (r.tag % 32) + 65536 * (pass % 65536))
    w0 + 2 ^ 32 * w1 + (if fmt = 2 then 2 ^ 64 * (r.time % 2 ^ 64) else 0)

/-- Bytes of a ring word. -/
def ringSize (fmt : Nat) : Nat := if fmt = 0 then 4 else if fmt = 1 then 8 else 16

/-- A result reaches stream `s` of unit `u` (R183 to R185). -/
def ringPut (u s : Nat) (r : CvuRes) (d : Dev) : Dev :=
  let fmt := d.get (CVU_SCFG_FMT u s)
  let size := ringSize fmt
  let len := d.get (CVU_SLEN_LEN u s)
  let wr := d.get (CVU_SWR_WR u s)
  let rd := d.get (CVU_SRD_RD u s)
  let key := 16 * u + s
  let stop := d.bit (CVU_SCFG_POLICY u s)
  -- under OVERWRITE an advance comes before a consumer's write of the same cycle
  let put := if stop then none else (d.cyc.ringRd.find? (fun e => e.1 = key)).map (·.2)
  let rd0 := match put with | some x => x.1 | none => rd
  let full := (wr + size) % len = rd0
  let lose := fun (d : Dev) =>
    let d := d.flagUp (CVU_SSTAT_OVERRUN u s)
    let d := d.set (CVU_SSTAT_LOST u s) (min (d.get (CVU_SSTAT_LOST u s) + 1) 65535)
    raise .CVU_DMA_OVERRUN [u, s] (count (0x788 + u) d)
  if full ∧ stop then lose d
  else
    let d := if full then
        let adv := (rd0 + size) % len
        let new := match put with
          | some x => if (x.2 + len - adv) % len ≤ (wr + size + len - adv) % len then x.2 else adv
          | none => adv
        { (lose d).set (CVU_SRD_RD u s) new with
          cyc.ringAdv := key :: d.cyc.ringAdv
          cyc.ringRd := match put with | some x => tabIns key (adv, x.2) d.cyc.ringRd | none => d.cyc.ringRd }
      else d
    let rd := d.get (CVU_SRD_RD u s)
    let a := d.get (CVU_SBASE_BASE u s) + wr
    let d := { d with sram := memWrite d.sram a (ringWord fmt (d.get (CVU_PASS_PASS u)) r) size }
    let d := { d with badWords := d.badWords.filter (fun b => !decide (a ≤ b ∧ b < a + size)) }
    let wr' := (wr + size) % len
    let d := d.set (CVU_SWR_WR u s) wr'
    let d := d.set (CVU_SCNT_WCOUNT u s) ((d.get (CVU_SCNT_WCOUNT u s) + 1) % 2 ^ 32)
    let fill := fun (w : Nat) => (w + len - rd) % len / size
    let th := d.get (CVU_SCFG_THRESH u s)
    if th ≠ 0 ∧ fill wr < th ∧ fill wr' ≥ th then raise .CVU_DMA_LEVEL [u, s] (d.flagUp (CVU_SSTAT_LEVEL u s)) else d

/-- A result is delivered to rings, ports, the latest-value entry and the event, in one cycle (R181, R183). -/
def cvuDeliver (u : Nat) (evt : Bool) (r : CvuRes) (d : Dev) : Dev :=
  let src := if r.inj then 128 + u else u * 32 + r.tag
  let d := (upto 16).foldl (fun d s =>
    if d.bit (CVU_SCFG_EN u s) ∧ (if r.inj then d.bit (CVU_SCFG_INJ u s) else d.bitN (CVU_SMASK_MASK u s) r.tag) then ringPut u s r d
    else d) d
  let d := stamp 1 src { d with cea.conv := tabIns src (r.v16, r.invalid) d.cea.conv }
  let d := d.setEnt (0x3130 + u) (if r.inj then 33 else r.tag + 1) (if r.invalid then 0x80000000 else ux 32 r.value)
  if evt then fire [src] d else d

/-- An invalid result (R148). -/
def oosRes (inj : Bool) (input tag t : Nat) : CvuRes := ⟨0, false, true, false, inj, false, input, tag, t⟩

/-- Invalid results for every entry of the regular sequence (R148). -/
def oosSequence (u : Nat) (d : Dev) : Dev :=
  (upto (min (d.get (CVU_SEQ_CTRL_LEN u)) 32)).foldl (fun d e =>
    if d.get (CVU_SEQE_OUTPUTS u e) = 0 then d
    else cvuDeliver u (d.bit (CVU_SEQE_EVT u e)) (oosRes false (d.get (CVU_SEQE_INPUT u e)) e d.time64) d) d

/-! ### Status registers -/

/-- A slice's corrections are stale (R142). -/
def sliceStale (d : Dev) (x : SliceS) : Bool :=
  d.bit THM_MEAN_MEAN_VALID && (d.sget THM_MEAN_MEAN - x.temp).natAbs > 500

/-- Good slices. -/
def goodCount (s : CvuS) : Nat := (s.slices.filter (fun x => decide (x.st ≤ 1))).length
/-- ACTIVE slices in the interleave (R147). -/
def activeCount (s : CvuS) : Nat := if s.mode = 2 then 0 else (s.slices.filter (fun x => decide (x.st = 0))).length

/-- Show the coefficient store and the state of the sequence in the unit's registers. -/
def cvuShow (u : Nat) (d : Dev) : Dev :=
  if !d.ready (cvuDom u) then d
  else
    let s := d.cvuS u
    let d := d.set (CVU_STATUS_GOOD u) (goodCount s)
    let d := d.set (CVU_STATUS_MODE u) s.mode
    let d := d.set (CVU_STATUS_RESERVE u) (((upto 9).find? (fun k => ((s.slices.getD k { st := 2, pos := 15 }).st = 1))).getD 15)
    let d := d.set (CVU_STATUS_ACTIVE u) (activeCount s)
    let d := d.setB (CVU_STATUS_FGCAL_BUSY u) s.fgBusy
    let d := d.setB (CVU_STATUS_FGCAL_PENDING u) s.fgPend.isSome
    let d := d.setB (CVU_STATUS_REF_FAULT u) s.refFault
    let d := d.set (CVU_STATUS_CALSET u) s.bank
    let d := d.setB (CVU_STATUS_CAL_STALE u) (s.slices.any (fun x => x.st = 0 && sliceStale d x))
    let d := d.set (CVU_RATE_RATE u) s.rate
    let d := d.set (CVU_SEQ_STATUS_STATE u) (if s.on then (if s.waiting then 2 else 1) else 0)
    let d := d.setB (CVU_SEQ_STATUS_PENDING u) s.latched
    let d := d.set (CVU_SEQ_STATUS_ENTRY u) s.entry
    let d := d.set (CVU_INJSTAT_DEPTH u) (s.queue.length + s.heldQ.length)
    (s.slices.zip (upto 9)).foldl (fun d x =>
      let d := d.wr (CVU_SLICE u x.2) (BitVec.ofNat 32 (x.1.st + 4 * x.1.suspect.toNat + 16 * x.1.pos + 256 * ux 12 x.1.off + 2 ^ 20 * ux 12 x.1.gain))
      d.wr (CVU_SKEW u x.2) (BitVec.ofNat 32 (ux 16 x.1.trim + 65536 * x.1.sat.toNat + 2 ^ 24 * x.1.passes))) d

/-! ### Passes (R161, R166 to R172, R471) -/

/-- The unit converts: EN is 1 and it is in service. -/
def seqOn (d : Dev) (u : Nat) : Bool := d.bit (CVU_SEQ_CTRL_EN u)

/-- The first entry from `e` that delivers anything (R162). -/
def nextEntry (d : Dev) (u e : Nat) : Option Nat :=
  (upto (min (d.get (CVU_SEQ_CTRL_LEN u)) 32)).find? (fun k => decide (e ≤ k ∧ d.get (CVU_SEQE_OUTPUTS u k) ≠ 0))

/-- The interval of R471 forbids a pass now. -/
def pacedNow (d : Dev) (u : Nat) : Bool :=
  let t := d.get (CVU_SEQ_CTRL_TRIG_SRC u)
  let p := max (d.get THM_CFG_CONV_PACE) 1
  d.get THM_STATUS_LEVEL ≥ 3 && (t = 0 || t > 8) &&
    (match (d.cvuS u).passAt with | some a => decide (d.now < a + p * 1000000) | none => false)

/-- A pass is counted (R161). -/
def passCount (u : Nat) (d : Dev) : Dev :=
  count (0x780 + u) (d.set (CVU_PASS_PASS u) ((d.get (CVU_PASS_PASS u) + 1) % 2 ^ 32))

/-- The count of a pass is taken back: its trigger came in the cycle in which EN was written 0 (R169). -/
def passUncount (u : Nat) (d : Dev) : Dev :=
  match d.cyc.passNew.find? (fun x => x.1 = u) with
  | none => d
  | some x =>
    let d : Dev := { d with cyc.passNew := d.cyc.passNew.filter (fun x => x.1 ≠ u) }
    let d := d.setCvu u { d.cvuS u with passAt := x.2 }
    uncount (0x780 + u) (d.set (CVU_PASS_PASS u) ((d.get (CVU_PASS_PASS u) + (2 ^ 32 - 1)) % 2 ^ 32))

/-- Passes follow one another without the chain being cleared: CONTINUOUS with one entry (R170). -/
def seqSteady (d : Dev) (u : Nat) : Bool := d.bit (CVU_SEQ_CTRL_MODE u) && decide (d.get (CVU_SEQ_CTRL_LEN u) = 1)

/-- A pass starts (R161) with its sample 0; `keep`: the chain stays, since the pass follows the previous one of a steady sequence (R167,
R170). One without results ends at once, and so does the one that a latched trigger starts behind it (R169). -/
def passBegin (u : Nat) (late keep : Bool) (d : Dev) : Dev :=
  let d : Dev := { d with cyc.passNew := (u, (d.cvuS u).passAt) :: d.cyc.passNew }
  let d := passCount u d
  let s := d.cvuS u
  let s := { s with passAt := some d.now, waiting := false, paced := false, done := 0, mid := false, samp := 0, gap := false,
                    chain := if keep && seqSteady d u then s.chain else [] }
  match nextEntry d u 0 with
  | some e => d.setCvu u { s with on := true, late := late, entry := e, conv := some .reg }
  | none =>
    let d := if s.latched then passCount u d else d
    d.setCvu u { s with on := false, late := false, latched := false, entry := 0, conv := none }

/-- A pass starts, or waits for the end of CONV_PACE (R471). -/
def passStart (u : Nat) (late keep : Bool) (d : Dev) : Dev :=
  if pacedNow d u then
    let s := d.cvuS u
    count 0x168 (d.setCvu u { s with on := true, waiting := true, late := late || !d.bit (CVU_SEQ_CTRL_MODE u), paced := true, conv := none })
  else passBegin u late keep d

/-- A foreground window starts (R150). -/
def fgStart (u : Nat) (d : Dev) : Dev :=
  let s := d.cvuS u
  d.setCvu u { s with fgBusy := true, fgPend := none, fgLast := d.time64, conv := none, chain := [], gap := true }

/-- Choose what to convert next, nothing being converted (R150, R172). -/
def cvuNext (u : Nat) (d : Dev) : Dev :=
  let s := d.cvuS u
  if s.fgBusy ∨ s.conv.isSome ∨ !seqOn d u ∨ s.mode = 2 then d
  else if s.fgPend.isSome ∧ s.queue = [] ∧ !s.mid then fgStart u d
  else match s.queue with
    | w :: t => d.setCvu u { s with queue := t, conv := some (.inj w), chain := [], gap := true }
    | [] =>
      if !s.on ∨ s.paced then d
      else if s.waiting then passBegin u true false d
      else d.setCvu u { s with conv := some .reg, done := 0, mid := false, chain := [] }

/-- A trigger of this cycle has reached the running pass of unit `u`: whether it was held (R169). -/
def trigHere (d : Dev) (u : Nat) : Option Bool := (d.cyc.trigRun.find? (fun x => x.1 = u)).map (·.2)

/-- A pass has delivered its last result (R161, R169, R170). A trigger of the same cycle starts the next pass normally; a latched one is
then part of it (log entry 127). -/
def passDone (u : Nat) (d : Dev) : Dev :=
  let s := d.cvuS u
  let hit := trigHere d u
  let again := s.latched || hit.isSome
  let late := hit.getD true
  let d := d.setCvu u { s with on := false, conv := none, late := false, entry := 0, done := 0, latched := false }
  let d : Dev := { d with cyc.trigRun := d.cyc.trigRun.filter (fun x => x.1 ≠ u), cyc.passEnd := u :: d.cyc.passEnd }
  if s.fgPend.isSome ∧ s.queue = [] then
    let d := if again ∨ d.bit (CVU_SEQ_CTRL_MODE u) then
        d.setCvu u { d.cvuS u with on := true, waiting := true, late := true } else d
    fgStart u d
  else if again then
    if s.queue ≠ [] then cvuNext u (d.setCvu u { d.cvuS u with on := true, waiting := true, late := true }) else passStart u late false d
  else if d.bit (CVU_SEQ_CTRL_MODE u) ∧ (nextEntry d u 0).isSome then
    if s.queue ≠ [] then cvuNext u (d.setCvu u { d.cvuS u with on := true, waiting := true, late := true }) else passStart u false true d
  else cvuNext u d

/-- A trigger is counted as missed. -/
def trigMissed (u : Nat) (d : Dev) : Dev :=
  let s := d.cvuS u
  let d := d.setCvu u { s with missed := s.missed + 1 }
  raise .CVU_TRIG_MISSED [u] (count (0x784 + u) (d.bump (CVU_TRIGCNT_MISSED u)))

/-- RESTART abandons the pass (R169). -/
def seqRestart (u : Nat) (d : Dev) : Dev :=
  let s := d.cvuS u
  let d := d.setCvu u { s with restarted := s.restarted + 1, waiting := true, late := true,
                                conv := (match s.conv with | some .reg => none | c => c), done := 0, mid := false,
                                chain := (match s.conv with | some .reg => [] | _ => s.chain) }
  raise .CVU_SEQ_RESTARTED [u, s.entry] (d.bump (CVU_TRIGCNT_RESTARTED u))

/-- A trigger that a running or waiting pass has to handle, by POLICY (R169); `held`: its posting was held. -/
def trigPolicy (u : Nat) (held : Bool) (d : Dev) : Dev :=
  let s := d.cvuS u
  let pol := d.get (CVU_SEQ_CTRL_POLICY u)
  if pol = 1 then trigMissed u d
  else if pol = 2 ∧ !pacedNow d u then
    let d := seqRestart u d
    if s.conv.isSome ∧ s.conv ≠ some .reg then d else passBegin u held false d
  else if s.latched then trigMissed u d
  else d.setCvu u { s with latched := true }

/-- The triggers of the cycle that reached a pass that has not ended in it (R169). -/
def trigEnd (d : Dev) : Dev :=
  d.cyc.trigRun.foldr (fun x d => cvuShow x.1 (trigPolicy x.1 x.2 d)) { d with cyc.trigRun := [] }

/-- A regular trigger of unit `u` (R148, R151, R166 to R170, R471); `held`: its posting was held, and its pass is late (R167, R168). What
it does to a running pass is settled at the end of the cycle, when it is known that the pass goes on (R169). Beside `u`, the cycle's
list holds `u + 4` where the trigger found the unit idle, `u + 8` where a request did (R172), and `u + 12` where it was missed at once. -/
def cvuTrigger (u : Nat) (held : Bool) (d : Dev) : Dev :=
  if !d.ready (cvuDom u) ∨ d.cyc.cvuTrig.contains u then d
  else
    let d := { d with cyc.cvuTrig := u :: d.cyc.cvuTrig }
    let s := d.cvuS u
    let pol := d.get (CVU_SEQ_CTRL_POLICY u)
    let miss := fun (d : Dev) => trigMissed u { d with cyc.cvuTrig := (u + 12) :: d.cyc.cvuTrig }
    cvuShow u <|
    if !seqOn d u then miss d
    else if s.mode = 2 then oosSequence u (count 0x05A d)
    else if d.bit (CVU_SEQ_CTRL_MODE u) ∧ s.on then d
    else if s.fgBusy then
      if pol = 1 ∨ s.latched ∨ (s.on ∧ s.waiting) then miss d
      else if !s.on then d.setCvu u { s with on := true, waiting := true, late := true }
      else if pol = 2 then seqRestart u d
      else d.setCvu u { s with latched := true }
    else if s.on ∧ d.cyc.passEnd.contains u then d.setCvu u { s with late := held || s.waiting }
    else if s.on then { d with cyc.trigRun := (u, held) :: d.cyc.trigRun }
    else
      match s.conv with
      | some (.inj w) =>
        if d.cyc.cvuTrig.contains (u + 8) ∧ d.bit (CVU_SEQ_CTRL_INJ_MODE u) then
          cvuNext u (passStart u held false (d.setCvu u { s with conv := none, queue := w :: s.queue }))
        else d.setCvu u { s with on := true, waiting := true, late := true }
      | _ =>
        if s.conv.isSome ∨ s.queue ≠ [] then d.setCvu u { s with on := true, waiting := true, late := true }
        else if pacedNow d u ∧ pol = 1 then miss d
        else passStart u held false { d with cyc.cvuTrig := (u + 4) :: d.cyc.cvuTrig }

/-- CVU_START of the units in a mask (R112, R166). -/
def cvuStart (mask : Nat) (held : Bool) (d : Dev) : Dev :=
  ((upto 4).filter (fun u => mask.testBit u)).foldl (fun d u => cvuTrigger u held d) d

/-! ### Injected requests (R171, R172) -/

/-- A request is refused (R171); reasons 1 disabled, 2 check, 3 full. -/
def injLose (u why : Nat) (d : Dev) : Dev :=
  let s := d.cvuS u
  let d := d.setCvu u { s with lost := s.lost + 1 }
  raise .CVU_INJ_LOST [u, why] (d.bump (CVU_INJSTAT_LOST u))

/-- The reason for which a request is refused, or 0 (R164, R171). -/
def injRefusal (d : Dev) (u w : Nat) : Nat :=
  let s := d.cvuS u
  if !seqOn d u then 1
  else if inputCheck d u (w % 32) ≠ 0 ∨ profCheck d u (w / 32 % 4) ≠ 0 ∨ w.testBit 7 ∨ w / 65536 ≠ 0 then 2
  else if s.queue.length + s.heldQ.length ≥ 4 then 3
  else 0

/-- An injected request arrives (R148, R150, R171, R172). -/
def cvuInject (u w : Nat) (d : Dev) : Dev :=
  if !d.ready (cvuDom u) then d
  else
    let why := injRefusal d u w
    let s := d.cvuS u
    cvuShow u <|
    if why ≠ 0 then injLose u why d
    else if s.mode = 2 then cvuDeliver u true (oosRes true (w % 32) (w / 256 % 256) d.time64) (count 0x05A d)
    else
      let old : Bool := match s.fgPend with | some t => !s.fgBusy && decide (t + 100000000 ≤ d.now) | none => false
      if old then d.setCvu u { s with heldQ := s.heldQ ++ [w] }
      else
        let d := d.setCvu u { s with queue := s.queue ++ [w] }
        if s.conv = some .reg ∧ !d.bit (CVU_SEQ_CTRL_INJ_MODE u) then
          cvuNext u (d.setCvu u { d.cvuS u with conv := none, mid := true, chain := [], late := s.late || d.cyc.cvuTrig.contains (u + 4) })
        else
          let idle := !s.on && s.conv.isNone && !s.fgBusy
          cvuNext u (if idle then { d with cyc.cvuTrig := (u + 8) :: d.cyc.cvuTrig } else d)

/-- A request by a bus write: the cycle notes that it took a place (R171). -/
def cvuInjectBus (u w : Nat) (d : Dev) : Dev :=
  let before := (d.cvuS u).lost
  let busy := (d.cvuS u).conv
  let d := cvuInject u w d
  let s := d.cvuS u
  if s.lost ≠ before ∨ s.mode = 2 then d
  else
    let x := tabGet (0, false) u d.cyc.injBus
    { d with cyc.injBus := tabIns u (x.1 + 1, x.2 || (decide (s.conv = some (.inj w)) && busy != some (.inj w))) d.cyc.injBus }

/-- A list with `w` before its last `n` items. -/
def insBefore (n w : Nat) (l : List Nat) : List Nat := l.take (l.length - n) ++ w :: l.drop (l.length - n)

/-- A request by a posting goes before those that bus writes have queued in the same cycle, and takes the last free place from them
(R171). -/
def cvuInjectPost (u w : Nat) (d : Dev) : Dev :=
  let x := tabGet (0, false) u d.cyc.injBus
  let s := d.cvuS u
  let first := x.2 && (match s.conv with | some (.inj _) => true | _ => false)
  let n := if first then x.1 - 1 else x.1
  if x.1 = 0 ∨ !d.ready (cvuDom u) ∨ s.mode = 2 ∨ 4 ≤ s.queue.length + s.heldQ.length - n ∨
      injRefusal d u w = 1 ∨ injRefusal d u w = 2 then cvuInject u w d
  else
    let full := decide (s.queue.length + s.heldQ.length ≥ 4)
    let q : CvuS :=
      match first, s.conv with
      | true, some (.inj b) => { s with conv := some (.inj w), queue := b :: s.queue }
      | _, _ =>
        if n ≤ s.heldQ.length ∧ s.heldQ ≠ [] then { s with heldQ := insBefore n w s.heldQ } else { s with queue := insBefore n w s.queue }
    cvuShow u (if full then
      injLose u 3 (d.setCvu u (if q.heldQ ≠ [] then { q with heldQ := q.heldQ.dropLast } else { q with queue := q.queue.dropLast }))
    else d.setCvu u q)

/-! ### Enabling (R164, R182) -/

/-- EN written from 0 to 1 (R164): the queue that was held is served. -/
def seqEnable (u : Nat) (d : Dev) : Dev :=
  let c := seqCheck d u
  let d := ((d.set (CVU_CFGERR_CODE u) c.1).set (CVU_CFGERR_ENTRY u) c.2.1).set (CVU_CFGERR_PROFILE u) c.2.2
  if c.1 = 0 then cvuShow u (cvuNext u (profShow u (d.set (CVU_SEQ_CTRL_EN u) 1)))
  else raise .CVU_CFG_ERROR [u, c.2.1, c.1] (d.set (CVU_SEQ_CTRL_EN u) 0)

/-- EN written 0 (R164); a trigger of the same cycle is missed, and a pass that it has started is not counted (R169). -/
def seqDisable (u : Nat) (d : Dev) : Dev :=
  let d := d.set (CVU_SEQ_CTRL_EN u) 0
  let d := if d.cyc.cvuTrig.contains u ∧ !d.cyc.cvuTrig.contains (u + 12) then
      trigMissed u { (if d.cyc.cvuTrig.contains (u + 4) then passUncount u d else d) with cyc.cvuTrig := (u + 12) :: d.cyc.cvuTrig, cyc.trigRun := d.cyc.trigRun.filter (fun x => x.1 ≠ u) }
    else d
  let s := d.cvuS u
  cvuShow u (d.setCvu u { s with on := false, waiting := false, late := false, latched := false, paced := false, done := 0, mid := false, samp := 0, gap := false,
                                 conv := (match s.conv with | some .reg => none | c => c),
                                 chain := (match s.conv with | some .reg => [] | _ => s.chain) })

/-- The code of R182 for stream `s`, or 0. -/
def streamCheck (d : Dev) (u s : Nat) : Nat :=
  let len := d.get (CVU_SLEN_LEN u s)
  let base := d.get (CVU_SBASE_BASE u s)
  let fmt := d.get (CVU_SCFG_FMT u s)
  let size := ringSize fmt
  if len = 0 then 1
  else if base < 0x20300000 ∨ base + len > 0x203F0000 then 2
  else if fmt = 3 ∨ base % size ≠ 0 ∨ len % size ≠ 0 then 3
  else if (upto 4).any (fun v => (upto 16).any (fun t =>
      (v, t) ≠ (u, s) && d.bit (CVU_SCFG_EN v t) && d.get (CVU_SBASE_BASE v t) < base + len &&
        base < d.get (CVU_SBASE_BASE v t) + d.get (CVU_SLEN_LEN v t))) then 4
  else if len < 2 * size then 5
  else 0

/-- A stream's EN written from 0 to 1 (R182, R184); `keep`: the context record replays the write and the offsets stand. -/
def streamEnable (u s : Nat) (keep : Bool) (d : Dev) : Dev :=
  let c := streamCheck d u s
  let d := d.set (CVU_SCFG_CFG_ERR u s) c
  if c ≠ 0 then raise .CVU_CFG_ERROR [u, s, c] (d.set (CVU_SCFG_EN u s) 0)
  else
    let d := d.set (CVU_SCFG_EN u s) 1
    if keep then d
    else (((d.set (CVU_SWR_WR u s) 0).set (CVU_SRD_RD u s) 0).set (CVU_SCNT_WCOUNT u s) 0).set (CVU_SSTAT_LOST u s) 0

/-- A consumer writes RD (R184). -/
def ringRead (u s v : Nat) (d : Dev) : Dev :=
  let len := d.get (CVU_SLEN_LEN u s)
  let size := ringSize (d.get (CVU_SCFG_FMT u s))
  let rd := d.get (CVU_SRD_RD u s)
  let wr := d.get (CVU_SWR_WR u s)
  if v % size ≠ 0 ∨ v ≥ len then d.flagUp (CVU_SSTAT_RD_BAD u s)
  else if d.cyc.ringAdv.contains (16 * u + s) ∧ (v + len - rd) % len > (wr + len - rd) % len then d
  else
    let d : Dev := { d with cyc.ringRd := tabIns (16 * u + s) ((tabGet (rd, 0) (16 * u + s) d.cyc.ringRd).1, v) d.cyc.ringRd }
    d.set (CVU_SRD_RD u s) v

/-- A write of RD that the register takes is recorded (R50, R184). -/
def ringReadPut (u s v : Nat) (d : Dev) : Dev :=
  let x := ringRead u s v d
  if x.get (CVU_SRD_RD u s) = v then ctxPut (CVU_SRD u s) (BitVec.ofNat 32 v) (wMask 0 20) x else x

/-! ### A result is due (R165, R178, R179) -/

/-- The excitation source of input `i` of unit `u` is OPEN (R140); for a differential pair, which names its even input, that of the odd
one does not count (DESIGN CHOICE, log entry 153). -/
def excOpen (d : Dev) (u i : Nat) : Bool := u = 3 && 16 ≤ i && d.bit (CVU_EXC_OPEN (i - 16))

/-- The current that drives AIN(88 + `j`), in µA: none until the outputs are released, while CVU-B is off, and in SEQUENCE mode outside a
pass that names the input (R139). -/
def excCurrent (d : Dev) (j : Nat) : Nat :=
  let s := d.cvuS 3
  let named := (upto (min (d.get (CVU_SEQ_CTRL_LEN 3)) 32)).any (fun e => decide (d.get (CVU_SEQE_INPUT 3 e) = 16 + j))
  if d.pwr.released && d.ready 5 && (d.get (CVU_EXC_MODE j) != 1 || (s.on && !s.waiting && named)) then 10 * d.get (CVU_EXC_CODE j) else 0

/-- The correction of one raw sample by the slice that took it, in the 24-bit scale (R142); `beyond`: the span holds a sample beyond the
input range, and one at an end code stands for such a sample, which no correction brings back (R136, log entry 128). -/
def corrected (x : SliceS) (diff beyond : Bool) (raw : Int) : Int :=
  if beyond ∧ 32767 ≤ raw then 0x800000
  else if beyond ∧ raw ≤ (if diff then -32767 else 0) then (if diff then -0x800000 else -1)
  else rdiv (256 * (raw - x.cOff) * 100000) (100000 + x.cGain)

/-- The slice at interleave position `k` mod N (R141). -/
def slicePos (s : CvuS) (k : Nat) : SliceS :=
  (s.slices.find? (fun x => decide (x.st = 0 ∧ x.pos = k % max (activeCount s) 1))).getD { st := 0, pos := 0 }

/-- The samples of a pass, of which the first is number `k`, after the corrections of their slices (R141, R142). -/
def correctAll (s : CvuS) (diff beyond : Bool) (k : Nat) (samples : List Int) : List Int :=
  (samples.zip (upto samples.length)).map (fun x => corrected (slicePos s (k + x.2)) diff beyond x.1)

/-- The profile that the conversion in progress uses. -/
def convProf (d : Dev) (u : Nat) : Nat :=
  let s := d.cvuS u
  match s.conv with
  | some (.inj w) => w / 32 % 4
  | _ => d.get (CVU_SEQE_PROFILE u s.entry)

/-- The input that it converts. -/
def convInput (d : Dev) (u : Nat) : Nat :=
  let s := d.cvuS u
  match s.conv with
  | some (.inj w) => w % 32
  | _ => d.get (CVU_SEQE_INPUT u s.entry)

/-- Build a result from the corrected samples of its span; beside it, that calibration by the bank in force holds it at full scale from
inside the range (R155). -/
def makeRes (d : Dev) (u input p tag : Nat) (inj late : Bool) (samples : List Int) (high aged : Bool) (t : Nat) : CvuRes × Bool :=
  let s := d.cvuS u
  let diff := d.bitN (CVU_CFG_DIFF u) (input / 2)
  let x := chainOut (prof d u p) samples
  let first : Int := (t : Int) - ((samples.length : Int) - 1) * 1000000000 / s.rate
  let bank := if first < s.bankAt then 1 - s.bank else s.bank
  let c := calibrate (d.ent (0x3020 + u) (2 + bank)) input diff x.1 x.2
  let bad := s.refFault || excOpen d u input
  (⟨c.1, high || c.2.1, bad, aged || d.bit (CVU_STATUS_CAL_STALE u), inj, late, input, tag, t⟩, c.2.1 && c.2.2 && decide (s.bankAt ≤ first))

/-- A result that calibration holds at full scale from inside the range, under a bank on trial: the health check has failed
(R155). -/
def calSat (u : Nat) (sat : Bool) (d : Dev) : Dev :=
  let s := d.cvuS u
  if sat && s.bankTrial then trialFails (0x400 + u) (d.setCvu u { s with bankFail := true }) else d

/-- The sequence after the result of a regular entry. -/
def afterReg (u : Nat) (d : Dev) : Dev :=
  let s := d.cvuS u
  if s.conv ≠ some .reg then d
  else if s.done + 1 < d.get (CVU_SEQE_OUTPUTS u s.entry) then d.setCvu u { s with done := s.done + 1 }
  else match nextEntry d u (s.entry + 1) with
    | some e => cvuNext u (d.setCvu u { s with entry := e, done := 0, conv := none, chain := [] })
    | none => passDone u d

/-! ### Slices, modes and rates (R143 to R149) -/

/-- Unit rate of a good count (R147). -/
def rateOf (good : Nat) : Nat := if good ≥ 8 then 20000000 else if good ≥ 5 then good * 2500000 else 0

/-- Number the ACTIVE slices' positions without a gap, in the order of their present positions; the former reserve last. -/
def renumber (l : List SliceS) : List SliceS :=
  l.map (fun x => if x.st = 0 then { x with pos := (l.filter (fun y => decide (y.st = 0 ∧ y.pos < x.pos))).length } else { x with pos := 15 })

/-- A new unit rate takes effect: the profiles are recomputed and the chain is cleared (R147, R175, R176). At a rate of 0 the unit only
goes out of service: CVU_RATE_CHANGE, which R160 raises at a change and R147 does not list for that row, is not raised (DESIGN CHOICE,
log entry 131). -/
def rateApply (u : Nat) (d : Dev) : Dev :=
  let s := d.cvuS u
  let r := rateOf (goodCount s)
  if r = s.rate then d
  else
    let d := d.setCvu u { s with rate := r, chain := [] }
    let d := if r = 0 then d
      else raise .CVU_RATE_CHANGE [u, s.rate, r] (d.flagUp (CVU_EVT_RATE_CHANGE u))
    if r = 0 then d
    else
      let d := profShow u d
      (upto 4).foldl (fun d p =>
        if (prof d u p).clamp then raise .CVU_COMB_CLAMP [u, p] d else d) d

/-- The unit takes the mode of its good count (R147, R148); a window that becomes pending on entry to FOREGROUND asks for the domain
(R149). What is queued, held or latched at the entry to OUT_OF_SERVICE is dropped (DESIGN CHOICE, log entry 155). -/
def modeFollow (u : Nat) (d : Dev) : Dev :=
  let s := d.cvuS u
  let g := goodCount s
  let m := if g = 9 then 0 else if g ≥ 5 then 1 else 2
  let l := if g = 9 then s.slices else renumber (s.slices.map (fun x => if x.st = 1 then { x with st := 0, pos := 14 } else x))
  let d := d.setCvu u { s with slices := l, mode := m,
                                fgPend := if m = 1 ∧ s.mode ≠ 1 then some d.now else if m = 2 then none else s.fgPend }
  if m = 2 ∧ s.mode ≠ 2 then
    let s := d.cvuS u
    let d := d.setCvu u { s with on := false, waiting := false, latched := false, conv := none, chain := [], queue := [], heldQ := [] }
    oosSequence u (raise .CVU_OUT_OF_SERVICE [u] (d.flagUp (CVU_EVT_OOS u)))
  else if m = 1 ∧ s.mode ≠ 1 ∧ 4 ≤ d.pwr.step then wakeDomain (cvuDom u) d
  else d

/-- Change slice `k`. -/
def setSlice (u k : Nat) (x : SliceS) (d : Dev) : Dev :=
  let s := d.cvuS u
  d.setCvu u { s with slices := s.slices.set k x }

/-- Slice `k` of a unit. -/
def sliceAt (d : Dev) (u k : Nat) : SliceS := (d.cvuS u).slices.getD k { st := 2, pos := 15 }

/-- A slice is retired (R146, R147): recorded in NV; the mode follows. -/
def retire (u k quantity : Nat) (value : Int) (d : Dev) : Dev :=
  let x := sliceAt d u k
  let d := setSlice u k { x with st := 2, pos := 15, suspect := false, passes := 0, trial := false } d
  let d := d.setEnt (0x3000 + u) 4 (setBit (d.ent (0x3000 + u) 4) k true)
  let p := 0x500 + 16 * u + k
  let d := if x.trial then
      let a : ActS := tabGet {} p d.sec.acts
      raise .ACT_ROLLED_BACK [p, a.version, if a.failed = 0 then 2 else a.failed]
        { d with sec.acts := tabIns p { a with st := 4 } d.sec.acts, sec.failing := d.sec.failing ++ [p] }
    else d
  modeFollow u (raise .CVU_SLICE_RETIRED [u, k, quantity, ux 32 value] (d.flagUp (CVU_EVT_RETIRED u)))

/-- The calibration of R145 passes. -/
def measOk (off gain : Int) : Bool := off.natAbs ≤ 64 && gain.natAbs ≤ 500

/-- A skew trim is applied, held within ±400 steps (R144). -/
def trimApply (u k : Nat) (t : Option Int) (d : Dev) : Dev :=
  match t with
  | none => d
  | some v =>
    let x := sliceAt d u k
    if v.natAbs > 400 then
      let d := setSlice u k { x with trim := clampI (-400) 400 v, sat := true } d
      raise .CVU_SKEW_LIMIT [u, k] (d.flagUp (CVU_EVT_SKEW_LIMIT u))
    else setSlice u k { x with trim := v, sat := false } d

/-- The outcome of one calibration of a good slice outside TRIAL (R146, R153): the raw errors are shown, and become the corrections in
force where it passes. An ACTIVE slice that fails in a window of FGCAL_NOW with nine good slices is treated as in FOREGROUND (DESIGN
CHOICE, log entry 154). -/
def calOutcome (u : Nat) (m : SliceMeas) (d : Dev) : Dev :=
  let k := m.slice
  let x := sliceAt d u k
  let q := if m.off.natAbs > 64 then 0 else 1
  let v := if m.off.natAbs > 64 then m.off else m.gain
  let x := { x with off := clampI (-2048) 2047 m.off, gain := clampI (-2048) 2047 m.gain }
  if measOk m.off m.gain then
    trimApply u k m.trim (setSlice u k { x with suspect := false, temp := d.sget THM_MEAN_MEAN, cOff := x.off, cGain := x.gain } d)
  else if x.suspect ∨ x.trial then retire u k q v (setSlice u k x d)
  else setSlice u k { x with suspect := true } d

/-- The mean difference `diff` from the reserve corrects offset and gain of ACTIVE slice `j` (R144). -/
def shadowCorrect (u j : Nat) (diff : Int) (d : Dev) : Dev :=
  let f := d.freeVal
  let x := sliceAt d u j
  let g : Int := if diff = 0 then 0 else sx 12 f.1
  setSlice u j { x with temp := d.sget THM_MEAN_MEAN, cOff := x.cOff + diff, cGain := x.cGain + g } f.2

/-- The end of a calibration window of slice `k`: its own measurement and the shadow phase, in which slice j differed from it
by `diff` LSB after corrections and its skew estimate, where updated, asks for a trim (R143 to R146, R152). Where several slices
disagree, the first of the list becomes RESERVE, and a round is complete where the next reserve's number is not above the present one's
(DESIGN CHOICE, log entries 129 and 130); the whole difference corrects the offset of slice j, and the correction of its gain is a free
value (DESIGN CHOICE, log entry 132). The shadow results of a TRIAL slice have no effect (DESIGN CHOICE, log entry 156). -/
def calWindow (u k : Nat) (off gain : Int) (shadow : List (Nat × Int × Option Int)) (d : Dev) : Dev :=
  if ¬ ((sliceAt d u k).st = 3 ∨ ((sliceAt d u k).st = 1 ∧ (d.cvuS u).mode = 0)) then d else
  let d := setSlice u k { sliceAt d u k with win := 0 } d
  let x := sliceAt d u k
  if x.st = 3 then
    if measOk off gain then
      setSlice u k { x with off := clampI (-2048) 2047 off, gain := clampI (-2048) 2047 gain, passes := min (x.passes + 1) 3,
                            temp := d.sget THM_MEAN_MEAN, cOff := clampI (-2048) 2047 off, cGain := clampI (-2048) 2047 gain } d
    else
      let d := setSlice u k { x with st := 2, pos := 15, passes := 0, off := clampI (-2048) 2047 off, gain := clampI (-2048) 2047 gain } d
      raise .CVU_REQUAL_FAILED [u, k] (d.flagUp (CVU_EVT_REQUAL_FAIL u))
  else
    let ok := measOk off gain
    let d := calOutcome u ⟨k, off, gain, none⟩ d
    if !ok then rateApply u d
    else
      let d := shadow.foldl (fun d y =>
        trimApply u y.1 y.2.2 (if (sliceAt d u y.1).st = 0 then
          shadowCorrect u y.1 y.2.1 d else d)) d
      let nxt := match shadow.find? (fun y => decide (y.2.1.natAbs > 32 ∧ (sliceAt d u y.1).st = 0)) with
        | some y => y.1
        | none => (k + 1) % 9
      let y := sliceAt d u nxt
      if y.st ≠ 0 then d
      else
        let d := setSlice u k { sliceAt d u k with st := 0, pos := y.pos } d
        let d := setSlice u nxt { y with st := 1, pos := 15, win := 0 } d
        let s := d.cvuS u
        if nxt ≤ k then d.setCvu u { s with rounds := s.rounds + 1 } else d

/-- A foreground window becomes pending (R149); it asks for its domain. -/
def fgPending (u : Nat) (d : Dev) : Dev :=
  let s := d.cvuS u
  if s.mode = 2 ∨ s.fgPend.isSome then d
  else wakeDomain (cvuDom u) (d.setCvu u { s with fgPend := some d.now })

/-- A foreground window ends (R146, R149, R150): slices pass or fail, a new rate takes effect, waiting requests are served in the order of
their arrival, a window that is pending again starts, and the sequence resumes. -/
def fgEnd (u : Nat) (meas : List SliceMeas) (d : Dev) : Dev :=
  let s := d.cvuS u
  if !s.fgBusy then d
  else
    let d := meas.foldl (fun d m => if (sliceAt d u m.slice).st ≤ 1 then calOutcome u m d else d) d
    let d := rateApply u d
    let s := d.cvuS u
    cvuNext u (d.setCvu u { s with fgBusy := false, queue := s.heldQ ++ s.queue, heldQ := [] })

/-- REQUALIFY bits (R152). -/
def requalify (u mask : Nat) (d : Dev) : Dev :=
  (upto 9).foldl (fun d k =>
    let x := sliceAt d u k
    if mask.testBit k ∧ x.st = 2 then setSlice u k { x with st := 3, passes := 0, win := 0 } d else d) d

/-- Calibration windows go on for `ns` of the powered time of unit `u`: that of the reserve while the rotation runs, and those of TRIAL
slices (R142, R143, R149, R152). -/
def windowsPass (u ns : Nat) (d : Dev) : Dev :=
  if !d.ready (cvuDom u) then d
  else
    let s := d.cvuS u
    let runs := fun (x : SliceS) => x.st = 3 ∨ (x.st = 1 ∧ s.mode = 0 ∧ !s.fgBusy)
    if s.slices.any (fun x => decide (runs x)) then
      d.setCvu u { s with slices := s.slices.map (fun x => if runs x then { x with win := min (x.win + ns) 8000000 } else x) }
    else d

/-- Activation of a requalified slice at an entry boundary (R153). -/
def sliceActivate (u k : Nat) (d : Dev) : Dev :=
  let x := sliceAt d u k
  if x.st = 3 ∧ x.passes = 3 then
    let s := d.cvuS u
    let nine := goodCount s = 8
    let pos := (s.slices.filter (fun y => decide (y.st = 0))).length
    let d := setSlice u k { x with st := if nine then 1 else 0, pos := if nine then 15 else pos, passes := 0, trial := true } d
    let d := d.setEnt (0x3000 + u) 4 (setBit (d.ent (0x3000 + u) 4) k false)
    cvuShow u (rateApply u (modeFollow u d))
  else d

/-- One reading of VREFPn (R138). -/
def refReading (u mv : Nat) (d : Dev) : Dev :=
  let s := d.cvuS u
  let out1 := decide (mv < 2475 ∨ mv > 2525)
  let in05 := decide (2488 ≤ mv ∧ mv ≤ 2512)
  let hit := if s.refFault then in05 else out1
  if !hit then d.setCvu u { s with refRun := 0 }
  else if s.refRun = 0 then d.setCvu u { s with refRun := 1 }
  else
    let d := d.setCvu u { s with refRun := 0, refFault := !s.refFault }
    cvuShow u (if s.refFault then d else raise .CVU_REF_FAULT [u, mv] (d.flagUp (CVU_EVT_REF_FAULT u)))

end Sys2Proof.Machine
end

