-- ==== Sys2Proof/Machine/Queues.lean ====
section
/-! DEFINITION. The egress queues of the switch and the VLAN table (R366, R367). -/

namespace Sys2Proof.Machine

/-- OBS counter `i` of port `p` (R377, R479). -/
def netCount (p i : Nat) (d : Dev) : Dev := count (0x110 + 5 * p + i) d

/-- The port is UP; the CPU port has no PHY and is UP while enabled (R363, R370, R371). -/
def portUp (d : Dev) (p : Nat) : Bool := d.get (FNS_PORTSTAT_LINK p) = 2 || (p = 6 && d.bit (FNS_PORTCFG_EN 6))

/-! ### The VLAN table (R366) -/

/-- VLAN entry `v` as it stood at the start of this cycle. -/
def vlanWord (d : Dev) (v : Nat) : Word :=
  match d.cyc.vlan0.find? (fun e => decide (e.1 = v)) with
  | some e => e.2
  | none => d.rd (FNS_VLAN v)

/-- The enabled entry of a VID. -/
def vlanOf (d : Dev) (vid : Nat) : Option Word :=
  ((upto 16).map (vlanWord d)).find? (fun w => w.getLsbD 31 && decide (wGet w 0 12 = vid))

/-- The VLAN of the device's own IP interface (R376). -/
def mgmtVid (d : Dev) : Nat := d.ent 0x1100 2

/-- The tag with which the device's own frame of class `c` leaves port `p`: one where MGMT_VID is tagged (R367). -/
def mgmtTag (d : Dev) (p c : Nat) : Option (Nat × Nat) :=
  match vlanOf d (mgmtVid d) with
  | some w => if (wGet w 12 7).testBit p && !(wGet w 19 7).testBit p then some (c, mgmtVid d) else none
  | none => none

/-! ### Queues (R367) -/

/-- Queue `c` of port `p`. -/
def Dev.queue (d : Dev) (p c : Nat) : List QFrame := tabGet [] (8 * p + c) d.net.queues

/-- Replace a queue. -/
def Dev.setQueue (d : Dev) (p c : Nat) (q : List QFrame) : Dev := { d with net.queues := tabPut [] (8 * p + c) q d.net.queues }

/-- Bytes of queued frames that satisfy `sel`. -/
def qBytes (sel : QFrame → Bool) (q : List QFrame) : Nat := (q.filter sel).foldl (fun n x => n + x.frame.len) 0

/-- Shared space in use. -/
def sharedUsed (d : Dev) : Nat := d.net.queues.foldl (fun n e => n + qBytes (·.shared) e.2) 0

/-- Queue a frame at egress port `p` in class `c`. -/
def enqueue (p c : Nat) (x : QFrame) (d : Dev) : Dev :=
  let q := d.queue p c
  let g := if c = 7 then 4096 else 2048
  if qBytes (fun x => !x.shared) q + x.frame.len ≤ g then d.setQueue p c (q ++ [{ x with shared := false }])
  else if sharedUsed d + x.frame.len ≤ 67584 then d.setQueue p c (q ++ [{ x with shared := true }])
  else d.bump (FNS_DROP_QFULL p)

end Sys2Proof.Machine
end

