-- ==== Sys2Proof/Machine/Cal.lean ====
section
/-! DEFINITION. UTC, local time and the astronomical calculator (R98 to R103). Days count from 1970-01-01, seconds from its
start; TAI seconds count from the PTP epoch (R4). -/

namespace Sys2Proof.Machine

/-! ### The calendar -/

/-- Day number of a civil date. -/
def dayOf (y m dd : Int) : Int :=
  let y := if m ≤ 2 then y - 1 else y
  let era := y / 400
  let yoe := y - era * 400
  let doy := (153 * (if m > 2 then m - 3 else m + 9) + 2) / 5 + dd - 1
  era * 146097 + (yoe * 365 + yoe / 4 - yoe / 100 + doy) - 719468

/-- Year and month of a day number. -/
def civilOf (day : Int) : Int × Int :=
  let z := day + 719468
  let era := z / 146097
  let doe := z - era * 146097
  let yoe := (doe - doe / 1460 + doe / 36524 - doe / 146096) / 365
  let doy := doe - (365 * yoe + yoe / 4 - yoe / 100)
  let mp := (5 * doy + 2) / 153
  let m := if mp < 10 then mp + 3 else mp - 9
  (yoe + era * 400 + (if m ≤ 2 then 1 else 0), m)

/-- Weekday, 0 Sunday. -/
def weekday (day : Int) : Nat := ((day + 4) % 7).toNat

/-- Days in a month. -/
def monthLen (y m : Int) : Int := (if m = 12 then dayOf (y + 1) 1 1 else dayOf y (m + 1) 1) - dayOf y m 1

/-! ### Rule sets (R99) -/

/-- A field of a rule word. -/
def ruleFld (w lo n : Nat) : Nat := w / 2 ^ lo % 2 ^ n

/-- A rule word passes R99 by itself. -/
def ruleWordOk (w : Nat) : Bool :=
  w / 2 ^ 23 = 0 &&
    (ruleFld w 4 3 = 0 ||
      (ruleFld w 4 3 ≤ 5 && 1 ≤ ruleFld w 0 4 && ruleFld w 0 4 ≤ 12 && ruleFld w 7 3 ≤ 6 && ruleFld w 10 11 ≤ 1439 && ruleFld w 21 2 ≤ 2))

/-- Start and end rules agree on WEEK 0 (R99). -/
def rulePairOk (s e : Nat) : Bool := decide (ruleFld s 4 3 = 0) == decide (ruleFld e 4 3 = 0)

/-- Standard offset and DST delta in seconds, start and end words of rule set `k`. -/
def ruleSet (d : Dev) (k : Nat) : Int × Int × Nat × Nat :=
  (60 * sx 16 (d.ent (0x2010 + k) 1), 60 * (d.ent (0x2010 + k) 2 : Nat), d.ent (0x2010 + k) 3, d.ent (0x2010 + k) 4)

/-- The day that a rule word names in a year. -/
def ruleDay (w : Nat) (y : Int) : Int :=
  let m : Int := ruleFld w 0 4
  let first := dayOf y m 1
  let lead : Int := ((ruleFld w 7 3 : Int) - weekday first) % 7
  let nth := first + lead + 7 * ((ruleFld w 4 3 : Int) - 1)
  if ruleFld w 4 3 = 5 then (if nth < first + monthLen y m then nth else nth - 7) else nth

/-- The UTC second of a change; `before` is the wall-clock offset in force before it. -/
def ruleInstant (w : Nat) (y std before : Int) : Int :=
  let l := ruleDay w y * 86400 + 60 * (ruleFld w 10 11 : Int)
  match ruleFld w 21 2 with
  | 0 => l - before
  | 1 => l - std
  | _ => l

/-- DST is in force at UTC second `u` (R99). -/
def inDst (d : Dev) (k : Nat) (u : Int) : Bool :=
  let (std, delta, s, e) := ruleSet d k
  if ruleFld s 4 3 = 0 then false
  else
    let y := (civilOf ((u + std) / 86400)).1
    [y - 1, y, y + 1].any (fun y =>
      let a := ruleInstant s y std std
      let b := ruleInstant e (if ruleFld s 0 4 > ruleFld e 0 4 then y + 1 else y) std (std + delta)
      a ≤ u && u < b)

/-! ### UTC and local time (R98, R100) -/

/-- UTC_OFFSET. -/
def utcOffset (d : Dev) : Int := sx 16 (d.ent 0x2005 1)

/-- UTC second of a TAI second under the present offset, leaps not regarded. -/
def utcPlain (d : Dev) (t : Int) : Int := t - utcOffset d

/-- The end of a UTC day at which a pending leap takes place, and its change: the end whose inserted second is in progress, else
the next one that the counter reaches; none while LEAP is 0 (R98). -/
def leapDue (d : Dev) : Option (Int × Int) :=
  let next := (utcPlain d (d.xtf.ns / 1000000000 : Nat) / 86400 + 1) * 86400
  match d.ent 0x2005 2 with
  | 1 => some (d.xtf.leapIn.getD next, 1)
  | 2 => some (next, -1)
  | _ => none

/-- TAI second of UTC second `u`, with the offset in force at it (R100). -/
def utcToTai (d : Dev) (u : Int) : Int :=
  let a := match leapDue d with
    | some (m, k) => if u ≥ m then k else 0
    | none => 0
  let b := match d.xtf.leapAt with
    | some (m, k) => if u < m then -k else 0
    | none => 0
  u + utcOffset d + a + b

/-- UTC second of TAI second `t`; an inserted leap second reads as the second before it (R100). -/
def taiToUtc (d : Dev) (t : Int) : Int :=
  let u := utcPlain d t
  match leapDue d, d.xtf.leapAt with
  | some (m, k), _ => if u < m - (if k < 0 then 1 else 0) then u else if k > 0 ∧ u = m then m - 1 else u - k
  | none, some (m, k) => if u ≥ m then u else if k > 0 ∧ u = m - 1 then m - 1 else u + k
  | none, none => u

/-- The local second of TAI second `t` under rule set `k`. -/
def taiToLocal (d : Dev) (k : Nat) (t : Int) : Int :=
  let u := taiToUtc d t
  let (std, delta, _, _) := ruleSet d k
  u + std + (if inDst d k u then delta else 0)

/-- UTC second of a local second: the first of two, and the offset before the change for one that does not exist (R100). -/
def localToUtc (d : Dev) (k : Nat) (l : Int) : Int :=
  let (std, delta, _, _) := ruleSet d k
  let a := l - std - delta
  let b := l - std
  if inDst d k a then a else b

/-- TIME64 of a local second (R100). -/
def localToTime (d : Dev) (k : Nat) (l : Int) : Int := utcToTai d (localToUtc d k l) * 1000000000

/-- The local date of a TIME64. -/
def localDate (d : Dev) (k : Nat) (t : Int) : Int := taiToLocal d k (t / 1000000000) / 86400

/-- The present local date of a rule set. -/
def today (d : Dev) (k : Nat) : Int := localDate d k d.time64

/-! ### Trigonometry of the calculator (R101)

Angles are in 10^-9 degree and values in 10^-12. Inside, radians and ratios carry 18 digits: series after a reduction to at
most 45° (DEDUCED, log entry 13: the manual gives the method and its limits, not its rounding). -/

/-- Ten to the twelfth: the scale of trigonometric values. -/
def trigOne : Int := 1000000000000

/-- Ten to the eighteenth: the scale of radians and ratios. -/
def radOne : Int := 1000000000000000000

/-- The series of which each factor divides the next term: sine from [6, 20, …], cosine from [2, 12, …]. -/
def trigSeries (x2 : Int) (l : List Int) : Int := l.foldr (fun n acc => radOne - x2 * acc / (n * radOne)) radOne

/-- Sine and cosine of an angle between −45° and 45°. -/
def sinCore (a : Int) : Int :=
  let x := a * 17453292519943295769 / 1000000000000
  rdiv (x * trigSeries (x * x / radOne) [6, 20, 42, 72, 110, 156, 210]) (radOne * 1000000)
def cosCore (a : Int) : Int :=
  let x := a * 17453292519943295769 / 1000000000000
  rdiv (trigSeries (x * x / radOne) [2, 12, 30, 56, 90, 132, 182, 240]) 1000000

/-- Sine of any angle. -/
def sinD (a : Int) : Int :=
  let q := (a + 45000000000) / 90000000000
  let t := a - 90000000000 * q
  match (q % 4).toNat with
  | 0 => sinCore t
  | 1 => cosCore t
  | 2 => -sinCore t
  | _ => -cosCore t

/-- Cosine of any angle. -/
def cosD (a : Int) : Int := sinD (a + 90000000000)

/-- Tangent; the declination, its one argument, stays below 24°. -/
def tanD (a : Int) : Int := rdiv (sinD a * trigOne) (cosD a)

/-- Arc tangent of a ratio from −tan 22.5° to tan 22.5°, in radians. -/
def atanCore (w : Int) : Int :=
  let w2 := w * w / radOne
  w * ([1, 3, 5, 7, 9, 11, 13, 15, 17, 19, 21, 23, 25, 27, 29, 31, 33, 35, 37, 39].foldr
    (fun n acc => radOne / n - w2 * acc / radOne) 0) / radOne

/-- Arc tangent of `y` / `x` in 10^-9 degree, for 0 ≤ `y` ≤ `x` and 0 < `x`. -/
def atanUnit (y x : Int) : Int :=
  let deg := fun (r : Int) => rdiv (r * 57295779513082320877) 1000000000000000000000000000
  if 1000 * y ≤ 414 * x then deg (atanCore (y * radOne / x))
  else 45000000000 + deg (atanCore ((y - x) * radOne / (y + x)))

/-- The angle of the point (`x`, `y`), from −180° to 180°; 0 at the origin. -/
def atan2D (y x : Int) : Int :=
  let ay : Int := y.natAbs
  let ax : Int := x.natAbs
  let a := if ax = 0 ∧ ay = 0 then 0 else if ay ≤ ax then atanUnit ay ax else 90000000000 - atanUnit ax ay
  let a := if x < 0 then 180000000000 - a else a
  if y < 0 then -a else a

/-- The other leg of a right triangle with hypotenuse 1 and leg `v`. -/
def otherLeg (v : Int) : Int := rootOf 40 (trigOne * trigOne - v * v).toNat

/-- Arc sine and arc cosine of a value between −1 and 1. -/
def asinD (v : Int) : Int := atan2D v (otherLeg v)
def acosD (v : Int) : Int := atan2D (otherLeg v) v

/-! ### The calculator (R101 to R103) -/

/-- A product of two trigonometric values. -/
def tmul (a b : Int) : Int := rdiv (a * b) trigOne

/-- An angle brought to −180° to 180°. -/
def wrap180 (a : Int) : Int := (a + 180000000000) % 360000000000 - 180000000000

/-- Nanoseconds in a day. -/
def dayNs : Int := 86400000000000

/-- Declination and local hour angle of the sun at TIME64 `t`, in 10^-9 degree (R101). -/
def sunAt (d : Dev) (t : Int) : Int × Int :=
  let dn := t - 946727967816000000
  let g := 357529000000 + rdiv (985600280 * dn) dayNs
  let q := 280459000000 + rdiv (985647360 * dn) dayNs
  let l := q + rdiv (1915000000 * sinD g) trigOne + rdiv (20000000 * sinD (2 * g)) trigOne
  let e := 23439000000 - rdiv (360 * dn) dayNs
  let ra := atan2D (tmul (cosD e) (sinD l)) (cosD l)
  let dec := asinD (tmul (sinD e) (sinD l))
  let du := dn - (utcOffset d * 1000000000 + 32184000000)
  let gmst := 280460618370 + rdiv (36098564736629 * du) (100 * dayNs)
  let lon := 100 * sx 32 (d.ent 0x2020 2)
  (dec, wrap180 (gmst + lon - ra))

/-- Altitude of event `n` in 10^-9 degree (R101). -/
def eventAlt (n : Nat) : Int :=
  match n with
  | 1 | 9 => -18000000000
  | 2 | 8 => -12000000000
  | 3 | 7 => -6000000000
  | _ => -833000000

/-- An hour angle as a time: 360.98564736629° in a day. -/
def angleNs (h : Int) : Int := rdiv (h * dayNs * 100) 36098564736629

/-- The ratio c of R101 for event `n` at declination `dec`. At a pole, where the divisor is 0, c lies beyond 1 or −1 as the sign of
its numerator says: the sun stays below or above the altitude all day (R103). -/
def sunC (d : Dev) (n : Nat) (dec : Int) : Int :=
  let lat := 100 * sx 32 (d.ent 0x2020 1)
  let num := sinD (eventAlt n) - tmul (sinD lat) (sinD dec)
  let den := tmul (cosD lat) (cosD dec)
  if den = 0 then (if 0 < num then 2 * trigOne else -2 * trigOne) else rdiv (num * trigOne) den

/-- One pass: the event time computed at `t`, and c. -/
def sunPass (d : Dev) (n : Nat) (t : Int) : Int × Int :=
  let (dec, h) := sunAt d t
  let noon := t - angleNs h
  if n = 5 then (noon, 0)
  else
    let c := sunC d n dec
    let h0 := acosD (clampI (-trigOne) trigOne c)
    (if n < 5 then noon - angleNs h0 else noon + angleNs h0, c)

/-- Event `n` of a local date: its TIME64, or which of above (c < −1) and below (c > 1) makes it absent. Three passes, the
first at 12:00 local standard time under the present UTC_OFFSET (R101, R103, R129). -/
def sunEvent (d : Dev) (day : Int) (n : Nat) : Nat × Bool × Bool :=
  let k := d.ent 0x2020 3
  let t0 := (day * 86400 + 43200 - (ruleSet d k).1 + utcOffset d) * 1000000000
  let p1 := sunPass d n t0
  let p2 := sunPass d n p1.1
  let p3 := sunPass d n p2.1
  if p3.2 < -trigOne then (0, true, false)
  else if p3.2 > trigOne then (0, false, true)
  else (p3.1.toNat, false, false)

/-- The nine events of a date with the bits of ALWAYS_ABOVE and ALWAYS_BELOW. -/
def sunDay (d : Dev) (day : Int) : Int × List Nat × Nat × Nat :=
  let ev := (upto 9).map (fun i => sunEvent d day (i + 1))
  (day, ev.map (fun x => x.1),
    (ev.foldr (fun x m => 2 * m + x.2.1.toNat) 0), (ev.foldr (fun x m => 2 * m + x.2.2.toNat) 0))

/-- The stored event of a date, computed where the date is not among the stored ones. -/
def sunLookup (d : Dev) (day : Int) (n : Nat) : Option Int :=
  let t := match d.xtf.sun.find? (fun x => x.1 = day) with
    | some x => x.2.1.getD (n - 1) 0
    | none => (sunEvent d day n).1
  if t = 0 then none else some t

/-- Azimuth and elevation in 0.01° at TIME64 `t` (R101, R102). -/
def sunPosition (d : Dev) (t : Int) : Nat × Int :=
  let (dec, h) := sunAt d t
  let lat := 100 * sx 32 (d.ent 0x2020 1)
  let elev := asinD (tmul (sinD lat) (sinD dec) +
    tmul (tmul (cosD lat) (cosD dec)) (cosD h))
  let azim := atan2D (-sinD h) (tmul (tanD dec) (cosD lat) - tmul (sinD lat) (cosD h))
  ((rdiv azim 10000000 % 36000).toNat, rdiv elev 10000000)

end Sys2Proof.Machine
end

