-- ==== Sys2Proof/Machine/LdgOps.lean ====
section
/-! DEFINITION. The action ledger but for the actions themselves: entries and their checks, occurrences and their instants,
arming, time steps, recomputation, late occurrences and wakes (R105 to R132). An occurrence that is to post is put on the
list `ldg.due`, which the posting operations of the whole device empty. -/

namespace Sys2Proof.Machine

/-- The counter has no meaning: UNSET, or LOCKING from UNSET before the first offset has stepped it (R82, R124). -/
def tbUnset (d : Dev) : Bool := d.xtf.st = .unset || d.xtf.fromUnset

/-! ### Entries (R105 to R109) -/

/-- An entry as its eight words. -/
structure LWords where
  ctrl  : Nat
  timeA : Nat
  timeB : Nat
  perLo : Nat
  perHi : Nat
  cnt   : Nat
  target : Nat
  value : Nat
deriving DecidableEq, Repr

/-- Address of entry `e` = book × 256 + entry. -/
def ldgAddr (e : Nat) : Nat := 0x41300000 + e / 256 * 0x2000 + e % 256 * 0x20

/-- The eight words as numbers. -/
def LWords.ofNat (x : Nat) : LWords :=
  let w := fun (i : Nat) => x / 2 ^ (32 * i) % 2 ^ 32
  ⟨w 0, w 1, w 2, w 3, w 4, w 5, w 6, w 7⟩

/-- The content of an entry. -/
def ldgEntry (d : Dev) (e : Nat) : LWords := LWords.ofNat (memRead d.win (ldgAddr e) 32)

/-- A bit field. -/
def fld (x lo n : Nat) : Nat := x / 2 ^ lo % 2 ^ n

def LWords.en (w : LWords) : Bool := w.ctrl.testBit 0
def LWords.tkind (w : LWords) : Nat := fld w.ctrl 1 2
def LWords.late (w : LWords) : Nat := fld w.ctrl 3 2
def LWords.req (w : LWords) : Bool := w.ctrl.testBit 5
def LWords.catchup (w : LWords) : Bool := w.ctrl.testBit 6
def LWords.action (w : LWords) : Nat := fld w.ctrl 8 8
def LWords.wakeLead (w : LWords) : Nat := fld w.ctrl 16 16
/-- PERIOD in ns (R109). -/
def LWords.period (w : LWords) : Nat := 5 * (w.perLo + fld w.perHi 0 16 * 2 ^ 32)
def LWords.guardSrc (w : LWords) : Nat := fld w.perHi 16 8
def LWords.guardEn (w : LWords) : Bool := w.perHi.testBit 24
def LWords.guardPol (w : LWords) : Bool := w.perHi.testBit 25
/-- Weekday mask of a LOCAL or ASTRO entry. -/
def LWords.days (w : LWords) : Nat := if w.tkind = 1 then fld w.timeA 19 7 else fld w.timeA 4 7
/-- Rule set of a LOCAL or ASTRO entry (R110). -/
def LWords.rule (d : Dev) (w : LWords) : Nat := if w.tkind = 1 then fld w.timeA 17 2 else d.ent 0x2020 3

def Dev.lent (d : Dev) (e : Nat) : LEnt := tabGet {} e d.ldg.ents
def Dev.setLent (d : Dev) (e : Nat) (x : LEnt) : Dev := { d with ldg.ents := tabPut {} e x d.ldg.ents }
/-- Book `b` is armed. -/
def bookArmed (d : Dev) (b : Nat) : Bool := d.ldg.armed.testBit b

/-! ### The check of R115 -/

/-- A book-control TARGET that an entry of book `b` may name (R114). -/
def bookAllowed (b t : Nat) : Bool := if b ≤ 11 then t ≤ 11 else if b = 14 then t ≤ 14 else b = 15

/-- Mask of the reserved bits of a register. -/
def reservedMask (a : Nat) : Word :=
  match findReg a with
  | none => 0
  | some (r, _) => ~~~(r.fields.foldl (fun m f => if f.acc = .rsvd then m else m ||| wMask f.lo f.width) 0)

/-- A privileged address of an MDU or AIO register (R112). -/
def ioReg (a : Nat) : Bool := decide (0x40310000 ≤ a ∧ a < 0x40330000) && (findReg a).isSome

/-- The target check of R112, R114 and R115 for an entry of book `b`: 0, 1 ERR_FIELD or 3 ERR_TARGET. -/
def targetCheck (b : Nat) (w : LWords) : Nat :=
  let t := w.target
  let v := w.value
  let no := fun (tok vok : Bool) => if !tok then 3 else if !vok then 1 else 0
  match w.action with
  | 0x00 | 0x0B => no (t = 0) (v = 0)
  | 0x01 => no (t < 16) (v = 0)
  | 0x02 => no (t < 4) (v / 65536 = 0 && !v.testBit 7 && v % 32 ≤ 23)
  | 0x03 | 0x04 => no (t < 32) (v < 65536)
  | 0x05 => no (t < 2) (v < 32768)
  | 0x06 | 0x07 | 0x08 => no (ioReg t) ((BitVec.ofNat 32 v &&& reservedMask t) = 0)
  | 0x09 => no (t < 8) true
  | 0x0A => no (t < 64) (v = 0)
  | 0x0C | 0x0D => no (t < 64) (v = 0)
  | 0x0E | 0x0F => no (t < 16 && bookAllowed b t) (v = 0)
  | 0x10 => no (t < 256 && bookAllowed b (t % 16) && bookAllowed b (t / 16)) (v = 0)
  | _ => no (t = 0) true

/-- The check of R115 for an enabled entry of book `b`: 0 OK, 1 ERR_FIELD, 2 ERR_ACTION, 3 ERR_TARGET. -/
def entryCheck (b : Nat) (w : LWords) : Nat :=
  if !w.en then 0
  else if w.ctrl.testBit 7 ∨ w.tkind = 3 ∨ w.late = 3 ∨ w.perHi / 2 ^ 26 ≠ 0 then 1
  else if w.tkind ≠ 0 ∧ w.period ≠ 0 then 1
  else if w.tkind = 1 ∧ (fld w.timeA 0 17 > 86399 ∨ fld w.timeA 26 6 ≠ 0 ∨ w.timeB ≠ 0) then 1
  else if w.tkind = 2 ∧ (fld w.timeA 0 4 < 1 ∨ fld w.timeA 0 4 > 9 ∨ fld w.timeA 11 4 ≠ 0 ∨
      (sx 17 (fld w.timeA 15 17)).natAbs > 43200 ∨ fld w.timeB 0 17 > 86399 ∨ w.timeB / 2 ^ 17 ≠ 0) then 1
  else if w.guardEn ∧ w.guardSrc > 0x82 then 1
  else if w.action > 0x11 then 2
  else targetCheck b w

/-! ### Occurrences (R109, R110, R116, R127) -/

/-- The instant of occurrence `i` in ns, and whether FALLBACK gave it (R109, R127). -/
def instant (d : Dev) (w : LWords) (i : Nat) : Int × Bool :=
  match w.tkind with
  | 0 => ((w.timeA + w.timeB * 2 ^ 32 + i * w.period : Nat), false)
  | 1 => (localToTime d (w.rule d) ((i : Int) * 86400 + (fld w.timeA 0 17 : Nat)), false)
  | _ =>
    match sunLookup d i (fld w.timeA 0 4) with
    | some t => (t + sx 17 (fld w.timeA 15 17) * 1000000000, false)
    | none => (localToTime d (w.rule d) ((i : Int) * 86400 + (fld w.timeB 0 17 : Nat)), true)

/-- An index has been consumed. -/
def isConsumed (x : LEnt) (i : Nat) : Bool := x.consumed.any (fun p => decide (p.1 ≤ i ∧ i ≤ p.2))

/-- Add the interval `lo`–`hi` to the consumed indices, joining intervals that meet. -/
def addConsumed (lo hi : Nat) : List (Nat × Nat) → List (Nat × Nat)
  | [] => [(lo, hi)]
  | (a, b) :: t =>
    if hi + 1 < a then (lo, hi) :: (a, b) :: t
    else if b + 1 < lo then (a, b) :: addConsumed lo hi t
    else addConsumed (min a lo) (max b hi) t

/-- The first index from `i` that has not been consumed. -/
def skipConsumed (i : Nat) : List (Nat × Nat) → Nat
  | [] => i
  | (a, b) :: t => if a ≤ i ∧ i ≤ b then skipConsumed (b + 1) t else skipConsumed i t

/-- The date `day` is one that the DAYS mask selects (R110). -/
def daySelected (w : LWords) (day : Nat) : Bool := w.days.testBit (weekday day)

/-- The first unconsumed date from `day` that DAYS selects and whose instant lies strictly after `after`. The fuel bounds the
dates and intervals looked at: past the last consumed date a selected one comes within a week. -/
def firstDay : Nat → Dev → LWords → LEnt → Int → Nat → Option Nat
  | 0, _, _, _, _, _ => none
  | fuel + 1, d, w, x, after, day =>
    let n := skipConsumed day x.consumed
    if n = day ∧ daySelected w day ∧ (instant d w day).1 > after then some day
    else firstDay fuel d w x after (if n = day then day + 1 else n)

/-- The first unconsumed occurrence whose instant lies strictly after `after` (R110, R116, R122). -/
def nextAfter (d : Dev) (w : LWords) (x : LEnt) (after : Int) : Option Nat :=
  if w.tkind = 0 then
    let base : Int := (instant d w 0).1
    let p := w.period
    let n0 : Nat := if base > after then 0 else if p = 0 then 1 else ((after - base) / (p : Int)).toNat + 1
    let n := skipConsumed n0 x.consumed
    if p = 0 ∧ n > 0 then none else some n
  else if w.days = 0 then none
  else
    let day := (localDate d (w.rule d) after - 2).toNat
    let last := x.consumed.foldl (fun m p => max m p.2) day
    firstDay (last - day + 20) d w x after day

/-- The first unconsumed occurrence of an entry, unless it is retired. -/
def nextIdx (d : Dev) (e : Nat) : Option Nat :=
  let w := ldgEntry d e
  let x := d.lent e
  if !w.en || x.retired then none else nextAfter d w x x.start

/-- Consume the indices `lo`–`hi`, of which `n` count toward COUNT; the entry retires when COUNT is exhausted (R109, R116). -/
def consume (e lo hi n : Nat) (d : Dev) : Dev :=
  let w := ldgEntry d e
  let x := d.lent e
  let used := x.used + n
  d.setLent e { x with
    consumed := addConsumed lo hi x.consumed, used := used,
    retired := x.retired || (w.cnt ≠ 0xFFFFFFFF && used ≥ max w.cnt 1) || (w.tkind = 0 && w.period = 0) }

/-- The domains an action reaches (R112, R119). -/
def actionDomains (d : Dev) (code target value : Nat) : List Nat :=
  match code with
  | 0x01 => (if target % 4 ≠ 0 then [4] else []) ++ (if target / 4 % 4 ≠ 0 then [5] else [])
  | 0x02 => [cvuDom (target % 4)]
  | 0x03 => [ceaDom (target % 32)]
  | 0x04 =>
    let n := target % 32
    let ports := ((upto 16).filter (fun s => value.testBit s)).map (fun s => let w := outWin d n s; (upto w.2).map (w.1 + ·)) |>.flatten
    let hit := fun (b : Nat) => ports.any (fun p => decide (d.cget (CE_OUTRT_CLASS n p) = 1 ∧ d.cget (CE_OUTRT_BLOCK n p) = b))
    [ceaDom n] ++ (if hit 0 then [6] else []) ++ (if hit 1 then [7] else [])
  | 0x05 => [if target = 0 then 6 else 7]
  | 0x06 | 0x07 | 0x08 => [if target < 0x40320000 then 6 else 7]
  | 0x09 => [9]
  | 0x0A => [8]
  | 0x11 => [0, 1]
  | _ => []

/-! ### Guards (R111) -/

/-- The value of a guard source at the start of the present cycle. -/
def guardValue (d : Dev) (src : Nat) : Bool :=
  if src < 0x40 then (match d.cyc.gpio0 with | none => gpioIn d src | some m => m.testBit src)
  else if src < 0x80 then
    (d.cyc.flags0.getD (d.get LDG_FLAGS_LO_FLAGS + d.get LDG_FLAGS_HI_FLAGS * 2 ^ 32)).testBit (src - 0x40)
  else
    let st := d.cyc.tb0.getD d.xtf.st
    if src = 0x80 then st = .locked
    else if src = 0x81 then st = .locked || st = .holdover
    else d.cyc.rel0.getD d.pwr.released

/-- The guard and REQ of an entry allow a posting (R107, R111). -/
def entryAllowed (d : Dev) (w : LWords) : Bool :=
  (!w.guardEn || (guardValue d w.guardSrc != w.guardPol)) &&
    (!w.req || d.xtf.st = .locked || d.xtf.st = .holdover)

/-! ### Late and missed occurrences (R125, R134) -/

/-- `n` occurrences of entry `e` from index `i` are missed for one cause. -/
def ldgMissed (e i n : Nat) (d : Dev) : Dev :=
  if n = 0 then d
  else
    let x := d.lent e
    let d := d.setLent e { x with missed := min (x.missed + n) 65535 }
    let d := { d with ldg.missed := d.ldg.missed + n }
    raise .LEDGER_MISSED [e / 256, e % 256, i, n] d

/-- Occurrence `i` of entry `e` is consumed: one at FALLBACK raises its event and sets the flag (R127). -/
def ldgFallback (e i : Nat) (d : Dev) : Dev :=
  let fb := (instant d (ldgEntry d e) i).2
  let d := d.setLent e { d.lent e with fallbackLast := fb }
  if fb then raise .LEDGER_FALLBACK [e / 256, e % 256, i] d else d

/-- The same for the dates from `i` to `k` that are consumed together. -/
def spanFallback (e i k : Nat) (d : Dev) : Dev :=
  let w := ldgEntry d e
  if w.tkind ≠ 2 then d
  else ((List.range' i (k + 1 - i)).filter (fun j => daySelected w j && !isConsumed (d.lent e) j)).foldl (fun d j => ldgFallback e j d) d

/-- Put an occurrence on the list of those that are to post. -/
def ldgDue (e i : Nat) (late : Bool) (d : Dev) : Dev :=
  if d.ldg.due.any (fun x => x.entry = e ∧ x.idx = i) then d else { d with ldg.due := d.ldg.due ++ [⟨e, i, late⟩] }

/-- Unconsumed date indices from `i` with instants below `before` that DAYS selects, ascending. -/
def lateDays (d : Dev) (w : LWords) (x : LEnt) (before : Int) : Nat → Nat → List Nat
  | 0, _ => []
  | fuel + 1, i =>
    if (instant d w i).1 ≥ before + 172800000000000 then []
    else
      let t := lateDays d w x before fuel (i + 1)
      if daySelected w i && !isConsumed x i && (instant d w i).1 < before then i :: t else t

/-- The late occurrences of entry `e`: unconsumed, instants strictly after `after` and below `before`; the first index, the
last, and how many, at most what COUNT leaves (R109, R126). -/
def lateSpan (d : Dev) (e : Nat) (after before : Int) : Option (Nat × Nat × Nat) :=
  let w := ldgEntry d e
  let x := d.lent e
  let room : Option Nat := if w.cnt = 0xFFFFFFFF then none else some (max w.cnt 1 - x.used)
  let cut := fun (n : Nat) => match room with | none => n | some r => min n r
  match nextAfter d w x after with
  | none => none
  | some i =>
    if (instant d w i).1 ≥ before then none
    else if w.tkind = 0 then
      if w.period = 0 then some (i, i, 1)
      else
        let last := ((before - 1 - (instant d w 0).1) / (w.period : Int)).toNat
        let used := (x.consumed.filter (fun p => decide (i < p.1))).foldl (fun n p => n + (min p.2 last + 1 - min p.1 (last + 1))) 0
        let n := cut (last + 1 - i - used)
        some (i, if n < last + 1 - i - used then i + n - 1 else last, n)
    else
      let all := lateDays d w x before ((localDate d (w.rule d) before).toNat + 8 - i) i
      let l := all.take (cut all.length)
      match l.getLast? with
      | none => none
      | some k => some (i, k, l.length)

/-- The late policy for the occurrences of an entry made late by a step or a recomputation (R125). `now` is the counter. -/
def latePolicy (e : Nat) (after now : Int) (d : Dev) : Dev :=
  let w := ldgEntry d e
  match lateSpan d e after now with
  | none => d
  | some (i, k, n) =>
    match w.late with
    | 0 => ldgDue e k true (if n > 1 then ldgMissed e i (n - 1) (consume e i (k - 1) (n - 1) (spanFallback e i (k - 1) d)) else d)
    | 1 => ldgMissed e i n (consume e i k n (spanFallback e i k d))
    | _ =>
      let d := d.setLent e { d.lent e with start := now - 1 }
      if (nextIdx d e).isNone then d.setLent e { d.lent e with retired := true } else d

/-- Every enabled entry of the armed books. -/
def armedEntries (d : Dev) : List Nat :=
  (((upto 16).filter (bookArmed d)).map (fun b => (upto 256).map (b * 256 + ·))).flatten.filter (fun e => (ldgEntry d e).en)

/-! ### Arming (R121 to R124) -/

/-- The latest occurrence with an instant after `now` − 24 h and at or before `now` (R123). -/
def catchIdx (d : Dev) (w : LWords) (now : Int) : Option Nat :=
  let lo := now - 86400000000000
  if w.tkind = 0 then
    let base := (instant d w 0).1
    if base > now then none
    else
      let n := if w.period = 0 then 0 else ((now - base) / (w.period : Int)).toNat
      if (instant d w n).1 > lo then some n else none
  else
    let day := (localDate d (w.rule d) now).toNat
    ([day + 1, day, day - 1, day - 2].filter (fun i =>
      daySelected w i && decide (lo < (instant d w i).1 ∧ (instant d w i).1 ≤ now))).foldl
      (fun best i => match best with
        | none => some i
        | some b => if (instant d w i).1 > (instant d w b).1 then some i else some b) none

/-- An entry of a book that is being armed takes its starting point, and posts its catch-up occurrence (R122, R123). -/
def entryArm (e : Nat) (d : Dev) : Dev :=
  let w := ldgEntry d e
  if !w.en then d
  else
    let now : Int := d.time64
    let d := d.setLent e { d.lent e with start := now }
    if w.catchup && !(d.lent e).retired then
      match catchIdx d w now with
      | some i => if isConsumed (d.lent e) i then d else ldgDue e i true d
      | none => d
    else d

/-- Arming of book `b` whose check has passed (R122 to R124). -/
def bookArm (b : Nat) (d : Dev) : Dev :=
  if bookArmed d b then d
  else
    let d := { d with ldg.armed := setBit d.ldg.armed b true }
    let d := raise .LEDGER_BOOK_ARMED [b] d
    if tbUnset d then d else (upto 256).foldl (fun d i => entryArm (b * 256 + i) d) d

/-- Disarming of book `b`. -/
def bookDisarm (b : Nat) (d : Dev) : Dev :=
  if bookArmed d b then raise .LEDGER_BOOK_DISARMED [b] { d with ldg.armed := setBit d.ldg.armed b false } else d

/-- The first entry of book `b` that the check refuses, and the code (R115). -/
def bookCheck (d : Dev) (b : Nat) : Option (Nat × Nat) :=
  (upto 256).findSome? (fun i => let c := entryCheck b (ldgEntry d (b * 256 + i)); if c = 0 then none else some (i, c))

/-- The result of an ARM or DISARM, with the failing entry of an ARM. -/
def cmdResult (r fail : Nat) (d : Dev) : Dev := (d.set LDG_BOOKCMD_RESULT r).set LDG_BOOKCMD_FAIL_ENTRY fail

/-- An arm request for book `b` (R115, R121, R122): the result code, the failing entry and the device after it. -/
def armRequest (b : Nat) (d : Dev) : Nat × Nat × Dev :=
  match d.ldg.st with
  | 0 =>
    let l := d.ldg
    (0, 0, { d with ldg := { l with reqArm := setBit l.reqArm b true, reqDis := setBit l.reqDis b false } })
  | 1 =>
    if bookArmed d b then (0, 0, d)
    else match bookCheck d b with
      | some (i, c) => (c, i, d)
      | none => (0, 0, bookArm b d)
  | _ => (5, 0, d)

/-- A disarm request for book `b` (R121). -/
def disarmRequest (b : Nat) (d : Dev) : Nat × Dev :=
  match d.ldg.st with
  | 0 =>
    let l := d.ldg
    (0, { d with ldg := { l with reqArm := setBit l.reqArm b false, reqDis := setBit l.reqDis b true } })
  | 1 => (0, bookDisarm b d)
  | _ => (5, d)

/-- An initiator is entitled to book `b` (R106): cores are the runtime; the debug port acts as OWNER; the mirror agent as its
session. -/
def bookRole (d : Dev) (ini sess b : Nat) : Bool :=
  if ini < 8 then true
  else
    let role := d.roleOf ini sess
    if b ≤ 11 then role ≥ 2 else if b = 15 then role = 3 else false

/-- Book-control actions take effect at the end of their cycle; a swap whose incoming book is already armed only disarms the
outgoing one (R114). -/
def bookControl (code target : Nat) (d : Dev) : Dev :=
  let arm := fun (b : Nat) (d : Dev) => (armRequest b d).2.2
  match code with
  | 0x0E => arm (target % 16) d
  | 0x0F => (disarmRequest (target % 16) d).2
  | _ =>
    let e := (disarmRequest (target % 16) d).2
    if bookArmed d (target / 16 % 16) then e else arm (target / 16 % 16) e

/-- Step 9 of the power-up order (R121): books with AUTO_ARM, recorded requests, and books 14 and the day book. -/
def ldgStart (dayBook : Nat) (d : Dev) : Dev :=
  if d.ldg.st ≠ 0 then d
  else
    let d := { d with ldg.st := 1 }
    (upto 16).foldl (fun d b =>
      let want := if b = 14 then true else if b = 12 ∨ b = 13 then b = dayBook
        else (d.ent (0x2110 + b) 2 ≠ 0 || d.ldg.reqArm.testBit b) && !d.ldg.reqDis.testBit b
      if want then (armRequest b d).2.2 else d) d

/-- The ledger is suspended by a line failure (R74, R121). -/
def ldgSuspend (d : Dev) : Dev :=
  if d.ldg.st = 1 then raise .LEDGER_SUSPENDED [] { d with ldg.st := 2 } else d

/-- A full restart or power-down: OFF, with entry status retained (R121). -/
def ldgOff (d : Dev) : Dev :=
  let l := d.ldg
  { d with ldg := { l with st := 0, armed := 0, reqArm := 0, reqDis := 0, due := [], old := 0, ctl := [], commits := [], wakes := [], imgArm := [], events := [] } }

/-- Every armed book is treated as armed when the time base leaves UNSET (R124). -/
def ldgTimeSet (d : Dev) : Dev :=
  if d.ldg.st ≠ 1 then d else (armedEntries d).foldl (fun d e => entryArm e d) d

/-- The counter is stepped from `old` (R126). -/
def ldgStep (old : Nat) (d : Dev) : Dev :=
  if d.ldg.st ≠ 1 ∨ d.time64 ≤ old then d
  else (armedEntries d).foldl (fun d e =>
    if (d.lent e).retired then d else latePolicy e (max (d.lent e).start old) d.time64 d) d

/-- Instants have been recomputed; `pre` is the device before. An occurrence whose instant has changed to one in the past is late
(R125, R128). -/
def ldgRecompute (pre : Dev) (d : Dev) : Dev :=
  if d.ldg.st ≠ 1 ∨ tbUnset d then d
  else (armedEntries d).foldl (fun d e =>
    let w := ldgEntry d e
    if w.tkind = 0 then d
    else match nextIdx pre e with
      | none => d
      | some i =>
        if (instant d w i).1 ≠ (instant pre w i).1 ∧ (instant d w i).1 < d.time64 then latePolicy e ((instant d w i).1 - 1) d.time64 d else d) d

/-! ### Due occurrences (R116) and wakes (R119) -/

/-- The first unconsumed occurrence of entry `e` has its instant at or before the counter, and may post (R116, R124). -/
def dueIdx (d : Dev) (e : Nat) : Option Nat :=
  if d.ldg.st ≠ 1 ∨ !bookArmed d (e / 256) ∨ tbUnset d then none
  else match nextIdx d e with
    | some i => if (instant d (ldgEntry d e) i).1 ≤ d.time64 then some i else none
    | none => none

/-- LEAD_MIN of R119 in ns for an entry's domains. -/
def leadMin (d : Dev) (doms : List Nat) : Nat :=
  let offs := doms.filter (fun n => !d.ready n)
  if offs = [] then 0
  else
    let rmax := fun (n : Nat) => [150000, 150000, 150000, 150000, 200000, 200000, 80000, 80000, 150000, 100000, 50000, 5000000].getD n 0
    let ctx := fun (n : Nat) => (d.pwr.ctx.filter (fun x => domainOf x.1 = some n)).length
    let m := offs.foldl (fun m n => max m (rmax n + 20 * (ctx n - 512))) 0
    let st := d.get PMC_PSTATE_STATE
    let m := if st ≥ 2 then max m 50000 else m
    if st = 3 then m + (if d.ent 0xA001 8 = 1 then 1000000 else 2000000) else m

/-- The wake that was requested still stands: its occurrence is the entry's next one, and posts within the lead (R44, R119, R120). -/
def wakeStands (d : Dev) (x : LWake) : Bool :=
  decide (d.ldg.st = 1) && bookArmed d (x.entry / 256) && !tbUnset d && decide (nextIdx d x.entry = some x.idx) &&
    decide ((instant d (ldgEntry d x.entry) x.idx).1 ≤ d.time64 + x.lead)

/-- A wake requested for an occurrence keeps domain `n`. -/
def ldgKeeps (d : Dev) (n : Nat) : Bool := d.ldg.wakes.any (fun x => x.doms.contains n && wakeStands d x)

/-- The wake logic requests the domains of entry `e` (R119). -/
def ldgWake (e : Nat) (d : Dev) : Dev :=
  let w := ldgEntry d e
  if d.ldg.st ≠ 1 ∨ !bookArmed d (e / 256) ∨ tbUnset d then d
  else match nextIdx d e with
  | none => d
  | some i =>
    let doms := actionDomains d w.action w.target w.value
    if doms = [] then d
    else
      let k : LWake := ⟨e, i, max (1000 * w.wakeLead) (leadMin d doms), doms⟩
      let d := if d.get PMC_PSTATE_STATE ≥ 2 then wakeUp d else d
      doms.foldl (fun d n => wakeDomain n d) { d with ldg.wakes := k :: d.ldg.wakes.filter (fun x => x.entry ≠ e && wakeStands d x) }

/-- The wake logic powers an engine domain in time for the next speculative start of one of its slots (R119, R238). -/
def specWake (d : Dev) : Dev :=
  if d.pwr.step < 4 ∨ d.cea.eng = [] then d
  else [2, 3].foldl (fun d n =>
    if d.bitN PMC_DOMSTAT_ON n ∨ !specWithin d n (leadMin d [n]) then d
    else wakeDomain n (if d.get PMC_PSTATE_STATE ≥ 2 then wakeUp d else d)) d

/-! ### Commit and image (R130, R132) -/

/-- A held part of entry `e`, whose content is being replaced, is kept apart from the status that starts afresh (R118, R130). -/
def partOld (d : Dev) (e : Nat) (h : Nat × HeldPart) : Nat × HeldPart :=
  match h.2 with
  | .action code target value e' i first =>
    if e' = e then (h.1, .old code target value e i (if first then (instant d (ldgEntry d e) i).1.toNat else (d.lent e).posted) first) else h
  | _ => h

/-- Replace the content of entry `e` and start its status afresh (R130); dates the old content has consumed stay consumed
where both contents are LOCAL or both ASTRO. -/
def entryReplace (e x : Nat) (d : Dev) : Dev :=
  let d : Dev := { d with held := d.held.map (partOld d e) }
  let old := ldgEntry d e
  let w := LWords.ofNat x
  let s := d.lent e
  let keep := old.tkind = w.tkind && old.tkind ≠ 0
  let d := { d with win := memWrite d.win (ldgAddr e) x 32 }
  d.setLent e { consumed := if keep then s.consumed else [], start := d.time64 }

/-- An entry commit that has passed its check (R130): with a posting of the entry in this cycle, one that waits or one whose instant
has come, the new content applies from the next, and where R117 defers that posting, from the one after it (DESIGN CHOICE, log entry 151). -/
def entryCommit (e x : Nat) (d : Dev) : Dev :=
  if d.ldg.due.any (fun p => p.entry = e) || (dueIdx d e).isSome then { d with ldg.commits := d.ldg.commits ++ [(e, x)] } else entryReplace e x d

/-- The end of a cycle for the ledger: book control, then commits that met a posting, but for one whose posting has been deferred (R114,
R117, R130). -/
def ldgCycleEnd (d : Dev) : Dev :=
  let l := d.ldg.ctl
  let d := l.foldl (fun d x => bookControl x.1 x.2 d) { d with ldg.ctl := [] }
  let wait := fun (x : Nat × Nat) => d.ldg.due.any (fun p => p.entry = x.1)
  (d.ldg.commits.filter (fun x => !wait x)).foldl (fun d x => entryReplace x.1 x.2 d) { d with ldg.commits := d.ldg.commits.filter wait }

/-- Replace 32 bytes of a book's NV image (R130). -/
def imagePut (b i x : Nat) (d : Dev) : Dev :=
  let old := d.ent (0x2110 + b) 4
  let lo := old % 256 ^ (32 * i)
  let hi := old / 256 ^ (32 * i + 32)
  d.setEnt (0x2110 + b) 4 (lo + 256 ^ (32 * i) * (x + 2 ^ 256 * hi))

/-- The window without the page of book `b`. -/
def pageClear (b : Nat) (m : Mem) : Mem :=
  tabKeep (fun a => decide (a < 0x41300000 + b * 0x2000 ∨ 0x41300000 + (b + 1) * 0x2000 ≤ a)) m

/-- Load a book's NV image into the window (R106). -/
def imageLoadBook (b : Nat) (d : Dev) : Dev :=
  { d with win := memWrite (pageClear b d.win) (0x41300000 + b * 0x2000) (d.ent (0x2110 + b) 4) 8192 }

/-- Clear a book and its status (R106). -/
def bookClear (b : Nat) (d : Dev) : Dev :=
  let d := { d with win := pageClear b d.win }
  { d with ldg.ents := tabKeep (fun e => decide (e / 256 ≠ b)) d.ldg.ents }

/-- The writes of book images end, and their books' AUTO_ARM is restored (R132). -/
def imageRestore (d : Dev) : Dev :=
  d.ldg.imgArm.foldl (fun d x => d.setEnt (0x2110 + x.1) 2 x.2) { d with ldg.imgArm := [] }

/-- Enabled entries of a book. -/
def bookEnabled (d : Dev) (b : Nat) : Nat := ((upto 256).filter (fun i => (ldgEntry d (b * 256 + i)).en)).length

end Sys2Proof.Machine
end

