-- ==== Sys2Proof/Machine/TimeOps.lean ====
section
/-! DEFINITION. The time base: counter, states, servo, holdover, pulses and captures (R79 to R84, R92 to R98, R509). Rates
are in 1/256 ppb. -/

namespace Sys2Proof.Machine

/-! ### Rates (R509, R79) -/

/-- ±200 ppm. -/
def rateMax : Int := 51200000

/-- The rate adjustment R = F + S. -/
def rateAdj (d : Dev) : Int := clampI (-rateMax) rateMax (d.xtf.f + d.xtf.s)

/-- A duration of `ticks` × 5 ns under rate `r`, in 2^-32 ns. -/
def scaledTicks (ticks : Int) (r : Int) : Int := ticks * 5 * 4294967296 + ticks * 5 * 16777216 * r / 1000000000

/-- SLEW_MAX as a rate. -/
def slewMax (d : Dev) : Int := 256 * (d.ent 0x2001 11 : Nat)

/-- LOCK_THRESHOLD, STEP_THRESHOLD and HOLDOVER_LIMIT in ns. -/
def lockThr (d : Dev) : Nat := d.ent 0x2001 12
def stepThr (d : Dev) : Nat := d.ent 0x2001 10
def hoLimit (d : Dev) : Nat := d.ent 0x2001 14

/-! ### Holdover table (R96) -/

/-- The mean die temperature in 0.01 °C (R464). -/
def meanTemp (d : Dev) : Int := d.sget THM_MEAN_MEAN

/-- The bin of a temperature: 2 °C each from −30 °C. -/
def hoBin (t : Int) : Nat := (clampI 0 79 ((t + 3000) / 200)).toNat

/-- Centre of a bin in 0.01 °C. -/
def binCentre (k : Nat) : Int := -2900 + 200 * (k : Int)

/-- The learned bins, with their values. -/
def learned (d : Dev) : List (Nat × Int) := d.xtf.bins.filterMap (fun b => if b.2.n = 0 then none else some (b.1, b.2.f))

/-- The line through two bins at temperature `t`. -/
def lineAt (a b : Nat × Int) (t : Int) : Int :=
  a.2 + rdiv ((b.2 - a.2) * (t - binCentre a.1)) (binCentre b.1 - binCentre a.1)

/-- The two learned bins nearest to `t`. -/
def nearestTwo (l : List (Nat × Int)) (t : Int) : Option ((Nat × Int) × (Nat × Int)) :=
  let dist := fun (b : Nat × Int) => (binCentre b.1 - t).natAbs
  let pick := fun (l : List (Nat × Int)) => l.foldl (fun (m : Option (Nat × Int)) b => match m with
    | none => some b
    | some x => if dist b < dist x then some b else some x) none
  match pick l with
  | none => none
  | some a => match pick (l.filter (fun b => b.1 ≠ a.1)) with
    | none => none
    | some b => some (a, b)

/-- The table value at the present temperature (R96): between the bin of the temperature and its neighbour, or on the line
of the two nearest learned bins where that bin is empty. Where the bin is learned and the neighbour on the temperature's side is
empty, the bin's value is held without interpolation (DESIGN CHOICE, log entry 121). -/
def tableRate (d : Dev) : Int :=
  let t := meanTemp d
  let l := learned d
  let k := hoBin t
  match nearestTwo l t with
  | none => d.xtf.hoMean
  | some (a, b) =>
    match l.find? (fun x => x.1 = k) with
    | some x =>
      match l.find? (fun y => decide ((y.1 : Int) = k + (if t < binCentre k then -1 else 1))) with
      | some y => lineAt x y t
      | none => x.2
    | none => lineAt a b t

/-- In HOLDOVER the frequency estimate follows the table. -/
def hoFollow (d : Dev) : Dev :=
  if d.xtf.st = .holdover ∧ d.bit XTF_CTRL_SERVO_EN then { d with xtf.f := clampI (-rateMax) rateMax (tableRate d) } else d

/-- The mean of F over the last 16 s, or since entry to LOCKING where that is shorter (R96). -/
def fMean (d : Dev) : Int :=
  let x := d.xtf
  let lo := max x.lockAt (d.now - 16000000000)
  let r := x.fHist.foldl (fun (a : Int × Nat) e =>
    let from_ := max e.1 lo
    if from_ ≥ a.2 then a else (a.1 + e.2 * ((a.2 - from_ : Nat) : Int), from_)) (0, d.now)
  if d.now ≤ r.2 then x.f else rdiv r.1 ((d.now - r.2 : Nat) : Int)

/-- Floor of RATE_BOUND in ppb. -/
def rateFloor (d : Dev) : Nat := if d.ent 0xA001 8 = 1 then 5 else 50

/-- RATE_BOUND in ppb (R96). -/
def rateBound (d : Dev) : Nat := max (rateFloor d) (d.ent 0x2030 2)

/-- Enter one average into a running value: the first 16 equally, later ones with weight 1/16 (R96). -/
def filt16 (n : Nat) (old x : Int) : Int :=
  if n < 16 then rdiv (old * n + x) (n + 1) else old + rdiv (x - old) 16

/-- A new span of 16 s for learning begins. -/
def learnStart (d : Dev) : Dev :=
  let x := d.xtf
  { d with xtf := { x with learnAt := d.now, tBase := x.tInt, tMarks := [] } }

/-- The mean die temperature over the present span (R96). -/
def spanTemp (d : Dev) : Int :=
  if d.now ≤ d.xtf.learnAt then meanTemp d else rdiv (5 * (d.xtf.tInt - d.xtf.tBase)) ((d.now - d.xtf.learnAt : Nat) : Int)

/-- The mean die temperature over second `i` of the present span; the present one where that second is not over (R96). -/
def secTemp (d : Dev) (i : Nat) : Int :=
  let l := d.xtf.tBase :: d.xtf.tMarks.reverse
  if i + 1 < l.length then rdiv (l.getD (i + 1) 0 - l.getD i 0) 200000000 else meanTemp d

/-- The 32.768 kHz value `v` of one second enters the bin of its temperature. -/
def learn32 (t v : Int) (x : XtfS) : XtfS :=
  let b : HoBin := tabGet {} (hoBin t) x.bins
  { x with bins := tabPut {} (hoBin t) { b with n32 := b.n32 + 1, f32 := filt16 b.n32 b.f32 v } x.bins }

/-- One learning step: the average of F over 16 s enters the bin of the mean temperature over them, and the 32.768 kHz value of
each second the bin of that second; the seconds whose end a tick has seen have entered theirs (R96). -/
def hoLearn (avg : Int) (x32 : List Int) (d : Dev) : Dev :=
  let k := hoBin (spanTemp d)
  let x := d.xtf
  let b : HoBin := tabGet {} k x.bins
  let x := if b.n = 0 then x else { x with rbSum := x.rbSum + ((avg - b.f) * (avg - b.f)).toNat, rbN := x.rbN + 1 }
  let x : XtfS := { x with bins := tabPut {} k { b with n := b.n + 1, f := filt16 b.n b.f avg } x.bins }
  let x := (x32.zipIdx.drop x.tMarks.length).foldl (fun x v => learn32 (secTemp d v.2) v.1 x) x
  let d := learnStart { d with xtf := x }
  let d := d.setEnt 0x2030 1 (learned d).length
  let rms := if d.xtf.rbN = 0 then 0 else rootOf 32 (9 * d.xtf.rbSum / d.xtf.rbN)
  d.setEnt 0x2030 2 (max (rateFloor d) ((rms + 128) / 256))

/-- HOLDOVER.CLEAR; in HOLDOVER, F then follows the empty table (R96). -/
def hoClear (d : Dev) : Dev :=
  let x := d.xtf
  let d := { d with xtf := { x with bins := [], rbSum := 0, rbN := 0 } }
  hoFollow ((d.setEnt 0x2030 1 0).setEnt 0x2030 2 (rateFloor d))

/-! ### Error estimate (R97) -/

/-- All ones: no estimate. -/
def errNone : Nat := 0xFFFFFFFF

/-- The error bounds of the clockAccuracy codes from 0x17 on, in ps (IEEE 1588-2019 Table 5). -/
def accPs : List Nat :=
  [1, 3, 10, 25, 100, 250, 1000, 2500, 10000, 25000, 100000, 250000, 1000000, 2500000, 10000000, 25000000, 100000000, 250000000,
    1000000000, 2500000000, 10000000000, 25000000000, 100000000000, 250000000000, 1000000000000, 10000000000000]

/-- The error in ns that a clockAccuracy implies, rounded up; none for a code that states no bound (IEEE 1588-2019 Table 5). -/
def clockAccNs (a : Nat) : Nat :=
  if 0x17 ≤ a ∧ a ≤ 0x30 then (accPs.getD (a - 0x17) 0 + 999) / 1000 else errNone

/-- The upstream term. -/
def upstream (d : Dev) : Nat :=
  if d.xtf.src = 1 then (match d.xtf.parent with | some p => clockAccNs p.acc | none => errNone)
  else if d.xtf.src = 2 then d.ent 0x2004 7 else 0

/-- E0 + RATE_BOUND × t. -/
def hoErr (d : Dev) : Nat := d.xtf.e0 + rateBound d * (d.now - d.xtf.hoAt) / 1000000000

/-- The error estimate E in ns, saturating (R97). -/
def errEst (d : Dev) : Nat :=
  let x := d.xtf
  let add := 2 * x.on32ns / 1000000
  let e := match x.st with
    | .unset | .free => errNone
    | .holdover => hoErr d + add
    | _ =>
      if x.offs = [] then (if x.fromHo then hoErr d + add else errNone)
      else x.offs.foldl (· + ·) 0 / x.offs.length + upstream d + add
  min e errNone

/-- E is an estimate of the present error, not the mark of none (R97). -/
def errKnown (d : Dev) : Bool :=
  match d.xtf.st with
  | .unset | .free => false
  | .locked | .holdover => true
  | .locking => d.xtf.fromHo || !d.xtf.offs.isEmpty

/-- E crosses HOLDOVER_LIMIT upwards, as a computation finds it (R97). -/
def limitWatch (d : Dev) : Dev :=
  if !errKnown d then d
  else if errEst d ≤ hoLimit d then { d with xtf.limitHit := false }
  else if d.xtf.limitHit then d
  else raise .HOLDOVER_LIMIT [] { d with xtf.limitHit := true }

/-! ### States (R82) -/

/-- S returns to 0; while SERVO_EN is 0 the rate keeps its value, and S follows when the servo runs again (R509). -/
def slewStop (d : Dev) : Dev :=
  if d.bit XTF_CTRL_SERVO_EN then { d with xtf.s := 0, xtf.slewOver := false } else { d with xtf.slewOver := true }

/-- SERVO_EN is written: a slew whose time has passed ends, and in HOLDOVER F follows the table again (R509). -/
def servoFollow (d : Dev) : Dev :=
  hoFollow (if d.bit XTF_CTRL_SERVO_EN ∧ d.xtf.slewOver then slewStop d else d)

/-- Enter LOCKING: the servo starts and the consecutive counts restart. -/
def lockingEnter (d : Dev) : Dev :=
  let x := d.xtf
  let keep : Bool := x.st = .holdover || (x.st = .locking && x.fromHo)
  { d with xtf := { x with
      st := .locking, offs := [], good := 0, bad := 0, prev := none, lockAt := d.now, fHist := [(d.now, x.f)],
      fromHo := keep, fromUnset := x.st = .unset || x.fromUnset } }

/-- Enter HOLDOVER from LOCKED; E0 is E under the source that is lost (R82, R96, R97). -/
def holdoverEnter (d : Dev) : Dev :=
  let e := errEst d
  let m := fMean d
  let x := d.xtf
  let d := { d with xtf := { x with
      st := .holdover, src := 0, e0 := e, hoAt := d.now, hoSince := d.time64, hoMean := m, on32ns := 0, prev := none } }
  raise .TIME_HOLDOVER [] (hoFollow d)

/-- The source or the reference is lost: HOLDOVER from LOCKED, FREE from LOCKING (R82). A counter that no offset has stepped
since UNSET still has no meaning in FREE (DEDUCED, log entry 120). -/
def loseSource (d : Dev) : Dev :=
  match d.xtf.st with
  | .locked => holdoverEnter d
  | .locking => slewStop { d with xtf.src := 0, xtf.st := .free, xtf.prev := none }
  | _ => { d with xtf.src := 0 }

/-- The source that the present conditions give: PTP with a SLAVE port, else PPSIN when enabled and valid; none while the
reference is lost (R60, R93). -/
def sourceNow (d : Dev) : Nat :=
  if d.bit PMC_CLKSTAT_ON_RC then 0
  else if (upto 6).any (fun n => d.get (PTP_PORTSTAT_STATE n) = 9) then 1
  else if d.bit XTF_PPS_PPSIN_EN && d.xtf.ppsLast.isSome && d.xtf.st ≠ .unset then 2
  else 0

/-- Follow a change of the source (R82). Where another source is there at once, two rows of the table apply; the state goes to
LOCKING without HOLDOVER or TIME_HOLDOVER (DESIGN CHOICE, log entry 122). -/
def sourceRefresh (d : Dev) : Dev :=
  let s := sourceNow d
  if s = d.xtf.src then d
  else if s = 0 then loseSource d
  else
    let d := lockingEnter d
    { d with xtf.src := s }

/-! ### Leap seconds and steps (R83, R98) -/

/-- The leap at the end of UTC day `m` takes place (R98). -/
def leapApply (m k : Int) (d : Dev) : Dev :=
  let d := d.setEnt 0x2005 1 (ux 16 (utcOffset d + k))
  let d := d.setEnt 0x2005 2 0
  let d := { d with xtf.leapAt := some (m, k), xtf.leapIn := none }
  raise .LEAP_APPLIED [ux 16 (utcOffset d)] d

/-- A pending insertion has its second in progress when the counter stands in the second after the end of day `m` (R98). -/
def leapHold (m : Option Int) (d : Dev) : Dev :=
  match m with
  | some m => if d.ent 0x2005 2 = 1 ∧ utcPlain d (d.xtf.ns / 1000000000 : Nat) = m then { d with xtf.leapIn := some m } else { d with xtf.leapIn := none }
  | none => { d with xtf.leapIn := none }

/-- A step of the counter to `new` (R83, R98, R124, R126). It clears the fraction below 1 ns and ends a slew in progress (DESIGN
CHOICE, log entry 123). -/
def stepTo (new : Nat) (d : Dev) : Dev :=
  let old := d.time64
  let first := tbUnset d
  let lp := leapDue d
  let x := d.xtf
  let d := slewStop { d with xtf := { x with ns := new % 2 ^ 64, frac := 0, prev := none, fromUnset := false } }
  let d := raise .TIME_STEP [ux 64 ((new : Int) - old)] d
  let d := match lp with
    | some (m, k) =>
      if utcPlain d ((new / 1000000000 : Nat) : Int) ≥ m + (if k > 0 then 1 else -1) then leapApply m k d else leapHold (some m) d
    | none => d
  if first then d else ldgStep old d

/-- The time base has left UNSET by a step (R124). -/
def leaveUnset (was : Bool) (d : Dev) : Dev := if was && !tbUnset d then ldgTimeSet d else d

/-- SET_TIME and its equals (R82): the counter is stepped to `t`. Once the time is set, a valid PPSIN is a source (R93). -/
def setTime (t : Nat) (d : Dev) : Dev :=
  let was := tbUnset d
  let d := stepTo t d
  let x := d.xtf
  let d := match x.st with
    | .unset | .free | .holdover => sourceRefresh { d with xtf := { x with st := .free } }
    | .locking | .locked => lockingEnter d
  leaveUnset was d

/-! ### The servo (R82, R83, R509) -/

/-- Update of F from a measured offset. -/
def freqUpdate (o : Int) (src : Nat) (d : Dev) : Dev :=
  let x := d.xtf
  match x.prev with
  | some (oj, tj, rj, sj) =>
    if sj ≠ src ∨ d.now ≤ tj then d
    else
      let t : Int := (d.now - tj : Nat)
      let rm := rdiv (5 * (x.rInt - rj)) t
      let r := rm - rdiv (256000000000 * (o - oj)) t
      let f := clampI (-rateMax) rateMax (x.f + rdiv (r - x.f) 8)
      { d with xtf := { x with f := f, fHist := ((d.now, f) :: x.fHist).take 512 } }
  | none => d

/-- Step 8 of the power-up order completes (R84). -/
def timeAcquired (d : Dev) : Dev := if d.pwr.step = 7 then { d with pwr.step := 8 } else d

/-- The consecutive counts of R82. -/
def lockCount (o : Int) (d : Dev) : Dev :=
  let x := d.xtf
  let thr := lockThr d
  match x.st with
  | .locking =>
    let g := if o.natAbs < thr then x.good + 1 else 0
    if g ≥ 16 then
      raise .TIME_LOCKED [] (learnStart (timeAcquired { d with xtf := { x with st := .locked, good := 0, bad := 0, unsync := false } }))
    else { d with xtf := { x with good := g } }
  | .locked =>
    let b := if o.natAbs > 4 * thr then x.bad + 1 else 0
    if b ≥ 4 then lockingEnter d else { d with xtf := { x with bad := b } }
  | _ => d

/-- A measured offset `o` (local minus source) from source `src` (R82, R83, R97, R509). The time on 32.768 kHz that E counts starts
again with it (DESIGN CHOICE, log entry 124). -/
def measure (o : Int) (src : Nat) (d : Dev) : Dev :=
  if !d.bit XTF_CTRL_SERVO_EN ∨ d.xtf.src ≠ src ∨ !(d.xtf.st = .locking ∨ d.xtf.st = .locked) then d
  else
    let was := tbUnset d
    let x := d.xtf
    let d := { d with xtf := { x with lastOff := clampI (-2147483648) 2147483647 o, offs := (o.natAbs :: x.offs).take 16, on32ns := 0 } }
    if x.fromUnset ∨ o.natAbs > stepThr d then
      let d := stepTo ((d.time64 : Int) - o).toNat d
      limitWatch (lockCount o (leaveUnset was d))
    else
      let d := freqUpdate o src d
      let x := d.xtf
      let d := { d with xtf := { x with
          prev := some (o, d.now, x.rInt, src), s := if o > 0 then -slewMax d else if o < 0 then slewMax d else 0, slewOver := false } }
      limitWatch (lockCount o d)

/-! ### PPSIN, PPSOUT, TSYNC (R92 to R95) -/

/-- The pulse falls within n s ± 100 µs of the last valid one, n = 1, 2 or 3, in elapsed time (R92). -/
def ppsWindow (last el : Nat) : Bool :=
  [1, 2, 3].any (fun n => decide (((el : Int) - last - n * 4294967296000000000).natAbs ≤ 100000 * 4294967296))

/-- A PPSIN edge (R92, R93). -/
def ppsPulse (d : Dev) : Dev :=
  let x := d.xtf
  let ok : Bool := match x.ppsLast with | none => true | some l => ppsWindow l x.el
  if !ok then raise .PPS_REJECTED [] d
  else
    let cap : Int := (d.time64 : Int) - sx 32 (d.ent 0x2004 3)
    let d := { d with xtf := { x with ppsLast := some x.el, ppsMiss := 0, ppsCap := cap.toNat } }
    let o := (cap + 500000000) % 1000000000 - 500000000
    measure o 2 (sourceRefresh d)

/-- A pulse window closes without a valid pulse (R92). -/
def ppsMissing (d : Dev) : Dev :=
  let x := d.xtf
  if x.ppsLast.isNone then d
  else if x.ppsMiss + 1 ≥ 3 then
    let d := { d with xtf := { x with ppsLast := none, ppsMiss := 0 } }
    sourceRefresh (raise .PPS_LOST [] d)
  else { d with xtf := { x with ppsMiss := x.ppsMiss + 1 } }

/-- A write of PPSIN_EN (R82, R92): the next pulse after enabling is a first pulse. -/
def ppsEnable (d : Dev) : Dev := sourceRefresh { d with xtf.ppsLast := none, xtf.ppsMiss := 0 }

/-- The period of PPSOUT in ns: a second in mode 1, PPSOUT_PERIOD in mode 2; none in modes 0 and 3, which hold it low (R94). -/
def ppsPeriod (d : Dev) : Option Nat :=
  match d.get XTF_PPS_PPSOUT_MODE with
  | 1 => some 1000000000
  | 2 => some (d.get XTF_PPSOUT_PER_PERIOD)
  | _ => none

/-- The length of a pulse of period `p` in ns: PPSOUT_WIDTH, in mode 2 at most half the period (R94). -/
def ppsLen (d : Dev) (p : Nat) : Nat :=
  let w := 1000000 * max 1 (d.get XTF_PPS_PPSOUT_WIDTH)
  if d.get XTF_PPS_PPSOUT_MODE = 2 then min w (p / 2) else w

/-- PPSOUT rises, for the length of its pulse. -/
def ppsRise (p : Nat) (d : Dev) : Dev := { d with xtf.ppsOut := true, xtf.ppsEnd := d.now + ppsLen d p }

/-- PPSOUT after the counter has advanced from `old`: it falls when its pulse is over, and rises when the counter has reached a whole
multiple of the period (R94). -/
def ppsOutTick (old : Nat) (d : Dev) : Dev :=
  let d := if d.xtf.ppsOut ∧ d.xtf.ppsEnd ≤ d.now then { d with xtf.ppsOut := false } else d
  match ppsPeriod d with
  | none => d
  | some p => if old / p < d.xtf.ns / p then ppsRise p d else d

/-- An edge of PPSOUT (R94): it rises where the counter lies within 10 ns of a multiple of the period, and falls at the end of its
pulse. -/
def ppsOutEdge (level : Bool) (d : Dev) : Dev :=
  match ppsPeriod d, level with
  | none, _ => { d with xtf.ppsOut := false }
  | some p, true => if (d.xtf.ns + 10) % p ≤ 20 ∧ !d.xtf.ppsOut then ppsRise p d else d
  | some _, false => if d.xtf.ppsEnd ≤ d.now then { d with xtf.ppsOut := false } else d

/-- A TSYNC edge (R95). -/
def tsyncEdge (rising : Bool) (d : Dev) : Dev :=
  let e := d.get XTF_TSYNC_EDGE
  if !d.bit XTF_TSYNC_EN ∨ (e = 0 ∧ !rising) ∨ (e = 1 ∧ rising) then d
  else if d.xtf.tsFull then d.flagUp XTF_TSYNC_OVR
  else { d with xtf.tsCap := d.time64, xtf.tsFull := true }

/-! ### One tick (R79, R81) -/

/-- The length of a 32.768 kHz period in 2^-32 ns, corrected by the learned frequency of the present bin. -/
def edge32 (d : Dev) : Nat :=
  let b : HoBin := tabGet {} (hoBin (meanTemp d)) d.xtf.bins
  ((131072000000000 : Int) * 256000000000 / (256000000000 + b.f32)).toNat

/-- Add to the counter. -/
def xtfAdd (n : Nat) (x : XtfS) : XtfS :=
  let t := x.frac + n
  { x with ns := (x.ns + t / 4294967296) % 2 ^ 64, frac := t % 4294967296 }

/-- One PLL-CE cycle of the time base. -/
def xtfTick (d : Dev) : Dev :=
  let r := rateAdj d
  let x := d.xtf
  let x := { x with rInt := x.rInt + r, el := x.el + (scaledTicks 1 x.f).toNat }
  if x.on32 then
    let x := { x with on32ns := x.on32ns + 5 }
    if x.edge + 320 ≥ 1953125 then
      let x := xtfAdd (edge32 d) { x with edge := x.edge + 320 - 1953125 }
      { d with xtf := { x with on32 := !x.leave32, leave32 := false } }
    else { d with xtf := { x with edge := x.edge + 320 } }
  else { d with xtf := xtfAdd (scaledTicks 1 r).toNat x }

/-- A second of learning is over: the deviation of the 32.768 kHz crystal measured in it, a free value, enters its bin (R96). -/
def secLearn (d : Dev) : Dev :=
  let f := d.freeVal
  let x := d.xtf
  let x := { x with tMarks := (x.tInt :: x.tMarks).take 16 }
  { f.2 with xtf := learn32 (secTemp { d with xtf := x } (x.tMarks.length - 1)) (sx 32 f.1) x }

/-- Seconds of learning pass while LOCKED (R96). -/
def learnTick (d : Dev) : Dev :=
  let d := { d with xtf.tInt := d.xtf.tInt + meanTemp d }
  let x := d.xtf
  if x.st = .locked ∧ x.learnAt < d.now ∧ (d.now - x.learnAt) % 1000000000 = 0 then secLearn d else d

/-- UTC passes a day's end while LEAP is set: a second is inserted, or the leap is complete (R98). `old`: the counter before. -/
def leapTick (old : Nat) (d : Dev) : Dev :=
  let u0 := utcPlain d (old / 1000000000 : Nat)
  let u := utcPlain d (d.xtf.ns / 1000000000 : Nat)
  if u0 = u then d
  else match d.xtf.leapIn, d.ent 0x2005 2 with
    | some m, 1 => leapApply m 1 d
    | _, 1 => if u % 86400 = 0 then { d with xtf.leapIn := some u } else { d with xtf.leapIn := none }
    | _, 2 => if u % 86400 = 86399 then leapApply (u + 1) (-1) { d with xtf.leapIn := none } else { d with xtf.leapIn := none }
    | _, _ => { d with xtf.leapIn := none }

/-- The time base moves on by one PLL-CE cycle, with what follows from its count. -/
def timeTick (d : Dev) : Dev :=
  let old := d.xtf.ns
  leapTick old (ppsOutTick old (learnTick (xtfTick d)))

/-- The counter moves to 32.768 kHz advances (R60, R81). -/
def enter32 (d : Dev) : Dev :=
  if d.xtf.on32 then { d with xtf.leave32 := false } else { d with xtf.on32 := true, xtf.leave32 := false, xtf.edge := 0 }

/-- XTF_STATUS (R82). -/
def xtfStatus (d : Dev) : Word :=
  let x := d.xtf
  let st := match x.st with | .unset => 0 | .free => 1 | .locking => 2 | .locked => 3 | .holdover => 4
  BitVec.ofNat 32 (st + 8 * x.src + 32 * x.gm.toNat + 64 * x.on32.toNat + 128 * x.unsync.toNat + 256 * (d.ent 0x2005 2 % 4))

/-- A full restart (R82): LOCKED and HOLDOVER give HOLDOVER, LOCKING gives FREE, also where it was entered from UNSET and no offset has
stepped the counter (DESIGN CHOICE, log entry 147). -/
def xtfRestart (d : Dev) : Dev :=
  let d := match d.xtf.st with
    | .locked => holdoverEnter d
    | .locking => loseSource d
    | _ => { d with xtf.src := 0 }
  let x := d.xtf
  { d with xtf := { x with
      unsync := true, src := 0, gm := false, s := if x.st = .holdover ∧ !x.slewOver then x.s else 0, slewOver := false, prev := none, good := 0, bad := 0,
      ppsLast := none, ppsMiss := 0, ppsCap := 0, tsCap := 0, tsFull := false, ppsOut := false, ports := [], parent := none } }

/-! ### Rule sets and the calculator (R99, R101, R128) -/

/-- A rule set changes: effective at once, LOCALTIME_CHANGED, and instants are recomputed (R99, R128). A write of the value that an
entry already holds is a change too (DESIGN CHOICE, log entry 149). -/
def ruleChange (k : Nat) (vals : List (Nat × Nat)) (d : Dev) : Dev :=
  let n := vals.foldl (fun d v => d.setEnt (0x2010 + k) v.1 v.2) { d with floor.dirty := true }
  raise .LOCALTIME_CHANGED [k] (ldgRecompute d n)

/-- The nine events of the present date and of the next two are computed (R101, R103, R128). -/
def sunUpdate (d : Dev) : Dev :=
  let day := today d (d.ent 0x2020 3)
  let n := { d with xtf.sun := [sunDay d day, sunDay d (day + 1), sunDay d (day + 2)] }
  raise .SUN_EVENTS_UPDATED [] (ldgRecompute d n)

/-- SUN_POSITION is recomputed (R102). -/
def sunPos (d : Dev) : Dev :=
  let p := sunPosition d d.time64
  ((d.setEnt 0x2022 1 p.1).setEnt 0x2022 2 (ux 16 p.2)).setEnt 0x2022 3 d.time64

end Sys2Proof.Machine
end

