-- ==== Sys2Proof/Machine/Ptp.lean ====
section
/-! DEFINITION. The PTP ports, datasets and best-master choice (R85 to R91). Where the manual names IEEE 1588-2019 and says
no more, the default best-master algorithm of that standard is taken (PRESUMED). -/

namespace Sys2Proof.Machine

def Dev.ptp (d : Dev) (n : Nat) : PtpPort := tabGet {} n d.xtf.ports
def Dev.setPtp (d : Dev) (n : Nat) (p : PtpPort) : Dev := { d with xtf.ports := tabPut {} n p d.xtf.ports }

/-- clockIdentity: the EUI-64 of the device (R89). -/
def ownClock : Nat := Config.eui48 / 2 ^ 24 * 2 ^ 40 + 0xFFFE * 2 ^ 24 + Config.eui48 % 2 ^ 24

/-- The present role. -/
def ptpRole (d : Dev) : Nat := d.get PTP_CFG_ROLE

/-- The clockAccuracy of an error estimate: the first code whose bound it meets (IEEE 1588-2019 Table 5). -/
def accOf (e : Nat) : Nat := ((upto 26).find? (fun i => decide (1000 * e ≤ accPs.getD i 0))).elim 0xFE (0x17 + ·)

/-- The device's own dataset (R89). The traceability flags are set with clockClass 6 and 7, and timeSource is GNSS with 6 and the
internal oscillator otherwise (PRESUMED from IEEE 1588-2019, log entry 16). Locked to PTP, which no row of the table covers, it is
248 and 0xFE (DESIGN CHOICE, log entry 148). -/
def ownDs (d : Dev) : PtpDs :=
  let p1 := d.ent 0x2001 5
  let r := ptpRole d
  let (c, a, p) :=
    if r = 1 then (255, 0xFE, 255)
    else if r = 2 ∧ d.ent 0xA001 8 ≠ 1 then (248, 0xFE, 255)
    else match d.xtf.st with
      | .locked => if d.xtf.src = 2 then (6, 0x21, p1) else (248, 0xFE, p1)
      | .holdover => if errEst d ≤ hoLimit d then (7, accOf (errEst d), p1) else (52, 0xFE, p1)
      | _ => (248, 0xFE, p1)
  let tr := decide (c = 6 ∨ c = 7)
  ⟨p, c, a, 0x4E5D, d.ent 0x2001 6, ownClock, 0, ownClock, 0, utcOffset d, d.ent 0x2005 2, d.ent 0x2005 3 = 1, tr, tr,
    if c = 6 then 0x20 else 0xA0, [], 0xFFFF⟩

/-- The order of datasets, lower is better (IEEE 1588-2019). -/
def dsKey (x : PtpDs) : List Nat := [x.prio1, x.cls, x.acc, x.var, x.prio2, x.gm, x.steps, x.sender, x.port]

/-- Lexicographic order. -/
def lexLt : List Nat → List Nat → Bool
  | a :: s, b :: t => a < b || (a = b && lexLt s t)
  | _, _ => false

/-- Dataset `a` is better than `b`; datasets of one grandmaster compare by steps removed and sender. -/
def dsBetter (a b : PtpDs) : Bool :=
  if a.gm = b.gm then lexLt [a.steps, a.sender, a.port] [b.steps, b.sender, b.port] else lexLt (dsKey a) (dsKey b)

/-- The better of a list. -/
def dsBest (l : List (Nat × PtpDs)) : Option (Nat × PtpDs) :=
  l.foldl (fun b x => match b with
    | none => some x
    | some y => if dsBetter x.2 y.2 then some x else some y) none

/-- The Announce interval in ns. -/
def annInterval (d : Dev) : Nat :=
  let k := sx 8 (d.ent 0x2001 8)
  if k ≥ 0 then 1000000000 * 2 ^ k.toNat else 1000000000 / 2 ^ (-k).toNat

/-- The qualified foreign masters of a port: two Announce messages within four intervals. -/
def qualified (d : Dev) (n : Nat) : List (Nat × PtpDs) :=
  (d.ptp n).foreign.filterMap (fun f =>
    if (f.seen.filter (fun t => decide (d.now ≤ t + 4 * annInterval d))).length ≥ 2 then some (n, f.ds) else none)

/-- Set the state of a port. -/
def portState (n s : Nat) (d : Dev) : Dev := d.set (PTP_PORTSTAT_STATE n) s

/-- A port follows a master: UNCALIBRATED or SLAVE. -/
def ptpFollows (d : Dev) (n : Nat) : Bool := d.get (PTP_PORTSTAT_STATE n) = 8 || d.get (PTP_PORTSTAT_STATE n) = 9

/-- Follow a change of parent and of grandmaster duty (R90, R98). -/
def gmFollow (best : Option (Nat × PtpDs)) (d : Dev) : Dev :=
  let slave := (upto 2).any (ptpFollows d)
  let master := (upto 2).any (fun n => d.get (PTP_PORTSTAT_STATE n) = 6)
  let parent := if slave then best.map (·.2) else none
  let gm := ptpRole d ≥ 2 && master && !slave
  let was := d.xtf.gm
  let id := match parent with | some p => p.gm | none => if gm then ownClock else d.xtf.gmId
  let old := d.xtf.gmId
  let d := { d with xtf.parent := parent }
  let d := { d with xtf.gm := gm }
  let d := { d with xtf.gmId := id }
  let d := match parent with
    | some p =>
      if (upto 2).any (fun n => d.get (PTP_PORTSTAT_STATE n) = 9) then
        ((d.setEnt 0x2005 1 (ux 16 p.utc)).setEnt 0x2005 2 p.leap).setEnt 0x2005 3 p.valid.toNat
      else d
    | none => d
  let d := if id ≠ old then raise .GM_CHANGED [id] d else d
  if gm && !was && ptpRole d = 2 && d.ent 0xA001 8 ≠ 1 then raise .GM_UNQUALIFIED [] d else d

/-- The best qualified master over both T1L ports. -/
def ptpBest (d : Dev) : Option (Nat × PtpDs) :=
  dsBest (((upto 2).map (fun n => (dsBest (qualified d n)).toList)).flatten)

/-- Port `n` takes `b` as its master: SLAVE where it already follows that master, else UNCALIBRATED until its first Sync. -/
def ptpSlave (n : Nat) (b : PtpDs) (d : Dev) : Dev :=
  let same : Bool := match d.xtf.parent with | some p => p.sender = b.sender && p.port = b.port | none => false
  if ptpFollows d n && same then d else portState n 8 d

/-- Port `n` is to serve while another port follows `b`: PRE_MASTER for the hops of the master plus one, in Announce intervals, then
MASTER. -/
def ptpServe (n : Nat) (b : PtpDs) (d : Dev) : Dev :=
  let st := d.get (PTP_PORTSTAT_STATE n)
  if st = 6 then d
  else if st = 5 then (if (d.ptp n).preEnd ≤ d.now then portState n 6 d else d)
  else portState n 5 (d.setPtp n { d.ptp n with preEnd := d.now + (b.steps + 2) * annInterval d })

/-- The state decision over both T1L ports (R85). -/
def ptpDecide (d : Dev) : Dev :=
  let er := fun (n : Nat) => dsBest (qualified d n)
  let best := ptpBest d
  let own := ownDs d
  let role := ptpRole d
  let d := (upto 2).foldl (fun d n =>
    let st := d.get (PTP_PORTSTAT_STATE n)
    if st = 3 then d
    else if role = 1 then
      match best with
      | some b => if b.1 = n then ptpSlave n b.2 d else portState n 4 d
      | none => portState n 4 d
    else
      match best with
      | none => d
      | some b =>
        if own.cls ≤ 127 then
          match er n with
          | some e => portState n (if dsBetter own e.2 then 6 else 7) d
          | none => if st = 4 then d else portState n 6 d
        else if dsBetter own b.2 then (if st = 4 ∧ (er n).isNone then d else portState n 6 d)
        else if b.1 = n then ptpSlave n b.2 d
        else match er n with
          | some e => if e.2.gm = b.2.gm && dsBetter b.2 e.2 then portState n 7 d else ptpServe n b.2 d
          | none => if st = 4 then d else ptpServe n b.2 d) d
  gmFollow best (sourceRefresh d)

/-- Ports take the states of a newly written role (R85): T1L ports listen, T1S ports serve as masters in the boundary and
grandmaster roles. -/
def ptpConfigure (d : Dev) : Dev :=
  let r := ptpRole d
  let d := { d with xtf.ports := [] }
  let d := (upto 6).foldl (fun d n =>
    let d := d.set (PTP_PORTSTAT_MEAN_DELAY n) 0
    portState n (if r = 0 then 3 else if n < 2 then 4 else if r = 1 then 3 else 6) d) d
  gmFollow none (sourceRefresh d)

/-- A port loses its link: its masters are forgotten. -/
def ptpLinkDown (n : Nat) (d : Dev) : Dev :=
  if d.get (PTP_PORTSTAT_STATE n) = 3 then d
  else ptpDecide ((portState n (if n < 2 then 4 else 6) d).setPtp n {})

/-- The transport in use: 3 acts as 0. -/
def ptpTransport (d : Dev) : Nat := let t := d.get PTP_CFG_TRANSPORT; if t = 3 then 0 else t

/-- The frame of a PTP message of `len` bytes (R86): the group addresses are those of the transport (PRESUMED: their mapping to MAC
addresses and the header lengths, log entry 165). -/
def ptpFrame (d : Dev) (peer : Bool) (len : Nat) : NetFrame :=
  match ptpTransport d with
  | 2 => { dst := if peer then 0x0180C200000E else 0x011B19000000, src := Config.eui48, etype := 0x88F7, len := max 64 (18 + len) }
  | 1 => { dst := if peer then 0x01005E00006B else 0x01005E000181, src := Config.eui48, etype := 0x0800, len := max 64 (46 + len) }
  | _ => { dst := if peer then 0x33330000006B else 0x333300000181, src := Config.eui48, etype := 0x86DD, len := max 64 (66 + len) }

/-- Port `n`, where it is UP, queues a PTP message of the device in class 6 (R367): `len` bytes of IEEE 1588-2019. -/
def ptpOut (n kind : Nat) (body : List Nat) (len : Nat) (d : Dev) : Dev :=
  if !portUp d n then d
  else
    let peer := decide (kind = 0x102 ∨ kind = 0x103 ∨ kind = 0x10A)
    let tag := mgmtTag d n 6
    let f := ptpFrame d peer len
    enqueue n 6 { frame := { f with tag := tag, len := f.len + (if tag.isSome then 4 else 0) }, vid := mgmtVid d, msg := some (kind, body) }
      (sendIn (some 6) kind n body d)

/-- A PTP message leaves port `p` and is timestamped (R87): a Sync and a Pdelay_Resp are followed by the message that carries the
timestamp, and a delay request keeps it. -/
def ptpLeft (p : Nat) (m : Nat × List Nat) (d : Dev) : Dev :=
  match m.2 with
  | [] => d
  | seq :: rest =>
    if m.1 = 0x100 then ptpOut p 0x108 [seq, d.time64] 44 d
    else if m.1 = 0x103 then ptpOut p 0x10A ([seq] ++ rest.take 2 ++ [d.time64]) 54 d
    else if m.1 = 0x101 ∨ m.1 = 0x102 then d.setPtp p { d.ptp p with dreq := some (seq, d.time64) }
    else d

/-- A message stays within the options of R86. -/
def ptpSupported (d : Dev) (h : PtpHdr) : Bool :=
  !h.odd && h.sdo = 0 && h.dom = d.get PTP_CFG_DOMAIN && h.transport = ptpTransport d && h.port < 6

/-- Port `n` takes part in PTP: none in role 0, the T1L ports alone in the slave-only role (R85). -/
def ptpOn (d : Dev) (n : Nat) : Bool := d.ready 8 && decide (ptpRole d ≠ 0) && !(decide (ptpRole d = 1) && decide (2 ≤ n))

/-- A frame arrives on a port whose PHY is powered: a wake source (R57). -/
def frameWake (p : Nat) (d : Dev) : Dev := if p < 6 ∧ d.bit (FNS_PORTCFG_EN p) then wakeIfIdle 1 d else d

/-- Process a received message: nothing on a port that takes no part; one outside R86 is discarded and counted. Its frame is a wake
source (R57). -/
def ptpRx (h : PtpHdr) (f : Dev → Dev) (d : Dev) : Dev :=
  let d := frameWake h.port d
  if !ptpOn d h.port then d
  else if !ptpSupported d h then count 0x02C d
  else f d

/-- The delay mechanism of a port: P2P only on T1L ports. -/
def isP2p (d : Dev) (n : Nat) : Bool := d.bit PTP_CFG_DELAY_MECH && n < 2

/-- Set the mean path delay of a port. -/
def setDelay (n : Nat) (x : Int) (d : Dev) : Dev :=
  let d := d.setPtp n { d.ptp n with delay := x }
  d.set (PTP_PORTSTAT_MEAN_DELAY n) (min ((max x 0).toNat / 10) 65535)

/-- The first Sync of its master makes an UNCALIBRATED port SLAVE (R85). -/
def ptpCalibrated (n : Nat) (d : Dev) : Dev :=
  if d.get (PTP_PORTSTAT_STATE n) = 8 then
    let best := ptpBest d
    gmFollow best (sourceRefresh (portState n 9 d))
  else d

/-- A complete Sync: origin with corrections, and receive time (R82, R87). -/
def syncDone (n origin : Nat) (corr : Int) (rx : Nat) (d : Dev) : Dev :=
  let t1 : Int := origin + corr
  let p := d.ptp n
  let d := ptpCalibrated n (d.setPtp n { p with last := some (t1.toNat, rx), sync := none })
  measure ((rx : Int) - t1 - p.delay - sx 32 (d.ent 0x2002 (n + 1))) 1 d

/-- The sender is the parent and the port follows it. -/
def fromParent (d : Dev) (h : PtpHdr) : Bool :=
  ptpFollows d h.port &&
    (match d.xtf.parent with | some p => p.sender = h.src && p.port = h.srcPort | none => false)

/-- A received Sync (R82, R86). -/
def ptpSyncRx (h : PtpHdr) (twoStep : Bool) (origin : Nat) (corr : Int) (rx : Nat) (d : Dev) : Dev :=
  if !fromParent d h then d
  else if twoStep then d.setPtp h.port { d.ptp h.port with sync := some (h.src, h.seq, rx, corr) }
  else syncDone h.port origin corr rx d

/-- A received Follow_Up (R86). -/
def ptpFollowUpRx (h : PtpHdr) (origin : Nat) (corr : Int) (d : Dev) : Dev :=
  if !fromParent d h then d
  else match (d.ptp h.port).sync with
    | some (src, seq, rx, c) => if src = h.src ∧ seq = h.seq then syncDone h.port origin (corr + c) rx d else d
    | none => d

/-- A received Announce (R85, R86, R91): ignored on T1S ports. -/
def ptpAnnounceRx (h : PtpHdr) (a : Announce) (d : Dev) : Dev :=
  if h.port ≥ 2 ∨ h.src = ownClock then d
  else
    let d := match a.tlv with
      | some (node, _) => if node = d.ent 0x2001 15 ∧ node < 1024 then raise .NODE_CLASH [h.src] d else d
      | none => d
    if a.steps ≥ 16 ∨ a.path.contains ownClock then d
    else
      let ds : PtpDs := ⟨a.prio1, a.cls, a.acc, a.var, a.prio2, a.gm, a.steps, h.src, h.srcPort, a.utc, a.leap, a.valid,
        a.timeTr, a.freqTr, a.tsrc, a.path, (match a.tlv with | some (_, g) => g | none => 0xFFFF)⟩
      let p := d.ptp h.port
      let seen := match p.foreign.find? (fun f => f.ds.sender = h.src ∧ f.ds.port = h.srcPort) with
        | some f => (d.now :: f.seen).take 4
        | none => [d.now]
      let rest := p.foreign.filter (fun f => !decide (f.ds.sender = h.src ∧ f.ds.port = h.srcPort))
      ptpDecide (d.setPtp h.port { p with foreign := (⟨ds, seen⟩ :: rest).take 8 })

/-- A received Delay_Req: answered by a MASTER port; outside the port's delay mechanism it is discarded and counted (R86). -/
def ptpDelayReqRx (h : PtpHdr) (rx : Nat) (d : Dev) : Dev :=
  if isP2p d h.port then count 0x02C d
  else if d.get (PTP_PORTSTAT_STATE h.port) = 6 then ptpOut h.port 0x109 [h.seq, h.src, h.srcPort, rx] 54 d else d

/-- A received Delay_Resp (R86, R87). -/
def ptpDelayRespRx (h : PtpHdr) (req t4 : Nat) (corr : Int) (d : Dev) : Dev :=
  let p := d.ptp h.port
  if isP2p d h.port then count 0x02C d
  else if !fromParent d h ∨ req ≠ ownClock then d
  else match p.dreq, p.last with
    | some (seq, t3), some (t1, t2) =>
      if seq ≠ h.seq then d
      else
        let x := rdiv (((t2 : Int) - t1) + ((t4 : Int) - corr - t3)) 2
        setDelay h.port x (d.setPtp h.port { p with dreq := none })
    | _, _ => d

/-- A received Pdelay_Req: answered on a P2P port; on an E2E port, as the T1S ports are, it is discarded and counted (R86). -/
def ptpPdelayReqRx (h : PtpHdr) (rx : Nat) (d : Dev) : Dev :=
  if !isP2p d h.port then count 0x02C d
  else if d.get (PTP_PORTSTAT_STATE h.port) ≠ 3 then
    ptpOut h.port 0x103 [h.seq, h.src, h.srcPort, rx] 54 d
  else d

/-- A received Pdelay_Resp (R86). -/
def ptpPdelayRespRx (h : PtpHdr) (req : Nat) (turn : Int) (rx : Nat) (d : Dev) : Dev :=
  let p := d.ptp h.port
  if !isP2p d h.port then count 0x02C d
  else match p.dreq with
  | some (seq, t1) =>
    if seq = h.seq ∧ req = ownClock then
      setDelay h.port (rdiv ((rx : Int) - t1 - turn) 2) (d.setPtp h.port { p with dreq := none })
    else d
  | none => d

/-- The dataset that the device announces: its own as grandmaster, its parent's one hop further otherwise (R89). -/
def announced (d : Dev) : PtpDs :=
  match d.xtf.parent with
  | some p => { p with steps := p.steps + 1 }
  | none => ownDs d

/-- The members of a dataset that GET asks for, with the management id of IEEE 1588-2019 (R86): defaultDS, currentDS, parentDS,
timePropertiesDS and portDS. currentDS gives the offset and the delay of the port that follows the parent, and zeros on a grandmaster;
portDS gives a link delay on a P2P port only. Members for which the device has no statistics carry the standard's values for none, and the two minimum
intervals are 0 (PRESUMED, log entry 16). -/
def ptpDataset (d : Dev) (port id : Nat) : Option (List Nat) :=
  let a := announced d
  let own := ownDs d
  let slaveOnly := decide (ptpRole d = 1)
  match id with
  | 0x2000 => some [1, slaveOnly.toNat, if slaveOnly then 1 else 6, own.prio1, own.cls, own.acc, own.var, own.prio2, own.gm, d.get PTP_CFG_DOMAIN]
  | 0x2001 => some (match d.xtf.parent, (upto 2).find? (ptpFollows d) with
      | some _, some n => [a.steps, ux 64 d.xtf.lastOff, ux 64 (d.ptp n).delay]
      | _, _ => [0, 0, 0])
  | 0x2002 => some [a.sender, a.port, 0, 0xFFFF, 0x7FFFFFFF, a.prio1, a.cls, a.acc, a.var, a.prio2, a.gm]
  | 0x2003 => some [ux 16 a.utc, a.leap, a.valid.toNat, 1, a.timeTr.toNat, a.freqTr.toNat, a.tsrc]
  | 0x2004 => some [ownClock, port + 1, d.get (PTP_PORTSTAT_STATE port), 0, if isP2p d port then ux 64 (d.ptp port).delay else 0, ux 8 (sx 8 (d.ent 0x2001 8)),
      d.ent 0x2001 9, ux 8 (sx 8 (d.ent 0x2001 7)), if isP2p d port then 2 else 1, 0, 2]
  | _ => none

/-- A management message (R86): GET of five datasets is answered, SET and COMMAND are refused with NOT_SUPPORTED (0x0006 of
IEEE 1588-2019). -/
def ptpManagementRx (h : PtpHdr) (action id : Nat) (d : Dev) : Dev :=
  if action = 0 then
    match ptpDataset d h.port id with
    | some l => ptpOut h.port 0x10D (h.seq :: id :: l) 86 d
    | none => count 0x02C d
  else if action = 1 ∨ action = 3 then ptpOut h.port 0x10E [h.seq, id, 6] 60 d
  else count 0x02C d

/-- The grandmaster's node number as it is known (R91): the device's own, or the one that its master's extension names. -/
def gmNode (d : Dev) : Nat :=
  if d.xtf.gm then d.ent 0x2001 15 else match d.xtf.parent with | some p => p.gmNode | none => 0xFFFF

/-- A message interval expires (R85, R86, R91). -/
def ptpSend (n kind : Nat) (d : Dev) : Dev :=
  if !ptpOn d n then d
  else
    let d := if d.get (PTP_PORTSTAT_STATE n) = 5 ∧ (d.ptp n).preEnd ≤ d.now then portState n 6 d else d
    let st := d.get (PTP_PORTSTAT_STATE n)
    let p := d.ptp n
    match kind with
    | 0 =>
      if st = 6 then
        ptpOut n 0x100 [p.seqSync] 44 (d.setPtp n { p with seqSync := (p.seqSync + 1) % 65536 })
      else d
    | 1 =>
      if st = 6 then
        let a := announced d
        let node := d.ent 0x2001 15
        let tlv := if node < 1024 then [0x0003, 10, 0x5CA011, 1, node, gmNode d] else []
        let d := d.setPtp n { p with seqAnn := (p.seqAnn + 1) % 65536 }
        ptpOut n 0x10B ([p.seqAnn, a.prio1, a.cls, a.acc, a.var, a.prio2, a.gm, a.steps, ux 16 a.utc, a.leap, a.valid.toNat,
            a.timeTr.toNat, a.freqTr.toNat, a.tsrc] ++ a.path ++ [ownClock] ++ tlv)
          (76 + 8 * a.path.length + (if tlv = [] then 0 else 14)) d
      else d
    | _ =>
      let p2p := isP2p d n
      if (p2p && st ≠ 3) || (!p2p && (st = 8 || st = 9)) then
        ptpOut n (if p2p then 0x102 else 0x101) [p.seqDel] (if p2p then 54 else 44) (d.setPtp n { p with seqDel := (p.seqDel + 1) % 65536 })
      else d

/-- No Sync or Announce for ANNOUNCE_TIMEOUT Announce intervals on a port (R82): its masters are forgotten; a listening
port of a boundary clock becomes master. -/
def ptpTimeout (n : Nat) (d : Dev) : Dev :=
  if !d.ready 8 ∨ ptpRole d = 0 ∨ n ≥ 2 then d
  else
    let d := d.setPtp n { d.ptp n with foreign := [], sync := none, last := none }
    let d := portState n (if ptpRole d = 1 then 4 else 6) d
    let d := ptpDecide d
    gmFollow (ptpBest d) (sourceRefresh d)

end Sys2Proof.Machine
end

