-- ==== Sys2Proof/Machine/NetOps.lean ====
section
/-! DEFINITION. The field network switch (chapter 13): classification, policing, queues, links, the loop check and
addressing. -/

namespace Sys2Proof.Machine

def broadcast : Nat := 0xFFFFFFFFFFFF

/-- Group address. -/
def isGroup (a : Nat) : Bool := (a / 2 ^ 40).testBit 0

/-- 01-80-C2-00-00-00 to 01-80-C2-00-00-0F (R364). -/
def reservedGroup (a : Nat) : Bool := decide (a / 16 = 0x0180C2000000 / 16)

/-- A PTP frame (R374). -/
def isPtp (f : NetFrame) : Bool :=
  f.etype = 0x88F7 || (match f.udp with | some (_, _, dp) => dp = 319 || dp = 320 | none => false)

/-! ### Address table (R364) -/

/-- Learn the source of a frame on port `p`. -/
def netLearn (p : Nat) (f : NetFrame) (d : Dev) : Dev :=
  if isGroup f.src ∨ f.src = Config.eui48 ∨ !d.bit FNS_CFG_LEARN then d
  else
    let e : MacEnt := ⟨f.src, p, d.now⟩
    if d.net.macs.any (fun m => decide (m.addr = f.src)) then
      { d with net.macs := d.net.macs.map (fun m => if m.addr = f.src then e else m) }
    else if d.net.macs.length < 1023 then { d with net.macs := d.net.macs ++ [e] }
    else netCount p 0 d

/-- The port of an address. -/
def macPort (d : Dev) (a : Nat) : Option Nat :=
  if a = Config.eui48 then some 6 else (d.net.macs.find? (fun m => decide (m.addr = a))).map (·.port)

/-! ### Classification (R366, R367, R369) -/

/-- The VLAN entry of a frame on port `p`; none where it is discarded. -/
def classify (p : Nat) (f : NetFrame) (d : Dev) : Option (Nat × Word) :=
  let acc := d.get (FNS_PORTCFG_ACCEPT p)
  let vid := match f.tag with
    | some (_, v) => if v = 0 then d.get (FNS_PORTCFG_PVID p) else v
    | none => d.get (FNS_PORTCFG_PVID p)
  if (acc = 1 ∧ f.tag.isNone) ∨ (acc = 2 ∧ f.tag.isSome) then none
  else
    match vlanOf d vid with
    | some w => if (wGet w 12 7).testBit p then some (vid, w) else none
    | none => none

/-- The class of a frame before R369. -/
def classOf (p : Nat) (f : NetFrame) (d : Dev) : Nat :=
  match f.tag with
  | some (c, _) => c
  | none => let c := d.get (FNS_PORTCFG_DEF_PCP p); if c = 7 then 0 else c

/-- A source is in the admission table (R369). -/
def admitted (d : Dev) (ip port : Nat) : Bool :=
  (upto 32).any (fun a =>
    d.bit (FNS_ADM4_VALID a) && d.get (FNS_ADM4_PORT a) = port &&
      (upto 4).all (fun w => decide (d.get (FNS_ADM_ADDR a w) = ip / 2 ^ (32 * (3 - w)) % 2 ^ 32)))

/-- The UDP port of Hegus (R397). -/
def hegusPort (d : Dev) : Nat := d.ent 0x1000 1

/-- A datagram from `ip`:`sp` to port `dp` is for Hegus: on UDP_PORT, or on the port of a session that was opened before UDP_PORT
changed (R369, R397). -/
def hegusDgram (d : Dev) (ip sp dp : Nat) : Bool :=
  decide (dp = hegusPort d) || d.heg.sessions.any (fun s => decide (s.via = .udp ∧ s.peer = ip * 65536 + sp ∧ s.lport = dp))

/-! ### Policers (R368) -/

/-- What the bucket of policer `c` of port `p` holds now; one that has seen nothing is full. -/
def bucketLevel (d : Dev) (p c : Nat) : Nat :=
  let cap := d.get (FNS_POLICE_BURST p c) * 512 * 1000000000
  let b := (d.net.buckets.find? (fun e => decide (e.1 = 8 * p + c))).elim (cap, d.now) (·.2)
  min cap (b.1 + (d.now - b.2) * d.get (FNS_POLICE_RATE p c) * 64000)

/-- Bring the bucket up to date, before RATE or BURST changes. -/
def bucketSettle (p c : Nat) (d : Dev) : Dev :=
  { d with net.buckets := tabIns (8 * p + c) (bucketLevel d p c, d.now) d.net.buckets }

/-- Policer `c` of port `p` sees a frame of `len` bytes: admitted or not. -/
def police (p c len : Nat) (d : Dev) : Bool × Dev :=
  let level := bucketLevel d p c
  let need := len * 8 * 1000000000
  let ok := decide (d.get (FNS_POLICE_RATE p c) ≠ 0 ∧ need ≤ level)
  (ok, { d with net.buckets := tabIns (8 * p + c) (if ok then level - need else level, d.now) d.net.buckets })

/-- The broadcast limiter of port `p`. -/
def limitBcast (p : Nat) (d : Dev) : Bool × Dev :=
  let sec := d.now / 1000000000
  let e := tabGet (sec, 0) p d.net.bcast
  let n := if e.1 = sec then e.2 else 0
  if n < d.get (FNS_BCAST_BCAST p) then (true, { d with net.bcast := tabIns p (sec, n + 1) d.net.bcast }) else (false, d)

/-- The frame as it leaves a port: untagged, or tagged with its class and VLAN (R366). -/
def egress (untag : Bool) (c vid : Nat) (f : NetFrame) : NetFrame :=
  let base := f.len - (if f.tag.isSome then 4 else 0)
  if untag then { f with tag := none, len := base } else { f with tag := some (c, vid), len := base + 4 }

/-- A frame that passes a port blocked by the loop check: PTP, and loop-check frames (R375). -/
def passesBlock (f : NetFrame) : Bool := isPtp f || decide (f.etype = 0x88B5)

/-- Send the frame to port `q` of its VLAN, unless the port is down or blocked; a port that went down in this cycle counts
the frame (R373, R375). -/
def netOut (c vid : Nat) (w : Word) (f : NetFrame) (d : Dev) (q : Nat) : Dev :=
  if d.cyc.netDown.contains q then d.bump (FNS_DROP_QFULL q)
  else if !portUp d q ∨ (d.bit (FNS_PORTSTAT_LOOP_BLOCKED q) ∧ !passesBlock f) then d
  else enqueue q c { frame := egress ((wGet w 19 7).testBit q) c vid f, vid := vid } d

/-- Ports to which a frame from port `p` goes. -/
def netTargets (p : Nat) (w : Word) (f : NetFrame) (d : Dev) : List Nat :=
  let members := (upto 7).filter (fun q => (wGet w 12 7).testBit q && decide (q ≠ p))
  if isGroup f.dst then members
  else
    match macPort d f.dst with
    | some q => members.filter (fun x => decide (x = q))
    | none => members.filter (fun q => d.bit (FNS_PORTCFG_FLOOD_UC q))

/-- Police and queue a classified frame (R367 to R369). -/
def netForward (p vid : Nat) (w : Word) (f : NetFrame) (d : Dev) : Dev :=
  let c := classOf p f d
  let own := decide (f.dst = Config.eui48)
  let r : Nat × Bool × Dev :=
    if c = 7 then
      if own then
        let ok := match f.udp with
          | some (ip, sp, dp) => hegusDgram d ip sp dp && admitted d ip sp
          | none => false
        if ok then (7, true, d) else
          let x := police p 0 f.len (netCount p 1 d)
          (0, x.1, x.2)
      else
        let x := police p 7 f.len d
        if x.1 then (7, true, x.2) else (0, true, netCount p 1 x.2)
    else
      let x := police p c f.len d
      (c, x.1, x.2)
  if r.2.1 then (netTargets p w f r.2.2).foldl (netOut r.1 vid w f) r.2.2
  else r.2.2.bump (FNS_DROP_POLICED p)

/-! ### The device's own frames (R367, R376) -/

/-- The device's IP interface sends `f` in MGMT_VID: in class `c`, or untagged where the manual names no class. -/
def ownSend (c : Option Nat) (f : NetFrame) (d : Dev) : Dev :=
  if !portUp d 6 then d
  else match vlanOf d (mgmtVid d) with
    | some w => netForward 6 (mgmtVid d) w { f with src := Config.eui48, tag := c.map (fun c => (c, mgmtVid d)), len := f.len + (if c.isSome then 4 else 0) } d
    | none => d

/-- IPv4 in the form ::ffff:a.b.c.d. -/
def isV4 (ip : Nat) : Bool := decide (ip / 2 ^ 32 = 0xFFFF)

/-- A 16-byte entry as a number whose first byte is the most significant. -/
def be16 (v : Nat) : Nat := leNat (leBytes v 16).reverse

/-- IPv4 bytes of an entry in the form ::ffff:a.b.c.d, first byte most significant. -/
def mapped4 (v : Nat) : Nat := 0xFFFF * 2 ^ 32 + leNat (leBytes v 4).reverse

/-- `ip` is a valid address of the device (R376). -/
def ownIp (d : Dev) (ip : Nat) : Bool :=
  let st := d.ent 0x1101 4
  (d.ent 0x1101 1 ≠ 0 && ip = be16 (d.ent 0x1101 1)) || (st.testBit 0 && ip = be16 (d.ent 0x1101 2)) ||
    (st.testBit 1 && ip = mapped4 (d.ent 0x1101 3))

/-- The address from which the device sends to `ip`. -/
def srcIp (d : Dev) (ip : Nat) : Nat :=
  if isV4 ip then mapped4 (d.ent 0x1101 3)
  else if ip / 2 ^ 118 = 0x3FA ∨ ip / 2 ^ 112 % 16 = 2 ∧ ip / 2 ^ 120 = 0xFF then be16 (d.ent 0x1101 1)
  else be16 (d.ent 0x1101 2)

/-- The MAC address to which a datagram for `ip` goes: a group's, or that from which the peer's frames came; 0 where none is known
(PRESUMED: the mappings of RFC 1112 and RFC 2464, log entry 165). -/
def macOf (d : Dev) (ip : Nat) : Nat :=
  if isV4 ip then (if ip / 2 ^ 28 % 16 = 0xE then 0x01005E000000 + ip % 2 ^ 23 else tabGet 0 ip d.net.nbrs)
  else if ip / 2 ^ 120 = 0xFF then 0x333300000000 + ip % 2 ^ 32
  else tabGet 0 ip d.net.nbrs

/-- The interface has taken a frame from `ip`. -/
def nbrLearn (ip mac : Nat) (d : Dev) : Dev :=
  { d with net.nbrs := ((ip, mac) :: d.net.nbrs.filter (fun e => decide (e.1 ≠ ip))).take 1024 }

/-- A datagram of the device from port `sport` to `ip`:`port`: `len` bytes of payload, recorded as a message of `kind` to `dest`. -/
def udpOut (c : Option Nat) (kind dest ip port sport : Nat) (body : List Nat) (len : Nat) (d : Dev) : Dev :=
  ownSend c { dst := macOf d ip, src := Config.eui48, etype := if isV4 ip then 0x0800 else 0x86DD,
              len := max 64 (18 + (if isV4 ip then 20 else 40) + 8 + len), udp := some (srcIp d ip, sport, port) }
    (sendIn c kind dest body d)

/-- The groups of R86, which the device joins (R376). -/
def ptpGroups : List Nat := [0xFF0E * 2 ^ 112 + 0x181, 0xFF02 * 2 ^ 112 + 0x6B]

/-- The MLDv2 report of the groups. -/
def mldSend (d : Dev) : Dev :=
  ownSend none { dst := 0x333300000016, src := Config.eui48, etype := 0x86DD, len := 114, icmp := some (.mldReport ptpGroups) } d

/-- The IP interface takes a frame in MGMT_VID: ICMPv6 echo and neighbour discovery are answered (R376). -/
def cpuTake (f : NetFrame) (d : Dev) : Dev :=
  let d := match f.udp with | some (ip, _, _) => nbrLearn ip f.src d | none => d
  match f.icmp with
  | some (.echoRequest src dst x) =>
    let d := nbrLearn src f.src d
    if ownIp d dst then
      ownSend none { dst := f.src, src := Config.eui48, etype := 0x86DD, len := f.len - (if f.tag.isSome then 4 else 0),
                     icmp := some (.echoReply dst src x) } d
    else d
  | some (.neighborSolicit src target) =>
    let d := if src = 0 then d else nbrLearn src f.src d
    if ownIp d target then
      ownSend none { dst := if src = 0 then 0x333300000001 else f.src, src := Config.eui48, etype := 0x86DD, len := 90,
                     icmp := some (.neighborAdvert target target) } d
    else d
  | some (.neighborAdvert _ target) => nbrLearn target f.src d
  | _ => d

/-! ### Links (R370, R371, R373) -/

/-- A port goes DOWN: its addresses and queues are flushed, PTP follows. -/
def netDownOp (p : Nat) (d : Dev) : Dev :=
  let lost : Nat := ((upto 8).map (fun c => (d.queue p c).length)).foldl (· + ·) 0
  let d := (upto 8).foldl (fun d c => d.setQueue p c []) d
  let d : Dev := { d with net.macs := d.net.macs.filter (fun m => decide (m.port ≠ p)), cyc.netDown := p :: d.cyc.netDown }
  let d : Dev := if lost = 0 then d else d.bump (FNS_DROP_QFULL p) lost
  let up : Bool := decide (d.get (FNS_PORTSTAT_LINK p) = 2)
  let d := (((d.set (FNS_PORTSTAT_LINK p) 0).set (FNS_PORTSTAT_AMP_ACT p) 0).set (FNS_PORTSTAT_SQI p) 0).set (FNS_PORTSTAT_PLCA p) 0
  let d := if p < 2 ∧ up then raise .LINK_DOWN [p] d else d
  if p < 6 then ptpLinkDown p d else d

/-- An enabled port that is DOWN starts: a T1L port trains, a T1S port coordinates. -/
def netStart (p : Nat) (d : Dev) : Dev :=
  if !d.bit (FNS_PORTCFG_EN p) ∨ !d.ready 8 ∨ !d.bit PMC_CLKSTAT_REF_OK ∨ d.get (FNS_PORTSTAT_LINK p) ≠ 0 ∨ d.bit (FNS_DIAG_BUSY p) then d
  else if p < 2 then d.set (FNS_PORTSTAT_LINK p) 1
  else if p < 6 then (d.set (FNS_PORTSTAT_LINK p) 2).set (FNS_PORTSTAT_PLCA p) 1
  else d.set (FNS_PORTSTAT_LINK p) 2

/-- A port is taken down. -/
def netStop (p : Nat) (d : Dev) : Dev := if d.get (FNS_PORTSTAT_LINK p) = 0 then d else netDownOp p d

/-- A write of EN. -/
def portEn (p : Nat) (en : Bool) (d : Dev) : Dev :=
  let d := postField (FNS_PORTCFG p) (if en then 1 else 0) 1 d
  if en then netStart p d else netStop p d

/-- A cable test starts (R372). -/
def cableStart (p : Nat) (d : Dev) : Dev :=
  if 5 < p ∨ d.bit (FNS_DIAG_BUSY p) then d
  else netStop p (((d.set (FNS_DIAG_BUSY p) 1).set (FNS_DIAG_RESULT p) 0).set (FNS_DIAG_DIST p) 0)

/-- A queued frame leaves port `p`: a PTP message takes its timestamp, and a frame to the CPU port reaches the IP interface. -/
def frameLeft (p : Nat) (x : QFrame) (d : Dev) : Dev :=
  match x.msg with
  | some m => ptpLeft p m d
  | none => if p = 6 ∧ x.vid = mgmtVid d then cpuTake x.frame d else d

/-- Send the head of the highest non-empty queue of port `p` (R367); frames to the CPU port go to the runtime area. -/
def netTransmit (p : Nat) (d : Dev) : Dev :=
  if !portUp d p then d else
  match [7, 6, 5, 4, 3, 2, 1, 0].find? (fun c => decide (d.queue p c ≠ [])) with
  | none => d
  | some c =>
    match d.queue p c with
    | [] => d
    | x :: t =>
      let f := x.frame
      frameLeft p x (count (0x7A0 + p) (sendIn (some c) 0x181 p [f.dst, f.src, f.etype, f.len, c] (d.setQueue p c t)))

/-- Send up to `k` frames. -/
def netTransmitN (p : Nat) : Nat → Dev → Dev
  | 0, d => d
  | k + 1, d => netTransmitN p k (netTransmit p d)

/-! ### Loop check (R375) -/

/-- LOOP_PERIOD in ns. -/
def loopPeriod (d : Dev) : Nat := (let x := d.get FNS_CFG_LOOP_PERIOD; if x = 0 then 1 else x) * 1000000000

/-- Block port `p`. -/
def loopBlock (p : Nat) (d : Dev) : Dev :=
  if d.bit (FNS_PORTSTAT_LOOP_BLOCKED p) then d else raise .LOOP_DETECTED [p] (d.set (FNS_PORTSTAT_LOOP_BLOCKED p) 1)

/-- The device's own loop-check frame arrives on port `p`: of two ports in one period the higher is blocked. -/
def loopSeen (p : Nat) (d : Dev) : Dev :=
  let others := d.net.loopT.filter (fun e => decide (e.1 ≠ p ∧ d.now ≤ e.2 + loopPeriod d))
  let d := { d with net.loopT := tabIns p d.now d.net.loopT, net.loopMiss := tabIns p 0 d.net.loopMiss,
                    net.loopHit := setBit d.net.loopHit p true }
  if others.any (fun e => decide (p < e.1)) then d
  else others.foldl (fun d e => d.set (FNS_PORTSTAT_LOOP_BLOCKED e.1) 0) (loopBlock p d)

/-- One period of the loop check: silent ports are released, and while LOOP_EN is 1 frames are sent. -/
def loopTick (d : Dev) : Dev :=
  let d := (upto 6).foldl (fun d p =>
      if !d.bit (FNS_PORTSTAT_LOOP_BLOCKED p) ∨ d.net.loopHit.testBit p then d
      else
        let k := tabGet 0 p d.net.loopMiss + 1
        let d := { d with net.loopMiss := tabIns p k d.net.loopMiss }
        if 3 ≤ k then raise .LOOP_CLEARED [p] (d.set (FNS_PORTSTAT_LOOP_BLOCKED p) 0) else d) d
  let d := { d with net.loopHit := 0 }
  if !d.bit FNS_CFG_LOOP_EN then d else
  (upto 6).foldl (fun d p => if portUp d p then sendMsg 0x182 p [Config.eui48, 0x88B5, p] d else d) d

/-! ### Reception (R364, R374) -/

/-- A frame arrives on port `p`. -/
def netReceive (p : Nat) (f : NetFrame) (d : Dev) : Dev :=
  let d := count (0x798 + p) d
  if f.len < 64 ∨ 1522 < f.len ∨ !f.fcsOk then netCount p 3 d
  else if f.etype = 0x88B5 ∧ f.src = Config.eui48 ∧ p < 6 ∧ d.bit FNS_CFG_LOOP_EN then loopSeen p d
  else
    let ptp := isPtp f
    if ptp ∧ ptpRole d ≠ 0 ∧ p < 6 then netLearn p f d
    else if d.bit (FNS_PORTSTAT_LOOP_BLOCKED p) ∧ !passesBlock f then d
    else
      let d := netLearn p f d
      if reservedGroup f.dst then netCount p 3 d
      else
        match classify p f d with
        | none => netCount p 2 d
        | some (vid, w) =>
          if f.dst = broadcast then
            let x := limitBcast p d
            if x.1 then netForward p vid w f x.2 else (netCount p 4 x.2).bump (FNS_DROP_POLICED p)
          else netForward p vid w f d

/-- The BEACON of another coordinator on port `p` (R371). -/
def plcaOther (p : Nat) (d : Dev) : Dev :=
  if 2 ≤ p ∧ p < 6 ∧ portUp d p then raise .PLCA_CONFLICT [p] (d.set (FNS_PORTSTAT_PLCA p) 2) else d

/-! ### Addressing (R376) -/

/-- The link-local address formed from the EUI-64, as a byte string. -/
def ll6 : Nat :=
  let m := Config.eui48
  let iid := (m / 2 ^ 24 ^^^ 0x020000) * 2 ^ 40 + 0xFFFE * 2 ^ 24 + m % 2 ^ 24
  leNat ((leBytes (0xFE80 * 2 ^ 112 + iid) 16).reverse)

/-- Set bit `k` of ADDR_STATE. -/
def addrState (k : Nat) (b : Bool) (d : Dev) : Dev := d.setEnt 0x1101 4 (setBit (d.ent 0x1101 4) k b)

/-- A new IPv4 link-local candidate 169.254.1.0 to 169.254.254.255; the manual does not say which. -/
def newLinkLocal (d : Dev) : Dev :=
  let r := d.freeVal
  let x := 256 + r.1 % 65024
  { r.2 with net.llCand := 169 + 254 * 256 + x / 256 * 65536 + x % 256 * 2 ^ 24 }

/-- The addressing entries have changed: addresses are formed anew. -/
def addrRestart (d : Dev) : Dev :=
  let d := ((d.setEnt 0x1101 2 0).setEnt 0x1101 3 0).setEnt 0x1101 4 0
  let d := { d with net.dhcp := 0, net.llCand := 0, net.v6Stop := 0 }
  if d.ent 0x1100 6 = 3 then newLinkLocal d else d

/-- The 16 bytes of an address as the words that an event names, an IPv4 address in the form ::ffff:a.b.c.d (DEDUCED, log entry 164). -/
def addrWords (ip : Nat) : List Nat := let v := be16 ip; (upto 4).map (fun i => v / 2 ^ (32 * i) % 2 ^ 32)

/-- The address of a kind that is under its check: 0 link-local IPv6, 1 global IPv6, 2 IPv4; as its entry holds it. `addr` is what
SLAAC or DHCP offers; none where the mode forms no such address. -/
def tentative (kind addr : Nat) (d : Dev) : Option Nat :=
  if kind = 0 then some ll6
  else if kind = 1 then
    let m := d.ent 0x1100 3
    if m = 0 then none else some (if m = 2 then d.ent 0x1100 4 % 2 ^ 128 else addr % 2 ^ 128)
  else
    let m := d.ent 0x1100 6
    if m = 0 then none
    else some (if m = 1 then d.ent 0x1100 7 % 2 ^ 32 else if d.net.llCand ≠ 0 then d.net.llCand else addr % 2 ^ 32)

/-- An address fails its check: it is not used, and the event names it (R376, R377). -/
def addrFail (kind addr : Nat) (d : Dev) : Dev :=
  match tentative kind addr d with
  | none => d
  | some a =>
    let d := raise .ADDR_CONFLICT (addrWords (if kind = 2 then mapped4 a else be16 a)) (addrState 3 true d)
    if kind = 0 then { d.setEnt 0x1101 1 0 with net.v6Stop := setBit d.net.v6Stop 0 true }
    else if kind = 1 then { addrState 0 false (d.setEnt 0x1101 2 0) with net.v6Stop := setBit d.net.v6Stop 1 true }
    else
      let d := addrState 1 false (addrState 2 false (d.setEnt 0x1101 3 0))
      if d.net.llCand ≠ 0 then newLinkLocal d else d

/-- An address has passed its check and becomes valid; an IPv6 address that was in conflict is not tried again. With its link-local
address the device joins the groups of R86 (R376). -/
def addrValid (kind addr : Nat) (d : Dev) : Dev :=
  if kind < 2 ∧ d.net.v6Stop.testBit kind then d
  else match tentative kind addr d with
    | none => d
    | some a =>
      if kind = 0 then mldSend (d.setEnt 0x1101 1 a)
      else if kind = 1 then addrState 0 true (d.setEnt 0x1101 2 a)
      else addrState 2 (d.ent 0x1100 6 ≠ 1 && d.net.llCand ≠ 0) (addrState 1 true (d.setEnt 0x1101 3 a))

/-- A DHCPv4 attempt goes unanswered. -/
def dhcpTimeout (d : Dev) : Dev :=
  if d.ent 0x1100 6 ≠ 2 ∨ (d.ent 0x1101 4).testBit 1 then d
  else
    let d := { d with net.dhcp := d.net.dhcp + 1 }
    if 3 ≤ d.net.dhcp ∧ d.net.llCand = 0 then newLinkLocal d else d

end Sys2Proof.Machine
end

