-- ==== Sys2Proof/Machine/NvsOps.lean ====
section
/-! DEFINITION. The non-volatile store (chapter 15): energy, records, regions, transactions, the shadow area and the window. -/

namespace Sys2Proof.Machine

/-! ### Hold-up energy (R71, R159, R421) -/

/-- C in nF: the lower of HOLDUP_CAP and the measured capacitance. -/
def capC (d : Dev) : Nat :=
  let cfg := d.ent 0xA001 2 * 1000
  match d.pwr.capNF with
  | some c => min cfg c
  | none => cfg

/-- E_AVAIL in nJ at VHOLD = `mv`, readings valid. -/
def energyAt (d : Dev) (mv : Nat) : Nat := 425 * capC d * (mv * mv - 81000000) / 1000000000

/-- E_AVAIL in nJ. -/
def eAvail (d : Dev) : Nat := if d.bit (HKC_RESULT_VALID 37) then energyAt d d.pwr.vholdMV else 0

/-- E_RESERVE in nJ: 0.70 W × HOLD_WINDOW. -/
def eReserve (d : Dev) : Nat := 700000 * d.get PMC_CFG_HOLDWIN

/-- A computation of E_AVAIL (R71): PMC_HOLDUP shows it, one at or above the reserve arms the second case of R48, and a fall below
the reserve between two valid computations is noted. -/
def energyNote (d : Dev) : Dev :=
  let e := eAvail d
  let d := d.set PMC_HOLDUP_E_AVAIL (min (e / 10000) 65535)
  if !d.bit (HKC_RESULT_VALID 37) then d
  else if e ≥ eReserve d then { d with pwr.eArmed := true }
  else { d with pwr.eFell := d.pwr.eFell || d.pwr.eArmed }

/-- The energy check of a transaction of `n` pages. -/
def energyOk (d : Dev) (n : Nat) : Bool :=
  !d.bit PMC_LINE_FAIL && d.bit (HKC_RESULT_VALID 37) && decide (eReserve d + 700 * (6 + 20 * n) ≤ eAvail d)

/-- A refusal for energy is counted, and raised at most once per second; its computation shows as any other (R71). -/
def lowPower (d : Dev) : Dev :=
  let d := count 0x15F (energyNote d)
  let due := match d.nvs.lowAt with
    | some t => decide (t + 1000000000 ≤ d.now)
    | none => true
  if due then raise .NV_LOWPWR [] { d with nvs.lowAt := some d.now } else d

/-! ### Two-copy records (R428) -/

/-- Copy `a` is the newer of two valid copies. -/
def newerA (r : TwoCopy) : Bool :=
  match r.a, r.b with
  | some x, some y => let k := (x.2 + 256 - y.2 % 256) % 256; decide (1 ≤ k ∧ k ≤ 127)
  | some _, none => true
  | none, _ => false

/-- The payload that reads; none where the record is damaged. -/
def TwoCopy.val (r : TwoCopy) : Option Nat := if newerA r then r.a.map (·.1) else r.b.map (·.1)

/-- An update goes over the older copy. -/
def TwoCopy.put (r : TwoCopy) (v : Nat) : TwoCopy :=
  if newerA r then { r with b := some (v, ((r.a.map (·.2)).getD 0 + 1) % 256) }
  else { r with a := some (v, ((r.b.map (·.2)).getD 0 + 1) % 256) }

/-- Seal counter, tally, region, verifier and failure count. -/
def Dev.sealC (d : Dev) (k : Nat) : Option Nat := (tabGet {} k d.nvs.seals).val
def Dev.tally (d : Dev) (k : Nat) : Option Nat := (tabGet {} k d.nvs.tallies).val
def Dev.region (d : Dev) (r : Nat) : Option Nat := (tabGet {} r d.nvs.regions).val
def Dev.verifier (d : Dev) (r kind : Nat) : Option Nat := (tabGet {} (2 * r + kind) d.nvs.verif).val
def Dev.failCount (d : Dev) (r : Nat) : Nat := ((tabGet {} r d.nvs.fails).val).getD 255

/-- Add 1 to tally `k`, saturating; the register shows it (R430). -/
def tallyAdd (k : Nat) (d : Dev) : Dev :=
  match d.tally k with
  | none => d
  | some v =>
    let v := min (v + 1) 0xFFFFFFFF
    { d.set (NVS_TALLY_VALUE k) v with nvs.tallies := tabPut {} k ((tabGet {} k d.nvs.tallies).put v) d.nvs.tallies }

/-! ### Regions and passwords (R431 to R434) -/

/-- BASE, LIMIT and EN of region `r`; a damaged entry reads as enabled (R428). -/
def regionOf (d : Dev) (r : Nat) : Nat × Nat × Bool :=
  match d.region r with
  | some v => (v % 65536, v / 65536 % 65536, v.testBit 32)
  | none => (0, 0xFFF, true)

/-- A password of kind `kind` is set; a damaged region or verifier reads so. -/
def pwdSet (d : Dev) (r kind : Nat) : Bool := (d.region r).isNone || d.verifier r kind ≠ some 0

/-- Session `sess` (0 the owner) has unlocked a kind of region `r`. -/
def unlocked (d : Dev) (sess r kind : Nat) : Bool := d.nvs.unlk.contains (sess, r, kind)

/-- The enabled regions that hold page `p`. -/
def regionsAt (d : Dev) (p : Nat) : List Nat :=
  (upto 8).filter (fun r => let x := regionOf d r; x.2.2 && decide (x.1 ≤ p ∧ p ≤ x.2.1))

/-- Page `p` is write-locked for `sess`. -/
def writeLocked (d : Dev) (sess p : Nat) : Bool := (regionsAt d p).any (fun r => pwdSet d r 1 && !unlocked d sess r 1)

/-- Page `p` is read-locked for `sess`. -/
def readLocked (d : Dev) (sess p : Nat) : Bool := (regionsAt d p).any (fun r => pwdSet d r 0 && !unlocked d sess r 0)

/-- Show region `r` in its registers. -/
def rgnShow (r : Nat) (d : Dev) : Dev :=
  let x := regionOf d r
  let v := wSet (wSet (wSet 0 0 12 x.1) 12 12 x.2.1) 24 1 x.2.2.toNat
  let v := wSet (wSet v 25 1 (pwdSet d r 0).toNat) 26 1 (pwdSet d r 1).toNat
  let v := wSet v 27 1 ((d.nvs.lock.any (fun e => decide (e.1 = r))).toNat)
  let v := wSet (wSet v 28 1 (unlocked d 0 r 0).toNat) 29 1 (unlocked d 0 r 1).toNat
  (d.wr (NVS_RGN r) v).set (NVS_RGNFAIL_FAILS r) (d.failCount r)

/-- Lockout of a region with failure count `c` in seconds. -/
def lockSecs (c : Nat) : Nat := min (2 ^ (c - 3)) 3600

/-- Region `r` is locked out from now, when its count calls for it. -/
def lockStart (r : Nat) (d : Dev) : Dev :=
  let c := d.failCount r
  if c < 3 then rgnShow r d
  else raise .NV_LOCKOUT [r, lockSecs c]
    (rgnShow r { d with nvs.lock := tabIns r (d.now + lockSecs c * 1000000000) d.nvs.lock })

/-- Store a failure count. -/
def failPut (r c : Nat) (d : Dev) : Dev :=
  { d with nvs.fails := tabPut {} r ((tabGet {} r d.nvs.fails).put (min c 255)) d.nvs.fails }

/-- A wrong password for region `r`. -/
def pwdWrong (r : Nat) (d : Dev) : Dev := lockStart r (failPut r (d.failCount r + 1) (count 0x160 d))

/-- The keys derived from the DUS: HKDF-SHA256 with info "vault-wrap" and "nv-verifier" (R440). -/
def vaultKey : Nat := Config.crypto 9 [Config.dus, 0] % 2 ^ 128
def verifierKey : Nat := Config.crypto 9 [Config.dus, 1] % 2 ^ 256

/-- The DIK's private scalar wrapped under the vault key, with its GCM tag, and its certificate (R438, R440). -/
def dikWrapped : Nat := Config.crypto 10 [vaultKey, Config.dik] % 256 ^ 48
def dikCert : Nat := Config.crypto 11 [Config.dik] % 2 ^ 12288

/-- The verifier of a password, 16 bytes: computed by the Teller under the verifier key (R433, R440); 0 stands for no password. -/
def verifierOf (pwd r kind : Nat) : Nat := Config.crypto 1 [verifierKey, pwd, r, kind] % (2 ^ 128 - 1) + 1

/-- UNLOCK for `sess`: the status (R433, R434). -/
def unlockOp (sess r kind pwd : Nat) (d : Dev) : Nat × Dev :=
  if 7 < r then (2, d)
  else if d.nvs.lock.any (fun e => decide (e.1 = r)) then (5, d)
  else if !pwdSet d r kind then (0, d)
  else if d.region r ≠ none ∧ d.verifier r kind = some (verifierOf pwd r kind) then
    let u := (sess, r, kind)
    let d := failPut r 0 { d with nvs.unlk := if d.nvs.unlk.contains u then d.nvs.unlk else d.nvs.unlk ++ [u] }
    (0, rgnShow r d)
  else (4, pwdWrong r d)

/-- RELOCK for `sess`. -/
def relockOp (sess r kind : Nat) (d : Dev) : Nat × Dev :=
  if 7 < r then (2, d)
  else (0, rgnShow r { d with nvs.unlk := d.nvs.unlk.filter (fun u => decide (u ≠ (sess, r, kind))) })

/-- SET_PWD (R433). -/
def setPwdOp (r kind new cur : Nat) (d : Dev) : Nat × Dev :=
  if 7 < r then (2, d)
  else if d.nvs.lock.any (fun e => decide (e.1 = r)) then (5, d)
  else if pwdSet d r kind ∧ ¬(d.region r ≠ none ∧ d.verifier r kind = some (verifierOf cur r kind)) then (4, pwdWrong r d)
  else
    let v := if new = 0 then 0 else verifierOf new r kind
    let k := 2 * r + kind
    let d := { d with nvs.verif := tabPut {} k ((tabGet {} k d.nvs.verif).put v) d.nvs.verif }
    (0, rgnShow r d)

/-- SET_REGION for `sess` (R432); the dictionary's entries follow. -/
def setRegionOp (sess r base limit : Nat) (en : Bool) (d : Dev) : Nat × Dev :=
  if 7 < r then (2, d)
  else if en ∧ (limit < base ∨ base < 0x220 ∨ 0xFFF < limit) then (2, d)
  else if en ∧ (upto 8).any (fun q => decide (q ≠ r) && (let x := regionOf d q; x.2.2 && decide (x.1 ≤ limit ∧ base ≤ x.2.1))) then (2, d)
  else if (pwdSet d r 0 || pwdSet d r 1) && !unlocked d sess r 1 then (3, d)
  else
    let v := base % 65536 + limit % 65536 * 65536 + en.toNat * 2 ^ 32
    let d : Dev := { d with nvs.regions := tabPut {} r ((tabGet {} r d.nvs.regions).put v) d.nvs.regions }
    let e := 0x8010 + r
    (0, rgnShow r (((d.setEnt e 1 (base % 65536)).setEnt e 2 (limit % 65536)).setEnt e 3 en.toNat))

/-! ### The array -/

/-- Copy `n` bytes of the array from `src` to `dst`. -/
def arrCopy (src dst : Nat) : Nat → Mem → Mem
  | 0, m => m
  | n + 1, m => arrCopy src dst n (memPut m (dst + n) (memByte m (src + n)))

/-- Staging byte `i`. -/
def stageByte (d : Dev) (i : Nat) : Nat := wGet (d.rd (NVS_STAGE (i / 4))) (8 * (i % 4)) 8

/-- Staging bytes `ofs` … as a little-endian number. -/
def stageNat (d : Dev) (ofs : Nat) : Nat → Nat
  | 0 => 0
  | n + 1 => stageByte d ofs + 256 * stageNat d (ofs + 1) n

/-- Put staging bytes over an address range of the array memory: byte `a` of the store goes to `at_ a`. -/
def stagePut (d : Dev) (addr sofs : Nat) (at_ : Nat → Option Nat) : Nat → Mem → Mem
  | 0, m => m
  | n + 1, m =>
    let m := stagePut d addr sofs at_ n m
    match at_ (addr + n) with
    | some x => memPut m x (BitVec.ofNat 8 (stageByte d (sofs + n)))
    | none => m

/-- Journal address of a byte whose page is listed among `homes`. -/
def journalAt (homes : List Nat) (a : Nat) : Option Nat :=
  if homes.contains (a / 256) then some (0x1000 + 256 * homes.idxOf (a / 256) + a % 256) else none

/-- Add pages to the journal: each new one takes its present content. -/
def journalPages (new : List Nat) (homes : List Nat) (m : Mem) : List Nat × Mem :=
  new.foldl (fun x p =>
    if x.1.contains p then x else (x.1 ++ [p], arrCopy (256 * p) (0x1000 + 256 * x.1.length) 256 x.2)) (homes, m)

/-- CRC-32 of journal page `i` (R418). -/
def pageCrc (m : Mem) (i : Nat) : Nat := (upto 256).foldl (fun c k => crcByte c (memByte m (0x1000 + 256 * i + k)).toNat) 0xFFFFFFFF ^^^ 0xFFFFFFFF

/-- PCRC of `n` journal pages. -/
def pageCrcs (m : Mem) (n : Nat) : List Nat := (upto n).map (pageCrc m)

/-- The journal pages go to their home pages. -/
def copyHome (homes : List Nat) (skip : List Nat) (m : Mem) : Mem :=
  (upto homes.length).foldl (fun m i =>
    if skip.contains i then m else arrCopy (0x1000 + 256 * i) (256 * homes.getD i 0) 256 m) m

/-- One byte as the window shows it: past the commit point of a running transaction, from the journal (R420). -/
def arrByte (d : Dev) (a : Nat) : Nat :=
  match d.nvs.run with
  | some r =>
    if r.commitAt ≤ d.now then
      match journalAt r.homes a with
      | some x => (memByte d.nvs.arr x).toNat
      | none => (memByte d.nvs.arr a).toNat
    else (memByte d.nvs.arr a).toNat
  | none => (memByte d.nvs.arr a).toNat

/-! ### Commands (R413 to R419) -/

/-- A command ends with its outcome. -/
def nvResult (op status pages txns : Nat) (d : Dev) : Dev :=
  let v := wSet (wSet (wSet (wSet 0 0 4 status) 4 4 op) 8 5 (min pages 16)) 16 8 txns
  (d.wr NVS_RESULT v).set NVS_STAT_BUSY 0

/-- The range check of a WRITE or TXN_ADD by `sess`: steps 1 to 3 of R414. -/
def nvRange (d : Dev) (sess addr len sofs : Nat) : Nat :=
  if 4096 < sofs + len ∨ 0x100000 < addr + len then 2
  else if addr < 0x22000 then 2
  else if (List.range' (addr / 256) ((addr + len - 1) / 256 - addr / 256 + 1)).any (writeLocked d sess) then 3
  else 0

/-- The journal pages of a transaction that is open (R417). -/
def journalKept (d : Dev) : Mem :=
  if d.nvs.open_.isNone then [] else d.nvs.arr.filter (fun c => decide (0x1000 ≤ c.1 ∧ c.1 < 0x2000))

/-- The first `n` bytes of the journal as `src` holds them. -/
def journalBack (src : Mem) : Nat → Mem → Mem
  | 0, m => m
  | n + 1, m => journalBack src n (memPut m (0x1000 + n) (memByte src (0x1000 + n)))

/-- Start the next transaction of a WRITE of `len` bytes from staging offset `sofs` to `addr`, from page `p` (R416). `bad`: a
journal page fails its read-back. -/
def nvStart (addr len sofs p txns : Nat) (bad : Bool) (d : Dev) : Dev :=
  let last := (addr + len - 1) / 256
  let n := min 16 (last + 1 - p)
  if !energyOk d n then nvResult 1 1 0 txns (lowPower d)
  else
    let d := energyNote d
    let homes := List.range' p n
    let j := journalPages homes [] d.nvs.arr
    let m := stagePut d addr sofs (journalAt j.1) len j.2
    if bad then
      nvResult 1 8 n txns (raise .NV_VERIFY_FAIL [] { d with nvs.arr := if d.nvs.open_.isNone then m else d.nvs.arr })
    else
      let t := d.now + 10000 * n
      { d with nvs.arr := m, nvs.run := some ⟨1, homes, t, t + 2000, p + n, txns, addr, len, sofs, journalKept d⟩ }

/-- WRITE (R414, R416). -/
def nvWriteCmd (bad : Bool) (d : Dev) : Dev :=
  let addr := d.get NVS_ADDR_ADDR
  let len := d.get NVS_LEN_LEN
  let sofs := d.get NVS_LEN_SOFS
  match nvRange d 0 addr len sofs with
  | 0 => if len = 0 then nvResult 1 0 0 0 d else nvStart addr len sofs (addr / 256) 0 bad (d.set NVS_STAT_BUSY 1)
  | k => nvResult 1 k 0 0 d

/-- TXN_ADD (R414, R417). -/
def nvAddCmd (bad : Bool) (d : Dev) : Dev :=
  let addr := d.get NVS_ADDR_ADDR
  let len := d.get NVS_LEN_LEN
  match d.nvs.open_ with
  | none => nvResult 3 7 0 0 d
  | some homes =>
    match nvRange d 0 addr len (d.get NVS_LEN_SOFS) with
    | 0 =>
      if len = 0 then nvResult 3 0 homes.length 0 d
      else
        let pages := List.range' (addr / 256) ((addr + len - 1) / 256 + 1 - addr / 256)
        let fresh := pages.filter (fun p => !homes.contains p)
        if 16 < homes.length + fresh.length then nvResult 3 6 homes.length 0 d
        else
          let j := journalPages pages homes d.nvs.arr
          let m := stagePut d addr (d.get NVS_LEN_SOFS) (journalAt j.1) len j.2
          if bad then
            nvResult 3 8 j.1.length 0 (raise .NV_VERIFY_FAIL [] (({ d with nvs.arr := m, nvs.open_ := none }).set NVS_STAT_TXN_OPEN 0))
          else nvResult 3 0 j.1.length 0 { d with nvs.arr := m, nvs.open_ := some j.1 }
    | k => nvResult 3 k homes.length 0 d

/-- TXN_COMMIT (R417, R419, R421). -/
def nvCommitCmd (d : Dev) : Dev :=
  match d.nvs.open_ with
  | none => nvResult 4 7 0 0 d
  | some [] => nvResult 4 0 0 0 (({ d with nvs.open_ := none }).set NVS_STAT_TXN_OPEN 0)
  | some homes =>
    if !energyOk d homes.length then nvResult 4 1 homes.length 0 (lowPower d)
    else
      let d := (({ energyNote d with nvs.open_ := none }).set NVS_STAT_TXN_OPEN 0).set NVS_STAT_BUSY 1
      { d with nvs.run := some { op := 4, homes := homes, hdrAt := d.now, commitAt := d.now + 2000 } }

/-- Definition `i` of the application area (R408) as a number of 8 bytes. -/
def appWord (d : Dev) (i : Nat) : Nat := d.ent 0x0C00 0 / 2 ^ (64 * i) % 2 ^ 64

/-- The number of application definitions: up to the first all-zero one. -/
def appCount (d : Dev) : Nat := ((upto 512).find? (fun i => decide (appWord d i = 0))).getD 512

/-- The definition of application entry `idx`. -/
def appDef (d : Dev) (idx : Nat) : Option Nat :=
  if idx < 0xC000 ∨ 0xEFFF < idx then none
  else ((upto (appCount d)).map (appWord d)).find? (fun w => decide (w % 65536 = idx))

/-- The persistence of the entry with key `k`. -/
def persOf (d : Dev) (k : Nat) : Option Persist :=
  match entRow (k / 256) (k % 256) with
  | some r => some r.pers
  | none => (appDef d (k / 256)).map (fun w => let p := w / 2 ^ 48 % 256; if p = 1 then .nv else if p = 2 then .shd else .vol)

/-- Insert every entry of the first table into the second. -/
def tabMerge {α : Type} (src dst : Tab α) : Tab α := src.foldl (fun t e => tabIns e.1 e.2 t) dst

/-- What the runtime and the device hold in the shadow area. -/
def shadowNow (d : Dev) : ShadowImg :=
  { dict := d.dict.filter (fun e => decide (persOf d e.1 = some .shd)),
    timed := d.heg.timed, bins := d.xtf.bins, rbSum := d.xtf.rbSum, rbN := d.xtf.rbN, drives := d.mdu.drives.map (fun e => (e.1, { a := e.2.a })),
    bands := (upto 128).filterMap (fun k =>
      let a := MDU_FBAND (k / 8) (k % 8)
      if d.cfg a = resetOf a then none else some (a, d.cfg a)) }

/-- The inactive image: 1 where A is the one last loaded or saved. -/
def nextSlot (d : Dev) : Nat :=
  match d.nvs.descA, d.nvs.descB with
  | some a, some b => if a.seq < b.seq then 0 else 1
  | some _, none => 1
  | none, _ => 0

/-- SEQ of the next save. -/
def nextSeq (d : Dev) : Nat := max ((d.nvs.descA.map (·.seq)).getD 0) ((d.nvs.descB.map (·.seq)).getD 0) + 1

/-- Where image `slot` stands in the array. -/
def imageBase (slot : Nat) : Nat := if slot = 0 then 0x2000 else 0x12000

/-- Bytes of the shadow area copied to the image `slot` of the array. -/
def imageBytes (slot : Nat) (d : Dev) : Mem :=
  let base := imageBase slot
  let rest := d.nvs.arr.filter (fun c => decide (c.1 < base ∨ base + 0x10000 ≤ c.1))
  let img := (d.sram.filter (fun c => decide (0x203F0000 ≤ c.1 ∧ c.1 < 0x20400000))).map (fun c => (c.1 - 0x203F0000 + base, c.2))
  rest.filter (fun c => decide (c.1 < base)) ++ img ++ rest.filter (fun c => decide (base ≤ c.1))

/-- The image with the higher SEQ of those that are valid, and its slot (R427). -/
def shadowBest (d : Dev) : Option (Nat × ShadowDesc) :=
  match d.nvs.descA, d.nvs.descB with
  | some a, some b => if a.seq < b.seq then some (1, b) else some (0, a)
  | some a, none => some (0, a)
  | none, some b => some (1, b)
  | none, none => none

/-- NVS_SHADOW shows that image (R424, R510). -/
def shadowShow (d : Dev) : Dev :=
  match shadowBest d with
  | some (slot, s) => ((d.set NVS_SHADOW_SLOT slot).set NVS_SHADOW_VALID 1).set NVS_SHADOW_SEQ s.seq
  | none => ((d.set NVS_SHADOW_SLOT 0).set NVS_SHADOW_VALID 0).set NVS_SHADOW_SEQ 0

/-- A save starts: the marker is written, the inactive image is overwritten (R425, R426). -/
def saveStart (cause : Nat) (d : Dev) : Dev :=
  let s : ShadowDesc := ⟨nextSeq d, d.time64, cause, shadowNow d⟩
  let slot := nextSlot d
  let m := imageBytes slot d
  let d := { d with nvs.arr := m, nvs.saving := some s, nvs.marker := some s.seq }
  if slot = 0 then { d with nvs.descA := none } else { d with nvs.descB := none }

/-- A save ends: descriptor written, marker cleared. -/
def saveDone (d : Dev) : Dev :=
  match d.nvs.saving with
  | none => d
  | some s =>
    let slot := nextSlot d
    let d := { d with nvs.saving := none, nvs.marker := none }
    let d := if slot = 0 then { d with nvs.descA := some s } else { d with nvs.descB := some s }
    raise .NV_SAVE_DONE [s.cause, s.seq] (((shadowShow d).setEnt 0x8000 4 s.time).setEnt 0x8000 5 s.cause)

/-- A checkpoint starts, or waits for the command that is running (R426). -/
def ckptStart (d : Dev) : Dev :=
  if d.bit NVS_STAT_BUSY ∨ d.nvs.saving.isSome then { d with nvs.ckptPend := true }
  else saveStart 1 ((({ d with nvs.ckptPend := false }).set NVS_STAT_BUSY 1).set NVS_SHADOW_CKPT_BUSY 1)

/-- A checkpoint is asked for by CHECKPOINT_NOW or its period: it wakes the domain where that is off. -/
def ckptAsk (d : Dev) : Dev :=
  if d.bit PMC_LINE_FAIL then d
  else if d.ready 10 then ckptStart d
  else { wakeDomain 10 d with nvs.ckptPend := true, pwr.wakeReq := wakeAdd 10 d.pwr.wakeReq }

/-- A checkpoint that waits starts when no command is running. -/
def ckptKick (d : Dev) : Dev := if d.nvs.ckptPend ∧ !d.bit NVS_STAT_BUSY ∧ d.nvs.saving.isNone then ckptStart d else d

/-- A checkpoint ends: the bus writes that waited complete, and a checkpoint asked for meanwhile starts (R426). -/
def ckptDone (d : Dev) : Dev :=
  if d.bit NVS_SHADOW_CKPT_BUSY then
    let d := (saveDone d).set NVS_SHADOW_CKPT_BUSY 0
    let d := nvResult 11 0 0 0 d
    let d := d.nvs.shdWait.foldl (fun d w => { d with sram := memWrite d.sram w.1 w.2.2 w.2.1 }) d
    ckptKick { d with nvs.shdWait := [] }
  else d

/-- A random page content: a page that fails its read-back is left as the array holds it, which the manual does not say. -/
def pageLost (p : Nat) : Nat → Dev → Dev
  | 0, d => d
  | n + 1, d =>
    let r := d.freeVal
    pageLost p n { r.2 with nvs.arr := memPut r.2.nvs.arr (256 * p + n) (BitVec.ofNat 8 r.1) }

/-- The last page of the WRITE of a run. -/
def NvRun.last (r : NvRun) : Nat := (r.addr + r.len - 1) / 256

/-- The running transaction finishes its home copy and writes DONE (R419); a WRITE goes on with its next pages, one of which fails its
read-back in the journal where `bad` says so. -/
def txnFinish (badPages : List Nat) (bad : Bool) (d : Dev) : Dev :=
  match d.nvs.run with
  | none => d
  | some r =>
    let m := copyHome r.homes [] d.nvs.arr
    let m := if r.op = 1 ∧ d.nvs.open_.isSome then journalBack r.kept 4096 m else m
    let d := { d with nvs.arr := m, nvs.run := none, nvs.jc := { seq := (d.nvs.jc.seq + 1) % 2 ^ 32, homes := r.homes, pcrc := pageCrcs d.nvs.arr r.homes.length } }
    let d := d.set NVS_JSEQ_TXN_SEQ d.nvs.jc.seq
    let d := (badPages.filter r.homes.contains).foldl (fun d p => raise .NV_PAGE_FAILED [p] (pageLost p 256 d)) d
    ckptKick (if r.op = 1 ∧ r.next ≤ r.last then nvStart r.addr r.len r.sofs r.next (r.txns + 1) bad d
      else nvResult r.op 0 r.homes.length (r.txns + 1) d)

/-- Journal control as it stands now: a running transaction has written its header, its COMMIT word, or nothing yet (R418, R419). -/
def journalNow (d : Dev) : Journal :=
  let jc := d.nvs.jc
  match d.nvs.run with
  | some r =>
    let j : Journal := { seq := (jc.seq + 1) % 2 ^ 32, homes := r.homes, pcrc := pageCrcs d.nvs.arr r.homes.length, done := false }
    if r.commitAt ≤ d.now then j
    else if r.hdrAt ≤ d.now then { j with commit := false }
    else jc
  | none => jc

/-- The effect of line failure on transactions and commands (R422, R425). -/
def nvsLineFail (d : Dev) : Dev :=
  let d := { d with nvs.ckptPend := false }
  let d := match d.nvs.run with
    | some r =>
      if r.commitAt ≤ d.now then
        let d := txnFinish [] false { d with nvs.run := some { r with next := 0x1000 } }
        if r.op = 1 ∧ r.next ≤ r.last then nvResult 1 9 r.homes.length (r.txns + 1) d else d
      else
        let d := { d with nvs.run := none, nvs.jc := journalNow d }
        nvResult r.op 9 r.homes.length r.txns d
    | none => d
  let d := ({ d with nvs.open_ := none }).set NVS_STAT_TXN_OPEN 0
  if d.bit NVS_SHADOW_CKPT_BUSY then
    nvResult 11 9 0 0 (({ d with nvs.saving := none, nvs.shdWait := [] }).set NVS_SHADOW_CKPT_BUSY 0)
  else d

/-- Power is lost: a running transaction leaves in journal control what has been written by then (R418, R423). -/
def nvsPowerLoss (d : Dev) : Dev :=
  { d with nvs.jc := journalNow d, nvs.run := none, nvs.open_ := none, nvs.saving := none, nvs.ckptPend := false, nvs.shdWait := [],
           nvs.winWait := [], nvs.unlk := [], nvs.lock := [], nvs.pwd := none }

/-- The initiator may command the interface (R412, R413). -/
def nvMay (ini : Nat) (d : Dev) : Option Dev :=
  if d.get NVS_STAT_OWNER ≠ ini then some (count 0x15C (d.flagUp NVS_STAT_REJ))
  else if d.bit NVS_STAT_BUSY then some (count 0x15D (d.flagUp NVS_STAT_REJ))
  else none

/-- A command by `ini`. -/
def nvCmd (ini : Nat) (f : Dev → Dev) (d : Dev) : Dev :=
  match nvMay ini d with
  | some d => d
  | none => f d

/-- A command that ends at once with a status. -/
def nvQuick (op : Nat) (f : Dev → Nat × Dev) (d : Dev) : Dev :=
  let r := f d
  nvResult op r.1 0 0 r.2

/-- UNLOCK or SET_PWD with the staging bytes that it came with. -/
def pwdCmd (op index kind new cur : Nat) (d : Dev) : Dev :=
  nvQuick op (if op = 6 then unlockOp 0 index kind new else setPwdOp index kind new cur) d

/-- The command where its comparison can be made: while the Teller restarts it waits (R459). -/
def pwdStart (op index kind : Nat) (d : Dev) : Dev :=
  let new := stageNat d 0 16
  let cur := stageNat d 16 16
  if d.sec.tellerBusy then { d.set NVS_STAT_BUSY 1 with nvs.pwd := some (op, index, kind, new, cur) } else pwdCmd op index kind new cur d

/-- The Teller is ready: a password command that waits is executed. -/
def pwdGo (d : Dev) : Dev :=
  match d.nvs.pwd with
  | some (op, index, kind, new, cur) => if d.sec.tellerBusy then d else pwdCmd op index kind new cur { d with nvs.pwd := none }
  | none => d

/-- The command with code `op` (R413) while the line has not failed; `bad`: a journal page fails its read-back. -/
def nvRun (op index kind : Nat) (bad : Bool) (d : Dev) : Dev :=
  let d := if op = 0 then d else d.set NVS_STAT_BUSY 0
  match op with
  | 0 => d
  | 1 => nvWriteCmd bad d
  | 2 => nvQuick 2 (fun d => if d.nvs.open_.isSome then (7, d) else (0, ({ d with nvs.open_ := some [] }).set NVS_STAT_TXN_OPEN 1)) d
  | 3 => nvAddCmd bad d
  | 4 => nvCommitCmd d
  | 5 => nvQuick 5 (fun d => if d.nvs.open_.isNone then (7, d) else (0, ({ d with nvs.open_ := none }).set NVS_STAT_TXN_OPEN 0)) d
  | 6 | 8 => pwdStart op index kind d
  | 7 => nvQuick 7 (relockOp 0 index kind) d
  | 9 => nvQuick 9 (setRegionOp 0 index (stageNat d 0 2) (stageNat d 2 2) ((stageByte d 4).testBit 0)) d
  | 10 => nvQuick 10 (fun d => if (d.tally index).isNone then (2, d) else if energyOk d 1 then (0, tallyAdd index (energyNote d)) else (1, lowPower d)) d
  | 11 => ckptStart d
  | _ => nvResult op 2 0 0 d

/-- A command: after a line failure it ends with LOWPWR, and one with an energy check is counted as refused (R421, R422). -/
def nvOp (op index kind : Nat) (bad : Bool) (d : Dev) : Dev :=
  if op ≠ 0 ∧ d.bit PMC_LINE_FAIL then nvResult op 1 0 0 (if op = 1 ∨ op = 4 then lowPower d else d)
  else nvRun op index kind bad d

/-- Ownership ends: the open transaction is aborted and the owner's unlocks go (R412, R433). -/
def ownerEnd (d : Dev) : Dev :=
  let d := ({ d with nvs.open_ := none, nvs.unlk := d.nvs.unlk.filter (fun u => decide (u.1 ≠ 0)) }).set NVS_STAT_TXN_OPEN 0
  (upto 8).foldl (fun d r => rgnShow r d) (d.set NVS_STAT_OWNER 0xF)

/-- A half stops: what its cores own is given up (R412). -/
def ownerStop (half : Nat) (d : Dev) : Dev :=
  let o := d.get NVS_STAT_OWNER
  if o < 8 ∧ o / 4 = half then ownerEnd d else d

/-- A write of CLAIM. -/
def nvClaim (ini : Nat) (d : Dev) : Dev :=
  if d.get NVS_STAT_OWNER = 0xF then d.set NVS_STAT_OWNER ini else d

/-- A write of RELEASE. -/
def nvRelease (ini : Nat) (d : Dev) : Dev := if d.get NVS_STAT_OWNER = ini ∧ ini ≠ 0xF then ownerEnd d else d

/-- The debug port is reset: its session ends (R412, R439). -/
def debugReset (d : Dev) : Dev :=
  let d := { d with sec.dbgOpen := false }
  if d.get NVS_STAT_OWNER = 12 then ownerEnd d else d

/-! ### The runtime's own use (R435) -/

/-- Write bytes for session `sess` at once, page by page in transactions of up to 16 pages: the status (R414, R416). -/
def nvPutF (sess : Nat) : Nat → Nat → List Nat → Dev → Nat × Dev
  | 0, _, _, d => (0, d)
  | fuel + 1, addr, bytes, d =>
    if bytes = [] then (0, d)
    else
      let room := 4096 - addr % 256
      let part := bytes.take room
      let n := (addr % 256 + part.length + 255) / 256
      if !energyOk d n then (1, lowPower d)
      else
        let m := (upto part.length).foldl (fun m i => memPut m (addr + i) (BitVec.ofNat 8 (part.getD i 0))) d.nvs.arr
        let homes := List.range' (addr / 256) n
        let j : Journal := { seq := (d.nvs.jc.seq + 1) % 2 ^ 32, homes := homes, pcrc := pageCrcs (journalPages homes [] m).2 n }
        let d := { d with nvs.arr := m, nvs.jc := j }
        nvPutF sess fuel (addr + room) (bytes.drop room) ((energyNote d).set NVS_JSEQ_TXN_SEQ d.nvs.jc.seq)

/-- NV_ACCESS DATA written by a session: the status. -/
def nvPut (sess addr : Nat) (bytes : List Nat) (d : Dev) : Nat × Dev :=
  match nvRange d sess addr bytes.length 0 with
  | 0 => nvPutF sess 2 addr bytes d
  | k => (k, d)

/-- NV_ACCESS DATA read by a session: 256 bytes from `addr` under its unlocks. -/
def nvGet (d : Dev) (sess addr : Nat) : List Nat :=
  (upto 256).map (fun i => if 0xFFFFF < addr + i ∨ readLocked d sess ((addr + i) / 256) then 0 else arrByte d (addr + i))

/-- Size of a type in bytes. -/
def tySize : DTy → Nat
  | .bool | .u8 | .i8 => 1
  | .u16 | .i16 | .q15 => 2
  | .u32 | .i32 | .q31 | .f32 | .dur32 => 4
  | .u64 | .i64 | .time64 => 8
  | .str n => n
  | .blob n => n
  | .record => 1

/-- Pages of the store: the NV values that differ from their defaults, packed (R435). -/
def storePages (d : Dev) : Nat :=
  let size := fun (k : Nat) => match entRow (k / 256) (k % 256) with
    | some r => tySize r.ty
    | none => ((appDef d (k / 256)).map (· / 2 ^ 32 % 65536)).getD 0
  (d.dict.foldl (fun n e => if persOf d e.1 = some .nv then n + size e.1 else n) 0 + 255) / 256

/-- Pages below the lowest enabled region. -/
def storeRoom (d : Dev) : Nat :=
  (upto 8).foldl (fun m r => let x := regionOf d r; if x.2.2 then min m (x.1 - 0x220) else m) 3552

/-- Pages of `n` bytes. -/
def pagesOf (n : Nat) : Nat := (n + 255) / 256

/-- The values of one request that are written in place, packed, and those of more than 16 pages, in pages (R435). -/
def storeSmall (l : List Nat) : Nat := pagesOf ((l.filter (fun n => decide (n ≤ 4096))).foldl (· + ·) 0)
def storeLarge (l : List Nat) : List Nat := (l.filter (fun n => decide (4096 < n))).map pagesOf

/-- The transactions in which values of `l` bytes are stored: as few as 16 pages each allow, and for a larger value one more, which
switches to its new pages (R388, R416, R435). -/
def storeTxns (l : List Nat) : Nat :=
  (storeSmall l + 15) / 16 + (storeLarge l).foldl (fun n p => n + (p + 15) / 16 + 1) 0

/-- The store accepts the NV values of a request, `l` bytes each, which turn `d` into `d'`: 0, an NVS status, or 16 + a Hegus status. A
larger value needs its pages beside the old ones (R421, R435). -/
def storeCheckL (d d' : Dev) (l : List Nat) : Nat :=
  if d.get NVS_STAT_OWNER = 12 then 16 + 6
  else if storeRoom d < max (storePages d') (storePages d + (storeLarge l).foldl (· + ·) 0) then 16 + 9
  else if !energyOk d (min 16 (max 1 (storeSmall l + (storeLarge l).foldl (· + ·) 0))) then 1
  else 0

/-- The store accepts a write of `size` bytes that needs no further page. -/
def storeCheck (d : Dev) (size : Nat) : Nat := storeCheckL d d [size]

/-- The journal counts `k` transactions of the store, whose energy has been computed (R71). -/
def storeWriteN (k : Nat) (d : Dev) : Dev :=
  let d := { energyNote d with nvs.jc := { seq := (d.nvs.jc.seq + k) % 2 ^ 32, homes := [0x220] } }
  if d.ready 10 then d.set NVS_JSEQ_TXN_SEQ d.nvs.jc.seq else d

/-- One transaction of the store. -/
def storeWrite (d : Dev) : Dev := storeWriteN 1 d

/-! ### The read window (R410, R411, R432) -/

/-- A window read of `size` bytes at offset `off`. -/
def nvWindow (ini off size : Nat) (d : Dev) : Nat × Dev :=
  if !d.bit NVS_STAT_RECOVERED then (0, count 0x15A d)
  else
    let p := off / 256
    let coreLike := ini < 8 || ini = 12
    let hidden :=
      if p < 0x20 then true
      else if p < 0x220 then !coreLike
      else ini ≠ 8 && readLocked d (if ini < 8 then 0 else 0xFFFF) p
    if hidden then (0, count 0x15B d)
    else ((upto size).foldl (fun v i => v + arrByte d (off + i) * 256 ^ i) 0, d)

/-- A window read powers NVS on and waits for it where it is not ready (R53). -/
def nvWindowRead (ini off size : Nat) (d : Dev) : Dev :=
  if d.ready 10 then
    let r := nvWindow ini off size d
    { r.2 with bus := r.1, pwr.holdEnd := tabIns 10 (d.now + d.ent 0xA002 11) r.2.pwr.holdEnd,
               pwr.wakeReq := r.2.pwr.wakeReq.filter (· ≠ 10) }
  else { wakeDomain 10 d with nvs.winWait := d.nvs.winWait ++ [(ini, off, size)], pwr.wakeReq := wakeAdd 10 d.pwr.wakeReq }

/-- The waiting window reads complete when NVS is ready. -/
def nvWindowDrain (d : Dev) : Dev :=
  let l := d.nvs.winWait
  l.foldl (fun d w => nvWindowRead w.1 w.2.1 w.2.2 d) { d with nvs.winWait := [] }

/-! ### Seal counters (R429) -/

/-- The Teller advances seal counter `k`: performed or refused with RANGE. -/
def sealAdvanceOp (k v : Nat) (d : Dev) : Bool × Dev :=
  match d.sealC k with
  | none => (false, d)
  | some x =>
    if v ≤ x ∨ 2 ^ 32 ≤ v ∨ 15 < k then (false, d)
    else if !energyOk d 1 then (false, lowPower d)
    else
      (true, { (energyNote d).set (NVS_SEAL_VALUE k) v with nvs.seals := tabPut {} k ((tabGet {} k d.nvs.seals).put v) d.nvs.seals })

/-! ### Recovery (R423, R428, R434) -/

/-- What a two-copy record keeps when copy A (bit 0 of `copies`) or B (bit 1) does not match its CRC: after a cell fault, or an update that
was interrupted (R428). -/
def TwoCopy.lose (x : TwoCopy) (copies : Nat) : TwoCopy :=
  ⟨if copies.testBit 0 then none else x.a, if copies.testBit 1 then none else x.b⟩

/-- Record `i` loses copies; with none left it is damaged. 0–15 seals, 16–31 tallies, 32–39 regions, 40–55 verifiers, 56–63 failure
counts. -/
def recordLost (i copies : Nat) (d : Dev) : Dev :=
  let x := if i < 16 then tabGet {} i d.nvs.seals else if i < 32 then tabGet {} (i - 16) d.nvs.tallies
    else if i < 40 then tabGet {} (i - 32) d.nvs.regions else if i < 56 then tabGet {} (i - 40) d.nvs.verif
    else tabGet {} (i - 56) d.nvs.fails
  let y := x.lose copies
  let d := if i < 16 then { d with nvs.seals := tabPut {} i y d.nvs.seals }
    else if i < 32 then { d with nvs.tallies := tabPut {} (i - 16) y d.nvs.tallies }
    else if i < 40 then { d with nvs.regions := tabPut {} (i - 32) y d.nvs.regions }
    else if i < 56 then { d with nvs.verif := tabPut {} (i - 40) y d.nvs.verif }
    else { d with nvs.fails := tabPut {} (i - 56) y d.nvs.fails }
  if y.val.isNone then raise .NV_RECORD_DAMAGED [i] d else d

/-- The registers of R510 read as the array gives them. -/
def nvsLoad (d : Dev) : Dev :=
  let d := (upto 16).foldl (fun d k => d.set (NVS_SEAL_VALUE k) ((d.sealC k).getD 0xFFFFFFFF)) d
  let d := (upto 16).foldl (fun d k => d.set (NVS_TALLY_VALUE k) ((d.tally k).getD 0xFFFFFFFF)) d
  let d := d.set NVS_DMG_SEAL (maskOf 16 (fun k => (d.sealC k).isNone))
  let d := d.set NVS_DMG_TALLY (maskOf 16 (fun k => (d.tally k).isNone))
  let d := (upto 8).foldl (fun d r => lockStart r d) d
  (shadowShow d).set NVS_JSEQ_TXN_SEQ d.nvs.jc.seq

/-- Journal recovery. `hdrBad`: MAGIC or HCRC is wrong; `bad`: journal pages whose PCRC does not match; `recs`: records of which copies do
not match their CRC. -/
def nvsRecover (hdrBad : Bool) (bad : List Nat) (recs : List (Nat × Nat)) (d : Dev) : Dev :=
  let d := recs.foldl (fun d i => recordLost i.1 i.2 d) d
  let j := d.nvs.jc
  let ok := j.ok && !hdrBad
  let d :=
    if !ok ∨ !j.commit then
      let seq := if ok then j.seq else 0
      let d := (d.set NVS_RECOV_ACTION 1).set NVS_RECOV_PAGES j.homes.length
      raise .NV_ROLLED_BACK [j.seq, j.homes.length] { d with nvs.jc := { seq := seq } }
    else if j.done then d
    else
      let skip := bad.filter (fun i => decide (i < j.homes.length))
      let d := { d with nvs.arr := copyHome j.homes skip d.nvs.arr, nvs.jc := { j with done := true } }
      let d := (d.set NVS_RECOV_ACTION (if skip = [] then 2 else 3)).set NVS_RECOV_PAGES j.homes.length
      let d := d.set NVS_RECOV_DAMAGED (maskOf 16 skip.contains)
      let d := skip.foldl (fun d i => raise .NV_JOURNAL_DAMAGED [j.homes.getD i 0] d) d
      raise .NV_ROLLED_FORWARD [j.seq, j.homes.length] d
  let d := nvsLoad d
  let exh : Bool := match d.nvs.marker with
    | some s => !((d.nvs.descA.map (·.seq)) = some s || (d.nvs.descB.map (·.seq)) = some s)
    | none => false
  let d := if exh then tallyAdd 3 (raise .HOLDUP_EXHAUSTED [] (d.set NVS_RECOV_HOLDUP_EXH 1)) else d
  ({ d with nvs.marker := none }).set NVS_STAT_RECOVERED 1

/-! ### Shadow restore (R427) -/

/-- The shadow area takes the image, or is cleared. `badA`, `badB`: the image does not match its CRC. -/
def shadowLoad (badA badB : Bool) (d : Dev) : Dev :=
  let d := { d with nvs.descA := if badA then none else d.nvs.descA, nvs.descB := if badB then none else d.nvs.descB }
  let keep := d.dict.filter (fun e => decide (persOf d e.1 ≠ some .shd))
  let rest := d.sram.filter (fun c => decide (c.1 < 0x203F0000))
  match shadowBest d with
  | none =>
    raise .NV_SHADOW_EMPTY [] { shadowShow d with dict := keep, sram := rest, heg.timed := [], mdu.drives := [], xtf.bins := [], xtf.rbSum := 0, xtf.rbN := 0 }
  | some (slot, s) =>
    let base := imageBase slot
    let img := (d.nvs.arr.filter (fun c => decide (base ≤ c.1 ∧ c.1 < base + 0x10000))).map (fun c => (c.1 - base + 0x203F0000, c.2))
    let d := { d with dict := tabMerge s.img.dict keep, sram := rest ++ img,
                      heg.timed := s.img.timed.map (fun (t : TimedReq) => { t with sid := 0 }), mdu.drives := s.img.drives }
    let d := { d with xtf.bins := s.img.bins, xtf.rbSum := s.img.rbSum, xtf.rbN := s.img.rbN }
    let d := s.img.bands.foldl (fun d e => ctxPut e.1 e.2 (BitVec.allOnes 32) (if d.ready 6 then d.wr e.1 e.2 else d)) d
    ((shadowShow d).setEnt 0x8000 4 s.time).setEnt 0x8000 5 s.cause

end Sys2Proof.Machine
end

