-- ==== Sys2Proof/Machine/PmcOps.lean ====
section
/-! DEFINITION. Power-down of a domain, resets, the actions of a line failure and the full restart (R44, R49, R62, R74). -/

namespace Sys2Proof.Machine

/-! ### A domain goes off (R31, R49, R186, R510) -/

/-- Register bits that are held outside their domain (R31, R186, R510). -/
def heldMask (a : Nat) : Word :=
  let o := a % 0x1000
  if 0x40300 ≤ a / 0x1000 ∧ a / 0x1000 < 0x40304 then
    if o = 0x208 ∨ o = 0x20C then BitVec.allOnes 32
    else if o = 0x214 then wMask 8 8
    else if 0x400 ≤ o ∧ o < 0x600 then
      (if o % 0x20 = 0x10 ∨ o % 0x20 = 0x1C then BitVec.allOnes 32 else if o % 0x20 = 0x18 then wMask 16 16 else 0)
    else 0
  else if a = NVS_STAT then wMask NVS_STAT_RECOVERED.lo 1 ||| wMask NVS_STAT_OWNER.lo NVS_STAT_OWNER.width
  else if a / 0x10000 = 0x4035 ∧ (o = 0x1C ∨ o = 0x20 ∨ o = 0x24 ∨ (0x40 ≤ o ∧ o < 0x140)) ∧ a % 0x10000 < 0x1000 then BitVec.allOnes 32
  else 0

/-- The registers of domain `n` take their reset values, but for the bits held outside it (R6, R31). -/
def regsOff (n : Nat) (t : Tab Word) : Tab Word :=
  t.filterMap (fun e =>
    if domainOf e.1 = some n then
      let m := heldMask e.1
      let v := (resetOf e.1 &&& ~~~m) ||| (e.2 &&& m)
      if v = resetOf e.1 then none else some (e.1, v)
    else some e)

/-- A slot of an engine whose domain goes off: what is not in retained engine memory is lost (R249). -/
def slotOff (x : SlotS) : SlotS :=
  let st : SlotSt := match x.st with
    | .pending | .running | .spec => .armed
    | y => y
  { x with st := st, pend := .plain, waiting := none, rerunIns := none, satLast := false, cause := 0, port := 0 }

/-- The engines of a half go off. -/
def enginesOff (lo : Nat) (d : Dev) : Dev :=
  { d with cea.eng := d.cea.eng.map (fun e =>
      if lo ≤ e.1 ∧ e.1 < lo + 16 then
        (e.1, { e.2 with run := none, slots := e.2.slots.map (fun s => (s.1, slotOff s.2)), lastSlot := 0, lastPc := 0, tstart := 0, tfirst := false })
      else e) }

/-- A converter unit goes off; its coefficient store stays (R142). -/
def unitOff (u : Nat) (d : Dev) : Dev :=
  let s := d.cvuS u
  d.setCvu u { s with on := false, waiting := false, late := false, entry := 0, done := 0, mid := false, latched := false,
                      conv := none, chain := [], samp := 0, gap := false, queue := [], heldQ := [], paced := false }

/-- What stays of the motor drive unit while its domain is off: the levels of the balls, COAST since the last bridge-off, what of a channel
with a latch group was applied, the runtime's learning, and the drives (R56, R298, R306, R309). -/
def mduKept (d : Dev) : MduS :=
  { motors := (upto 8).foldl (fun t m =>
      let s := d.motor m
      let on := d.bit (MDU_MSTAT_MEN m) && decide (d.get (MDU_MSTART_COAST m) ≠ 0)
      let x : MotorS := if d.ready 6 then
          (if d.get (MDU_MTRIG_LATCH m) = 15 then {} else { offRun := d.get (MDU_MCMD_RUN m), offTgt := d.get (MDU_MCMD_TARGET m) })
        else { offRun := s.offRun, offTgt := s.offTgt }
      tabPut {} m { x with coast := s.coast || on } t) [],
    fans := (upto 16).foldl (fun t f =>
      let s := d.fan f
      let off := if d.ready 6 then (if d.get (MDU_FCFG_LATCH f) = 15 then 0 else d.get (MDU_FTGT_TARGET f)) else s.offTgt
      tabPut {} f { offTgt := off, bandN := s.bandN, band := s.band, bandSecs := s.bandSecs } t) [],
    drives := d.mdu.drives, mflt := d.mdu.mflt }

/-- What a full restart or a domain reset leaves of it: the balls and COAST. -/
def mduRest (d : Dev) : MduS :=
  { motors := (mduKept d).motors.filterMap (fun e => if e.2.coast then some (e.1, { coast := true }) else none), mflt := d.mdu.mflt }

/-- What a domain loses beside its registers when it goes off. -/
def hiddenOff (n : Nat) (d : Dev) : Dev :=
  match n with
  | 2 => enginesOff 0 d
  | 3 => enginesOff 16 d
  | 4 => unitOff 1 (unitOff 0 d)
  | 5 => unitOff 3 (unitOff 2 d)
  | 6 => { d with mdu := mduKept d }
  | 7 =>
    let a := d.aio
    { d with aio := { gpio := a.gpio, capN := a.capN, capT := a.capT, capAll := a.capAll, held := a.held } }
  | 8 =>
    let d := (upto 7).foldl (fun d p => netStop p d) d
    let x := d.net
    { d with net := { dhcp := x.dhcp, llCand := x.llCand, v6Stop := x.v6Stop, nbrs := x.nbrs } }
  | 9 => { d with can := [] }
  | 10 => { d with nvs.open_ := none, nvs.ckptPend := false }
  | _ => d

/-- Domain `n` goes off. -/
def domainOff (n : Nat) (d : Dev) : Dev :=
  if !d.bitN PMC_DOMSTAT_ON n && !d.ready n then d
  else
    let d := if n = 7 ∧ d.ready 7 then aioRetain d else if n = 9 ∧ d.ready 9 then csegRetain d else d
    let d := hiddenOff n d
    let d : Dev := { d with regs := regsOff n d.regs, pwr.wakeReq := d.pwr.wakeReq.filter (· ≠ n) }
    (d.setN PMC_DOMSTAT_ON n false).setN PMC_DOMSTAT_READY n false

/-- A domain is reset: its context record is emptied, its pin released, and it comes up again (R51, R62). -/
def domainReset (n : Nat) (d : Dev) : Dev :=
  let was := d.bitN PMC_DOMSTAT_ON n
  let d := domainOff n d
  let d : Dev := { d with pwr.ctx := d.pwr.ctx.filter (fun e => decide (domainOf e.1 ≠ some n)),
                          mdu := if n = 6 then { mduRest d with drives := d.mdu.drives } else d.mdu }
  let d := d.setN PMC_PINNED_PINNED n false
  if was then wakeDomain n d else d

/-! ### Keep-on conditions (R52) -/

/-- A keep-on condition of domain `n` holds. -/
def keepOn (d : Dev) (n : Nat) : Bool :=
  match n with
  | 0 | 1 => d.bitN PMC_DOMREQ_HOLD n || (d.pwr.halves.testBit n && d.pwr.coreWait / 16 ^ n % 16 ≠ 15)
  | 2 | 3 => (upto 16).any (fun k =>
      let e := d.eng (16 * (n - 2) + k)
      e.run.isSome || e.slots.any (fun s => s.2.st = .spec || s.2.held.isSome))
  | 4 | 5 => (upto 2).any (fun k =>
      let s := d.cvuS (2 * (n - 4) + k)
      s.on || s.conv.isSome || s.fgBusy || !s.queue.isEmpty)
  | 6 => (upto 8).any (fun m => d.bit (MDU_MSTAT_MEN m)) || (upto 16).any (fun f => decide (d.get (MDU_FSTAT_DUTY f) > 0))
  | 7 => (upto 32).any (fun k => actOn d k) || (upto 24).any (fun k => decide (d.get (AIO_DAC_CODE k) > 0)) ||
      (upto 8).any (fun c => d.bit (AIO_I2CCFG_EN c)) || (upto 64).any (fun k => decide (d.get (AIO_GPIOCFG_EDGE k) > 0))
  | 8 => (upto 6).any (fun p => decide (d.get (FNS_PORTSTAT_LINK p) = 2)) || decide (d.ent 0x2001 1 ≠ 0)
  | 9 => (upto 8).any (fun k => decide (d.get (CAN_STAT_MODE k) ≠ 0))
  | 10 => d.bit NVS_STAT_BUSY || d.nvs.run.isSome || d.nvs.open_.isSome || d.nvs.saving.isSome || d.nvs.ckptPend
  | 11 => !d.heg.sessions.isEmpty || (!d.bit NVS_STAT_RECOVERED) || d.sec.tellerBusy || d.sec.handover.isSome
  | _ => false

/-! ### Sessions (R401) -/

/-- Address and port of entry `a` of the admission table, as address × 65,536 + port. -/
def admKey (d : Dev) (a : Nat) : Nat :=
  (upto 4).foldl (fun n w => n + d.get (FNS_ADM_ADDR a w) * 2 ^ (32 * (3 - w) + 16)) 0 + d.get (FNS_ADM4_PORT a)

/-- The admission table takes the address and port of a session (R369, R397). -/
def letIn (peer : Nat) (d : Dev) : Dev :=
  match (upto 32).find? (fun a => !d.bit (FNS_ADM4_VALID a)) with
  | none => d
  | some a =>
    let d := (upto 4).foldl (fun d w => d.set (FNS_ADM_ADDR a w) (peer / 2 ^ (32 * (3 - w) + 16) % 2 ^ 32)) d
    (d.set (FNS_ADM4_PORT a) (peer % 65536)).set (FNS_ADM4_VALID a) 1

/-- The table is kept in step with the open sessions of roles ENGINEER and OWNER when NET starts (R369). -/
def admRefill (d : Dev) : Dev :=
  (d.heg.sessions.filter (fun s => decide (s.via = .udp ∧ 2 ≤ s.role))).foldl (fun d s =>
    if (upto 32).any (fun a => d.bit (FNS_ADM4_VALID a) && decide (admKey d a = s.peer)) then d else letIn s.peer d) d

/-- A session closes: what it holds is discarded, its unlocks and latches go (R40, R397, R401, R433). -/
def closeSession (n : Nat) (d : Dev) : Dev :=
  match d.session n with
  | none => d
  | some s =>
    let d := raise .HEGUS_SESSION_CLOSED [n, s.role] d
    let d := { d with heg.sessions := d.heg.sessions.filter (fun x => decide (x.num ≠ n)),
                      tlatch := d.tlatch.filter (fun e => decide (e.1 / 2 ^ 32 ≠ 16 + n)) }
    let d := { d with obs.latch := d.obs.latch.filter (fun e => decide (e.1 ≠ 16 + n)),
                      obs.stage := d.obs.stage.filter (fun e => decide (e.1 ≠ 16 + n)) }
    let d := { d with nvs.unlk := d.nvs.unlk.filter (fun u => decide (u.1 ≠ n)),
                      heg.heldAcks := d.heg.heldAcks.filter (fun a => decide (a.1 ≠ n)), heg.acks := d.heg.acks.filter (fun a => decide (a.1 ≠ n)),
                      sec.waits := d.sec.waits.filter (fun w => decide (w.sess ≠ n)) }
    let d := rxUnlockAll (16 + n) d
    let d := if s.via = .udp ∧ 2 ≤ s.role then
        (upto 32).foldl (fun d i =>
          if d.bit (FNS_ADM4_VALID i) ∧ admKey d i = s.peer then d.set (FNS_ADM4_VALID i) 0 else d) d
      else d
    if s.via = .spi then
      ({ d with heg.key := none, heg.outq := [] }).set HIF_STAT_AUTH 0 |>.set HIF_STAT_ROLE 0 |>.set HIF_STAT_OUTQ 0 |>.set HIF_STAT_IRQ 0
    else d

/-- Every session closes. -/
def closeAll (d : Dev) : Dev := (d.heg.sessions.map (·.num)).foldl (fun d n => closeSession n d) d

/-! ### Line failure and critical shutdown (R74, R75, R472) -/

/-- The domains that the third row of R74 turns off: the engines, converters, MDU, NET, CAN and SEC, and the half that
does not carry the save. Where both halves run, CORE-A carries it (DESIGN CHOICE, log entry 118). -/
def lineOffDomains (d : Dev) : List Nat :=
  [4, 5, 2, 3, 6, 8, 9, 11, if d.pwr.halves.testBit 0 then 1 else 0]

/-- Every bridge off and every FPWM low, where the MDU is ready (R56, R70, R74). -/
def bridgesOff (cause : Nat) (d : Dev) : Dev := if d.ready 6 then outputsOff cause d else d

/-- The actions of R74 from its 1 µs row onward: bridges off, the ledger suspended, domains off, and the save, which R75
leaves out before step 5. -/
def shutdownSeq (d : Dev) : Dev :=
  let d := bridgesOff 0 d
  let d := ldgSuspend d
  let d := (lineOffDomains d).foldl (fun d n => domainOff n d) d
  let d := (upto 8).foldl (fun d c => i2cHalt c d) d
  let d := nvsLineFail d
  if 5 ≤ d.pwr.step then saveStart 0 d else d

/-- A line failure (R48, R74). -/
def lineFailure (d : Dev) : Dev :=
  if d.bit PMC_LINE_FAIL then d
  else
    let was := d.pwr.save
    let d := d.set PMC_LINE_FAIL 1
    let d : Dev := { d with pwr.swOpen := true, pwr.eArmed := false }
    let d : Dev := if d.pwr.capPhase = .first ∨ d.pwr.capPhase = .second then
        { d with pwr.capPhase := .ended, pwr.capNF := none, pwr.capReads := [] } else d
    if was = .running then raise .LINE_FAIL [d.pwr.vlineMV] d
    else if was = .complete then raise .LINE_FAIL [d.pwr.vlineMV] { d with pwr.buck := false }
    else shutdownSeq (raise .LINE_FAIL [d.pwr.vlineMV] { d with pwr.save := .running, pwr.lineBack := false })

/-- The end of the save: every switchable domain off; after a line failure the buck stops (R74). -/
def saveEnd (d : Dev) : Dev :=
  let d := (upto 12).foldl (fun d n => domainOff n d) d
  { d with pwr.buck := d.pwr.buck && !d.bit PMC_LINE_FAIL }

/-! ### Full restart and power-on reset (R62) -/

/-- The dictionary values that a full restart leaves: NV and SHD entries and counts since power-on. -/
def dictKept (d : Dev) : Tab Nat :=
  d.dict.filter (fun e => decide (persOf d e.1 = some .nv ∨ persOf d e.1 = some .shd ∨
    (0x121000 ≤ e.1 ∧ e.1 < 0x121800) ∨ (0x130000 ≤ e.1 ∧ e.1 < 0x134000) ∨ e.1 = entKey 0x1001 6 ∨ e.1 = entKey 0x3040 1))

/-- Registers that show what a full restart leaves: reset causes, clocks and the line (R62). -/
def regsKept (t : Tab Word) : Tab Word := t.filter (fun e => decide (e.1 = PMC_RSTCAUSE ∨ e.1 = PMC_CLKSTAT ∨ e.1 = PMC_LINE))

/-- What is on trial when a restart comes is held in the activation records, and a slice on trial is retired again (R153,
R457). -/
def trialMark (d : Dev) : Dev :=
  let mark := fun (p : Nat) (d : Dev) => { d with sec.acts := tabIns p { (tabGet {} p d.sec.acts : ActS) with st := 2 } d.sec.acts }
  let d := (upto 32).foldl (fun d n => if (d.eng n).swap.st = 2 then mark (0x300 + n) d else d) d
  (upto 4).foldl (fun d u => (upto 9).foldl (fun d k =>
    if ((d.cvuS u).slices.any (·.trial)) ∧ (sliceAt d u k).trial then
      mark (0x500 + 16 * u + k) (d.setEnt (0x3000 + u) 4 (setBit (d.ent (0x3000 + u) 4) k true))
    else d) d) d

/-- A converter unit after a restart: retired slices stay retired, a trial is undone, the committed bank stays (R146,
R455). -/
def unitRestart (u : Nat) (d : Dev) : Dev :=
  let s := d.cvuS u
  let ret := d.ent (0x3000 + u) 4
  let base : CvuS := {}
  let sl := (upto 9).map (fun k => if ret.testBit k then ({ st := 2, pos := 15 } : SliceS) else base.slices.getD k { st := 2, pos := 15 })
  let d := d.setCvu u { base with slices := if ret = 0 then base.slices else renumber (sl.map (fun x => if x.st = 1 then { x with st := 0 } else x)),
                                  bank := if s.bankTrial then 1 - s.bank else s.bank,
                                  missed := s.missed, restarted := s.restarted, lost := s.lost }
  modeFollow u (rateApply u d)

/-- An activation record after a full restart: a pending one is cancelled (R456). -/
def actRestart (a : ActS) : ActS := if a.st = 1 then { a with st := 0, entry := none, at_ := 0 } else { a with entry := none }

/-- A full restart with the cause bit `cause` (R62): it resets every switchable domain and the AON logic, and runs the
power-up order from step 2. -/
def fullRestart (cause : Fld) (d : Dev) : Dev :=
  let d := trialMark (nvsPowerLoss d)
  let cert := decide (d.sec.certOtp = 1)
  let entered := decide (cert ≠ d.sec.certified)
  let x := d.sec
  let p := d.pwr
  let h := d.heg
  let d := ldgOff (xtfRestart d)
  let f := (d.freeVal).1
  let deep := decide (d.get PMC_PSTATE_STATE = 3)
  let d := if 2 ≤ d.get PMC_PSTATE_STATE then d.set PMC_CLKSTAT_PLL_LOCK 7 else d
  let d := if deep ∧ !d.bit PMC_CLKSTAT_ON_RC then { d.set PMC_CLKSTAT_REF_OK 1 with xtf.leave32 := d.xtf.on32 } else d
  let d : Dev := { d with
    regs := regsKept d.regs, dict := dictKept d, obs := {}, evLog := [], evSeq := 0, cyc := {}, tlatch := [], free := d.free + 1,
    cea := {}, held := [], can := [], net := {}, mdu := mduRest d, floor := {}, stamps := [],
    aio := { gpio := d.aio.gpio, capAll := d.aio.capAll },
    heg := { timed := h.timed, pubCtr := h.pubCtr, limited := h.limited },
    thm := { crits := d.thm.crits },
    sec := { x with certified := cert, restartAt := none, dbgOpen := false, nonce := f, refused := 0, waits := [],
                    tellerBusy := false, recovery := none, blockStops := [], handover := none, failing := [],
                    acts := x.acts.map (fun a => (a.1, actRestart a.2)) },
    pwr := { swOpen := false, buck := p.buck, localLine := p.localLine, capPhase := .ended, capNF := p.capNF, vholdMV := p.vholdMV,
             vlineMV := p.vlineMV, step := 1, pinHeld := p.pinHeld, upSince := d.now, nvEvents := p.nvEvents } }
  let d := (upto 4).foldl (fun d u => unitRestart u d) d
  let d := d.set PMC_LINE_FAIL 0
  let d := wakeDomain 11 (d.flagUp cause)
  if entered then raise .SEC_CERTIFIED [cert.toNat] d else d

/-- What survives a loss of VAON: the flash, the array, the OTP and Vault image, and the NV entries. -/
def powerGone (d : Dev) : Dev :=
  let d := trialMark (nvsPowerLoss d)
  let x := d.sec
  let d : Dev := {
      flash := d.flash, flashSize := d.flashSize, free := d.free + 1, now := d.now,
      dict := d.dict.filter (fun e => decide (persOf d e.1 = some .nv)),
      nvs := { d.nvs with lowAt := none },
      sec := { lcs := x.lcs, owner := x.owner, revoked := x.revoked, certOtp := x.certOtp, certified := decide (x.certOtp = 1),
               erased := x.erased, newKeys := x.newKeys, opKey := x.opKey, nonce := (d.freeVal).1, tampers := x.tampers,
               acts := x.acts.map (fun a => (a.1, actRestart a.2)), staged := x.staged, hashes := x.hashes },
      cvu := d.cvu.filterMap (fun e =>
        let b := if e.2.bankTrial then 1 - e.2.bank else e.2.bank
        if b = 0 then none else some (e.1, { bank := b })),
      pwr := { localLine := d.pwr.localLine, upSince := d.now, nvEvents := d.pwr.nvEvents } }
  (upto 4).foldl (fun d u => unitRestart u d) d

end Sys2Proof.Machine
end

