-- ==== Sys2Proof/Machine/RegRead.lean ====
section
/-! DEFINITION. Reads of the address map: reach (R22, R24), regions (R27, R28), register values that hardware computes, the
two views (R11, R34), read side effects (R5, R8, R9, R80, R326, R353, R482) and memory windows (R32). -/

namespace Sys2Proof.Machine

/-- A number as a register word. -/
def word (n : Nat) : Word := BitVec.ofNat 32 n

/-! ### Reach (R22, R24, R39) -/

/-- The debug port is an initiator: always in OPEN, else in an authorised session (R24, R441, R443). -/
def debugOpen (d : Dev) : Bool := d.sec.lcs = 0 || d.sec.dbgOpen || (d.sec.lcs = 3 && d.sec.erased)

/-- The regions of R27: 0 boot ROM, 1 flash window, 2–4 SRAM runtime, ring and shadow area, 5 NV read window, 6 privileged
blocks, 7 privileged windows, 8 alias of the blocks, 9 alias of the windows. -/
def mapRegion (a : Nat) : Option Nat :=
  if a < 0x40000 then some 0
  else if 0x10000000 ≤ a ∧ a < 0x20000000 then some 1
  else if 0x20000000 ≤ a ∧ a < 0x20300000 then some 2
  else if 0x20300000 ≤ a ∧ a < 0x203F0000 then some 3
  else if 0x203F0000 ≤ a ∧ a < 0x20400000 then some 4
  else if 0x30000000 ≤ a ∧ a < 0x30100000 then some 5
  else if 0x40000000 ≤ a ∧ a < 0x41000000 then some 6
  else if 0x41000000 ≤ a ∧ a < 0x42000000 then some 7
  else if 0x60000000 ≤ a ∧ a < 0x61000000 then some 8
  else if 0x61000000 ≤ a ∧ a < 0x62000000 then some 9
  else none

/-- Region `g` lies within the reach of initiator `ini` for a read or a write at `a` (R22). -/
def inReach (d : Dev) (ini sess g a : Nat) (write : Bool) : Bool :=
  if ini ≤ 7 ∨ ini = 12 then true
  else if ini = 8 then (if g ≤ 1 ∨ g = 5 then true else if 2 ≤ g ∧ g ≤ 4 then !write else g = 6 && a / 0x10000 = 0x4036)
  else if ini = 9 then g = 3 && write
  else if ini = 10 ∨ ini = 11 then g = 2
  else if ini = 14 then g = 8 || (g = 6 && decide (d.sessRole sess ≥ 2))
  else false

/-! ### Registers that hardware computes -/

/-- Entry `i` of the access-violation log as its register at offset `o` (R35, R36). -/
def avWord (d : Dev) (i o : Nat) : Word :=
  match d.av.entries[i]? with
  | none => 0
  | some e =>
    if o = 0 then word e.addr
    else if o = 4 then word (e.kind + 16 * e.ini + 256 * e.write.toNat + 512 * e.unpriv.toNat + 1024 * e.size + 65536 * (e.sess % 1024))
    else if o = 8 then word e.time
    else word (e.time / 2 ^ 32)

/-- CE_STAT of engine `n`. -/
def ceStatWord (d : Dev) (n : Nat) : Word :=
  let e := d.eng n
  match e.run with
  | some r => word (1 + 2 * (decide (r.kind = .spec)).toNat + 256 * r.slot + 65536 * r.pc)
  | none => word (256 * e.lastSlot + 65536 * e.lastPc)

/-- CE_SSTAT of slot `s` of engine `n`. -/
def ceSstatWord (d : Dev) (n s : Nat) : Word :=
  let x := d.slot n s
  let st := match x.st with | .disabled => 0 | .armed => 1 | .pending => 2 | .running => 3 | .spec => 4 | .demoted => 5
  word (st + 8 * x.held.isSome.toNat + 16 * x.satLast.toNat + 32 * (x.cause % 8) + 256 * (x.port % 64) + 65536 * (x.miss % 16) +
    2 ^ 24 * (x.seq % 256))

/-- The first unconsumed occurrence index of the selected ledger entry, retired or not, and its instant; 0 where it has none. -/
def ldgNext (d : Dev) (e : Nat) : Nat × Nat :=
  let w := ldgEntry d e
  let x := d.lent e
  match (if w.en then nextAfter d w x x.start else none) with
  | none => (0, 0)
  | some i => (i, ux 64 (instant d w i).1)

/-- The flags of LDG_ESTAT. -/
def ldgFlags (x : LEnt) : Nat := x.retired.toNat + 2 * x.lateLast.toNat + 4 * x.guardedLast.toNat + 8 * x.fallbackLast.toNat

/-- The value of counter `k` before the increments of this cycle (R482, R483). -/
def cntBefore (d : Dev) (k : Nat) : Nat :=
  let now := tabGet 0 k d.obs.cnt
  if d.obs.wrote.contains k then (now + 2 ^ 48 - tabGet 0 k d.obs.incN) % 2 ^ 48 else tabGet now k d.obs.start

/-- The key of a reader's latch for address `a`. -/
def latchKey (key a : Nat) : Nat := key * 2 ^ 32 + a

/-- A reader's latch. -/
def Dev.latchOf (d : Dev) (key a : Nat) : Nat := tabGet 0 (latchKey key a) d.tlatch

/-- Fill a reader's latch. -/
def latchPut (key a v : Nat) (d : Dev) : Dev := { d with tlatch := tabPut 0 (latchKey key a) v d.tlatch }

/-- The 64-bit value whose low word the register at `a` shows, where its high word is read through a latch (R80, R95). -/
def pairValue (a : Nat) (d : Dev) : Option Nat :=
  if a = XTF_TIME_LO then some d.time64
  else if a = XTF_PPSIN_LO then some d.xtf.ppsCap
  else if a = XTF_TSYNC_LO then some d.xtf.tsCap
  else if a = LDG_NEXT_LO then some (ldgNext d (d.get LDG_SEL_SEL)).2
  else if CE_TSTART_LO 0 ≤ a ∧ a < CE_TSTART_LO 32 ∧ a % 0x10000 = 0x620 then some (d.eng ((a - CE_TSTART_LO 0) / 0x10000)).tstart
  else none

/-- The owner key slot in use: the highest programmed slot; 7 none (R441, R446). -/
def ownerSlot (d : Dev) : Nat := d.sec.owner.foldl (fun s e => if s = 7 ∨ s < e.1 then e.1 else s) 7

/-- The Teller is up: step 2 is done, or it runs a recovery of the runtime (R67, R450). -/
def tellerUp (d : Dev) : Bool :=
  decide (2 ≤ d.pwr.step) || (match d.sec.recovery with | some (k, _) => k = 1 | none => false)

/-- HRDY: the device can accept a frame. It is low until step 4, while the receive buffer holds a frame, and in DEEP (R402). -/
def hrdyHigh (d : Dev) : Bool :=
  d.pwr.hrdy && d.bit HIF_CFG_EN && !d.heg.rxFull && decide (d.get PMC_PSTATE_STATE ≠ 3)

/-- The register at `a` as hardware computes it for a reader; none where the stored value is shown. -/
def liveReg (key a : Nat) (d : Dev) : Option Word :=
  let b := a / 0x10000 % 0x100
  if b = 0x36 then
    if a = SCU_AVLOG_STAT then some (word (d.av.entries.length + 65536 * d.av.lost))
    else if 0x40360810 ≤ a ∧ a < 0x40360910 then some (avWord d ((a - 0x40360810) / 16) (a % 16))
    else if a = SCU_LCS then
      some (word (d.sec.lcs + 4 * d.sec.certified.toNat + 8 * d.sec.dbgOpen.toNat +
        16 * (tellerUp d && !d.sec.tellerBusy).toNat + 32 * d.sec.recovery.isSome.toNat + 256 * (if tellerUp d then ownerSlot d else 0)))
    else none
  else if b = 0x00 then
    if a = PMC_CTXUSE then some (word d.pwr.ctx.length)
    else if a = PMC_HOLDUP then some (wSet (d.rd a) 16 16 (70 * d.get PMC_CFG_HOLDWIN))
    else none
  else if a = NVS_JSEQ then
    match d.nvs.run with
    | some r => if r.commitAt ≤ d.now then some (word ((d.nvs.jc.seq + 1) % 2 ^ 32)) else none
    | none => none
  else if b = 0x02 then
    if a = XTF_STATUS then some (xtfStatus d)
    else if a = XTF_RATE then some (word (ux 32 (rateAdj d)))
    else if a = XTF_ERREST then some (word (errEst d))
    else if a = XTF_TIME_HI ∨ a = XTF_PPSIN_HI ∨ a = XTF_TSYNC_HI ∨ a = LDG_NEXT_HI then some (word (d.latchOf key a))
    else if a = LDG_STATE then some (word (d.ldg.st + 65536 * d.ldg.armed))
    else if a = LDG_NEXTIDX then some (word (ldgNext d (d.get LDG_SEL_SEL)).1)
    else if a = LDG_ESTAT then
      let x := d.lent (d.get LDG_SEL_SEL)
      some (word (ldgFlags x + 65536 * x.missed))
    else (pairValue a d).map word
  else if 0x10 ≤ b ∧ b < 0x30 then
    let n := b - 0x10
    let o := a % 0x10000
    if o = 0x004 then some (ceStatWord d n)
    else if 0x100 ≤ o ∧ o < 0x300 ∧ o % 0x20 = 0x14 then some (ceSstatWord d n ((o - 0x100) / 0x20))
    else if o = 0x508 then let w := (d.eng n).swap; some (word (w.st + 16 * w.slot + 256 * w.code))
    else if o = 0x620 then some (word (d.eng n).tstart)
    else if o = 0x624 then some (word (d.latchOf key a))
    else none
  else if b = 0x32 then
    if a = AIO_ACTSTAT then some (word (maskOf 32 (actOn d)))
    else if a = AIO_GPIOIN_LO then some (word (maskOf 32 (gpioIn d)))
    else if a = AIO_GPIOIN_HI then some (word (maskOf 32 (fun k => gpioIn d (32 + k))))
    else if a = AIO_GCAPT_LO then some (word (d.latchOf key AIO_GCAPT_LO))
    else if a = AIO_GCAPT_HI then some (word (d.latchOf key AIO_GCAPT_LO / 2 ^ 32))
    else if AIO_GCAP 0 ≤ a ∧ a < AIO_GCAP 64 then some (word (capBefore d ((a - AIO_GCAP 0) / 4)).1)
    else none
  else if b = 0x35 then
    if a = NVS_SHADOW then some (wSet (d.rd a) 3 1 (if d.pwr.save = .running then 1 else 0))
    else if NVS_RGNFAIL 0 ≤ a ∧ a < NVS_RGNFAIL 8 then
      let r := (a - NVS_RGNFAIL 0) / 4
      let left := tabGet 0 r d.nvs.lock - d.now
      some (wSet (d.rd a) 16 12 ((left + 999999999) / 1000000000))
    else none
  else if b = 0x37 then
    let o := a % 0x10000
    if a = OBS_SNAPT_LO then some (word d.obs.bank.t)
    else if a = OBS_SNAPT_HI then some (word (d.obs.bank.t / 2 ^ 32))
    else if OBS_OVF 0 ≤ a ∧ a < OBS_OVF 13 then some (word (tabGet 0 ((a - OBS_OVF 0) / 4) d.obs.ovf))
    else if OBS_SOVF 0 ≤ a ∧ a < OBS_SOVF 13 then some (word (tabGet 0 ((a - OBS_SOVF 0) / 4) d.obs.bank.ovf))
    else if 0x1000 ≤ o ∧ o < 0x1000 + 8 * 400 then
      let k := (o - 0x1000) / 8
      if o % 8 = 0 then some (word (cntBefore d k))
      else match d.obs.latch.find? (fun e => e.1 = key) with
        | some (_, kk, hi) => some (word (if kk = k then hi else cntBefore d k / 2 ^ 32))
        | none => some (word (cntBefore d k / 2 ^ 32))
    else if 0x2000 ≤ o ∧ o < 0x2000 + 8 * 400 then
      let v := tabGet 0 ((o - 0x2000) / 8) d.obs.bank.cnt
      some (word (if o % 8 = 0 then v else v / 2 ^ 32))
    else none
  else if a = HIF_STAT then some (wSet (d.rd a) 0 1 (hrdyHigh d).toNat)
  else none

/-- The value bits of an OBS register (R488). -/
def obsValueBits (a : Nat) : Word :=
  if a / 0x10000 ≠ 0x4037 then 0
  else if a = OBS_SNAPSTAT then wMask 0 16
  else if OBS_OVF 0 ≤ a ∧ a < OBS_OVF 13 ∨ OBS_SOVF 0 ≤ a ∧ a < OBS_SOVF 13 ∨ a % 0x10000 ≥ 0x1000 ∨ a = OBS_SNAPT_LO ∨
    a = OBS_SNAPT_HI then wMask 0 32
  else 0

/-- The bits that R488 keeps from the alias while UNPRIV_READ is 0. -/
def obsHidden (a : Nat) (d : Dev) : Word := if d.bit OBS_CTRL_UNPRIV_READ then 0 else obsValueBits a

/-- The bits of a register that a read returns: no reserved bits (R7), no WO fields (R8), and through the alias no
privileged-only field (R11). -/
def readMask (r : RegRow) (unpriv : Bool) : Word :=
  r.fields.foldl (fun m f =>
    if f.acc = .rsvd ∨ f.acc = .wo ∨ (unpriv && f.privOnly) then m else m ||| wMask f.lo f.width) 0

/-- RC fields that hardware changed in this cycle show the value before (R9). -/
def rcShown (a : Nat) (r : RegRow) (v : Word) (d : Dev) : Word :=
  r.fields.foldl (fun v f =>
    if f.acc ≠ .rc then v
    else match d.cyc.rcOld.find? (fun p => p.1 = ⟨a, f.lo, f.width⟩) with
      | some p => wSet v f.lo f.width p.2.1
      | none => v) v

/-- The value that a read of the register at `a` returns. -/
def shownReg (key a : Nat) (unpriv : Bool) (r : RegRow) (d : Dev) : Word :=
  if unpriv && r.priv then 0
  else
    let v := rcShown a r ((liveReg key a d).getD (d.rd a)) d
    v &&& readMask r unpriv &&& (if unpriv then ~~~(obsHidden a d) else ~~~(0 : Word))

/-! ### Read side effects -/

/-- A read clears the RC fields that lie wholly within the bytes read, and keeps an update of the same cycle (R5, R8, R9). -/
def rcClear (a : Nat) (bytes : Word) (r : RegRow) (d : Dev) : Dev :=
  r.fields.foldl (fun d f =>
    if f.acc ≠ .rc ∨ wMask f.lo f.width &&& bytes ≠ wMask f.lo f.width then d
    else
      let fl : Fld := ⟨a, f.lo, f.width⟩
      match d.cyc.rcOld.find? (fun p => p.1 = fl) with
      | none => d.set fl 0
      | some (_, _, n) =>
        let d := d.set fl (min n (2 ^ f.width - 1))
        { d with cyc.rcOld := d.cyc.rcOld.map (fun p => if p.1 = fl then (fl, 0, n) else p) }) d

/-- A LO read of counter `k` fills the reader's latch (R482). -/
def cntLatch (key k : Nat) (d : Dev) : Dev :=
  { d with obs.latch := tabIns key (k, cntBefore d k / 2 ^ 32) d.obs.latch }

/-- A HI read of counter `k` uses the latch up (R482). -/
def cntUnlatch (key k : Nat) (d : Dev) : Dev :=
  { d with obs.latch := d.obs.latch.filter (fun e => !(e.1 = key && e.2.1 = k)) }

/-- What a read does besides returning the value. -/
def readEffect (key a : Nat) (unpriv : Bool) (bytes : Word) (r : RegRow) (d : Dev) : Dev :=
  let d := if unpriv then d else rcClear a bytes r d
  let d := if unpriv && !r.priv then rcClear a bytes { r with fields := r.fields.filter (fun f => !f.privOnly) } d else d
  if unpriv && (r.priv || obsHidden a d ≠ 0) then d
  else
    match pairValue a d with
    | some v => latchPut key (a + 4) (v / 2 ^ 32) d
    | none =>
      let o := a % 0x10000
      if a = XTF_TSYNC_HI then { d with xtf.tsFull := false }
      else if AIO_GCAP 0 ≤ a ∧ a < AIO_GCAP 64 then latchPut key AIO_GCAPT_LO (capBefore d ((a - AIO_GCAP 0) / 4)).2 d
      else if a / 0x10000 = 0x4037 ∧ 0x1000 ≤ o ∧ o < 0x1000 + 8 * 400 then
        if o % 8 = 0 then cntLatch key ((o - 0x1000) / 8) d else cntUnlatch key ((o - 0x1000) / 8) d
      else d

/-- The head window of an RX queue: channel, queue and word (R353). -/
def rxhIndex (a : Nat) : Option (Nat × Nat × Nat) :=
  let o := a % 0x1000
  if a / 0x10000 = 0x4033 ∧ a % 0x10000 < 0x8000 ∧ 0x200 ≤ o ∧ o < 0x300 ∧ o % 0x80 < 72 then
    some (a / 0x1000 % 16, (o - 0x200) / 0x80, o % 0x80 / 4)
  else none

/-- The bytes of a word that an access covers, as a mask. -/
def byteMask (a size : Nat) : Word := wMask (8 * (a % 4)) (8 * size)

/-- A read of the register at privileged address `a` (word aligned) of the bytes in `bytes`. -/
def regRead (key a : Nat) (unpriv : Bool) (bytes : Word) (r : RegRow) (d : Dev) : Word × Dev :=
  match rxhIndex a with
  | some (n, q, w) =>
    if unpriv && r.priv then (0, d) else
    let x := rxhReadOp key n q w d
    (word x.1, x.2)
  | none => (shownReg key a unpriv r d, readEffect key a unpriv bytes r d)

/-! ### Memory windows (R32, R190, R361) -/

/-- An address of a memory window holds something: the engine memories, the CAN message RAM and the ledger books. -/
def winUsed (a : Nat) : Bool :=
  let o := a - 0x41000000
  if o < 0x200000 then
    let w := o % 0x10000
    decide (w < 0x2800 ∨ (0x3000 ≤ w ∧ w < 0x3A00) ∨ (0x4000 ≤ w ∧ w < 0x8000))
  else if o < 0x218000 then decide ((o - 0x200000) % 0x3000 < 0x2D48)
  else decide (0x300000 ≤ o ∧ o < 0x320000)

/-- The power domain of a window address; none for AON and for space that no window takes. -/
def winDomain (a : Nat) : Option Nat :=
  let o := a - 0x41000000
  if o < 0x100000 then some 2 else if o < 0x200000 then some 3 else if o < 0x218000 then some 9 else none

/-! ### The bus -/

/-- Log one violation of an access. -/
def busViolation (kind addr ini sess : Nat) (write unpriv : Bool) (size : Nat) (d : Dev) : Dev :=
  violation kind addr ini sess write unpriv size d

/-- A read of peripheral space at privileged address `p`, issued at `addr` (R5, R28, R31, R34). -/
def periphRead (ini sess addr p size : Nat) (unpriv : Bool) (d : Dev) : Nat × Dev :=
  let vio := fun (k : Nat) => (0, busViolation k (if ini = 14 then p else addr) ini sess false unpriv size d)
  let a := p / 4 * 4
  match findReg a with
  | none => vio 5
  | some (r, _) =>
    if !d.readyAt a then vio 6
    else
      let x := regRead (readerKey ini sess) a unpriv (byteMask p size) r d
      (x.1.toNat / 2 ^ (8 * (p % 4)) % 2 ^ (8 * size), x.2)

/-- A read of a memory window at privileged address `p` (R32). The alias reads 0 unlogged in space that no window takes, as it does
in unused space of a privileged-only window (DESIGN CHOICE, log entry 116). -/
def winRead (ini sess addr p size : Nat) (unpriv : Bool) (d : Dev) : Nat × Dev :=
  let vio := fun (k : Nat) => (0, busViolation k addr ini sess false unpriv size d)
  if (match winDomain p with | some n => !d.ready n | none => false) then vio 6
  else if unpriv then (0, d)
  else if !winUsed p then vio 5
  else (memRead d.win p size, d)

/-- One byte of the flash device. -/
def flashByte (d : Dev) (o : Nat) : Nat := 255 - (memByte d.flash o).toNat

/-- `n` bytes of the flash device as a little-endian number. -/
def flashRead (d : Dev) (o : Nat) : Nat → Nat
  | 0 => 0
  | n + 1 => flashByte d o + 256 * flashRead d (o + 1) n

/-- `n` bytes of the boot ROM. -/
def romRead (o : Nat) : Nat → Nat
  | 0 => 0
  | n + 1 => (Config.bootRomByte o).toNat + 256 * romRead (o + 1) n

/-- A bus read: its value and the device after it (R22, R24, R27, R28). A read of the NV window that waits for NVS returns
its value when the domain is ready (R53). -/
def busReadV (ini sess addr size : Nat) (d : Dev) : Nat × Dev :=
  if ini = 12 ∧ !debugOpen d then (0, d)
  else
    let unpriv : Bool := decide (0x60000000 ≤ addr ∧ addr < 0x62000000)
    let vio := fun (k : Nat) => (0, busViolation k addr ini sess false unpriv size d)
    match mapRegion addr with
    | none => vio 5
    | some g =>
      if !inReach d ini sess g addr false then vio 10
      else if g = 0 then (romRead addr size, d)
      else if g = 1 then
        if addr - 0x10000000 + size > d.flashSize then vio 5 else (flashRead d (addr - 0x10000000) size, d)
      else if g ≤ 4 then (memRead d.sram addr size, d)
      else if g = 5 then
        let d := nvWindowRead ini (addr - 0x30000000) size d
        (d.bus, d)
      else if g = 6 then periphRead ini sess addr addr size false d
      else if g = 8 then periphRead ini sess addr (addr - 0x20000000) size true d
      else if g = 7 then winRead ini sess addr addr size false d
      else winRead ini sess addr (addr - 0x20000000) size true d

/-- A bus read; the value goes to the reader. -/
def busRead (ini sess addr size : Nat) (d : Dev) : Dev :=
  let r := busReadV ini sess addr size d
  { r.2 with bus := r.1 }

/-- A read of the register at privileged address `a`: the mirror agent reads it in the view of its session's role (R39). -/
def viewRead (ini sess a : Nat) (d : Dev) : Dev :=
  busRead ini sess (if ini = 14 ∧ d.sessRole sess < 2 then a + 0x20000000 else a) 4 d

end Sys2Proof.Machine
end

