-- ==== Sys2Proof/Machine/MduOps.lean ====
section
/-! DEFINITION. Operations of the motor and fan drive: valleys, ramps, motor decisions, tachometers, current bands and the
ageing index (chapter 10). -/

namespace Sys2Proof.Machine

/-! ### Motor channels -/

/-- MIN_SPEED, with 0 acting as 1 (MDU_MMIN). -/
def minSpeed (d : Dev) (m : Nat) : Nat := max (d.get (MDU_MMIN_MIN_SPEED m)) 1

/-- |SPDEST|, or none while the observer has not locked. -/
def spdMag (d : Dev) (m : Nat) : Option Nat :=
  if d.get (MDU_MSPD_SPDEST m) = 0x8000 then none else some (d.sget (MDU_MSPD_SPDEST m)).natAbs

/-- The goal of SPDCMD: TARGET in RUN, raised to MIN_SPEED when it is smaller and not 0; 0 in STOPPING (R299). -/
def spdGoal (d : Dev) (m : Nat) : Int :=
  if d.get (MDU_MSTAT_STATE m) = 2 then
    let t := d.sget (MDU_MCMD_TARGET m)
    if t = 0 then 0 else if t.natAbs < minSpeed d m then (if t < 0 then -(minSpeed d m : Nat) else (minSpeed d m : Nat)) else t
  else 0

/-- One step of the ramp of R299: command, goal, ACCEL, DECEL, PER and fraction give the new command and fraction. One
period is PER × 10 ns. -/
def rampStep (cmd goal : Int) (acc dec per frac : Nat) : Int × Nat :=
  if cmd = goal then (goal, 0)
  else
    let falling := decide ((cmd > 0 ∧ goal < cmd) ∨ (cmd < 0 ∧ goal > cmd))
    let sum := frac + (if falling then dec else acc) * per
    let k : Int := (sum / 100000000 : Nat)
    let nxt := if goal > cmd then min goal (cmd + k) else max goal (cmd - k)
    let nxt := if falling ∧ ((cmd > 0 ∧ nxt < 0) ∨ (cmd < 0 ∧ nxt > 0)) then 0 else nxt
    (nxt, if nxt = goal then 0 else sum % 100000000)

/-- The ramp at a valley in RUN and STOPPING (R299). -/
def motorRamp (m : Nat) (d : Dev) : Dev :=
  let st := d.get (MDU_MSTAT_STATE m)
  if st = 2 ∨ st = 3 then
    let s := d.motor m
    let r := rampStep (d.sget (MDU_MSPD_SPDCMD m)) (spdGoal d m) (d.get (MDU_MRAMP_ACCEL m)) (d.get (MDU_MRAMP_DECEL m)) s.per s.frac
    let d := d.setI (MDU_MSPD_SPDCMD m) r.1
    d.setMotor m { s with frac := r.2, atZero := s.atZero || (st = 3 && r.1 = 0) }
  else d

/-- The count of consecutive valleys that meet the decision of START or RUN (R298). -/
def motorCount (m : Nat) (d : Dev) : Dev :=
  let st := d.get (MDU_MSTAT_STATE m)
  let s := d.motor m
  let hit : Bool := match spdMag d m with
    | none => decide (st = 2)
    | some v => if st = 1 then decide (v ≥ minSpeed d m) else decide (2 * v < minSpeed d m)
  if st = 1 ∨ st = 2 then d.setMotor m { s with valleys := if hit then min (s.valleys + 1) 64 else 0 } else d

/-- The loop watchdog at a valley (R297). -/
def motorWdog (m : Nat) (d : Dev) : Dev :=
  let st := d.get (MDU_MSTAT_STATE m)
  let s := d.motor m
  if (st = 1 ∨ st = 2 ∨ st = 3) ∧ s.wdogOn then
    let c := if s.written then 0 else s.wdogCnt + 1
    let d := d.setMotor m { s with wdogCnt := c, written := false }
    if c ≥ max (d.get (MDU_MTRIG_WDOG m)) 1 then motorFault m 5 d else d
  else d.setMotor m { s with written := false }

/-- A valley (R290, R293, R294, R297, R299). -/
def valley (m : Nat) (d : Dev) : Dev :=
  let s := d.motor m
  let d := motorRamp m d
  let s := { d.motor m with
    per := d.get (MDU_MCFG_PER m), dt := d.get (MDU_MCFG_DT m), filt := d.get (MDU_MCFG_FLT_FILT m),
    trigOfs := d.get (MDU_MTRIG_TRIG_OFS m), duty := dutyTaken m d, prev := some (s.per, s.duty), written := s.written }
  let d := motorWdog m (motorCount m (d.setMotor m s))
  fire [0x358 + m] d

/-! #### Outputs (R290 to R292, R295)

Ticks count from the valley that began the present period, 0 to 2 × PER − 1. -/

/-- The up-down counter at tick `t` of a period (R290). -/
def pwmCount (per t : Nat) : Nat := if t ≤ per then t else 2 * per - t

/-- The high-side command h at tick `t` of a period with a phase duty (R291). -/
def phaseHigh (per duty t : Nat) : Bool := decide (cmpOf duty per = per ∨ pwmCount per t < cmpOf duty per)

/-- h of phase `x` as it was `k` ticks before tick `t`; none before the counter's start. -/
def phasePast (s : MotorS) (x t k : Nat) : Option Bool :=
  if k ≤ t then some (phaseHigh s.per (s.duty.getD x 0) (t - k))
  else s.prev.map (fun p => phaseHigh p.1 (p.2.getD x 0) (2 * p.1 + t - k))

/-- The tick of the period at which the centre trigger is issued: PER + TRIG_OFS, signed, modulo the period, by the values applied at
its valley (R290, R294). -/
def centreTick (d : Dev) (m : Nat) : Nat :=
  let s := d.motor m
  (((s.per : Int) + sx 16 s.trigOfs) % (2 * s.per : Nat)).toNat

/-- Level of MENm (R295). -/
def menBall (d : Dev) (m : Nat) : Bool := vioOn d && d.bit (MDU_MSTAT_MEN m)

/-- Level at tick `t` of the high-side or low-side output of phase `x`: its command, h or NOT h, has held for DT ticks and this one,
so that its rising edge comes DT ticks late and a pulse of DT ticks or fewer never shows (R292). Before the counter's start neither
command holds, and the bridge's gate comes after the delay (log entry 135). -/
def gateBall (d : Dev) (m x : Nat) (high : Bool) (t : Nat) : Bool :=
  let s := d.motor m
  menBall d m && d.bit (MDU_MCFG_TMR_EN m) && (upto (s.dt + 1)).all (fun k => phasePast s x t k = some high)

/-- Level of ball FPWM `f` at tick `t` of its period of 8,000 ticks (R302): low while the outputs are in their safe state (R66). -/
def fpwmBall (d : Dev) (f t : Nat) : Bool :=
  vioOn d && d.pwr.released && d.ready 6 &&
    (decide (t < (d.get (MDU_FSTAT_DUTY f) * 8000 + 16384) / 32768) != d.bit (MDU_FCFG_POL f))

/-- A failed start or a stall: RETRY_WAIT, or BLOCKED after RETRIES + 1 attempts; a stall is raised either way (R298, R316). -/
def motorFail (m cause : Nat) (ev : Ev) (d : Dev) : Dev :=
  let n := motorTries d m
  if n ≤ d.get (MDU_MSTART_RETRIES m) then raise ev [m, n] (bridgeOff m 4 cause d)
  else
    let d := bridgeOff m 5 cause d
    raise .MOTOR_BLOCKED [m] (if cause = 3 then raise ev [m, n] d else d)

/-! ### Fans -/

/-- The current of R306: VALUE16 of ISRC while it is valid. -/
def fanCurrent (d : Dev) (f : Nat) : Option Int :=
  let src := d.get (MDU_FIS_ISRC f)
  if src > 131 then none
  else
    let x := tabGet (0, true) src d.cea.conv
    if x.2 then none else some x.1.toInt

/-- The present duty band is learned and the current lies within it (R306). -/
def inBand (d : Dev) (f : Nat) : Bool :=
  let b := d.get (MDU_FSTAT_DUTY f) / 4096
  d.bit (MDU_FBAND_LEARNED f b) &&
    (match fanCurrent d f with
    | none => false
    | some i => decide ((i - d.sget (MDU_FBAND_MEAN f b)).natAbs * 100 ≤ d.get (MDU_FIS_BAND_TOL f) * (d.sget (MDU_FBAND_MEAN f b)).toNat))

/-- Enter STALL_WAIT: duty 0 (R305). -/
def fanStall (f : Nat) (d : Dev) : Dev := raise .FAN_STALL [8 + f] (fanRefresh f (d.set (MDU_FSTAT_STATE f) 4))

/-- One phase of ball FTACH, `t` ticks long: the accepted level and the falling edges counted so far; a phase shorter than 20 µs is ignored
(R303). -/
def tachPhase (high : Bool) (t : Nat) (x : Bool × Nat) : Bool × Nat :=
  if t < 4000 ∨ x.1 = high then x else (high, if high then x.2 else x.2 + 1)

/-- The ticks of the revolution that `ppr` consecutive falling edges complete, from its phases, low first; none where they complete
none (R303). -/
def tachTicks (ppr : Nat) (phases : List Nat) : Option Nat :=
  let r := phases.zipIdx.foldl (fun x p => tachPhase (p.2 % 2 = 1) p.1 x) (false, 0)
  if r.1 ∧ r.2 + 1 = ppr then some (phases.foldl (· + ·) 0) else none

/-- A revolution of `ticks` ticks (R303, R304, R305). -/
def tachRev (f ticks : Nat) (d : Dev) : Dev :=
  let s := d.fan f
  let revs := min (s.revs + 1) 2
  let d := d.setFan f { s with revs := revs }
  let d := d.set (MDU_FTACH_RPM f) (min (12000000000 / max ticks 1) 65535)
  let d := d.set (MDU_FTACH_UPDATES f) (d.get (MDU_FTACH_UPDATES f) + 1)
  let d := d.setB (MDU_FTACH_VALID f) (revs = 2)
  let st := d.get (MDU_FSTAT_STATE f)
  let d :=
    if st = 3 ∧ revs = 2 then
      raise .FAN_TACH_BACK [8 + f] (fanRefresh f ((d.setFan f { d.fan f with trim := 0 }).set (MDU_FSTAT_STATE f) 2))
    else if st = 2 ∧ !d.bit (MDU_FCFG_MODE f) ∧ revs = 2 then
      let k : Int := d.get (MDU_FTRIM_GAIN f)
      let lim : Int := d.get (MDU_FTRIM_LIMIT f)
      let s := d.fan f
      let t := clampI (-lim) lim (s.trim + (d.sget (MDU_FTGT_TARGET f) - (tachIn d f).toInt) * k / 65536)
      fanRefresh f (d.setFan f { s with trim := t })
    else d
  fire [0x340 + f] d

/-- No edge for 2 s (R303, R305). -/
def tachSilent (f : Nat) (d : Dev) : Dev :=
  let d := d.setFan f { d.fan f with revs := 0 }
  let d := (d.set (MDU_FTACH_RPM f) 0).set (MDU_FTACH_VALID f) 0
  let st := d.get (MDU_FSTAT_STATE f)
  if (st = 1 ∨ st = 2) ∧ d.get (MDU_FSTAT_DUTY f) > 0 then
    if inBand d f then
      raise .FAN_TACH_LOST [8 + f] (fanRefresh f ((d.setFan f { d.fan f with trim := 0 }).set (MDU_FSTAT_STATE f) 3))
    else fanStall f d
  else d

/-- The end of PAUSE (R305). -/
def fanPause (f : Nat) (d : Dev) : Dev :=
  if d.get (MDU_FSTAT_STATE f) ≠ 4 then d
  else if fanTries d f ≤ d.get (MDU_FCFG_RESTARTS f) then fanSpinup f d
  else raise .FAN_FAILED [8 + f] (fanRefresh f (d.set (MDU_FSTAT_STATE f) 5))

/-- One second of learning (R306): an equal average for the first 64 updates, then a 1/64 filter. The runtime writes the mean, so the context
record holds it (R50). -/
def learnBand (f : Nat) (d : Dev) : Dev :=
  let b := d.get (MDU_FSTAT_DUTY f) / 4096
  let s := d.fan f
  let secs := if s.band = b then min (s.bandSecs + 1) 10 else 0
  let d := d.setFan f { s with band := b, bandSecs := secs }
  match fanCurrent d f with
  | none => d
  | some i =>
    if d.get (MDU_FSTAT_STATE f) = 2 ∧ d.bit (MDU_FTACH_VALID f) ∧ secs ≥ 10 then
      let s := d.fan f
      let n := tabGet 0 b s.bandN
      let learned := d.bit (MDU_FBAND_LEARNED f b)
      let mean := d.sget (MDU_FBAND_MEAN f b)
      let mean' := mean + (if learned then rdiv (i - mean) 64 else rdiv (i - mean) (n + 1 : Nat))
      let a := MDU_FBAND f b
      let d := postField a (wSet (wSet (d.rd a) 0 16 (ux 16 mean')) 16 1 (learned || decide (n + 1 ≥ 64)).toNat) (wMask 0 17) d
      d.setFan f { s with bandN := tabPut 0 b (min (n + 1) 64) s.bandN }
    else d

/-! ### Ageing (R311 to R313) -/

/-- An enabled slot that is not DEMOTED has a port routed to engine value `k` (R232). -/
def engValid (d : Dev) (k : Nat) : Bool :=
  (allEnabled d).any (fun x => (d.slot x.1 x.2).st ≠ .demoted &&
    (let w := outWin d x.1 x.2
     (upto w.2).any (fun j => d.cget (CE_OUTRT_CLASS x.1 (w.1 + j)) = 2 && d.cget (CE_OUTRT_WORD x.1 (w.1 + j)) = k)))

/-- The drive is in RUN. -/
def driveRuns (d : Dev) (n : Nat) : Bool :=
  if n < 8 then d.get (MDU_MSTAT_STATE n) = 2 else d.get (MDU_FSTAT_STATE (n - 8)) = 2

/-- The speed of a drive while it is valid. -/
def driveSpeed (d : Dev) (n : Nat) : Option Nat :=
  if n < 8 then spdMag d n else if d.bit (MDU_FTACH_VALID (n - 8)) then some (tachIn d (n - 8)).toNat else none

/-- The effort of a drive while it is valid. -/
def driveEffort (d : Dev) (n : Nat) : Option Nat :=
  if n < 8 then
    let k := d.ent (0x6100 + n) 11
    if k < 1024 ∧ engValid d k then some (tabGet 0 k d.cea.vals).toInt.natAbs else none
  else some (d.get (MDU_FSTAT_DUTY (n - 8)))

/-- ref(s) × 2,048 where every bin it uses is learned (R311). -/
def ageRef (d : Dev) (n s : Nat) : Option Nat :=
  let learned := d.ent (0x6400 + n) 3
  let e := fun (k : Nat) => d.entHalf (0x6400 + n) 2 k
  if s ≤ 1024 then (if learned.testBit 0 then some (e 0 * 2048) else none)
  else
    let k := (s - 1024) / 2048
    if k ≥ 15 then (if learned.testBit 15 then some (e 15 * 2048) else none)
    else if learned.testBit k ∧ learned.testBit (k + 1) then
      some (((e k : Int) * 2048 + ((s : Int) - (2048 * k + 1024)) * ((e (k + 1) : Int) - e k)).toNat)
    else none

/-- Counts and state of one threshold of R313 under R265: entered at or above `hi`, left below `lo`, each after 60
consecutive updates. -/
def ageThr (a hi lo : Int) (st : Bool) (cnt : Nat) : Bool × Nat :=
  let c := if (if st then decide (a < lo) else decide (a ≥ hi)) then cnt + 1 else 0
  if c ≥ 60 then (!st, 0) else (st, c)

/-- 2^40, the scale in which A is held. -/
def ageOne : Int := 0x10000000000

/-- STATE of a drive's ageing (R313): 3 with no learned bin. -/
def ageState (d : Dev) (n : Nat) : Nat :=
  if d.ent (0x6400 + n) 3 = 0 then 3 else if (d.drive n).alarm then 2 else if (d.drive n).warn then 1 else 0

/-- One update of A (R312, R313). -/
def ageUpdate (n : Nat) (r : Int) (d : Dev) : Dev :=
  let s := d.drive n
  let a := s.a + (r - s.a) / 86400
  let w := ageThr a (ageOne * 1150 / 1000) (ageOne * 1100 / 1000) s.warn s.warnCnt
  let al := ageThr a (ageOne * 1350 / 1000) (ageOne * 1300 / 1000) s.alarm s.alarmCnt
  let d := d.setDrive n { s with a := a, warn := w.1, warnCnt := w.2, alarm := al.1, alarmCnt := al.2 }
  let d := d.setEnt (0x6400 + n) 4 ((clampI 0 65535 (rdiv (a * 1000) ageOne)).toNat)
  let d := if w.1 != s.warn then raise .AGEING_WARN [n, w.1.toNat] d else d
  if al.1 != s.alarm then raise .AGEING_ALARM [n, al.1.toNat] d else d

/-- The sample of one second (R311, R312). -/
def ageSample (n : Nat) (d : Dev) : Dev :=
  let s := d.drive n
  let sp := driveSpeed d n
  let past := s.speeds.getD 9 none
  let d := d.setDrive n { s with speeds := (sp :: s.speeds).take 10 }
  match sp, past, driveEffort d n with
  | some v, some o, some e =>
    if driveRuns d n ∧ ((v : Int) - o).natAbs ≤ 328 then
      let s := d.drive n
      let k := min (v / 2048) 15
      let d := if s.learning ∧ tabGet 0 k s.cnts < 3600 then
          d.setDrive n { s with sums := tabPut 0 k (tabGet 0 k s.sums + e) s.sums, cnts := tabPut 0 k (tabGet 0 k s.cnts + 1) s.cnts }
        else d
      match ageRef d n v with
      | none => d
      | some q => if q = 0 then (let x := d.freeVal; ageUpdate n x.1 x.2) else ageUpdate n ((e : Int) * 2048 * ageOne / q) d
    else d
  | _, _, _ => d

/-- A write of LEARN (R311). -/
def ageLearn (n : Nat) (on : Bool) (d : Dev) : Dev :=
  let s := d.drive n
  let d := d.setEnt (0x6400 + n) 1 on.toNat
  if on then d.setDrive n { s with learning := true, sums := [], cnts := [] }
  else if !s.learning then d
  else
    let refs := (upto 16).foldl (fun acc k =>
      let c := tabGet 0 k s.cnts
      acc + (if c = 0 then 0 else (rdiv (tabGet 0 k s.sums : Nat) (c : Nat)).toNat % 65536) * 65536 ^ k) 0
    let d := d.setEnt (0x6400 + n) 2 refs
    let d := d.setEnt (0x6400 + n) 3 (maskOf 16 (fun k => tabGet 0 k s.cnts ≥ 60))
    let d := d.setEnt (0x6400 + n) 4 1000
    d.setDrive n { s with learning := false, a := ageOne }

end Sys2Proof.Machine
end

