-- ==== Sys2Proof/Machine/DictRead.lean ====
section
/-! DEFINITION. Values of dictionary entries as a read returns them: values that the device computes, entries held per
session (R383), and stored values (R12 to R14). -/

namespace Sys2Proof.Machine

/-- The `n` low bytes of a number in reverse order: a big-endian field as the little-endian number of its bytes (R3). -/
def beRev : Nat → Nat → Nat
  | 0, _ => 0
  | n + 1, x => x % 256 * 256 ^ n + beRev n (x / 256)

/-- A character string as the little-endian number of its bytes, without a limit. -/
def strVal (s : String) : Nat := s.toList.foldr (fun c n => c.toNat % 256 + 256 * n) 0

/-- Numbers of `w` bits each, the first in the lowest bits. -/
def packW (w : Nat) (l : List Nat) : Nat := l.foldr (fun x n => x % 2 ^ w + 2 ^ w * n) 0

/-- The EUI-64: the EUI-48 with 0xFF, 0xFE after its third byte (R439). -/
def eui64 : Nat := ownClock

/-- Value `k` of the dictionary's counters: bits [47:0] and the overflow bit in bit 63 (R476, R484). -/
def cntEntry (cnt ovf : Tab Nat) (k : Nat) : Nat :=
  tabGet 0 k cnt + (if (tabGet 0 (k / 32) ovf).testBit (k % 32) then 2 ^ 63 else 0)

/-- A signed 16-bit register value as an I32, or 0x8000_0000 where it is not valid. -/
def i32Or (valid : Bool) (v : Nat) : Nat := if valid then ux 32 (sx 16 v) else 0x80000000

/-- Offset in the flash of the container in a slot of the Teller or the runtime. -/
def slotBase (teller : Bool) (slot : Nat) : Nat := if teller then 0x100000 + 0x80000 * slot else 0x1000000 + 0x1000000 * slot

/-- VERSION of the container in a slot (R444). -/
def slotVersion (d : Dev) (teller : Bool) (slot : Nat) : Nat := flashRead d (slotBase teller slot + 12) 4

/-- Version of the running Teller, and of the runtime in a half. -/
def tellerVersion (d : Dev) : Nat := slotVersion d true (d.sec.slotT)
def halfVersion (d : Dev) (h : Nat) : Nat :=
  slotVersion d false (if h = 0 then d.sec.slotA else d.sec.slotB)

/-- The half that answers requests. -/
def ansHalf (d : Dev) : Nat := if d.pwr.halves.testBit 0 then 0 else 1

/-- The total load in % of one half's capacity (R20). -/
def loadTotal (d : Dev) : Nat := d.dict.foldl (fun n e => n + Config.entryLoad e.1 e.2) 0

/-- A per-session entry of session `s`. -/
def Sess.val (s : Sess) (idx sub : Nat) : Nat := tabGet (entDflt (entKey idx sub)) (entKey idx sub) s.vals

/-- The per-session values of session number `n`: those of its acceptance while a timed request of it is applied (R389). -/
def sessVals (d : Dev) (n : Nat) : Option (Tab Nat) :=
  match d.heg.tctx with
  | some (m, _, v) => if m = n then some v else (d.session n).map (·.vals)
  | none => (d.session n).map (·.vals)

/-- A per-session entry of session number `n`; its default where no session is open. -/
def sessVal (d : Dev) (n idx sub : Nat) : Nat :=
  match sessVals d n with
  | none => entDflt (entKey idx sub)
  | some v => tabGet (entDflt (entKey idx sub)) (entKey idx sub) v

/-- The event record that SELECT chooses: the oldest held where it names one that is no longer held (R407). -/
def evRecord (d : Dev) (sel : Nat) : Option EvRec :=
  match d.evLog.find? (fun r => r.seq = sel) with
  | some r => some r
  | none => d.evLog.getLast?

/-- The 52 bytes of an event record (R407). -/
def evBytes (r : EvRec) : Nat :=
  r.seq % 2 ^ 32 + 2 ^ 32 * (r.time % 2 ^ 64) + 2 ^ 96 * (strVal r.ev.label % 2 ^ 192) + 2 ^ 288 * packW 32 (r.par.take 4)

/-- A timed request by its number. -/
def timedReq (d : Dev) (id : Nat) : Option TimedReq := d.heg.timed.find? (fun t => t.id = id)

/-- The clock that the device follows or announces. -/
def gmShown (d : Dev) : PtpDs := if d.xtf.src = 1 then d.xtf.parent.getD (ownDs d) else ownDs d

/-- Present output of a zone's or map's engine output port. -/
def engineOut (d : Dev) (n p : Nat) : W16 := tabGet 0 p (d.eng n).outs

/-- Activation record index of a part code; none for engines, calibration sets and slices (R455). -/
def partOf (idx : Nat) : Option Nat :=
  if idx = 0x9300 then some 0x100 else if idx = 0x9301 then some 0x200
  else if 0x9310 ≤ idx ∧ idx < 0x9320 then some (0x600 + (idx - 0x9310))
  else if 0x9320 ≤ idx ∧ idx < 0x9324 then some (0x700 + (idx - 0x9320))
  else if 0x9330 ≤ idx ∧ idx < 0x9338 then some (0x800 + (idx - 0x9330))
  else if 0x3020 ≤ idx ∧ idx < 0x3024 then some (0x400 + (idx - 0x3020))
  else if 0x4300 ≤ idx ∧ idx < 0x4320 then some (0x300 + (idx - 0x4300))
  else none

/-- Activation record of a part. -/
def Dev.act (d : Dev) (part : Nat) : ActS := tabGet {} part d.sec.acts
def Dev.setAct (d : Dev) (part : Nat) (a : ActS) : Dev := { d with sec.acts := tabPut {} part a d.sec.acts }

/-- Values of the identity, network, CAN, session and time areas, for indices below 0x3000. -/
def entLive0 (sess idx sub : Nat) (d : Dev) : Option Nat :=
  match idx, sub with
  | 0x0000, 3 => some (Config.siliconRev % 65536)
  | 0x0000, 4 => some (halfVersion d (ansHalf d))
  | 0x0000, 6 => some (d.now - d.pwr.upSince)
  | 0x0100, 1 => some (d.evSeq % 2 ^ 32)
  | 0x0100, 2 => some (sessVal d sess 0x0100 2)
  | 0x0100, 3 => some (((evRecord d (sessVal d sess 0x0100 2)).map evBytes).getD 0)
  | 0x0100, 4 => some d.evLog.length
  | 0x0A20, 1 => some d.pwr.halves
  | 0x0A20, 2 => some (min 100 (loadTotal d))
  | 0x0A20, 4 => some ((d.tally 0).getD 0xFFFFFFFF)
  | 0x0A20, 5 => some (halfVersion d 0)
  | 0x0A20, 6 => some (halfVersion d 1)
  | 0x0C01, 1 => some (appCount d)
  | 0x0C01, 2 => some (((upto (appCount d)).map (appWord d)).foldl (fun n w => if w / 2 ^ 48 % 256 = 1 then n + w / 2 ^ 32 % 65536 else n) 0)
  | 0x0C01, 3 => some (((upto (appCount d)).map (appWord d)).foldl (fun n w => if w / 2 ^ 48 % 256 = 2 then n + w / 2 ^ 32 % 65536 else n) 0)
  | 0x1001, 1 => some sess
  | 0x1001, 2 => some (d.sessRole sess)
  | 0x1001, 3 => some (d.heg.sessions.filter (fun s => s.via = .udp)).length
  | 0x1001, 4 => some (d.heg.sessions.filter (fun s => s.via = .can)).length
  | 0x1001, 5 => some ((d.tally 1).getD 0xFFFFFFFF)
  | 0x1001, 6 => some (d.heg.limited % 2 ^ 32)
  | 0x1010, 1 => some (d.heg.timed.filter (fun t => t.state = 1)).length
  | 0x1010, 2 => some (sessVal d sess 0x1010 2)
  | 0x1010, 3 => some (((timedReq d (sessVal d sess 0x1010 2)).map (fun t => t.state + 128 * t.late.toNat)).getD 0)
  | 0x1010, 4 => some (((timedReq d (sessVal d sess 0x1010 2)).map (·.detail)).getD 0)
  | 0x1100, 1 => some (beRev 6 Config.eui48)
  | 0x2000, 1 => some d.time64
  | 0x2000, 2 => some (wGet (xtfStatus d) 0 3)
  | 0x2000, 3 => some d.xtf.src
  | 0x2000, 4 => some (errEst d)
  | 0x2000, 5 => some (ux 32 (satI 32 d.xtf.lastOff))
  | 0x2000, 6 => some (if d.xtf.src = 1 then (gmShown d).steps else 0)
  | 0x2000, 7 => some (gmShown d).cls
  | 0x2000, 8 => some (beRev 8 (gmShown d).gm)
  | 0x2021, k =>
    match d.xtf.sun.find? (fun x => x.1 = today d (d.ent 0x2020 3)) with
    | none => none
    | some x => if 1 ≤ k ∧ k ≤ 9 then some (x.2.1.getD (k - 1) 0) else if k = 10 then some x.2.2.1 else if k = 11 then some x.2.2.2 else none
  | 0x2030, 4 => some (if d.xtf.st = .holdover then d.xtf.hoSince else 0)
  | 0x2100, 1 => some d.ldg.st
  | 0x2100, 2 => some d.ldg.armed
  | 0x2100, 3 => some (d.ldg.posts % 2 ^ 64)
  | 0x2100, 4 => some (d.ldg.late % 2 ^ 32)
  | 0x2100, 5 => some (d.ldg.missed % 2 ^ 32)
  | 0x2100, 6 => some (d.ldg.deferred % 2 ^ 32)
  | 0x2100, 7 => some (d.ldg.guarded % 2 ^ 32)
  | 0x2130, k => if k = 1 ∨ k = 2 then some (sessVal d sess 0x2130 k) else none
  | 0x2131, 1 => some (ldgNext d (sessVal d sess 0x2130 1)).1
  | 0x2131, 2 => some (ldgNext d (sessVal d sess 0x2130 1)).2
  | 0x2131, 3 => some (ldgFlags (d.lent (sessVal d sess 0x2130 1)))
  | 0x2131, 4 => some (d.lent (sessVal d sess 0x2130 1)).missed
  | 0x2131, 5 => some (d.lent (sessVal d sess 0x2130 1)).posted
  | 0x2140, 0 => some (d.get LDG_FLAGS_LO_FLAGS + 2 ^ 32 * d.get LDG_FLAGS_HI_FLAGS)
  | _, _ =>
    if 0x1110 ≤ idx ∧ idx < 0x1117 then
      if sub = 3 then some (d.rd (FNS_PORTSTAT (idx - 0x1110))).toNat
      else if sub = 5 then some (d.rd (FNS_DIAG (idx - 0x1110))).toNat else none
    else if 0x1210 ≤ idx ∧ idx < 0x1218 then
      if sub = 1 then some (d.rd (CAN_STAT (idx - 0x1210))).toNat
      else if sub = 2 then some (d.get (CAN_BUSLOAD_LOAD (idx - 0x1210))) else none
    else if 0x2010 ≤ idx ∧ idx < 0x2014 ∧ sub = 5 then
      some (inDst d (idx - 0x2010) (taiToUtc d (d.time64 / 1000000000))).toNat
    else if 0x2110 ≤ idx ∧ idx < 0x2120 then
      if sub = 1 then some (bookArmed d (idx - 0x2110)).toNat
      else if sub = 3 then some (bookEnabled d (idx - 0x2110)) else none
    else none

/-- Values of the converter, engine, zone and drive areas, for indices from 0x3000 below 0x7000. -/
def entLive1 (idx sub : Nat) (d : Dev) : Option Nat :=
  let n := idx % 16
  if 0x3000 ≤ idx ∧ idx < 0x3004 then
    match sub with
    | 1 => some (d.get (CVU_STATUS_GOOD n))
    | 2 => some (d.get (CVU_STATUS_MODE n))
    | 3 => some (d.cvuS n).rate
    | 5 => some (d.cvuS n).fgLast
    | 6 => some ((d.cvuS n).rounds % 2 ^ 32)
    | 7 => some (d.get (CVU_STATUS_CAL_STALE n))
    | _ => none
  else if 0x3020 ≤ idx ∧ idx < 0x3024 then
    if sub = 1 then some (d.cvuS n).bank else if sub = 7 then some (d.act (0x400 + n)).st else none
  else if idx = 0x3040 ∧ sub = 2 then some (d.get HKC_STATUS_FAULT)
  else if idx = 0x3041 ∧ 1 ≤ sub ∧ sub ≤ 48 then
    let v := d.get (HKC_RESULT_VALUE (sub - 1))
    some (if !d.bit (HKC_RESULT_VALID (sub - 1)) then 0x80000000 else if sub ≤ 16 then ux 32 (sx 16 v) else v)
  else if 0x3110 ≤ idx ∧ idx < 0x3114 then
    match sub with
    | 1 => some (d.rd (CVU_PASS n)).toNat
    | 2 => some ((d.cvuS n).missed % 2 ^ 32)
    | 3 => some ((d.cvuS n).restarted % 2 ^ 32)
    | 4 => some ((d.cvuS n).lost % 2 ^ 32)
    | 5 => some ((d.rd (CVU_CFGERR n)).toNat % 65536)
    | _ => none
  else if 0x4000 ≤ idx ∧ idx < 0x4020 then
    let e := idx - 0x4000
    match sub with
    | 2 => some (d.rd (CE_LOADSTAT e)).toNat
    | 7 => some ((d.eng e).settled % 2 ^ 32)
    | 8 => some ((d.eng e).voided % 2 ^ 32)
    | 9 => some (memRead d.win (ceWin e 0x4000) 16384)
    | _ => none
  else if 0x4100 ≤ idx ∧ idx < 0x4300 then
    let e := (idx - 0x4100) / 16
    if sub = 11 then some (ceSstatWord d e n).toNat
    else if sub = 12 then some (tabGet 0 n (d.eng e).overruns % 2 ^ 32) else none
  else if 0x4300 ≤ idx ∧ idx < 0x4320 ∧ sub = 10 then some (d.eng (idx - 0x4300)).swap.st
  else if 0x4400 ≤ idx ∧ idx < 0x4800 ∧ sub = 0 then some (tabGet 0 (idx - 0x4400) d.cea.vals).toNat
  else if 0x5400 ≤ idx ∧ idx < 0x5480 ∧ sub = 13 then
    let x : LightS := tabGet {} (idx - 0x5400) d.floor.lights
    some (x.on.toNat + 2 * x.src)
  else if 0x6000 ≤ idx ∧ idx < 0x6008 ∧ sub = 15 then some (d.rd (MDU_MSTAT n)).toNat
  else if 0x6100 ≤ idx ∧ idx < 0x6118 then
    if sub = 12 then some (ux 16 (d.drive (idx - 0x6100)).target)
    else if sub = 13 then some (d.drive (idx - 0x6100)).source else none
  else if 0x6200 ≤ idx ∧ idx < 0x6210 then
    match sub with
    | 5 => some (packW 32 ((upto 8).map (fun b => (d.cfg (MDU_FBAND n b)).toNat)))
    | 7 => some (d.rd (MDU_FSTAT n)).toNat
    | 8 => some (d.get (MDU_FTACH_RPM n))
    | 9 => some (d.get (MDU_FTACH_VALID n))
    | _ => none
  else if 0x6400 ≤ idx ∧ idx < 0x6418 ∧ sub = 5 then some (ageState d (idx - 0x6400))
  else none

/-- Values of the I/O, NV, security, power and counter areas, for indices from 0x7000. -/
def entLive2 (sess idx sub : Nat) (d : Dev) : Option Nat :=
  if idx < 0x7020 ∧ sub = 4 then some (d.bitN AIO_ACTOUT_LEVEL (idx - 0x7000)).toNat
  else if 0x7020 ≤ idx ∧ idx < 0x7030 then
    let p := idx - 0x7020
    if sub = 4 then some (let x := d.get (AIO_PAIR_DRV p); if x = 1 then 1 else if x = 3 then 255 else 0)
    else if sub = 5 then some (d.get (AIO_PAIR_STATE p)) else none
  else if 0x7040 ≤ idx ∧ idx < 0x7058 then
    if sub = 1 then some (d.get (AIO_DAC_CODE (idx - 0x7040)))
    else if sub = 3 then some (2500 * dacBall d (idx - 0x7040) / 65536) else none
  else if 0x7100 ≤ idx ∧ idx < 0x7140 then
    let k := idx - 0x7100
    match sub with
    | 2 => some (gpioIn d k).toNat
    | 3 => some (if k < 32 then d.bitN AIO_GPIOOUT_LO_OUT k else d.bitN AIO_GPIOOUT_HI_OUT (k - 32)).toNat
    | 4 => some (tabGet 0 k d.aio.capAll)
    | 5 => some (tabGet 0 k d.aio.capT)
    | _ => none
  else if 0x7200 ≤ idx ∧ idx < 0x7208 ∧ sub = 6 then some (d.rd (AIO_I2CSTAT (idx - 0x7200))).toNat
  else if 0x7300 ≤ idx ∧ idx < 0x7400 ∧ sub = 0 then
    some (i32Or (d.bit (AIO_I2CRD_VALID (idx - 0x7300))) (d.get (AIO_I2CRD_VALUE (idx - 0x7300))))
  else if 0x8010 ≤ idx ∧ idx < 0x8018 then
    let r := idx - 0x8010
    match sub with
    | 4 => some (d.get (NVS_RGN_RPWD r))
    | 5 => some (d.get (NVS_RGN_WPWD r))
    | 6 => some 0
    | 7 => some (d.failCount r)
    | 8 => some ((tabGet 0 r d.nvs.lock - d.now + 999999999) / 1000000000)
    | _ => none
  else if 0x9110 ≤ idx ∧ idx < 0x9128 ∧ sub = 0 then some 0
  else if 0x9300 ≤ idx ∧ idx < 0x9340 then
    match partOf idx with
    | none => none
    | some p => if sub = 4 then some (d.act p).st else none
  else if 0xB100 ≤ idx ∧ idx < 0xB280 ∧ sub = 0 then some (cntEntry d.obs.cnt d.obs.ovf (idx - 0xB100))
  else if 0xB300 ≤ idx ∧ idx < 0xB310 ∧ sub = 3 then some (cntEntry d.obs.cnt d.obs.ovf (384 + (idx - 0xB300)))
  else if 0xF000 ≤ idx ∧ idx < 0xF039 ∧ sub = 1 then some (sessVal d sess idx 1)
  else if 0xF800 ≤ idx then some (Config.vendorDiag idx % 2 ^ 32)
  else
    match idx, sub with
    | 0x8000, 1 => some (storePages d)
    | 0x8000, 2 => some (storeRoom d - storePages d)
    | 0x8000, 3 => some (d.get NVS_RECOV_ACTION)
    | 0x8000, 6 => some ((d.tally 2).getD 0xFFFFFFFF)
    | 0x8000, 7 => some ((d.tally 3).getD 0xFFFFFFFF)
    | 0x8020, 1 => some (sessVal d sess 0x8020 1)
    | 0x8020, 2 => some (packW 8 (nvGet d sess (sessVal d sess 0x8020 1)))
    | 0x8020, 3 => some 0
    | 0x8030, k => if 1 ≤ k ∧ k ≤ 16 then some ((d.sealC (k - 1)).getD 0xFFFFFFFF) else none
    | 0x9000, 1 => some d.sec.lcs
    | 0x9000, 2 => some (beRev 6 Config.eui48)
    | 0x9000, 3 => some (beRev 8 eui64)
    | 0x9000, 4 => some (tellerVersion d)
    | 0x9000, 5 => some (d.rd SCU_BOOTSTAT).toNat
    | 0x9001, 0 => some 0
    | 0x9003, 0 => some (if d.sec.lcs = 2 then 1 else d.ent 0x9003 0)
    | 0x9004, 0 => some dikCert
    | 0x9005, k => if k = 1 ∨ k = 2 then some (sessVal d sess 0x9005 k) else none
    | 0xA000, 1 => some (d.get PMC_PSTATE_STATE)
    | 0xA000, 2 => some (min 65535 d.pwr.vlineMV)
    | 0xA000, 3 => some (min 65535 d.pwr.vholdMV)
    | 0xA000, 4 => some (eAvail d / 1000)
    | 0xA000, 5 => some (700 * d.get PMC_CFG_HOLDWIN)
    | 0xA000, 6 => some (min 65535 (d.pwr.capNF.getD 0 / 1000))
    | 0xA010, 0 => some d.pwr.released.toNat
    | 0xA011, 0 => some d.pwr.step
    | 0xA012, 0 => some ((d.rd PMC_RSTCAUSE).toNat % 65536)
    | 0xA100, 1 => some (d.get THM_STATUS_LEVEL)
    | 0xA100, 2 => some (d.get THM_STATUS_HOTSPOT)
    | 0xA100, 3 => some (if d.bit THM_MEAN_MEAN_VALID then d.get THM_MEAN_MEAN else 0x8000)
    | 0xA100, 4 => some (d.get THM_SENSORS_USABLE)
    | 0xA100, 5 => some (d.get THM_SENSORS_EXCLUDED)
    | 0xA100, 6 => some (d.get THM_STATUS_FORCED)
    | 0xA102, k => if 1 ≤ k ∧ k ≤ 16 then some (d.get (THM_EFF_VALUE (k - 1))) else none
    | 0xB000, 1 => some (d.get OBS_CTRL_FREEZE)
    | 0xB000, 4 => some (d.get OBS_SNAPSTAT_SEQ)
    | 0xB000, 5 => some d.obs.bank.t
    | 0xB400, 0 =>
      some (d.obs.bank.t % 2 ^ 64 + 2 ^ 64 * d.get OBS_SNAPSTAT_SEQ +
        2 ^ 128 * packW 64 ((upto 400).map (cntEntry d.obs.bank.cnt d.obs.bank.ovf)))
    | _, _ => none

/-- The value that a read of an entry by session `sess` returns. -/
def entValue (sess idx sub : Nat) (d : Dev) : Nat :=
  ((if idx < 0x3000 then entLive0 sess idx sub d else if idx < 0x7000 then entLive1 idx sub d else entLive2 sess idx sub d)).getD
    (d.ent idx sub)

/-- What the dictionary says of an entry: type size, read role, write role, persistence, and the row of a manual entry. -/
structure EntInfo where
  size : Nat
  rd   : Nat
  wr   : Nat
  pers : Persist
  row  : Option DictRow
deriving DecidableEq, Repr

/-- Roles of the entries whose role depends on the ledger book (R106): the role that may control the book. -/
def bookRoleOf (b : Nat) : Nat := if b ≤ 11 then 2 else if b = 15 then 3 else 5

/-- An entry of the dictionary or of the application area (R37, R408); the read role of the counter entries follows
UNPRIV_READ (R488). -/
def entInfo (idx sub : Nat) (d : Dev) : Option EntInfo :=
  match entRow idx sub with
  | some r =>
    let rd := if r.rd = 2 ∧ 0xB100 ≤ idx ∧ idx ≤ 0xB400 ∧ d.bit OBS_CTRL_UNPRIV_READ then 0 else r.rd
    let wr := if r.wr = 5 then bookRoleOf (idx - 0x2110) else r.wr
    some ⟨tySize r.ty, rd, wr, r.pers, some r⟩
  | none =>
    if sub ≠ 0 then none
    else (appDef d idx).map (fun w =>
      let p := w / 2 ^ 48 % 256
      let wr := w / 2 ^ 24 % 16
      ⟨w / 2 ^ 32 % 65536, w / 2 ^ 28 % 16, if wr = 15 then 4 else wr,
        if p = 1 then .nv else if p = 2 then .shd else .vol, none⟩)

end Sys2Proof.Machine
end

