-- ==== Sys2Proof/Machine/ObsOps.lean ====
section
/-! DEFINITION. The counters' own writes, freeze, snapshots and condition sources (R476 to R488). -/

namespace Sys2Proof.Machine

/-- Dedicated counters with a source (R479); the others are reserved. -/
def cntDefined (k : Nat) : Bool :=
  [(0x000, 0x00D), (0x010, 0x02E), (0x030, 0x03A), (0x040, 0x04B), (0x050, 0x065), (0x070, 0x0A1), (0x0B0, 0x0BB), (0x0C0, 0x0CB),
   (0x0D0, 0x0D9), (0x0E0, 0x0FF), (0x100, 0x105), (0x110, 0x132), (0x140, 0x14D), (0x150, 0x16B), (0x170, 0x17C), (384, 399)].any
    (fun r => decide (r.1 ≤ k ∧ k ≤ r.2))

/-- Extended numbers that R480 assigns. -/
def extDefined (n : Nat) : Bool :=
  decide (n < 0x78C ∨ (0x790 ≤ n ∧ n ≤ 0x79E) ∨ (0x7A0 ≤ n ∧ n ≤ 0x7A6) ∨ (0x7B0 ≤ n ∧ n ≤ 0x7BF) ∨ n = 0x7FF)

/-- Note the value of counter `k` and the overflow words at the start of the cycle, before a first change in it (R486). -/
def cntNote (k : Nat) (d : Dev) : Dev :=
  let old := tabGet 0 k d.obs.cnt
  { d with obs.start := tabIns k (tabGet old k d.obs.start) d.obs.start, obs.ovf0 := some (d.obs.ovf0.getD d.obs.ovf) }

/-- Set or clear the overflow bit of counter `k`. -/
def ovfPut (k : Nat) (b : Bool) (d : Dev) : Dev :=
  { d with obs.ovf := tabPut 0 (k / 32) (setBit (tabGet 0 (k / 32) d.obs.ovf) (k % 32) b) d.obs.ovf }

/-- Store a 48-bit value; increments of the cycle are added to it (R483, R484). -/
def cntPut (k v : Nat) (d : Dev) : Dev :=
  let d := cntNote k d
  let n := v % 2 ^ 48 + tabGet 0 k d.obs.incN
  let d := { d with obs.cnt := tabPut 0 k (n % 2 ^ 48) d.obs.cnt, obs.wrote := k :: d.obs.wrote }
  if n ≥ 2 ^ 48 then raise .OBS_OVERFLOW [k] (ovfPut k true d) else d

/-- A HI write stages bits [47:32] for its writer (R483). -/
def cntHiWrite (key v : Nat) (d : Dev) : Dev := { d with obs.stage := tabPut 0 key (v % 65536) d.obs.stage }

/-- A LO write stores the staged value and clears the staging register (R483). -/
def cntLoWrite (key k v : Nat) (d : Dev) : Dev :=
  let hi := tabGet 0 key d.obs.stage
  cntPut k (hi * 2 ^ 32 + v % 2 ^ 32) { d with obs.stage := tabDel key d.obs.stage }

/-- A W1C write to overflow word `w`; bits set by a wrap of this cycle stay (R9, R484). -/
def ovfClear (w : Nat) (m : Word) (d : Dev) : Dev :=
  let keep := (d.cyc.hwSet.filter (fun x => decide (x.1 = OBS_OVF w))).foldl (fun k x => k ||| x.2) (0 : Word)
  let d : Dev := { d with obs.ovf0 := some (d.obs.ovf0.getD d.obs.ovf) }
  { d with obs.ovf := tabPut 0 w (BitVec.ofNat 32 (tabGet 0 w d.obs.ovf) &&& ~~~(m &&& ~~~keep)).toNat d.obs.ovf }

/-- A performed write of OBS_FSELj: the selection, and counter and overflow bit cleared (R481). -/
def fselPut (j ev mode : Nat) (d : Dev) : Dev :=
  let k := 384 + j
  let d := cntNote k ((d.set (OBS_FSEL_EVENT j) ev).set (OBS_FSEL_MODE j) mode)
  let d := { d with obs.cnt := tabDel k d.obs.cnt, obs.incN := tabDel k d.obs.incN, obs.wrote := k :: d.obs.wrote,
                    obs.sel := k :: d.obs.sel }
  ovfPut k false d

/-- A write of FREEZE (R485): the occurrences of the cycle in which it is written 1 do not count; those of the cycle in which
it is written 0 do. -/
def freezePut (on : Bool) (d : Dev) : Dev :=
  let was := d.bit OBS_CTRL_FREEZE
  let d := d.setB OBS_CTRL_FREEZE on
  if on && !was then
    let cnt := d.obs.incN.foldl (fun t e =>
      let now := tabGet 0 e.1 t
      tabPut 0 e.1 (if d.obs.wrote.contains e.1 then (now + 2 ^ 48 - e.2) % 2 ^ 48 else tabGet now e.1 d.obs.start) t) d.obs.cnt
    let ovf := d.cyc.hwSet.foldl (fun t x =>
      if OBS_OVF 0 ≤ x.1 ∧ x.1 < OBS_OVF 13 then
        let w := (x.1 - OBS_OVF 0) / 4
        let old := BitVec.ofNat 32 (tabGet 0 w ((d.obs.ovf0).getD d.obs.ovf))
        tabPut 0 w ((BitVec.ofNat 32 (tabGet 0 w t) &&& ~~~x.2) ||| (old &&& x.2)).toNat t
      else t) d.obs.ovf
    { d with obs.cnt := cnt, obs.ovf := ovf, obs.incN := [], obs.lostN := d.obs.incN }
  else if was && !on then
    let l := d.obs.lostN
    l.foldl (fun d e => (upto e.2).foldl (fun d _ =>
      let r := obsAdd e.1 d
      if r.1 then countF 2 0x16B (logEvent .OBS_OVERFLOW [e.1] r.2) else r.2) d) { d with obs.lostN := [] }
  else d

/-- A snapshot is requested: the values and overflow bits as they stood before this cycle (R486, R487). -/
def snapRequest (d : Dev) : Dev :=
  match d.obs.pending with
  | some (due, _) => if due = d.now + 250 then d else d.bump OBS_SNAPSTAT_MERGED
  | none =>
    let cnt := d.obs.start.foldl (fun t e => tabPut 0 e.1 e.2 t) d.obs.cnt
    let snap : Snap := { t := d.time64, cnt := cnt, ovf := (d.obs.ovf0).getD d.obs.ovf }
    { d with obs.pending := some (d.now + 250, snap) }.set OBS_SNAPSTAT_BUSY 1

/-- The snapshot bank is written (R486). -/
def snapWrite (d : Dev) : Dev :=
  match d.obs.pending with
  | none => d
  | some (_, x) =>
    let d : Dev := { d with obs.pending := none, obs.bank := x }
    let d := (d.set OBS_SNAPSTAT_BUSY 0).set OBS_SNAPSTAT_SEQ (d.get OBS_SNAPSTAT_SEQ + 1)
    count 0x16A d

/-! ### Conditions (R477, R479) -/

/-- The condition sources that hold. -/
def condsNow (d : Dev) : List Nat :=
  [0x01C + d.get PMC_PSTATE_STATE] ++
  (if d.xtf.st = .locked then [0x02D] else if d.xtf.st = .holdover then [0x02E] else []) ++
  (upto 12).filterMap (fun n => if d.bitN PMC_DOMSTAT_ON n then some (0x040 + n) else none) ++
  (upto 4).filterMap (fun u => if d.ready (cvuDom u) && (d.cvuS u).on then some (0x062 + u) else none) ++
  (upto 32).filterMap (fun n => if d.ready (ceaDom n) && (d.eng n).run.isSome then some (0x082 + n) else none) ++
  (if 1 ≤ d.get THM_STATUS_LEVEL then [0x169] else [])

/-- Counters that count condition `n` in LEVEL (`lvl`) or EDGE mode. -/
def condTargets (n : Nat) (lvl : Bool) (d : Dev) : List Nat :=
  (if d.bitN (OBS_MODE_LEVEL (n / 32)) (n % 32) = lvl then [n] else []) ++
    (upto 16).filterMap (fun j => if d.get (OBS_FSEL_EVENT j) = n && d.bit (OBS_FSEL_MODE j) = lvl then some (384 + j) else none)

/-- One count, raising OBS_OVERFLOW for a wrap. -/
def countAt (k : Nat) (d : Dev) : Dev :=
  let r := obsAdd k d
  if r.1 then raise .OBS_OVERFLOW [k] r.2 else r.2

/-- The conditions are counted at the end of a cycle in which `us` microseconds of the AON timer have passed (R477). -/
def countConds (us : Nat) (d : Dev) : Dev :=
  let now := condsNow d
  let d := now.foldl (fun d n =>
    let d := if d.obs.conds.contains n then d else (condTargets n false d).foldl (fun d k => countAt k d) d
    (upto us).foldl (fun d _ => (condTargets n true d).foldl (fun d k => countAt k d) d) d) d
  { d with obs.conds := now }

end Sys2Proof.Machine
end

