-- ==== Sys2Proof/Machine/PmcCmd.lean ====
section
/-! DEFINITION. Requests to the PMC: holds, domain resets, the release of the outputs, and the entries to IDLE, NAP and DEEP
(R44, R51, R54 to R58, R62, R69, R70, R507). -/

namespace Sys2Proof.Machine

/-! ### Holds and resets -/

/-- PMC_DOMREQ.HOLD takes the value `mask`: newly set bits turn their domains on (R54). -/
def domreqSet (mask : Nat) (d : Dev) : Dev :=
  let old := d.get PMC_DOMREQ_HOLD
  let d := d.set PMC_DOMREQ_HOLD mask
  (upto 12).foldl (fun d n => if mask.testBit n && !old.testBit n then wakeDomain n d else d) d

/-- A write of the PMC_RSTCTRL.DOMAIN mask (R62). -/
def domainResets (mask : Nat) (d : Dev) : Dev :=
  (upto 12).foldl (fun d n => if mask.testBit n then domainReset n (raise .DOMAIN_RESET [n] d) else d) d

/-- The hold time of domain `n` in ns (R44). -/
def holdTime (d : Dev) (n : Nat) : Nat := d.ent 0xA002 (n + 1)

/-- A posting that needs domain `n`, or a speculative start of its engines, falls within `win` ns from now (R44, R55, R238). -/
def neededWithin (d : Dev) (n win : Nat) : Bool :=
  specWithin d n win || d.ldg.st = 1 && !tbUnset d && (armedEntries d).any (fun e =>
    let w := ldgEntry d e
    (actionDomains d w.action w.target w.value).contains n &&
      (match nextIdx d e with
       | none => false
       | some i => decide ((instant d w i).1 ≤ d.time64 + win)))

/-- Work of a posting or a wake request waits for domain `n`: a slot that is triggered and has not started, a part held for the
domain, a wake not yet met, or one of this cycle (R44, R54). -/
def wanted (d : Dev) (n : Nat) : Bool :=
  d.pwr.wakeReq.contains n || ldgKeeps d n || d.cyc.woken.contains n || d.held.any (fun h => h.1 == n) ||
    ((n = 2 || n = 3) && (upto 16).any (fun k => (d.eng (16 * (n - 2) + k)).slots.any (fun s => decide (s.2.st = .pending))))

/-- The work that needs domain `n` is done and nothing keeps it on (R44, R51, R52, R54). -/
def mayRelease (d : Dev) (n : Nat) : Bool :=
  n < 12 && d.bitN PMC_DOMSTAT_ON n && !keepOn d n && !heldOn d n && !wanted d n &&
    decide (tabGet 0 n d.pwr.holdEnd ≤ d.now) && !neededWithin d n (holdTime d n)

/-- A posting has used domain `n`: its wake request has been met and its hold time runs (R44). -/
def domainUsed (n : Nat) (d : Dev) : Dev :=
  { d with pwr.wakeReq := d.pwr.wakeReq.filter (· ≠ n), pwr.holdEnd := tabIns n (d.now + holdTime d n) d.pwr.holdEnd }

/-! ### Release of the outputs (R66, R69, R70) -/

/-- The release: every output follows its register, and steps 7 and, on a locked time base, 8 complete (R67, R69, R84). -/
def releaseGrant (d : Dev) : Dev :=
  if d.pwr.released then d
  else
    let d : Dev := { d with pwr.released := true, pwr.step := max d.pwr.step 7 }
    let d := if d.ready 7 then (upto 16).foldl (fun d p => pairFollow p d) d else d
    let d := if d.ready 6 then
        (upto 16).foldl (fun d f => fanFollow f d) ((upto 8).foldl (fun d m => motorTryStart m d) d)
      else d
    if d.xtf.st = .locked then timeAcquired d else d

/-- The release is withdrawn: safe states at once, bridges off with cause RELEASE (R70). -/
def releaseWithdraw (d : Dev) : Dev :=
  let d : Dev := { d with pwr.released := false, pwr.ballsHeld := false, pwr.csegHeld := 0 }
  let d := if d.ready 7 then (upto 16).foldl (fun d p => pairFollow p d) d else d
  bridgesOff 6 (if d.ready 9 then canRelease d else d)

/-! ### Power states (R55 to R58, R507) -/

/-- Cores of the halves that run. -/
def liveCores (d : Dev) : List Nat := (upto 8).filter (fun c => d.pwr.halves.testBit (c / 4))

/-- A core executes the wait instruction, and waits unless an event is pending for it; `far`: the next activity of its half lies 1 ms or
more ahead (R507, R55). -/
def coreWaits (core : Nat) (far : Bool) (d : Dev) : Dev :=
  if 8 ≤ core ∨ !d.ready (core / 4) ∨ !d.pwr.halves.testBit (core / 4) ∨ (core = eventCore d ∧ d.ldg.events ≠ []) then d
  else
    let d := if far then d.setN PMC_DOMREQ_HOLD (core / 4) false else d
    let d : Dev := { d with pwr.coreWait := setBit d.pwr.coreWait core true }
    if d.get PMC_PSTATE_STATE = 0 ∧ 1 ≤ d.get PMC_PSTATE_LOWEST ∧ (liveCores d).all (fun c => d.pwr.coreWait.testBit c)
    then d.set PMC_PSTATE_STATE 1 else d

/-- Domain `n` is not needed for the next `win` ns (R44, R52, R54, R55). -/
def unneeded (d : Dev) (n win : Nat) : Bool :=
  !keepOn d n && !wanted d n && decide (tabGet 0 n d.pwr.holdEnd ≤ d.now + win) && !neededWithin d n win

/-- Domain `n` stays on in NAP: pinned, held, or NET while it is needed (R54, R55). -/
def napKeeps (d : Dev) (n : Nat) : Bool := heldOn d n || (n = 8 && !unneeded d 8 1000000)

/-- No other domain than NET, held and pinned ones is needed for the next `win` ns (R55). -/
def napQuiet (d : Dev) (win : Nat) : Bool := (upto 12).all (fun n => heldOn d n || n = 8 || unneeded d n win)

/-- IDLE to NAP: unneeded domains and the PLLs off (R55). -/
def napEnter (d : Dev) : Dev :=
  if d.get PMC_PSTATE_STATE = 1 ∧ 2 ≤ d.get PMC_PSTATE_LOWEST ∧ d.pwr.save = .none ∧ napQuiet d 1000000 then
    let d := (upto 12).foldl (fun d n => if napKeeps d n then d else domainOff n d) d
    (d.set PMC_PSTATE_STATE 2).set PMC_CLKSTAT_PLL_LOCK 0
  else d

/-- A ledger wake is due within `win` ns (R55, R119). -/
def wakeWithin (d : Dev) (win : Nat) : Bool :=
  d.ldg.st = 1 && !tbUnset d && (armedEntries d).any (fun e =>
    let w := ldgEntry d e
    match nextIdx d e with
    | none => false
    | some i => decide ((instant d w i).1 ≤
        d.time64 + win + max (1000 * w.wakeLead) (leadMin d (actionDomains d w.action w.target w.value))))

/-- Every domain off, the reference stopped and the counter on 32.768 kHz (R55). -/
def deepEnter (d : Dev) : Dev :=
  let d := (upto 12).foldl (fun d n => domainOff n d) d
  let d := (d.set PMC_PSTATE_STATE 3).set PMC_CLKSTAT_PLL_LOCK 0
  enter32 (d.set PMC_CLKSTAT_REF_OK 0)

/-- NAP to DEEP (R55). -/
def deepAuto (d : Dev) : Dev :=
  if d.get PMC_PSTATE_STATE = 2 ∧ d.get PMC_PSTATE_LOWEST = 3 ∧ d.ent 0x2001 1 = 0 ∧ d.bit PMC_CLKSTAT_CLK32_OK ∧
      d.pwr.save = .none ∧ (upto 12).all (fun n => !heldOn d n && !keepOn d n && !wanted d n) ∧
      (upto 6).all (fun p => decide (d.get (FNS_PORTSTAT_LINK p) ≠ 2)) ∧ !wakeWithin d 10000000 then
    deepEnter { d with pwr.forced := false }
  else d

/-- A running NV command completes; a WRITE has at most 64 transactions (R416). -/
def nvFinishAll : Nat → Dev → Dev
  | 0, d => d
  | fuel + 1, d => if d.nvs.run.isSome then nvFinishAll fuel (txnFinish [] false d) else d

/-- What a forced DEEP does before it turns any domain off (R56). -/
def forcedQuiet (d : Dev) : Dev :=
  let d := bridgesOff 6 d
  let d := if d.ready 9 then (upto 8).foldl (fun d n => canMode n 0 d) d else d
  let d := nvFinishAll 64 d
  let d := if d.nvs.saving.isSome then ckptDone { d with nvs.ckptPend := false } else d
  let d := ({ d with nvs.open_ := none }).set NVS_STAT_TXN_OPEN 0
  let d := closeAll d
  if d.ready 8 then (upto 6).foldl (fun d p => netStop p d) d else d

/-- FORCE_DEEP written 1 by a qualified writer (R55, R56, R58, R61): it is refused, or acknowledged and kept until the device is in
IDLE or NAP (DEDUCED, log entry 36). -/
def forceDeepOp (d : Dev) : Dev :=
  if d.ent 0x2001 1 = 3 then d.set PMC_PSTATE_REFUSAL 1
  else if !d.bit PMC_CLKSTAT_CLK32_OK then d.set PMC_PSTATE_REFUSAL 2
  else if d.get PMC_PSTATE_STATE = 3 ∨ d.pwr.save ≠ .none ∨ d.pwr.deepReq ≠ 0 then d
  else { d with pwr.deepReq := 1 }

/-- An acknowledged FORCE_DEEP at the end of a cycle: in IDLE or NAP the device quiets down, and enters DEEP once no CAN frame is
in progress; whatever has begun since is quieted again (R55, R56, R342). -/
def deepDue (d : Dev) : Dev :=
  if d.pwr.deepReq = 0 ∨ d.get PMC_PSTATE_STATE = 0 ∨ d.get PMC_PSTATE_STATE = 3 ∨ !d.bit PMC_CLKSTAT_CLK32_OK ∨ d.pwr.save ≠ .none then d
  else
    let d := forcedQuiet d
    if (upto 8).all (fun n => decide (d.get (CAN_STAT_MODE n) = 0)) then deepEnter { d with pwr.forced := true, pwr.deepReq := 0 } else d

end Sys2Proof.Machine
end

