-- ==== Sys2Proof/Machine/Therm.lean ====
section
/-! DEFINITION. The housekeeping converter and the thermal manager (R48, R71, R138, R157 to R159, R462 to R475). -/

namespace Sys2Proof.Machine

/-! ### Sensors (R462 to R464) -/

/-- Neighbours of sensor `k` on the 4 × 4 grid. -/
def neighbours (k : Nat) : List Nat :=
  (if 4 ≤ k then [k - 4] else []) ++ (if k % 4 ≠ 0 then [k - 1] else []) ++ (if k % 4 ≠ 3 then [k + 1] else []) ++
    (if k < 12 then [k + 4] else [])

/-- The reading of sensor `k` in 0.01 °C. -/
def dieReading (d : Dev) (k : Nat) : Int := d.sget (HKC_RESULT_VALUE k)

/-- The reading of `k` is in range. -/
def dieInRange (d : Dev) (k : Nat) : Bool := d.bit (HKC_RESULT_VALID k) && decide (-4000 ≤ dieReading d k ∧ dieReading d k ≤ 13000)

/-- Number of sensors in `l` and `n` times the difference of `x` from the mean of their readings. -/
def meanDiff (d : Dev) (x : Int) (l : List Nat) : Nat × Nat :=
  let n := l.length
  let s := (l.map (dieReading d)).foldl (· + ·) 0
  (n, (n * x - s).natAbs)

/-- The largest reading of a list of sensors. -/
def maxReading (d : Dev) : List Nat → Option Int
  | [] => none
  | k :: t => match maxReading d t with
    | none => some (dieReading d k)
    | some m => some (max m (dieReading d k))

/-- Sensor `k` is excluded: the event, and HOLD for one second (R463, R467). -/
def excludeSensor (k : Nat) (d : Dev) : Dev :=
  let d := (d.setN THM_SENSORS_EXCLUDED k true).flagUp THM_EVT_EXCLUDED
  let d := { d with thm.hold := some (d.now + 1000000000), thm.back := tabPut 0 k 0 d.thm.back }
  raise .THERMAL_SENSOR_EXCLUDED [k, ux 32 (dieReading d k)] (d.set THM_STATUS_HOLD 1)

/-- Usable sensors: in range and not excluded. -/
def usableNow (d : Dev) : List Nat := (upto 16).filter (fun k => dieInRange d k && !d.bitN THM_SENSORS_EXCLUDED k)

/-- Disagreement of usable sensor `k`: number of usable neighbours and their difference times that number, when it exceeds
NBR_LIMIT. -/
def disagreement (d : Dev) (us : List Nat) (k : Nat) : Option (Nat × Nat) :=
  let x := meanDiff d (dieReading d k) ((neighbours k).filter us.contains)
  if 2 ≤ x.1 ∧ x.2 > x.1 * d.get THM_CFG_NBR_LIMIT then some x else none

/-- The one to exclude of those whose count has reached 4: the largest difference, and on equal differences the higher
number. -/
def worstOf : List (Nat × Nat × Nat) → Option (Nat × Nat × Nat)
  | [] => none
  | x :: t => match worstOf t with
    | none => some x
    | some y => if x.2.2 * y.2.1 > y.2.2 * x.2.1 then some x else some y

/-- Exclusion for disagreement (R463). -/
def voteSensors (d : Dev) : Dev :=
  let us := usableNow d
  let cnt := us.foldl (fun (t : Tab Nat) k =>
    match disagreement d us k with
    | some _ => tabPut 0 k (min (tabGet 0 k d.thm.dis + 1) 4) t
    | none => t) []
  let d := { d with thm.dis := cnt }
  let far := us.filterMap (fun k =>
    if tabGet 0 k cnt ≥ 4 then (disagreement d us k).map (fun x => (k, x.1, x.2)) else none)
  match worstOf far with
  | none => d
  | some w => excludeSensor w.1 { d with thm.dis := tabDel w.1 d.thm.dis }

/-- Readmission of the sensors excluded before this round (R463). -/
def readmit (before : Nat) (d : Dev) : Dev :=
  let us := usableNow d
  (upto 16).foldl (fun d k =>
    if !(before.testBit k) then d
    else
      let nb := (neighbours k).filter us.contains
      let x := meanDiff d (dieReading d k) (if 2 ≤ nb.length then nb else us)
      if dieInRange d k ∧ 1 ≤ x.1 ∧ x.2 ≤ x.1 * (d.get THM_CFG_NBR_LIMIT - 300) then
        let c := tabGet 0 k d.thm.back + 1
        if c ≥ 4 then
          let d := { d with thm.back := tabPut 0 k 0 d.thm.back, thm.dis := tabDel k d.thm.dis }
          raise .THERMAL_SENSOR_READMITTED [k, ux 32 (dieReading d k)]
            ((d.setN THM_SENSORS_EXCLUDED k false).flagUp THM_EVT_READMITTED)
        else { d with thm.back := tabPut 0 k c d.thm.back }
      else { d with thm.back := tabPut 0 k 0 d.thm.back }) d

/-- The effective value of sensor `k`; none with no usable sensor (R464). -/
def effective (d : Dev) (us : List Nat) (k : Nat) : Option Int :=
  if us.contains k then some (dieReading d k)
  else match maxReading d ((neighbours k).filter us.contains) with
    | some m => some (m + 500)
    | none => (maxReading d us).map (· + 500)

/-- H: the largest effective value. -/
def hotSpot (d : Dev) (us : List Nat) : Option Int :=
  (upto 16).foldl (fun h k =>
    match effective d us k, h with
    | none, h => h
    | some v, none => some v
    | some v, some m => some (max m v)) none

/-- H as THM_STATUS shows it. -/
def hotShown (d : Dev) : Option Int := if d.get THM_STATUS_HOTSPOT = 0x8000 then none else some (d.sget THM_STATUS_HOTSPOT)

/-- Show the sensors, the hot-spot and the mean (R464). -/
def thermalShow (d : Dev) : Dev :=
  let us := usableNow d
  let h := hotSpot d us
  let d := d.set THM_SENSORS_USABLE (maskOf 16 us.contains)
  let d := d.set THM_STATUS_USABLE_N us.length
  let d := d.set THM_STATUS_HOTSPOT (match h with | some v => ux 16 v | none => 0x8000)
  let d := (upto 16).foldl (fun d k =>
    let d : Dev := match effective d us k with
      | some v => d.setI (THM_EFF_VALUE k) v
      | none => d
    let d := d.setB (THM_EFF_SUBST k) (!us.contains k)
    let d := d.setB (THM_EFF_OUT_RANGE k) (!dieInRange d k)
    d.set (THM_EFF_DISAGREE k) (tabGet 0 k d.thm.dis)) d
  let d := if us = [] then d.set THM_MEAN_MEAN_VALID 0
    else
      let s := (us.map (dieReading d)).foldl (· + ·) 0
      (d.setI THM_MEAN_MEAN ((2 * s + us.length) / (2 * us.length))).set THM_MEAN_MEAN_VALID 1
  let d : Dev := match h with
    | some v => if v > sx 16 (d.ent 0xA103 1) then d.setEnt 0xA103 1 (ux 16 v) else d
    | none => d
  let d := if d.xtf.st = .holdover then hoFollow d else d
  (upto 4).foldl (fun d u => if d.ready (cvuDom u) then cvuShow u d else d) d

/-! ### Levels (R465 to R468) -/

/-- One condition over one evaluated round with hot-spot `h`; `held`: HOLD is in force. -/
def aboveNext (c : Cond) (h thr : Int) (held : Bool) : Cond :=
  if !c.on then
    if h ≥ thr then (if c.cnt + 1 ≥ 4 then ⟨true, 0⟩ else ⟨false, c.cnt + 1⟩) else ⟨false, 0⟩
  else if h < thr - 300 then
    (if c.cnt + 1 ≥ 4 then (if held then ⟨true, 4⟩ else ⟨false, 0⟩) else ⟨true, c.cnt + 1⟩)
  else ⟨true, 0⟩

/-- Forcing is in force (R465). -/
def forcing (d : Dev) : Bool := d.bit THM_STATUS_FAULTED || decide (d.get THM_STATUS_USABLE_N < 8)

/-- The level that the conditions give (R465, R466). -/
def thermalLevel (d : Dev) : Nat :=
  let l := (upto 5).foldl (fun l k => if (tabGet {} k d.thm.above).on then k + 1 else l) 0
  if forcing d then max l 2 else l

/-- The level and the forcing follow (R465, R468). -/
def levelFollow (d : Dev) : Dev :=
  let f := forcing d
  let d := if f ∧ !d.bit THM_STATUS_FORCED then
      raise .THERMAL_FORCED [d.get THM_STATUS_USABLE_N, d.get THM_STATUS_FAULTED] (d.flagUp THM_EVT_FORCED) else d
  let d := d.setB THM_STATUS_FORCED f
  let old := d.get THM_STATUS_LEVEL
  let new := thermalLevel d
  if old = new then d
  else
    let d := d.set THM_STATUS_LEVEL new
    let d := if old < new then d.flagUp THM_EVT_LEVEL_UP else d.flagUp THM_EVT_LEVEL_DOWN
    let d := raise .THERMAL_LEVEL [old, new, d.get THM_STATUS_HOTSPOT] d
    if d.pwr.save = .none then wakeUp d else d

/-! ### Critical shutdown (R472 to R474) -/

/-- A critical shutdown; `trip`: the comparator. -/
def criticalShutdown (trip : Bool) (d : Dev) : Dev :=
  let ev : Ev := if trip then .THERMAL_TRIP else .THERMAL_CRITICAL
  let same := decide (d.pwr.save = .running ∧ (d.nvs.saving.map (·.time)) = some d.time64 ∧ !d.pwr.thermalOff)
  if d.pwr.thermalOff then d
  else if same then raise ev [d.get THM_STATUS_HOTSPOT] (d.flagUp PMC_RSTCAUSE_THERMAL)
  else if d.pwr.save ≠ .none then d
  else
    let l := within d.now 3600000000000 d.thm.crits
    let d := { d with pwr.save := .running, pwr.thermalOff := true, thm.crits := l, thm.cool := 0, thm.stay := decide (l.length ≥ 3) }
    let d := raise ev [d.get THM_STATUS_HOTSPOT] (d.flagUp PMC_RSTCAUSE_THERMAL)
    let d := d.setEnt 0xA103 2 (min (d.ent 0xA103 2 + 1) 0xFFFFFFFF)
    shutdownSeq (d.setEnt 0xA103 3 d.time64)

/-- A full restart out of THERMAL_OFF (R473). -/
def thermalRestart (cause : Fld) (d : Dev) : Dev := (fullRestart cause d).flagUp THM_EVT_CRITICAL

/-- The temperature condition of R473 over this round; a pin reset that waits for it goes on. -/
def coolRound (d : Dev) : Dev :=
  if !d.pwr.thermalOff then d
  else
    let ok : Bool := match hotShown d with
      | some h => decide (h < d.sget (THM_THR_THR 4) - 2000)
      | none => false
    let d := { d with thm.cool := if ok then d.thm.cool + 1 else 0 }
    if d.thm.pinWait ∧ d.thm.cool ≥ 4 ∧ d.pwr.save = .complete ∧ !d.bit PMC_LINE_FAIL then thermalRestart PMC_RSTCAUSE_PIN d else d

/-- RESTART_DELAY has passed and the die has cooled (R473). -/
def thermalMayRestart (d : Dev) : Bool :=
  d.pwr.thermalOff && !d.thm.stay && decide (d.pwr.save = .complete) && !d.bit PMC_LINE_FAIL && decide (d.thm.cool ≥ 4) &&
    (match d.thm.crits with
     | t :: _ => decide (t + d.ent 0xA101 8 * 1000000000 ≤ d.now)
     | [] => true)

/-- HOLD has run out. -/
def holdOver (d : Dev) : Dev :=
  match d.thm.hold with
  | some t => if t ≤ d.now then ({ d with thm.hold := none }).set THM_STATUS_HOLD 0 else d
  | none => d

/-- One thermal round (R462 to R467). `ok`: the self-check has passed. -/
def thermalRound (ok : Bool) (d : Dev) : Dev :=
  if !ok then
    let d := { d with thm.skipped := d.thm.skipped + 1 }
    let d := if d.thm.skipped ≥ 4 then d.set THM_STATUS_FAULTED 1 else d
    levelFollow d
  else
    let d := ({ d with thm.skipped := 0 }).set THM_STATUS_FAULTED 0
    let d := holdOver d
    let before := d.get THM_SENSORS_EXCLUDED
    let d := (upto 16).foldl (fun d k => if !before.testBit k && !dieInRange d k then excludeSensor k d else d) d
    let d := thermalShow (readmit before (voteSensors d))
    let was := (tabGet {} 4 d.thm.above).on
    let d : Dev := match hotShown d with
      | none => d
      | some h =>
        { d with thm.above := (upto 5).foldl (fun t k =>
            tabPut {} k (aboveNext (tabGet {} k t) h (d.sget (THM_THR_THR k)) d.thm.hold.isSome) t) d.thm.above }
    let d := levelFollow d
    let d := coolRound d
    if !was ∧ (tabGet {} 4 d.thm.above).on then criticalShutdown false d else d

/-! ### The housekeeping converter (R71, R157 to R159) -/

/-- The channel that fails the self-check (R159). -/
def hkcFail (d : Dev) : Option Nat :=
  let v := fun c => d.get (HKC_RESULT_VALUE c)
  if v 38 < 1188 ∨ 1212 < v 38 then some 38
  else if 5 < v 39 then some 39
  else if v 40 < 995 ∨ 1005 < v 40 then some 40 else none

/-- A computation of R71 has found E_AVAIL below the reserve: a line failure (R48). -/
def energyFall (d : Dev) : Dev := if d.pwr.eFell then lineFailure { d with pwr.eFell := false } else d

/-- E_AVAIL is computed after a round, and a fall below the reserve is a line failure (R48, R71). A raise of HOLD_WINDOW that lifts
the reserve above an unchanged E_AVAIL is such a fall (DESIGN CHOICE, log entry 117). -/
def energyRound (d : Dev) : Dev := energyFall (energyNote d)

/-- The readings of VLINE and VHOLD as the PMC shows them (0.1 V). -/
def lineShow (d : Dev) : Dev := (d.set PMC_LINE_VLINE (d.pwr.vlineMV / 100)).set PMC_LINE_VHOLD (d.pwr.vholdMV / 100)

/-- The end of a round. -/
def hkcRoundEnd (d : Dev) : Dev :=
  let rd := d.get HKC_STATUS_ROUND
  let bad := hkcFail d
  let d : Dev := match bad with
    | some c =>
      let d := (upto 48).foldl (fun (d : Dev) k => if d.get (HKC_RESULT_ROUND k) = rd % 256 then d.set (HKC_RESULT_VALID k) 0 else d) d
      let d : Dev := { d with pwr.vlineMV := d.pwr.vlineOk, pwr.vholdMV := d.pwr.vholdOk }
      count 0x167 (raise .HKC_FAULT [c] ((lineShow d).set HKC_STATUS_FAULT 1))
    | none =>
      let d : Dev := { d with pwr.vlineOk := d.pwr.vlineMV, pwr.vholdOk := d.pwr.vholdMV }
      d.set HKC_STATUS_FAULT 0
  let d := (d.set HKC_STATUS_ROUND ((rd + 1) % 65536)).setEnt 0x3040 1 ((d.ent 0x3040 1 + 1) % 4294967296)
  thermalRound bad.isNone (energyRound d)

/-- A conversion of channel `ch` ends with reading `value` (R157, R158). -/
def hkcConvert (ch value : Nat) (d : Dev) : Dev :=
  if 48 ≤ ch then d
  else
    let v := if ch ≤ 40 then value % 65536 else 0
    let d := d.set (HKC_RESULT_VALUE ch) v
    let d := d.set (HKC_RESULT_VALID ch) (if ch ≤ 40 then 1 else 0)
    let d := (d.set (HKC_RESULT_ROUND ch) (d.get HKC_STATUS_ROUND % 256)).set HKC_STATUS_CHAN ch
    if 32 ≤ ch ∧ ch < 36 then refReading (ch - 32) v d
    else if ch = 36 then lineShow { d with pwr.vlineMV := v }
    else if ch = 37 then lineShow { d with pwr.vholdMV := v }
    else if ch = 47 then hkcRoundEnd d
    else d

end Sys2Proof.Machine
end

