-- ==== Sys2Proof/Machine/RegStore.lean ====
section
/-! DEFINITION. A bus write that has passed the checks of the bus reaches its register: stored fields, actions and the
context record (R8, R9, R50). Every block's own rules on writes stand here. -/

namespace Sys2Proof.Machine

/-- The bits of a register with one of the given access codes. -/
def accMask (r : RegRow) (p : Acc → Bool) : Word :=
  r.fields.foldl (fun m f => if p f.acc then m ||| wMask f.lo f.width else m) 0

/-- Bits of the register at `a` that hardware has set in this cycle (R9). -/
def hwMask (d : Dev) (a : Nat) : Word :=
  d.cyc.hwSet.foldl (fun m x => if x.1 = a then m ||| x.2 else m) 0

/-- The value and the bits that a write of `v` to the bits in `mask` stores: W1C bits that a 1 clears, W1S bits that a 1
sets, and the RW, RWL and WO bits as they are (R8, R9). -/
def storeBits (d : Dev) (a : Nat) (v mask : Word) (r : RegRow) : Word × Word :=
  let c := accMask r (· == .w1c) &&& mask &&& v &&& ~~~(hwMask d a)
  let s := accMask r (· == .w1s) &&& mask &&& v
  let w := accMask r (fun x => x == .rw || x == .rwl || x == .wo) &&& mask
  (v &&& ~~~c, w ||| s ||| c)

/-- Fields that hold no value: WO actions. -/
def woMask (r : RegRow) : Word := accMask r (· == .wo)

/-- Store the bits in `m` of the register at `a`, WO bits left out, and record them (R8, R50). -/
def plainPut (a : Nat) (v m : Word) (r : RegRow) (d : Dev) : Dev :=
  let w := m &&& ~~~(woMask r)
  ctxPut a v w (d.wr a ((d.rd a &&& ~~~w) ||| (v &&& w)))

/-- The written bits hold a 1 in bit `n`. -/
def wrote1 (v m : Word) (n : Nat) : Bool := (v &&& m).toNat.testBit n

/-! ### Subscriptions whose role rises (R392, R488) -/

/-- End the subscriptions whose entry is gone or whose read role exceeds their session's, each with a final NOTIFY. -/
def subsCheck (d : Dev) : Dev :=
  d.heg.sessions.foldl (fun d s =>
    let bad := fun (x : Subscription) => match entInfo x.idx x.sub d with
      | none => some 1
      | some e => if e.rd > s.role then some 5 else none
    let out := s.subs.filterMap (fun x => (bad x).map (fun st => (⟨x.id, st, x.carried, d.time64, ⟨0, 0⟩⟩ : Notification)))
    d.setSession { s with subs := s.subs.filter (fun x => (bad x).isNone), queue := s.queue ++ out }) d

/-- UNPRIV_READ takes a value (R488). -/
def unprivPut (on : Bool) (d : Dev) : Dev :=
  let was := d.bit OBS_CTRL_UNPRIV_READ
  let d := d.setB OBS_CTRL_UNPRIV_READ on
  if was && !on then subsCheck d else d

/-! ### Blocks -/

/-- Empty the access-violation log; violations of the same cycle are stored in the emptied log, in their order (R35). -/
def avClear (d : Dev) : Dev :=
  { d with av := { entries := d.cyc.viols.take 16, lost := min (d.cyc.viols.length - 16) 65535 } }

/-- PMC registers. -/
def pmcPut (a : Nat) (v m : Word) (r : RegRow) (d : Dev) : Dev :=
  if a = PMC_DOMREQ then domreqSet (wGet ((d.rd a &&& ~~~m) ||| (v &&& m)) 0 12) d
  else if a = PMC_RSTCTRL then
    if wrote1 v m 0 then fullRestart PMC_RSTCAUSE_SOFT d else domainResets (wGet (v &&& m) 16 12) d
  else if a = PMC_PSTATE then
    let d := plainPut a v m r d
    if wrote1 v m 4 then forceDeepOp d else d
  else plainPut a v m r d

/-- The staged words as one entry. -/
def stagedEntry (d : Dev) : Nat := (upto 8).foldl (fun n w => n + d.get (LDG_STAGE_WORD w) * 2 ^ (32 * w)) 0

/-- LDG_BOOKCMD: arm or disarm (R106, R115, R121, R122). -/
def bookCommand (ini sess b cmd : Nat) (d : Dev) : Dev :=
  if cmd = 0 ∨ cmd = 3 then d
  else if !bookRole d ini sess b then cmdResult 4 (d.get LDG_BOOKCMD_FAIL_ENTRY) d
  else if cmd = 1 then
    let x := armRequest b d
    cmdResult x.1 x.2.1 x.2.2
  else
    let x := disarmRequest b d
    cmdResult x.1 (x.2.get LDG_BOOKCMD_FAIL_ENTRY) x.2

/-- The NVS shows the status of a WRITE that it has refused (R130, R415). -/
def nvShow (status : Nat) (d : Dev) : Dev := if d.ready 10 then nvResult 1 status 0 0 d else d

/-- LDG_COMMIT.GO (R115, R130): `nv` tells whether the NV store accepts the image; a refusal leaves its status in the NVS. -/
def ldgCommitOp (ini sess e : Nat) (nv : Bool) (d : Dev) : Dev :=
  let b := e / 256 % 16
  let x := stagedEntry d
  if !bookRole d ini sess b then d.set LDG_COMMIT_RESULT 4
  else
    let c := entryCheck b (LWords.ofNat x)
    if c ≠ 0 then d.set LDG_COMMIT_RESULT c
    else if b ≤ 11 ∨ b = 15 then
      if !nv then
        let k := storeCheck d 32
        let d := if k = 0 then nvShow 8 (raise .NV_VERIFY_FAIL [] d) else if k = 1 then nvShow 1 (lowPower d) else if k < 16 then nvShow k d else d
        d.set LDG_COMMIT_RESULT 6
      else (entryCommit e x (storeWrite (imagePut b (e % 256) x d))).set LDG_COMMIT_RESULT 0
    else (entryCommit e x d).set LDG_COMMIT_RESULT 0

/-- A book's image is kept in NV and the store accepts it now (R130, R421, R435). -/
def commitNv (d : Dev) : Bool := storeCheck d 32 = 0

/-- XTF_CTRL.SET and SET_TIME step the counter; ignored while PTP is the source (R82, R83). -/
def timeSetOp (t : Nat) (d : Dev) : Dev := if d.xtf.src = 1 then d else setTime t d

/-- A write of PPSIN_EN (R82, R93). -/
def ppsFollow (was : Bool) (d : Dev) : Dev :=
  let on := d.bit XTF_PPS_PPSIN_EN
  let d := if on && !was then ppsEnable d else if was && !on then sourceRefresh d else d
  let m := d.get XTF_PPS_PPSOUT_MODE
  if m = 1 ∨ m = 2 then d else { d with xtf.ppsOut := false }

/-- XTF, PTP and ledger registers. -/
def xtfPut (ini sess a : Nat) (v m : Word) (r : RegRow) (d : Dev) : Dev :=
  if a = XTF_CTRL then
    let d := plainPut a v m r d
    servoFollow (if wrote1 v m 0 then timeSetOp (d.get XTF_SET_LO_SET_LO + d.get XTF_SET_HI_SET_HI * 2 ^ 32) d else d)
  else if a = XTF_PPS then
    let was := d.bit XTF_PPS_PPSIN_EN
    ppsFollow was (plainPut a v m r d)
  else if a = PTP_CFG then
    let old := d.rd a
    let d := plainPut a v m r d
    if (old ^^^ d.rd a) &&& wMask 0 31 = 0 then d else ptpConfigure d
  else if a = LDG_BOOKCMD then bookCommand ini sess (wGet (v &&& m) 0 4) (wGet (v &&& m) 4 2) d
  else if a = LDG_COMMIT then
    if wrote1 v m 12 then ldgCommitOp ini sess (wGet (v &&& m) 0 12) (commitNv d) d else d
  else if a = LDG_FLAGS_LO ∨ a = LDG_FLAGS_HI then
    let old := d.get LDG_FLAGS_LO_FLAGS + d.get LDG_FLAGS_HI_FLAGS * 2 ^ 32
    plainPut a v m r { d with cyc.flags0 := some (d.cyc.flags0.getD old) }
  else plainPut a v m r d

/-- Converter unit registers (R149, R152, R164, R171, R182, R184). -/
def cvuPut (a : Nat) (v m : Word) (r : RegRow) (d : Dev) : Dev :=
  let u := a / 0x1000 % 16
  let o := a % 0x1000
  let on := d.bit (CVU_SEQ_CTRL_EN u)
  if 4 ≤ u then plainPut a v m r d
  else if o = 0x00C then
    let d := if wGet (v &&& m) 8 9 ≠ 0 then requalify u (wGet (v &&& m) 8 9) d else d
    cvuShow u (if wrote1 v m 0 then fgPending u d else d)
  else if o = 0x200 then
    let keep := if on then m &&& (wMask 0 1 ||| wMask 31 1) else m
    let d := plainPut a v (keep &&& ~~~(1 : Word)) r d
    let d :=
      if wGet m 0 1 = 0 ∨ (wGet v 0 1 = 1) = on then d
      else if on then ctxPut a 0 1 (seqDisable u d) else seqEnable u (ctxPut a 1 1 d)
    if wrote1 v m 31 then cvuTrigger u false d else d
  else if o = 0x210 then cvuInjectBus u (v &&& m).toNat d
  else if 0x220 ≤ o ∧ o < 0x240 then (if on then d else profShow u (plainPut a v m r d))
  else if 0x300 ≤ o ∧ o < 0x380 then (if on then d else plainPut a v m r d)
  else if 0x400 ≤ o ∧ o < 0x600 then
    let s := (o - 0x400) / 0x20
    let w := o % 0x20
    let son := d.bit (CVU_SCFG_EN u s)
    if w = 0 then
      let keep := if son then m &&& ~~~(wMask 1 3) else m
      let d := plainPut a v (keep &&& ~~~(1 : Word)) r d
      if wGet m 0 1 = 0 ∨ (wGet v 0 1 = 1) = son then d
      else if son then ctxPut a 0 1 (d.set (CVU_SCFG_EN u s) 0) else ctxPut a 1 1 (streamEnable u s false d)
    else if w = 4 ∨ w = 8 then (if son then d else plainPut a v m r d)
    else if w = 0x14 then (if wGet m 0 20 = 0 then d else ringReadPut u s (wGet v 0 20) d)
    else plainPut a v m r d
  else plainPut a v m r d

/-- Engine registers (R219, R226 to R228, R234, R247, R256). -/
def cePut (a : Nat) (v m : Word) (r : RegRow) (d : Dev) : Dev :=
  let n := a / 0x10000 % 0x100 - 0x10
  let o := a % 0x10000
  if o = 0x020 then (if wrote1 v m 0 then d.wr (CE_FAULT n) 0 else d)
  else if 0x100 ≤ o ∧ o < 0x300 then
    let s := (o - 0x100) / 0x20
    let w := o % 0x20
    let on := d.bit (CE_SCFG_EN n s)
    if w = 0 then
      let keep := if on then m &&& ~~~(wMask 1 2 ||| wMask 4 1 ||| wMask 16 16) else m
      let d := plainPut a v (keep &&& ~~~(1 : Word)) r d
      if wGet m 0 1 = 0 ∨ (wGet v 0 1 = 1) = on then d
      else if on then slotDisable n s d else slotEnable n s d
    else if w = 4 ∨ w = 8 ∨ w = 0xC then (if on then d else plainPut a v m r d)
    else if w = 0x1C then
      let d := if wrote1 v m 1 then slotArm n s d else d
      if wrote1 v m 0 then followUp (slotTrig n s false d) else d
    else plainPut a v m r d
  else if o = 0x600 then
    let on := d.bit (CE_TCTRL_EN n)
    let d := plainPut a v (m &&& ~~~(1 : Word)) r d
    if wGet m 0 1 = 0 ∨ (wGet v 0 1 = 1) = on then d
    else if on then ctxPut a 0 1 (d.set (CE_TCTRL_EN n) 0) else traceEnable n d
  else if 0x1000 ≤ o ∧ o < 0x1400 then routeWrite n false ((o - 0x1000) / 4) v m d
  else if 0x1400 ≤ o ∧ o < 0x1800 then routeWrite n true ((o - 0x1400) / 4) v m d
  else plainPut a v m r d

/-- MDU and AIO registers; entries and SPEED of an enabled I²C controller stay (R331). -/
def ioPut (a : Nat) (v m : Word) (d : Dev) : Dev :=
  let o := a % 0x10000
  let c := (o - 0x800) / 0x100
  let i2c := a / 0x10000 = 0x4032 ∧ 0x800 ≤ o ∧ o < 0x1000
  let on := i2c && d.bit (AIO_I2CCFG_EN c)
  if i2c ∧ on ∧ o % 0x100 ≥ 0x40 then d
  else
    let m := if i2c ∧ on ∧ o % 0x100 = 0 then m &&& ~~~(wMask 1 1) else m
    postField a v m d

/-- CAN channel registers (R340, R342, R346, R348, R353, R354, R357, R358, R360). -/
def canPut (a : Nat) (v m : Word) (r : RegRow) (d : Dev) : Dev :=
  let n := a / 0x1000 % 16
  let o := a % 0x1000
  let on := decide (d.get (CAN_STAT_MODE n) ≠ 0)
  if 8 ≤ n then plainPut a v m r d
  else if o = 0 then
    let d := plainPut a v (m &&& ~~~(wMask 0 3 ||| (if on then wMask 3 1 else 0))) r d
    if wGet m 0 3 = 0 then d else canMode n (wGet v 0 3) d
  else if o = 4 ∨ o = 8 ∨ o = 0xC then (if on then d else plainPut a v m r d)
  else if o = 0x10 then
    let d := plainPut a v m r d
    if wrote1 v m 12 then clearBoOp n d else d
  else if o = 0x18 then
    let d := plainPut a v m r d
    let d := if wGet m 2 1 = 1 then segOffOp n (wGet v 2 1 = 1) d else d
    let d := if wrote1 v m 1 then segClearOp n d else d
    if wrote1 v m 0 then hushRequest n (d.get (CAN_SEGCTL_TARGET n)) (d.get (CAN_SEGCTL_DURATION n)) false d else d
  else if o = 0x50 then txRequest n (v &&& m).toNat d
  else if o = 0x54 then txCancel n (v &&& m).toNat d
  else if o = 0x84 ∨ o = 0x94 then
    let q := (o - 0x84) / 0x10
    let d := plainPut a v m r d
    let d := if wrote1 v m 2 then rxRemove n q d else d
    if wrote1 v m 1 then rxUnlockOp n q d else d
  else if 0x5F8 ≤ o ∧ o < 0x600 ∧ d.bit (CAN_CFG_HEGUS_EN n) then d
  else plainPut a v m r d

/-- FNS registers (R366, R368, R370, R372). -/
def fnsPut (a : Nat) (v m : Word) (r : RegRow) (d : Dev) : Dev :=
  let o := a % 0x10000
  if 0x100 ≤ o ∧ o < 0x2C0 ∧ o % 0x40 = 0 then
    let p := (o - 0x100) / 0x40
    let was := d.bit (FNS_PORTCFG_EN p)
    let d := plainPut a v (m &&& ~~~(1 : Word)) r d
    if wGet m 0 1 = 0 ∨ (wGet v 0 1 = 1) = was then d else ctxPut a v 1 (portEn p (wGet v 0 1 = 1) d)
  else if 0x100 ≤ o ∧ o < 0x2C0 ∧ o % 0x40 = 8 then
    if wrote1 v m 0 then cableStart ((o - 0x100) / 0x40) d else d
  else if 0x400 ≤ o ∧ o < 0x5C0 ∧ o % 0x40 < 0x20 then plainPut a v m r (bucketSettle ((o - 0x400) / 0x40) (o % 0x40 / 4) d)
  else if 0x800 ≤ o ∧ o < 0x840 then
    let k := (o - 0x800) / 4
    plainPut a v m r (if d.cyc.vlan0.any (fun e => e.1 = k) then d else { d with cyc.vlan0 := tabIns k (d.rd a) d.cyc.vlan0 })
  else plainPut a v m r d

/-- NVS registers; those of the command interface are its owner's (R412, R413). -/
def nvsPut (ini a : Nat) (v m : Word) (r : RegRow) (d : Dev) : Dev :=
  if a = NVS_CLAIM then
    let d := if wrote1 v m 0 then nvClaim ini d else d
    if wrote1 v m 1 then nvRelease ini d else d
  else if a = NVS_CMD then nvCmd ini (nvOp (wGet (v &&& m) 0 4) (wGet (v &&& m) 4 4) (wGet (v &&& m) 8 1) false) d
  else if a = NVS_ADDR ∨ a = NVS_LEN ∨ NVS_STAGE 0 ≤ a then
    if d.get NVS_STAT_OWNER = ini then plainPut a v m r d else count 0x15C (d.flagUp NVS_STAT_REJ)
  else plainPut a v m r d

/-- Condition sources among counters 32w to 32w + 31 (R477, R479). -/
def condMask (w : Nat) : Word :=
  BitVec.ofNat 32 (maskOf 32 (fun b =>
    let n := 32 * w + b
    decide ((0x01C ≤ n ∧ n ≤ 0x01F) ∨ n = 0x02D ∨ n = 0x02E ∨ (0x040 ≤ n ∧ n ≤ 0x04B) ∨ (0x062 ≤ n ∧ n ≤ 0x065) ∨
      (0x082 ≤ n ∧ n ≤ 0x0A1) ∨ n = 0x169)))

/-- OBS registers (R477, R481, R483 to R486, R488). -/
def obsPut (key a : Nat) (v m : Word) (r : RegRow) (d : Dev) : Dev :=
  let o := a % 0x10000
  if a = OBS_CTRL then
    let x := storeBits d a v m r
    let d := plainPut a x.1 (x.2 &&& ~~~(5 : Word)) r d
    let d := if wGet m 0 1 = 1 then freezePut (wGet v 0 1 = 1) d else d
    let d := if wGet m 2 1 = 1 then unprivPut (wGet v 2 1 = 1) d else d
    if wrote1 v m 1 then snapRequest d else d
  else if 0x40 ≤ o ∧ o < 0x70 then
    let x := storeBits d a v m r
    plainPut a x.1 (x.2 &&& condMask ((o - 0x40) / 4)) r d
  else if 0x80 ≤ o ∧ o < 0xB4 then ovfClear ((o - 0x80) / 4) (v &&& m) d
  else if 0x100 ≤ o ∧ o < 0x140 then
    if m = 0 then d else fselPut ((o - 0x100) / 4) (wGet v 0 11) (wGet v 11 1) d
  else if 0x1000 ≤ o ∧ o < 0x1C80 then
    if m = 0 then d
    else if o % 8 = 0 then cntLoWrite key ((o - 0x1000) / 8) v.toNat d else cntHiWrite key (wGet v 0 16) d
  else
    let x := storeBits d a v m r
    plainPut a x.1 x.2 r d

/-- A write of `v` by `ini` to the bits in `mask` of the register at `a`, which holds row `r` (R8). -/
def regPut (ini sess a : Nat) (v mask : Word) (r : RegRow) (d : Dev) : Dev :=
  let x := storeBits d a v mask r
  let b := a / 0x10000 % 0x100
  if b = 0x00 then pmcPut a x.1 x.2 r d
  else if b = 0x02 then xtfPut ini sess a x.1 x.2 r d
  else if 0x10 ≤ b ∧ b < 0x30 then cePut a x.1 x.2 r d
  else if b = 0x30 then cvuPut a x.1 x.2 r d
  else if b = 0x31 ∨ b = 0x32 then ioPut a x.1 x.2 d
  else if b = 0x33 then canPut a x.1 x.2 r d
  else if b = 0x34 then fnsPut a x.1 x.2 r d
  else if b = 0x35 then nvsPut ini a x.1 x.2 r d
  else if b = 0x37 then obsPut (readerKey ini sess) a v mask r d
  else if a = SCU_AVLOG_CTRL then (if wrote1 x.1 x.2 0 then avClear d else d)
  else plainPut a x.1 x.2 r d

end Sys2Proof.Machine
end

