-- ==== Sys2Proof/Machine/Aio.lean ====
section
/-! DEFINITION. The commands of chapter 11: actuators, latches, GPIO and I²C. While the AIO domain is not ready, a command
of one of its outputs or controllers has no effect. -/

namespace Sys2Proof.Machine

/-- A change made while the AIO is ready. -/
def State.aio (s : State) (f : Dev → Dev) : Host.Outcome State Fault Refusal := s.app (fun d => if d.ready 7 then f d else d)

/-- ACT_OVERCURRENT (R317). -/
def execActOvercurrent (n : Nat) (st : State) : Host.Outcome State Fault Refusal :=
  st.aio (fun d => if actOn d n then raise .ACT_OVERCURRENT [n] (d.flagUpN AIO_ACTOC_OC n) else d)

/-- ACTOC_CLEAR (R9, R317): a write of 1 to OC bits; a trip of the same cycle stays. -/
def execActocClear (mask : Nat) (st : State) : Host.Outcome State Fault Refusal :=
  st.aio (fun d => d.wr AIO_ACTOC (d.rd AIO_ACTOC &&& ~~~(BitVec.ofNat 32 mask &&& ~~~hwMask d AIO_ACTOC)))

/-- ACT_PULSE_END (R318). -/
def execActPulseEnd (n : Nat) (st : State) : Host.Outcome State Fault Refusal :=
  st.aio (fun d => if d.aio.pulse.testBit n then
      let d := d.setN AIO_ACTOUT_LEVEL n false
      { d with aio.pulse := setBit d.aio.pulse n false, aio.pendAct := setBit d.aio.pendAct n false }
    else d)

/-- PAIR_GAP_END (R319). -/
def execPairGapEnd (p : Nat) (st : State) : Host.Outcome State Fault Refusal :=
  st.aio (fun d => if d.get (AIO_PAIR_STATE p) = 3 then pairFollow p d else d)

/-- LATCH_APPLY (R322): the groups apply at the end of the cycle. -/
def execLatchApply (mask : Nat) (st : State) : Host.Outcome State Fault Refusal :=
  st.aio (ioStore AIO_LATCH (BitVec.ofNat 32 mask) 0x7FFF)

/-- GPIO_INPUT (R325, R326, R327): the input stage runs in AON, so the AIO domain need not be ready. -/
def execGpioInput (n : Nat) (level : Bool) (raw : Nat) (st : State) : Host.Outcome State Fault Refusal :=
  st.app (gpioAccept n level raw)

/-- GCAP_READ (R22, R24, R31, R326): a read of AIO_GCAPn. -/
def execGcapRead (ini sess n : Nat) (st : State) : Host.Outcome State Fault Refusal :=
  st.app (viewRead ini sess (AIO_GCAP n))

/-- I2C_ENABLE (R331). -/
def execI2cEnable (c : Nat) (st : State) : Host.Outcome State Fault Refusal :=
  st.aio (postField (AIO_I2CCFG c) 1 1)

/-- I2C_DISABLE (R331). -/
def execI2cDisable (c : Nat) (st : State) : Host.Outcome State Fault Refusal :=
  st.aio (postField (AIO_I2CCFG c) 0 1)

/-- I2C_ROUND (R332, R334). -/
def execI2cRound (c : Nat) (bus : I2cBus) (st : State) : Host.Outcome State Fault Refusal :=
  st.aio (i2cRoundStart c bus)

/-- I2C_WAIT (R332, R334): the read phase of the entry in progress starts, if the bus lets it. -/
def execI2cWait (x : I2cStart) (st : State) : Host.Outcome State Fault Refusal :=
  st.aio (fun d => match (d.i2c x.ctl).cur with
    | none => d
    | some p =>
      if !(d.i2c x.ctl).waiting then d
      else i2cMeet x.ctl x.bus (p :: (d.i2c x.ctl).left) (fun d => d.setI2c x.ctl { d.i2c x.ctl with waiting := false }) d)

/-- I2C_ENTRY_DONE (R332, R333). -/
def execI2cEntryDone (c : Nat) (ok : Bool) (data : List Nat) (bus : I2cBus) (st : State) : Host.Outcome State Fault Refusal :=
  st.aio (fun d => match (d.i2c c).cur with
    | none => d
    | some p =>
      if ok ∧ (d.i2c c).waiting then d
      else
        let d := match (if ok then i2cData d c p data else none) with
          | some l => i2cOk c p l d
          | none => i2cFail c p d
        i2cNext c bus (d.setI2c c { d.i2c c with cur := none, waiting := false }))

/-- I2C_STRETCH_TIMEOUT (R333). -/
def execI2cStretchTimeout (c : Nat) (bus : I2cBus) (st : State) : Host.Outcome State Fault Refusal :=
  st.aio (fun d => match (d.i2c c).cur with
    | none => d
    | some p => i2cNext c bus ((i2cFail c p d).setI2c c { (i2cFail c p d).i2c c with cur := none, waiting := false }))

end Sys2Proof.Machine
end

