-- ==== Sys2Proof/Machine/RegBus.lean ====
section
/-! DEFINITION. Bus writes: reach, regions, access codes, locks, bindings, postings of the same cycle, roles and refused
values (R5, R7, R8, R10, R11, R18, R19, R22, R28, R31, R32, R34 to R36, R508), and the register mirror (R38 to R40). -/

namespace Sys2Proof.Machine

/-! ### Bits that a write may not change -/

/-- The LOCK field that governs the RWL fields of the register at `a` (R10). -/
def lockOf (a : Nat) : Option Fld :=
  let b := a / 0x10000 % 0x100
  if b = 0x00 then some PMC_CFG_LOCK
  else if b = 0x01 then some THM_CFG_LOCK
  else if b = 0x02 then some (if a = PTP_CFG then PTP_CFG_LOCK else XTF_CTRL_LOCK)
  else if b = 0x30 then some (CVU_CFG_LOCK (a / 0x1000 % 16))
  else if b = 0x31 then some MDU_CTRL_LOCK
  else if b = 0x32 then some AIO_CTRL_LOCK
  else if b = 0x34 then some FNS_CFG_LOCK
  else if b = 0x37 then some OBS_CTRL_LOCK
  else if b = 0x38 then some HIF_CFG_LOCK
  else none

/-- The RWL bits of a register while its LOCK is 1, in its register or, while the domain is off, in the context record (R8, R10,
R50). -/
def lockedMask (d : Dev) (a : Nat) (r : RegRow) : Word :=
  match lockOf a with
  | none => 0
  | some f => if d.cget f = 1 then accMask r (· == .rwl) else 0

/-- Privileged-only bits of a U register for a write (R11, R488). -/
def privMask (a : Nat) (r : RegRow) : Word :=
  r.fields.foldl (fun m f => if f.privOnly then m ||| wMask f.lo f.width else m) (obsValueBits a)

/-- Bits of fields whose role a writer does not hold (R508). -/
def roleMask (d : Dev) (ini sess : Nat) (r : RegRow) : Word :=
  r.fields.foldl (fun m f => if f.role ≠ 0 ∧ d.roleOf ini sess < f.role then m ||| wMask f.lo f.width else m) 0

/-- Bits of the register at `a` that a posting of this cycle has written, and their values (R19). -/
def postedBits (d : Dev) (a : Nat) : Word × Word :=
  d.cyc.posted.foldr (fun x acc => if x.1 = a then (acc.1 ||| x.2.1, (acc.2 &&& ~~~x.2.1) ||| (x.2.2 &&& x.2.1)) else acc) (0, 0)

/-- THR k may take the value `x` (R466). -/
def thrOk (d : Dev) (k : Nat) (x : Int) : Bool :=
  (k ≠ 0 || decide (8000 ≤ x)) && (k ≠ 4 || decide (x ≤ 12500)) &&
    (k = 0 || decide (d.sget (THM_THR_THR (k - 1)) + 300 ≤ x)) && (4 ≤ k || decide (x + 300 ≤ d.sget (THM_THR_THR (k + 1))))

/-- Bits whose written value a register's description refuses with RESERVED_BIT. -/
def refuseMask (d : Dev) (a : Nat) (v : Word) : Word :=
  let o := a % 0x10000
  let all : Word := BitVec.allOnes 32
  let bad := fun (lo w x y : Nat) => if x ≤ wGet v lo w ∧ wGet v lo w ≤ y then (0 : Word) else wMask lo w
  if a = PMC_CFG then bad 0 8 120 170 ||| bad 16 8 30 100
  else if a = XTF_PPSOUT_PER then (if v.toNat < 1000 then all else 0)
  else if a / 0x10000 = 0x4030 ∧ o < 0x4000 ∧ o % 0x1000 = 0x008 then bad 16 10 1 600
  else if a / 0x10000 = 0x4030 ∧ o < 0x4000 ∧ 0x100 ≤ o % 0x1000 ∧ o % 0x1000 < 0x120 then bad 0 7 0 100
  else if a / 0x10000 = 0x4031 ∧ o < 0x800 ∧ o % 0x100 = 0 then bad 0 14 2000 12500
  else if a / 0x10000 = 0x4034 ∧ 0x100 ≤ o ∧ o < 0x2C0 ∧ o % 0x40 = 0 then bad 8 12 1 4094
  else if a / 0x10000 = 0x4034 ∧ 0x800 ≤ o ∧ o < 0x840 then
    if wGet v 31 1 = 1 ∧ (upto 16).any (fun k => 4 * k ≠ o - 0x800 && d.bit (FNS_VLAN_EN k) && d.get (FNS_VLAN_VID k) = wGet v 0 12)
    then all else 0
  else if THM_THR 0 ≤ a ∧ a ≤ THM_THR 4 then (if thrOk d ((a - THM_THR 0) / 4) (sx 16 (wGet v 0 16)) then 0 else wMask 0 16)
  else if a = THM_CFG then bad 0 12 300 3000
  else if OBS_FSEL 0 ≤ a ∧ a < OBS_FSEL 16 then (if extDefined (wGet v 0 11) then 0 else all)
  else 0

/-- Bits of the register at `a` that are reserved: those of R7, a reserved counter (R479), and the upper half of the last overflow
words, which stand for 400 counters (R484). -/
def rsvdMask (a : Nat) (r : RegRow) : Word :=
  if a / 0x10000 = 0x4037 ∧ 0x1000 ≤ a % 0x10000 ∧ a % 0x10000 < 0x1C80 ∧ !cntDefined ((a % 0x10000 - 0x1000) / 8)
  then BitVec.allOnes 32
  else if a = OBS_OVF 12 ∨ a = OBS_SOVF 12 then wMask 16 16
  else ~~~(r.fields.foldl (fun m f => if f.acc = .rsvd then m else m ||| wMask f.lo f.width) 0)

/-- Registers that the mirror agent may not write (R369, R412). -/
def mirrorBarred (a : Nat) : Bool :=
  decide ((FNS_ADM_ADDR 0 0).addr ≤ a ∧ a < (FNS_ADM_ADDR 32 0).addr) || a = NVS_CLAIM || a = NVS_CMD || a = NVS_ADDR || a = NVS_LEN ||
    decide (NVS_STAGE 0 ≤ a ∧ a < NVS_STAGE 1024)

/-! ### The write -/

/-- The kinds of violation of a register write, and the bits that it changes (R36). -/
def writeCheck (ini sess : Nat) (a : Nat) (v : Word) (unpriv : Bool) (r : RegRow) (d : Dev) : List Nat × Word :=
  let old := d.rd a
  let rs := rsvdMask a r
  let pv := if unpriv then privMask a r else 0
  let ro := roleMask d ini sess r
  let lk := lockedMask d a r
  let bd := boundMask d a
  let po := postedBits d a
  let free := ~~~(rs ||| pv ||| ro ||| lk ||| bd ||| po.1)
  let vb := refuseMask d a v &&& ~~~(pv ||| ro ||| lk)
  let kinds :=
    (if v &&& rs ≠ 0 then [2] else []) ++ (if vb ≠ 0 then [2] else []) ++
    (if (v ^^^ old) &&& lk &&& ~~~pv ≠ 0 then [3] else []) ++
    (if (v ^^^ po.2) &&& po.1 &&& ~~~(bd ||| pv ||| rs) ≠ 0 then [7] else []) ++
    (if (v ^^^ old) &&& bd &&& ~~~pv ≠ 0 then [8] else []) ++
    (if v &&& pv ≠ 0 then [9] else []) ++ (if v &&& ro &&& ~~~pv ≠ 0 then [9] else [])
  (kinds, free &&& ~~~vb)

/-- The highest of a list of kinds; 0 for none (R35). -/
def topKind (l : List Nat) : Nat := l.foldl max 0

/-- Log a violation of a write, if there is one. -/
def writeLog (kinds : List Nat) (addr ini sess : Nat) (unpriv : Bool) (size : Nat) (d : Dev) : Dev :=
  if kinds = [] then d else busViolation (topKind kinds) addr ini sess true unpriv size d

/-- Note a bus write of this cycle: what it carries, and what its register held before (R19). -/
def noteWrite (a : Nat) (w : Word) (ini sess : Nat) (unpriv : Bool) (d : Dev) : Dev :=
  { d with cyc.wrote := (a, w, ini, sess, unpriv) :: d.cyc.wrote, cyc.before := tabIns a (tabGet (d.rd a) a d.cyc.before) d.cyc.before }

/-- Keep what a bus write to an MDU or AIO register found and left (R19). -/
def ioNote (a : Nat) (d e : Dev) : Dev :=
  if a / 0x10000 = 0x4031 ∨ a / 0x10000 = 0x4032 then
    { e with cyc.ioBack := ⟨a, d.regs, e.regs, d.mdu, e.mdu, d.aio, e.aio⟩ :: e.cyc.ioBack }
  else e

/-- A write of `v` to peripheral space at privileged address `p`, issued at `addr`. -/
def periphWrite (ini sess addr p size v : Nat) (unpriv : Bool) (d : Dev) : Dev :=
  let la := if ini = 14 then p else addr
  let a := p / 4 * 4
  match findReg a with
  | none => busViolation 5 la ini sess true unpriv size d
  | some (r, _) =>
    let hard := (if size ≠ 4 then [1] else []) ++ (if !d.readyAt a then [6] else []) ++ (if unpriv && r.priv then [9] else []) ++
      (if ini = 14 ∧ mirrorBarred a then [4] else [])
    if hard ≠ [] then writeLog hard la ini sess unpriv size d
    else
      let w := word v
      let x := writeCheck ini sess a w unpriv r d
      let d := writeLog x.1 la ini sess unpriv size d
      let d := noteWrite a w ini sess unpriv d
      ioNote a d (regPut ini sess a w x.2 r d)

/-- Program or state word `i` of engine `n` lies within a range of a descriptor that an enabled slot runs (R191). -/
def ceRangeHeld (d : Dev) (n i : Nat) (prog : Bool) : Bool :=
  (enabledSlots d n).any (fun s =>
    match findDesc d n (d.get (CE_SCFG_PROG_ID n s)) with
    | none => false
    | some x => if prog then decide (x.entry ≤ i ∧ i < x.entry + x.codeLen) else decide (x.sbase ≤ i ∧ i < x.sbase + x.slen))

/-- A write to the window of engine `n` at offset `o`: kinds of violation, and whether it is performed (R191). -/
def ceWinCheck (d : Dev) (n o size : Nat) : List Nat × Bool :=
  if o < 0x2000 then
    let held := ceRangeHeld d n (o / 4) true
    ((if size ≠ 4 then [1] else []) ++ (if held then [4] else []), size = 4 && !held)
  else if o < 0x2800 then ([], true)
  else if 0x3000 ≤ o ∧ o < 0x3400 then
    let held := ceRangeHeld d n ((o - 0x3000) / 4) false
    ((if size ≠ 4 then [1] else []) ++ (if held then [4] else []), size = 4 && !held)
  else ([4], false)

/-- A write to the message RAM of channel `n` at offset `o` (R345, R360, R361). -/
def canWinCheck (d : Dev) (n o : Nat) : List Nat × Bool :=
  if o < 0x900 then
    let b := o / 72
    let st := txStatus d n b
    if 30 ≤ b ∧ d.bit (CAN_CFG_HEGUS_EN n) then ([], false)
    else if st = 1 ∨ st = 2 then ([4], false) else ([], true)
  else ([4], false)

/-- A write to the page of book `b` (R106, R130). -/
def ldgWinCheck (d : Dev) (ini sess b : Nat) : List Nat × Bool :=
  if !bookRole d ini sess b then ([9], false) else if bookArmed d b then ([4], false) else ([], true)

/-- Note the data-memory words of an engine that a bus write changes (R192). -/
def noteData (p size : Nat) (d : Dev) : Dev :=
  let n := (p - 0x41000000) / 0x10000
  let o := (p - 0x41000000) % 0x10000
  if n < 32 ∧ 0x2000 ≤ o ∧ o < 0x2800 then
    (upto ((o % 2 + size + 1) / 2)).foldl (fun d k =>
      let a := (o - 0x2000) / 2 + k
      let key := ceWin n (0x2000 + 2 * a)
      let m : W16 := if size = 1 then (if o % 2 = 0 then 0x00FF else 0xFF00) else 0xFFFF
      let x := tabGet (dataRaw d n a, 0) key d.cyc.data0
      { d with cyc.data0 := tabIns key (x.1, x.2 ||| m) d.cyc.data0 }) d
  else d

/-- A write to a memory window at privileged address `p` (R32). -/
def winWrite (ini sess addr p size v : Nat) (unpriv : Bool) (d : Dev) : Dev :=
  let off := p - 0x41000000
  let hard := (if !winUsed p then [5] else []) ++ (match winDomain p with | some n => if d.ready n then [] else [6] | none => []) ++
    (if unpriv then [9] else [])
  if hard ≠ [] then writeLog hard addr ini sess unpriv size d
  else
    let x :=
      if off < 0x200000 then ceWinCheck d (off / 0x10000) (off % 0x10000) size
      else if off < 0x218000 then canWinCheck d ((off - 0x200000) / 0x3000) ((off - 0x200000) % 0x3000)
      else ldgWinCheck d ini sess ((off - 0x300000) / 0x2000)
    let d := writeLog x.1 addr ini sess unpriv size d
    if x.2 then
      let d := noteData p size d
      { d with win := memWrite d.win p v size }
    else d

/-- A write to SRAM; the shadow area is frozen during a save and waits for a checkpoint (R33, R425, R426). -/
def sramWrite (g addr size v : Nat) (d : Dev) : Dev :=
  if g = 4 ∧ d.pwr.save ≠ .none then count 0x15E d
  else if g = 4 ∧ d.nvs.saving.isSome then { d with nvs.shdWait := d.nvs.shdWait ++ [(addr, size, v)] }
  else { d with sram := memWrite d.sram addr v size, badWords := d.badWords.filter (· ≠ addr / 4 * 4) }

/-- A bus write (R22, R24, R27, R28). -/
def busWrite (ini sess addr size v : Nat) (d : Dev) : Dev :=
  if ini = 12 ∧ !debugOpen d then d
  else
    let unpriv : Bool := decide (0x60000000 ≤ addr ∧ addr < 0x62000000)
    let vio := fun (k : Nat) => busViolation k addr ini sess true unpriv size d
    match mapRegion addr with
    | none => vio 5
    | some g =>
      if !inReach d ini sess g addr true then vio 10
      else if g ≤ 1 ∨ g = 5 then vio 4
      else if g ≤ 4 then sramWrite g addr size v d
      else if g = 6 then periphWrite ini sess addr addr size v false d
      else if g = 8 then periphWrite ini sess addr (addr - 0x20000000) size v true d
      else if g = 7 then winWrite ini sess addr addr size v false d
      else winWrite ini sess addr (addr - 0x20000000) size v true d

/-! ### The mirror (R38 to R40) -/

/-- The session's ADDR of block `b`. -/
def mirrorAddr (d : Dev) (sess b : Nat) : Nat := sessVal d sess (0xF000 + b) 1

/-- Store a per-session entry. -/
def sessPut (n idx sub v : Nat) (d : Dev) : Dev :=
  let put := fun (t : Tab Nat) => tabPut (entDflt (entKey idx sub)) (entKey idx sub) v t
  match d.heg.tctx with
  | some (m, r, t) => if m = n then { d with heg.tctx := some (m, r, put t) } else
    match d.session n with
    | none => d
    | some s => d.setSession { s with vals := put s.vals }
  | none =>
    match d.session n with
    | none => d
    | some s => d.setSession { s with vals := put s.vals }

/-- One mirror access by session `sess` to block `b`: the register at ADDR in the view of the session's role (R39). -/
def mirrorAccess (sess b : Nat) (write : Option Nat) (d : Dev) : Dev :=
  let p := 0x40000000 + b * 0x10000 + mirrorAddr d sess b
  match write with
  | none => if 2 ≤ d.sessRole sess then busRead 14 sess p 4 d else busRead 14 sess (p + 0x20000000) 4 d
  | some v => if 2 ≤ d.sessRole sess then busWrite 14 sess p 4 v d else d

/-- A DATA_INC access: ADDR then rises by 4, stopping at 0xFFFC (R38, R39). -/
def mirrorInc (sess b : Nat) (write : Option Nat) (d : Dev) : Dev :=
  if write.isSome ∧ d.sessRole sess < 2 then d
  else
    let a := mirrorAddr d sess b
    sessPut sess (0xF000 + b) 1 (min (a + 4) 0xFFFC) (mirrorAccess sess b write d)

end Sys2Proof.Machine
end

