-- ==== Sys2Proof/Machine/BusOps.lean ====
section
/-! DEFINITION. The core halves (R21) and errors of the SRAM (R33). -/

namespace Sys2Proof.Machine

/-- A half stops outside an update: the other takes over within 50 ms, and what the half's cores owned is given up (R21,
R412). -/
def halfStop (half : Nat) (d : Dev) : Dev :=
  if 2 ≤ half ∨ !d.pwr.halves.testBit half then d
  else
    let d : Dev := { d with pwr.halves := setBit d.pwr.halves half false,
                            pwr.coreWait := (upto 4).foldl (fun w c => setBit w (4 * half + c) false) d.pwr.coreWait }
    let d := trialFails 0x100 (ownerStop half d)
    if d.pwr.halves = 0 then d else tallyAdd 0 { d with pwr.takeover := some (d.now + 50000000) }

/-- Instants of failed starts of a half are kept as 2 × ns + half. -/
def failsOf (d : Dev) (half : Nat) : List Nat :=
  d.pwr.failTimes.filter (fun t => decide (t % 2 = half ∧ d.now < t / 2 + 600000000000))

/-- A stopped half is restarted; after two failed starts within 10 min it is left off (R21). -/
def halfRestart (half : Nat) (ok : Bool) (d : Dev) : Dev :=
  if 2 ≤ half ∨ d.pwr.halves.testBit half ∨ !halfAvailable d half then d
  else if ok then { d with pwr.halves := setBit d.pwr.halves half true }
  else
    let d : Dev := { d with pwr.failTimes := (2 * d.now + half) :: d.pwr.failTimes }
    if (failsOf d half).length < 2 then d
    else
      let d : Dev := { d with pwr.halfOff := setBit d.pwr.halfOff half true }
      domainOff half (raise .RCC_HALF_FAILED [half] (d.setN PMC_DOMREQ_HOLD half false))

/-- The ring of stream `i` holds address `a`: start and format of the ring word, also while its domain is off (R50, R180, R182). -/
def ringOf (d : Dev) (a i : Nat) : Option (Nat × Nat) :=
  let u := i / 16
  let s := i % 16
  let base := d.cget (CVU_SBASE_BASE u s)
  let fmt := d.cget (CVU_SCFG_FMT u s)
  let size := ringSize fmt
  if base ≤ a ∧ a < base + d.cget (CVU_SLEN_LEN u s) then some (base + (a - base) / size * size, fmt) else none

/-- The ring that holds address `a`: that of an enabled stream before that of a stopped one. -/
def ringWordAt (d : Dev) (a : Nat) : Option (Nat × Nat) :=
  let on := (upto 64).filter (fun i => decide (d.cget (CVU_SCFG_EN (i / 16) (i % 16)) = 1))
  (on ++ upto 64).findSome? (ringOf d a)

/-- A ring word is marked invalid: INVALID 1, the invalid code, every other field 0 (R33, R180). -/
def ringMark (a : Nat) (d : Dev) : Dev :=
  match ringWordAt d a with
  | none => { d with badWords := a :: d.badWords, sram := memWrite d.sram a 0 4 }
  | some (w, fmt) =>
    let x := if fmt = 0 then 0x8000 + 2 ^ 22 else 0x800000 + 2 ^ 25
    { d with badWords := w :: d.badWords, sram := memWrite d.sram w x (ringSize fmt) }

/-- The shadow entry that holds the SRAM word at `a` takes its last saved value, and the word that of the image last loaded or saved (R33,
R424, R427). -/
def shadowRestoreEntry (key a : Nat) (d : Dev) : Dev :=
  let v := match shadowBest d with
    | none => (entDflt key, 0)
    | some (slot, x) => (tabGet (entDflt key) key x.img.dict, memRead d.nvs.arr (imageBase slot + (a - 0x203F0000)) 4)
  raise .SHADOW_RESTORED [key / 256, key % 256]
    { d with dict := tabPut (entDflt key) key v.1 d.dict, sram := memWrite d.sram a v.2 4 }

/-- A read by `ini` of the SRAM word at `addr` meets an error (R33). -/
def sramError (ini addr entry : Nat) (single : Bool) (d : Dev) : Dev :=
  let a := addr / 4 * 4
  if single then count 0x00B { d with bus := memRead d.sram a 4 }
  else
    let d := raise .SRAM_UNCORRECTABLE [a] { d with bus := 0 }
    match mapRegion a with
    | some 2 => if ini < 8 then halfStop (ini / 4) d else d
    | some 3 => ringMark a d
    | some 4 => shadowRestoreEntry entry a d
    | _ => d

end Sys2Proof.Machine
end

