-- ==== Sys2Proof/Machine/Bus.lean ====
section
/-! DEFINITION. The commands of the shared bus, the register mirror, the core halves and the counters (chapters 1 and 18). A
command that names one register's write or read is that bus access. -/

namespace Sys2Proof.Machine

/-- REGISTER_WRITE (R5, R7 to R11, R18, R19, R22, R28, R31, R32, R34). -/
def execRegisterWrite (ini sess addr size data : Nat) (st : State) : Host.Outcome State Fault Refusal :=
  st.app (busWrite ini sess addr size data)

/-- REGISTER_READ (R5, R8, R9, R22, R28, R31, R32). -/
def execRegisterRead (ini sess addr size : Nat) (st : State) : Host.Outcome State Fault Refusal :=
  st.app (busRead ini sess addr size)

/-- AVLOG_CLEAR (R35). -/
def execAvlogClear (ini sess : Nat) (st : State) : Host.Outcome State Fault Refusal :=
  st.app (busWrite ini sess SCU_AVLOG_CTRL 4 1)

/-- MIRROR_DATA (R38, R39). -/
def execMirrorData (sess b : Nat) (write : Option Nat) (st : State) : Host.Outcome State Fault Refusal :=
  st.app (mirrorAccess sess b write)

/-- MIRROR_DATA_INC (R38, R39). -/
def execMirrorDataInc (sess b : Nat) (write : Option Nat) (st : State) : Host.Outcome State Fault Refusal :=
  st.app (mirrorInc sess b write)

/-- HALF_STOP (R21). -/
def execHalfStop (half : Nat) (st : State) : Host.Outcome State Fault Refusal := st.app (Sys2Proof.Machine.halfStop half)

/-- HALF_RESTART (R21). -/
def execHalfRestart (half : Nat) (ok : Bool) (st : State) : Host.Outcome State Fault Refusal :=
  st.app (Sys2Proof.Machine.halfRestart half ok)

/-- SRAM_UNCORRECTABLE (R33). -/
def execSramUncorrectable (ini addr entry : Nat) (single : Bool) (st : State) : Host.Outcome State Fault Refusal :=
  st.app (sramError ini addr entry single)

/-- DOMREQ_WRITE (R54). -/
def execDomreqWrite (ini sess mask : Nat) (st : State) : Host.Outcome State Fault Refusal :=
  st.app (busWrite ini sess PMC_DOMREQ 4 mask)

/-- DOMAIN_RESET (R62). -/
def execDomainReset (ini sess mask : Nat) (st : State) : Host.Outcome State Fault Refusal :=
  st.app (busWrite ini sess PMC_RSTCTRL 4 (mask % 4096 * 65536))

/-- FORCE_DEEP (R55, R56, R58, R61). -/
def execForceDeep (ini sess : Nat) (st : State) : Host.Outcome State Fault Refusal :=
  st.app (fun d => busWrite ini sess PMC_PSTATE 4 (wSet (d.rd PMC_PSTATE &&& wMask 2 2) 4 1 1).toNat d)

/-- SOFT_RESET (R62). -/
def execSoftReset (ini sess : Nat) (st : State) : Host.Outcome State Fault Refusal :=
  st.app (busWrite ini sess PMC_RSTCTRL 4 1)

/-- TIME_LO_READ (R80). -/
def execTimeLoRead (ini sess : Nat) (st : State) : Host.Outcome State Fault Refusal := st.app (viewRead ini sess XTF_TIME_LO)

/-- TSYNC_HI_READ (R95). -/
def execTsyncHiRead (ini sess : Nat) (st : State) : Host.Outcome State Fault Refusal := st.app (viewRead ini sess XTF_TSYNC_HI)

/-- FSEL_WRITE (R480, R481). -/
def execFselWrite (ini sess j value : Nat) (st : State) : Host.Outcome State Fault Refusal :=
  st.app (busWrite ini sess (OBS_FSEL j) 4 value)

/-- COUNTER_LO_READ (R482); `k` counts the fall-back counters from 384. -/
def execCounterLoRead (ini sess k : Nat) (st : State) : Host.Outcome State Fault Refusal :=
  st.app (viewRead ini sess (OBS_CNT_LO k))

/-- COUNTER_LO_WRITE (R483). -/
def execCounterLoWrite (ini sess k value : Nat) (st : State) : Host.Outcome State Fault Refusal :=
  st.app (busWrite ini sess (OBS_CNT_LO k) 4 value)

/-- COUNTER_HI_WRITE (R483). -/
def execCounterHiWrite (ini sess k value : Nat) (st : State) : Host.Outcome State Fault Refusal :=
  st.app (busWrite ini sess (OBS_CNT_HI k) 4 value)

/-- FREEZE (R485). The other fields of OBS_CTRL keep their values. -/
def execFreeze (ini sess : Nat) (on : Bool) (st : State) : Host.Outcome State Fault Refusal :=
  st.app (fun d => busWrite ini sess OBS_CTRL 4 (wSet (d.rd OBS_CTRL) 0 1 on.toNat).toNat d)

/-- SNAP (R486, R487). -/
def execSnap (ini sess : Nat) (st : State) : Host.Outcome State Fault Refusal :=
  st.app (fun d => busWrite ini sess OBS_CTRL 4 (wSet (d.rd OBS_CTRL) 1 1 1).toNat d)

/-- SNAPSHOT_WRITTEN (R486). -/
def execSnapshotWritten (st : State) : Host.Outcome State Fault Refusal := st.app snapWrite

/-- UNPRIV_READ (R488). -/
def execUnprivRead (ini sess : Nat) (on : Bool) (st : State) : Host.Outcome State Fault Refusal :=
  st.app (fun d => busWrite ini sess OBS_CTRL 4 (wSet (d.rd OBS_CTRL) 2 1 on.toNat).toNat d)

end Sys2Proof.Machine
end

