-- ==== Sys2Proof/Machine/Mdu.lean ====
section
/-! DEFINITION. The commands of chapter 10: motor channels, fan channels and the ageing index. A time-driven command stands
for its instant having come. While the MDU domain is not ready, a command of one of its channels has no effect. -/

namespace Sys2Proof.Machine

/-- A change made while the MDU is ready. -/
def State.mdu (s : State) (f : Dev → Dev) : Host.Outcome State Fault Refusal := s.app (fun d => if d.ready 6 then f d else d)

/-- TMR_ENABLE (R290): TMR_EN written from 0 to 1. -/
def execTmrEnable (m : Nat) (st : State) : Host.Outcome State Fault Refusal :=
  st.mdu (fun d => if d.bit (MDU_MCFG_TMR_EN m) then d else postField (MDU_MCFG m) 0x20000000 0x20000000 d)

/-- PWM_VALLEY (R293): nothing happens while TMR_EN is 0. -/
def execPwmValley (m : Nat) (st : State) : Host.Outcome State Fault Refusal :=
  st.mdu (fun d => if d.bit (MDU_MCFG_TMR_EN m) then valley m d else d)

/-- MFLT_FAULT (R295, R296): the ball's level is accepted. -/
def execMfltFault (m : Nat) (low : Bool) (st : State) : Host.Outcome State Fault Refusal :=
  st.app (fun d =>
    let d : Dev := { d with mdu.mflt := setBit d.mdu.mflt m low }
    if d.ready 6 then mfltShow m d else d)

/-- RUN_WRITE (R298, R309): a write of RUN; with an active MFLT the channel stays in FAULT (R296). -/
def execRunWrite (m : Nat) (run : Bool) (st : State) : Host.Outcome State Fault Refusal :=
  st.mdu (postField (MDU_MCMD m) (if run then 1 else 0) 1)

/-- MOTOR_RUN (R298): 64 consecutive valleys at or above MIN_SPEED in START. -/
def execMotorRun (m : Nat) (st : State) : Host.Outcome State Fault Refusal :=
  st.mdu (fun d =>
    if d.get (MDU_MSTAT_STATE m) = 1 ∧ (d.motor m).valleys ≥ 64 then
      let d := d.set (MDU_MSTAT_STATE m) 2
      let d := d.set (MDU_MSPD_SPDCMD m) (d.get (MDU_MSPD_SPDEST m))
      raise .MOTOR_RUN [m, motorTries d m] (d.setMotor m { d.motor m with valleys := 0, frac := 0 })
    else d)

/-- START_WINDOW (R298). -/
def execStartWindow (m : Nat) (st : State) : Host.Outcome State Fault Refusal :=
  st.mdu (fun d =>
    if d.get (MDU_MSTAT_STATE m) = 1 then motorFail m 2 .MOTOR_START_FAIL d
    else if d.get (MDU_MSTAT_STATE m) = 3 ∧ (d.motor m).atZero then motorTriesPut m 0 (bridgeOff m 0 1 d)
    else d)

/-- RETRY_PAUSE (R298): RETRY_PAUSE and COAST have passed. -/
def execRetryPause (m : Nat) (st : State) : Host.Outcome State Fault Refusal :=
  st.mdu (fun d => if d.get (MDU_MSTAT_STATE m) = 4 then motorStart m d else d)

/-- MOTOR_STALL (R298): 64 consecutive valleys of lost or low speed in RUN. -/
def execMotorStall (m : Nat) (st : State) : Host.Outcome State Fault Refusal :=
  st.mdu (fun d =>
    if d.get (MDU_MSTAT_STATE m) = 2 ∧ (d.motor m).valleys ≥ 64 then motorFail m 3 .MOTOR_STALL d else d)

/-- MOTOR_STOPPED (R298). -/
def execMotorStopped (m : Nat) (st : State) : Host.Outcome State Fault Refusal :=
  st.mdu (fun d =>
    let low : Bool := match spdMag d m with | none => true | some v => decide (v < minSpeed d m)
    if d.get (MDU_MSTAT_STATE m) = 3 ∧ low then motorTriesPut m 0 (bridgeOff m 0 1 d) else d)

/-- MOTOR_CLEAR (R296, R298). -/
def execMotorClear (m : Nat) (st : State) : Host.Outcome State Fault Refusal :=
  st.mdu (Sys2Proof.Machine.motorClear m)

/-- ATTEMPT_RESET (R298, R305): 60 s in RUN. -/
def execAttemptReset (drive : Nat) (st : State) : Host.Outcome State Fault Refusal :=
  st.mdu (fun d =>
    if !driveRuns d drive then d
    else if drive < 8 then motorTriesPut drive 0 d else fanTriesPut (drive - 8) 0 d)

/-- FAN_PERIOD_START (R302): before the outputs are released the ball stays low (R66). -/
def execFanPeriodStart (f : Nat) (st : State) : Host.Outcome State Fault Refusal :=
  st.mdu (fun d => d.set (MDU_FSTAT_DUTY f) (d.fan f).next)

/-- TACH_UPDATE (R303, R304): phases that complete no revolution of PPR edges change nothing. -/
def execTachUpdate (f : Nat) (phases : List Nat) (st : State) : Host.Outcome State Fault Refusal :=
  st.mdu (fun d => match tachTicks (d.get (MDU_FCFG_PPR_M1 f) + 1) phases with
    | some t => tachRev f t d
    | none => d)

/-- TACH_TIMEOUT (R303, R305). -/
def execTachTimeout (f : Nat) (st : State) : Host.Outcome State Fault Refusal := st.mdu (tachSilent f)

/-- FAN_TARGET_WRITE (R305, R309). -/
def execFanTargetWrite (f v : Nat) (st : State) : Host.Outcome State Fault Refusal :=
  st.mdu (postField (MDU_FTGT f) (BitVec.ofNat 32 (v % 65536)) 0xFFFF)

/-- KICK_END (R305). -/
def execKickEnd (f : Nat) (st : State) : Host.Outcome State Fault Refusal :=
  st.mdu (fun d => if d.get (MDU_FSTAT_STATE f) = 1 then fanRefresh f (d.set (MDU_FSTAT_STATE f) 2) else d)

/-- FAN_PAUSE_END (R305). -/
def execFanPauseEnd (f : Nat) (st : State) : Host.Outcome State Fault Refusal := st.mdu (fanPause f)

/-- TACH_LOST_TIMEOUT (R305): for 2 s the current has been outside the band or the band unlearned. -/
def execTachLostTimeout (f : Nat) (st : State) : Host.Outcome State Fault Refusal :=
  st.mdu (fun d => if d.get (MDU_FSTAT_STATE f) = 3 ∧ !inBand d f then fanStall f d else d)

/-- FAN_CLEAR (R305). -/
def execFanClear (f : Nat) (st : State) : Host.Outcome State Fault Refusal :=
  st.mdu (Sys2Proof.Machine.fanClear f)

/-- BAND_LEARN (R306). -/
def execBandLearn (f : Nat) (st : State) : Host.Outcome State Fault Refusal := st.mdu (learnBand f)

/-- AGEING_SAMPLE (R311 to R313). -/
def execAgeingSample (drive : Nat) (st : State) : Host.Outcome State Fault Refusal := st.app (ageSample drive)

/-- AGEING_LEARN (R311). -/
def execAgeingLearn (drive : Nat) (learn : Bool) (st : State) : Host.Outcome State Fault Refusal :=
  st.app (ageLearn drive learn)

/-- COAST_ELAPSED (R298): COAST passes while the domain is off as well. -/
def execCoastElapsed (m : Nat) (st : State) : Host.Outcome State Fault Refusal :=
  st.app (fun d =>
    let d := d.setMotor m { d.motor m with coast := false }
    if d.ready 6 then motorTryStart m d else d)

end Sys2Proof.Machine
end

