-- ==== Sys2Proof/Machine/Cvu.lean ====
section
/-! DEFINITION. The commands of chapters 5 and 6 and the centre trigger of a motor channel. While a unit's domain is not
ready, its commands have no effect. -/

namespace Sys2Proof.Machine

/-- A change made while the domain of unit `u` is ready, shown in the unit's registers. -/
def State.cvu (s : State) (u : Nat) (f : Dev → Dev) : Host.Outcome State Fault Refusal :=
  s.app (fun d => if d.ready (cvuDom u) then cvuShow u (f d) else d)

/-- CAL_WINDOW_END (R143 to R146, R152). -/
def execCalWindowEnd (u k : Nat) (off gain : Int) (shadow : List (Nat × Int × Option Int)) (st : State) :
    Host.Outcome State Fault Refusal := st.cvu u (calWindow u k off gain shadow)

/-- FGCAL_PENDING (R149): in FOREGROUND mode; the pending window asks for the unit's domain. -/
def execFgcalPending (u : Nat) (st : State) : Host.Outcome State Fault Refusal :=
  st.app (fun d => if (d.cvuS u).mode = 1 then cvuShow u (fgPending u d) else d)

/-- FGCAL_NOW (R149). -/
def execFgcalNow (u : Nat) (st : State) : Host.Outcome State Fault Refusal := st.cvu u (fgPending u)

/-- FGCAL_START (R150): the sequence is at an entry boundary and the queue is empty. -/
def execFgcalStart (u : Nat) (st : State) : Host.Outcome State Fault Refusal :=
  st.cvu u (fun d =>
    let s := d.cvuS u
    if s.fgPend.isSome ∧ !s.fgBusy ∧ s.conv = none ∧ s.queue = [] then fgStart u d else d)

/-- FGCAL_END (R146, R149, R150). -/
def execFgcalEnd (u : Nat) (meas : List SliceMeas) (st : State) : Host.Outcome State Fault Refusal := st.cvu u (fgEnd u meas)

/-- REQUALIFY (R152). -/
def execRequalify (u mask : Nat) (st : State) : Host.Outcome State Fault Refusal := st.cvu u (Sys2Proof.Machine.requalify u mask)

/-- EXC_COMPLIANCE (R140). -/
def execExcCompliance (j : Nat) (open_ : Bool) (st : State) : Host.Outcome State Fault Refusal :=
  st.cvu 3 (fun d =>
    if open_ ∧ !d.bit (CVU_EXC_OPEN j) then
      raise .CVU_EXC_OPEN [88 + j] ((d.set (CVU_EXC_OPEN j) 1).flagUp (CVU_EVT_EXC_OPEN 3))
    else d.setB (CVU_EXC_OPEN j) open_)

/-- SEQ_ENABLE (R164). -/
def execSeqEnable (u : Nat) (st : State) : Host.Outcome State Fault Refusal :=
  st.cvu u (fun d => if seqOn d u then d else
    let d := Sys2Proof.Machine.seqEnable u d
    ctxPut (CVU_SEQ_CTRL u) 1 1 d)

/-- SEQ_DISABLE (R164). -/
def execSeqDisable (u : Nat) (st : State) : Host.Outcome State Fault Refusal :=
  st.cvu u (fun d => ctxPut (CVU_SEQ_CTRL u) 0 1 (Sys2Proof.Machine.seqDisable u d))

/-- SEQ_START (R166, R169): START is a trigger in every TRIG_SRC setting. -/
def execSeqStart (u : Nat) (st : State) : Host.Outcome State Fault Refusal := st.app (cvuTrigger u false)

/-- The samples that a result is built from: those that have arrived since the last one, corrected by their slices, behind what the chain
holds (R141, R142, R165, R175). -/
def dueSpan (d : Dev) (u k : Nat) (samples : List Int) (high : Bool) : Option (List Int) :=
  let s := d.cvuS u
  resultSpan (prof d u (convProf d u)) s.chain (correctAll s (d.bitN (CVU_CFG_DIFF u) (convInput d u / 2)) high k samples)

/-- The number of the first sample of a regular result is the one that follows the samples taken before in the pass; an interruption of
the entry may have taken more (R141, R167, log entry 126). -/
def sampOk (s : CvuS) (first : Nat) : Bool := if s.gap then s.samp ≤ first else first = s.samp

/-- RESULT_DELIVERY (R165, R172, R178 to R185): `x` are the samples that the conversion has taken since its last result. A result of the active bank on trial that calibration holds at full scale from inside the range marks
the health check of R155 as failed. -/
def execResultDelivery (u : Nat) (x : Samples) (high aged : Bool) (t : Nat) (st : State) :
    Host.Outcome State Fault Refusal :=
  st.cvu u (fun d =>
    let s := d.cvuS u
    if s.fgBusy ∨ s.mode = 2 then d
    else match s.conv, dueSpan d u x.first x.raw high with
    | some .reg, some l =>
      if !sampOk s x.first then d else
      let e := s.entry
      let r := makeRes d u (d.get (CVU_SEQE_INPUT u e)) (d.get (CVU_SEQE_PROFILE u e)) e false s.late l high aged t
      afterReg u (calSat u r.2 (cvuDeliver u (d.bit (CVU_SEQE_EVT u e)) r.1 (d.setCvu u { s with chain := l, samp := x.first + x.raw.length, gap := false })))
    | some (.inj w), some l =>
      let r := makeRes d u (w % 32) (w / 32 % 4) (w / 256 % 256) true false l high aged t
      let d := calSat u r.2 (cvuDeliver u true r.1 d)
      cvuNext u (d.setCvu u { d.cvuS u with conv := none })
    | _, _ => d)

/-- CVU_INJ_WRITE (R171). -/
def execCvuInjWrite (u w : Nat) (st : State) : Host.Outcome State Fault Refusal := st.app (cvuInjectBus u w)

/-- STREAM_ENABLE (R182). -/
def execStreamEnable (u s : Nat) (st : State) : Host.Outcome State Fault Refusal :=
  st.cvu u (fun d => if d.bit (CVU_SCFG_EN u s) then d else
    ctxPut (CVU_SCFG u s) 1 1 (Sys2Proof.Machine.streamEnable u s false d))

/-- RING_RD_WRITE (R184). -/
def execRingRdWrite (u s v : Nat) (st : State) : Host.Outcome State Fault Refusal := st.cvu u (ringReadPut u s v)

/-- CENTRE_TRIGGER (R166, R294): the units whose TRIG_SRC selects motor `m`; none while TMR_EN is 0. -/
def execCentreTrigger (m : Nat) (st : State) : Host.Outcome State Fault Refusal :=
  st.mdu (fun d => if !d.bit (MDU_MCFG_TMR_EN m) then d else
    (upto 4).foldl (fun d u => if d.get (CVU_SEQ_CTRL_TRIG_SRC u) = m + 1 then cvuTrigger u false d else d) d)

end Sys2Proof.Machine
end

