-- ==== Sys2Proof/Machine/Can.lean ====
section
/-! DEFINITION. The commands of chapter 12. While the CAN domain is not ready, they have no effect. -/

namespace Sys2Proof.Machine

/-- A change made while the CAN domain is ready. -/
def State.can (s : State) (f : Dev → Dev) : Host.Outcome State Fault Refusal :=
  s.app (fun d => if d.ready 9 then f d else d)

/-- CAN_MODE_WRITE (R340, R342). -/
def execCanModeWrite (n mode : Nat) (st : State) : Host.Outcome State Fault Refusal := st.can (canMode n mode)

/-- ADR_DWELL (R344). -/
def execAdrDwell (n : Nat) (st : State) : Host.Outcome State Fault Refusal := st.can (adrNext n)

/-- CAN_TXREQ (R346). -/
def execCanTxreq (n mask : Nat) (st : State) : Host.Outcome State Fault Refusal := st.can (txRequest n mask)

/-- CAN_TXCAN (R348). -/
def execCanTxcan (n mask : Nat) (st : State) : Host.Outcome State Fault Refusal := st.can (txCancel n mask)

/-- CAN_SOF (R347). -/
def execCanSof (n : Nat) (st : State) : Host.Outcome State Fault Refusal := st.can (canSofOp n)

/-- CAN_FRAME_SENT (R341, R347, R348). -/
def execCanFrameSent (n : Nat) (won : Bool) (delay : Option Nat) (st : State) : Host.Outcome State Fault Refusal :=
  st.can (frameSent n won delay)

/-- CAN_ERROR (R349, R350, R354). -/
def execCanError (n : Nat) (e : CanErr) (st : State) : Host.Outcome State Fault Refusal := st.can (canErrorOp n e)

/-- BUSOFF_RECOVERY (R354). -/
def execBusoffRecovery (n : Nat) (st : State) : Host.Outcome State Fault Refusal :=
  st.can (fun d =>
    if d.get (CAN_STAT_FAULT n) = 2 then
      canFault n ((d.setCan n { d.canS n with tec := 0, rec_ := 0 }).set (CAN_STAT_FAULT n) 0)
    else d)

/-- CLEAR_BO (R354). -/
def execClearBo (n : Nat) (st : State) : Host.Outcome State Fault Refusal := st.can (clearBoOp n)

/-- A frame on the bus of channel `n`: the edge of its SOF wakes the device where the channel is enabled, and the channel receives it
while its domain is ready (R57). -/
def canArrives (n : Nat) (f : Dev → CanFrame) (d : Dev) : Dev :=
  let d := if d.cget (CAN_CFG_MODE n) = 0 then d else crxEdge d
  if d.ready 9 then canReceive n (f d) d else d

/-- CAN_FRAME_RECEIVED (R57, R351, R355). -/
def execCanFrameReceived (n : Nat) (f : CanFrame) (st : State) : Host.Outcome State Fault Refusal :=
  st.app (canArrives n (fun _ => f))

/-- RXH_READ (R22, R24, R31, R353): a read of a word of the head window. -/
def execRxhRead (ini sess n q w : Nat) (st : State) : Host.Outcome State Fault Refusal :=
  st.app (viewRead ini sess (CAN_RXH n q w))

/-- RX_UNLOCK (R353). -/
def execRxUnlock (n q : Nat) (st : State) : Host.Outcome State Fault Refusal := st.can (rxUnlockOp n q)

/-- RX_DROP (R353). -/
def execRxDrop (n q : Nat) (st : State) : Host.Outcome State Fault Refusal := st.can (rxRemove n q)

/-- HUSH_REQ (R357). -/
def execHushReq (n : Nat) (p : Option (Nat × Nat × Bool)) (st : State) : Host.Outcome State Fault Refusal :=
  st.can (fun d => match p with
    | some (t, dur, rel) => hushRequest n t dur rel d
    | none => hushRequest n (d.get (CAN_SEGCTL_TARGET n)) (d.get (CAN_SEGCTL_DURATION n)) false d)

/-- HUSH_ACK (R356, R357): the frame 0x001 of node `node`. -/
def execHushAck (n node : Nat) (st : State) : Host.Outcome State Fault Refusal :=
  st.app (canArrives n (fun _ => { id := 1, dlc := 2, data := [node, 0] }))

/-- HUSH_DEADLINE (R357): the HUSH is answered, or the segment is cut. -/
def execHushDeadline (n : Nat) (st : State) : Host.Outcome State Fault Refusal :=
  st.can (fun d => match (d.canS n).hush with
    | none => d
    | some h =>
      let inTime := match h.sent with
        | some t => decide (t ≤ h.req + 49000000)
        | none => false
      let d := d.setCan n { d.canS n with hush := none }
      if inTime && (if h.target = 0x7F then !h.noisy else h.acked) then d else segCut n 1 d)

/-- BUSLOAD_WINDOW (R355, R357). -/
def execBusloadWindow (n load : Nat) (st : State) : Host.Outcome State Fault Refusal :=
  st.can (fun d =>
    let d := d.set (CAN_BUSLOAD_LOAD n) (min load 100)
    let lim := min (d.get (CAN_SEGCFG_BABBLE_LOAD n)) 100
    let pend := (upto 32).any (fun b => decide (txStatus d n b = 1))
    let c := d.canS n
    let k := if lim ≠ 0 ∧ lim < load ∧ pend then c.babble + 1 else 0
    let d := d.setCan n { c with intrSeen := false, babble := if 3 ≤ k then 0 else k }
    if 3 ≤ k then hushRequest n 0x7F (d.get (CAN_SEGCTL_DURATION n)) false d else d)

/-- NODE_ANNOUNCE (R356, R359): the frame 0x002. -/
def execNodeAnnounce (n node ident : Nat) (st : State) : Host.Outcome State Fault Refusal :=
  st.app (canArrives n (fun _ => { id := 2, dlc := 8, data := (node % 256) :: ((leBytes ident 6).map (·.toNat)) ++ [0] }))

/-- BEACON (R356). -/
def execBeacon (n : Nat) (st : State) : Host.Outcome State Fault Refusal :=
  st.can (fun d =>
    let c := d.canS n
    if d.get (CAN_STAT_MODE n) = 1 ∧ d.get (CAN_SEGCFG_BEACON_PERIOD n) ≠ 0 ∧ c.chq.all (fun p => decide (p.1 ≠ 4)) then
      let num := d.ent 0x2001 15
      chSend n 4 [num % 256, num / 256 % 256, c.beaconSeq] (d.setCan n { c with beaconSeq := (c.beaconSeq + 1) % 256 })
    else d)

/-- CUT_TIME (R358). -/
def execCutTime (n : Nat) (st : State) : Host.Outcome State Fault Refusal :=
  st.can (fun d =>
    let k := ((d.canS n).cuts.filter (fun t => decide (d.now < t + 600000000000))).length
    let q := d.get (CAN_SEGCFG_QUAR_LIMIT n)
    if d.get (CAN_STAT_SEG n) ≠ 1 then d
    else if q ≠ 0 ∧ q ≤ k then raise .CAN_SEG_HELD [n, (d.canS n).segCause] (d.set (CAN_STAT_SEG n) 3)
    else d.set (CAN_STAT_SEG n) 2)

/-- CAN_SEG_RESTORED (R358). -/
def execCanSegRestored (n : Nat) (st : State) : Host.Outcome State Fault Refusal :=
  st.can (fun d => if d.get (CAN_STAT_SEG n) = 2 then raise .CAN_SEG_RESTORED [n, (d.canS n).segCause] (d.set (CAN_STAT_SEG n) 0) else d)

/-- SEG_CLEAR (R358). -/
def execSegClear (n : Nat) (st : State) : Host.Outcome State Fault Refusal := st.can (segClearOp n)

/-- SEG_OFF (R358). -/
def execSegOff (n : Nat) (off : Bool) (st : State) : Host.Outcome State Fault Refusal := st.can (segOffOp n off)

/-- The frame that `node` sends on the Hegus transport (R360). -/
def hegusFrame (d : Dev) (n node : Nat) (data : List Nat) : CanFrame :=
  let fd := d.bit (CAN_CFG_FD_EN n)
  { id := 0x700 + node, fdf := fd, brs := fd, dlc := lenDlc data.length, data := data }

/-- HEGUS_SINGLE (R360). -/
def execHegusSingle (n node : Nat) (data : List Nat) (st : State) : Host.Outcome State Fault Refusal :=
  st.app (canArrives n (fun d => hegusFrame d n node data))

/-- HEGUS_FIRST (R360). -/
def execHegusFirst (n node : Nat) (data : List Nat) (st : State) : Host.Outcome State Fault Refusal :=
  st.app (canArrives n (fun d => hegusFrame d n node data))

/-- HEGUS_CONSECUTIVE (R360). -/
def execHegusConsecutive (n node : Nat) (data : List Nat) (st : State) : Host.Outcome State Fault Refusal :=
  st.app (canArrives n (fun d => hegusFrame d n node data))

/-- HEGUS_FLOW (R360). -/
def execHegusFlow (n node : Nat) (data : List Nat) (st : State) : Host.Outcome State Fault Refusal :=
  st.app (canArrives n (fun d => hegusFrame d n node data))

/-- HEGUS_CAN_TIMEOUT (R360). -/
def execHegusCanTimeout (n node : Nat) (send : Bool) (st : State) : Host.Outcome State Fault Refusal :=
  st.can (fun d =>
    if send then
      let d := if (d.canS n).tx.any (fun t => decide (t.node = node ∧ t.st = 1)) then txDrop n 30 d else d
      heKick n (d.setCan n { d.canS n with tx := heTxEnd node (d.canS n).tx })
    else heRxDrop n node d)

end Sys2Proof.Machine
end

