-- ==== Sys2Proof/Machine/Sched.lean ====
section
/-! DEFINITION. Weekly programs, exception days, lighting transitions and the day books that they compile into (R280 to
R286). Dates are local dates counted from 1970-01-01; days of the week count from Sunday. -/

namespace Sys2Proof.Machine

/-- Insert before the first element whose key is larger. -/
def insBy {α : Type} (key : α → Int) (x : α) : List α → List α
  | [] => [x]
  | y :: t => if key x < key y then x :: y :: t else y :: insBy key x t

/-- Sort by ascending key; equal keys keep their order. -/
def sortBy {α : Type} (key : α → Int) (l : List α) : List α := l.foldl (fun r x => insBy key x r) []

/-! ### Profiles and exceptions (R280, R281) -/

/-- The enabled switch points of profile `wd` of program `w` in ascending order of SECOND, as (SECOND, MODE). -/
def profileOf (d : Dev) (w wd : Nat) : List (Nat × Nat) :=
  let pts := ((upto 8).map (fun i => d.ent (0x5300 + w) (2 + wd) / 2 ^ (32 * i) % 2 ^ 32)).filter (fun x => x.testBit 20)
  sortBy (fun (a : Nat × Nat) => (a.1 : Int)) (pts.map (fun x => (fld x 0 17, fld x 17 3)))

/-- Month and day of a date as one number that compares as they do. -/
def monthDay (day : Int) : Nat :=
  let ym := civilOf day
  (32 * ym.2 + (day - dayOf ym.1 ym.2 1 + 1)).toNat

/-- The year of a date has a 29 February. -/
def leapYear (y : Int) : Bool := monthLen y 2 = 29

/-- Exception word `x` matches a date (R281). A yearly range whose end precedes its start runs over the end of the year. -/
def exceptionOn (x : Nat) (day : Nat) : Bool :=
  let first := fld x 0 16
  let last := fld x 16 16
  if fld x 55 1 = 0 then decide (first ≤ day ∧ day ≤ last)
  else
    let a := monthDay first
    let b := monthDay last
    let m := monthDay day
    let y := (civilOf day).1
    let starts := fun (y : Int) => a ≠ 32 * 2 + 29 || leapYear y
    if a ≤ b then decide (a ≤ m ∧ m ≤ b) && starts y
    else (decide (a ≤ m) && starts y) || (decide (m ≤ b) && starts (y - 1))

/-- The switch points of program `w` on a date (R281). -/
def dayPoints (d : Dev) (w day : Nat) : List (Nat × Nat) :=
  match ((upto 64).map (fun i => d.ent 0x5310 (1 + i))).find? (fun x => (fld x 32 16).testBit w && exceptionOn x day) with
  | some x => if fld x 48 3 = 7 then [(0, fld x 56 3)] else profileOf d w (fld x 48 3)
  | none => profileOf d w (weekday day)

/-- The rule set of a program. -/
def progRule (d : Dev) (w : Nat) : Nat := d.ent (0x5300 + w) 1 % 4

/-- The switch points of program `w` on a date with their TIME64, in order of time; points of one time keep their order. -/
def dayInstants (d : Dev) (w day : Nat) : List (Int × Nat × Nat) :=
  sortBy (fun (x : Int × Nat × Nat) => x.1)
    ((dayPoints d w day).map (fun p => (localToTime d (progRule d w) ((day : Int) * 86400 + (p.1 : Nat)), p)))

/-- The dates of a search: the one after `day`, whose first points a change of local time may bring forward, `day`, and the seven before
it, in order (R100, R282). -/
def searchDays (day : Nat) : List Nat := List.range' (day - 7) (day + 2 - (day - 7))

/-- The switch points of a program on the dates of a search, with their TIME64 and date, in order of time; of points of one instant that of
the later date comes last. -/
def searchPoints (d : Dev) (w day : Nat) : List (Int × Nat × Nat × Nat) :=
  sortBy (fun (x : Int × Nat × Nat × Nat) => x.1)
    ((searchDays day).map (fun k => (dayInstants d w k).map (fun x => (x.1, k, x.2)))).flatten

/-- A program's mode at TIME64 `t`: that of its latest switch point at or before it, OFF where there is none (R282). -/
def progModeAt (d : Dev) (w : Nat) (t : Int) : Nat :=
  (((searchPoints d w (localDate d (progRule d w) t).toNat).filter (fun x => decide (x.1 ≤ t))).getLast?.map (·.2.2.2)).getD 0

/-- A program's present mode: its MODE_NOW. -/
def progMode (d : Dev) (w : Nat) : Nat := d.ent (0x5300 + w % 16) 9

/-! ### Lighting transitions (R285, R286) -/

/-- A transition of a lighting group on a date: its instant, its time expression as TKIND, TIME_A and TIME_B with the DAYS
bit of the date only, and the state it sets. -/
structure LTrans where
  t     : Int
  tkind : Nat
  timeA : Nat
  timeB : Nat
  on    : Bool
deriving DecidableEq, Repr

/-- TIME_A with the DAYS bit of one date only. -/
def oneDay (tkind timeA day : Nat) : Nat :=
  if tkind = 1 then timeA % 2 ^ 19 + 2 ^ (19 + weekday day)
  else timeA % 16 + 2 ^ (4 + weekday day) + timeA / 2 ^ 15 * 2 ^ 15

/-- A LOCAL expression for one date. -/
def localAt (sec rule day : Nat) : Nat := sec + rule * 2 ^ 17 + 2 ^ (19 + weekday day)

/-- A time expression as a ledger entry. -/
def exprEntry (tkind timeA timeB : Nat) : LWords := ⟨1 + 2 * tkind, timeA, timeB, 0, 0, 1, 0, 0⟩

/-- Rule `i` of lighting group `g` on a date, if it selects the date. -/
def lightRule (d : Dev) (g day i : Nat) : Option LTrans :=
  let x := d.ent (0x5400 + g) 10 / 2 ^ (96 * i) % 2 ^ 96
  let a := x % 2 ^ 32
  let b := x / 2 ^ 32 % 2 ^ 32
  let k := x / 2 ^ 64 % 256
  if k ≠ 1 ∧ k ≠ 2 then none
  else
    let w := exprEntry k a b
    if !daySelected w day then none
    else some ⟨(instant d w day).1, k, oneDay k a day, b, decide (x / 2 ^ 72 % 256 = 1)⟩

/-- Transitions of a program across ON_MODE on a date: those of the date's points among all points of the search, in order of time, from
mode `m` on (R282, R285). -/
def crossings (d : Dev) (w onMode day : Nat) : Nat → List (Int × Nat × Nat × Nat) → List LTrans
  | _, [] => []
  | m, (at_, k, sec, nxt) :: t =>
    let r := crossings d w onMode day nxt t
    if k ≠ day ∨ decide (onMode ≤ m) = decide (onMode ≤ nxt) then r
    else ⟨at_, 1, localAt sec (progRule d w) day, 0, decide (onMode ≤ nxt)⟩ :: r

/-- The transitions of a lighting group on a date in time order, those less than 1 s apart merged to the later one (R285,
R286). -/
def lightTrans (d : Dev) (g day : Nat) : List LTrans :=
  let rules := (upto 4).filterMap (lightRule d g day)
  let w := d.ent (0x5400 + g) 8
  let prog := if w < 16 then crossings d w (d.ent (0x5400 + g) 9) day 0 (searchPoints d w day) else []
  let l := sortBy LTrans.t (rules ++ prog)
  l.foldr (fun x r => match r with
    | y :: _ => if y.t - x.t < 1000000000 then r else x :: r
    | [] => [x]) []

/-- The transitions of a lighting group on several dates, in order of time. -/
def transOn (d : Dev) (g : Nat) (days : List Nat) : List LTrans := sortBy LTrans.t (days.map (lightTrans d g)).flatten

/-- Scheduled state of a group at TIME64 `t`: that of its latest transition on its date of program 0 (R283), one of the seven before it, or
the next one, which OFFSET or a change of local time may bring forward; OFF where there is none. -/
def lightSched (d : Dev) (g : Nat) (t : Int) : Bool :=
  (((transOn d g (searchDays (localDate d (progRule d 0) t).toNat)).filter (fun x => decide (x.t ≤ t))).getLast?.map (·.on)).getD false

/-- A group's next scheduled state: that of its first transition after `t` on this date, the one before or the next eight; its present
scheduled state where none follows. -/
def lightNext (d : Dev) (g : Nat) (t : Int) : Bool :=
  let day := (localDate d (progRule d 0) t).toNat
  match (transOn d g (List.range' (day - 1) (day + 9 - (day - 1)))).find? (fun x => decide (t < x.t)) with
  | some x => x.on
  | none => lightSched d g t

/-! ### Compilation (R283, R284, R286) -/

/-- A day-book entry: an enabled LOCAL or ASTRO entry with COUNT 1, FIRE_LATE, ANY, no catch-up and no wake lead. -/
def bookEntry (tkind timeA timeB action target value : Nat) : Nat :=
  packW 32 [1 + 2 * tkind + 256 * action, timeA, timeB, 0, 0, 1, target, value]

/-- VALUE of a program transition and of a lighting restage (R284). -/
def progEvent (w m : Nat) : Nat := 0x50010000 + 256 * w + m
def lightEvent (g : Nat) : Nat := 0x50020000 + g

/-- The program transitions of a date with their entries, in time order; transitions that share an instant and a mode share
the entry of the lowest-numbered program. -/
def progEntries (d : Dev) (day : Nat) : List (Int × Nat) :=
  let all : List (Int × Nat × Nat × Nat) := ((upto 16).map (fun w => (dayPoints d w day).map (fun p =>
    (localToTime d (progRule d w) ((day : Int) * 86400 + (p.1 : Nat)), p.2, w, p.1)))).flatten
  let one := all.foldl (fun l x => if l.any (fun y => y.1 = x.1 ∧ y.2.1 = x.2.1) then l else l ++ [x]) []
  sortBy (fun (a : Int × Nat) => a.1)
    (one.map (fun x => (x.1, bookEntry 1 (localAt x.2.2.2 (progRule d x.2.2.1) day) 0 0x11 0 (progEvent x.2.2.1 x.2.1))))

/-- The enabled groups that share the latch group of `g`, `g` alone where it has none. -/
def latchMates (d : Dev) (g : Nat) : List Nat :=
  let lg := d.ent (0x5400 + g) 2
  if lg = 0xFF then [g] else (upto 128).filter (fun h => d.ent (0x5400 + h) 1 ≠ 0 && d.ent (0x5400 + h) 2 = lg)

/-- The CAN_QUEUE and NET_PUBLISH entries of a group for one transition, where configured. -/
def outEntries (d : Dev) (g : Nat) (x : LTrans) : List Nat :=
  let ch := d.ent (0x5400 + g) 4
  let bufs := d.ent (0x5400 + g) (if x.on then 5 else 6)
  let pub := d.ent (0x5400 + g) 7
  (if ch < 8 then [bookEntry x.tkind x.timeA x.timeB 0x09 ch bufs] else []) ++
    (if pub < 64 then [bookEntry x.tkind x.timeA x.timeB 0x0A pub 0] else [])

/-- The entries of the lighting transitions of a date: per latch group an OUT_LATCH, the CAN_QUEUE and NET_PUBLISH entries of
its groups, and a restage event for its lowest-numbered group (R286). -/
def lightEntries (d : Dev) (day : Nat) : List (Int × Nat) :=
  let heads := (upto 128).filter (fun g => d.ent (0x5400 + g) 1 ≠ 0 && ((latchMates d g).head?.getD g = g))
  (heads.map (fun g => (lightTrans d g day).map (fun x =>
    let lg := d.ent (0x5400 + g) 2
    ((if lg < 15 then [bookEntry x.tkind x.timeA x.timeB 0x05 1 (2 ^ lg)] else []) ++
      ((latchMates d g).map (fun h => outEntries d h x)).flatten ++
      [bookEntry x.tkind x.timeA x.timeB 0x11 0 (lightEvent g)]).map (fun e => (x.t, e))))).flatten.flatten

/-- The day book of a date, as instants and entries in entry order (R283, R286). -/
def dayBook (d : Dev) (day : Nat) : List (Int × Nat) := progEntries d day ++ lightEntries d day

/-- Some date's day book needs more than 256 entries (R284). Dates are those that an exception can name. The 16 programs give at most 128
entries, so that without an enabled lighting group no date does. -/
def dayBookFull (d : Dev) : Bool := (upto 128).any (fun g => d.ent (0x5400 + g) 1 ≠ 0) && (upto 65536).any (fun day => decide ((dayBook d day).length > 256))

/-- Load entries into a cleared book. -/
def bookLoad (b : Nat) : Nat → List Nat → Dev → Dev
  | _, [], d => d
  | i, x :: t, d => bookLoad b (i + 1) t { d with win := memWrite d.win (ldgAddr (256 * b + i)) x 32 }

/-- The idle day book. -/
def idleBook (d : Dev) : Nat := if d.ent 0x5320 1 = 12 then 13 else 12

/-- Compile the entries of a date after TIME64 `t` into book `b`; SCHEDULE_COMPILED names the date and the entry count. -/
def compileInto (b day : Nat) (t : Int) (d : Dev) : Dev :=
  let l := ((dayBook d day).filter (fun x => decide (t < x.1))).map (·.2)
  raise .SCHEDULE_COMPILED [day, l.length] (bookLoad b 0 (l.take 256) (bookClear b d))

/-- Set every program's mode and every group's scheduled state directly (R283). -/
def floorDirect (d : Dev) : Dev :=
  let t : Int := d.time64
  let d := (upto 16).foldl (fun d w => d.setEnt (0x5300 + w) 9 (progModeAt d w t)) d
  let lights := (upto 128).foldl (fun l g =>
    let x : LightS := tabGet {} g l
    if d.ent (0x5400 + g) 1 = 0 then l else tabPut {} g { x with sched := lightSched d g t } l) d.floor.lights
  { d with floor.lights := lights }

/-- The date that day books are dated by: that of program 0's rule set (R283). -/
def schedDay (d : Dev) : Nat := (today d (progRule d 0)).toNat

/-- The second of the local day by that rule set. -/
def schedSec (d : Dev) (t : Nat) : Nat := (taiToLocal d (progRule d 0) ((t / 1000000000 : Nat) : Int) % 86400).toNat

/-- The swap of R283 in entry 0 of book 14, at TIME64 `t`. -/
def placeSwap (t out into : Nat) (d : Dev) : Dev :=
  let x := packW 32 [1 + 256 * 0x10, t % 2 ^ 32, t / 2 ^ 32, 0, 0, 1, out + 16 * into, 0]
  (entryReplace (14 * 256) x d).setEnt 0x5320 3 t

/-- Remove the swap. -/
def dropSwap (d : Dev) : Dev :=
  let d := (entryReplace (14 * 256) 0 d).setEnt 0x5320 3 0
  { d with floor.next := none }

/-- Book `b` with a date's entries has become the active day book (R283): after any swap but the one at 23:59:59, modes and
scheduled states are set directly. -/
def dayBookActive (b : Nat) (day : Int) (midnight : Bool) (d : Dev) : Dev :=
  let d := (d.setEnt 0x5320 1 b).setEnt 0x5320 2 (bookEnabled d b)
  let d := dropSwap { d with floor.day := some day }
  if midnight then d else floorDirect d

/-- A placed swap has taken effect: its book is armed. -/
def afterSwap (d : Dev) : Dev :=
  match d.floor.next with
  | none => d
  | some (b, day) =>
    if bookArmed d b then
      let mid := decide (d.floor.day = some (day - 1)) && decide (schedSec d (d.ent 0x5320 3) = 86399)
      dayBookActive b day mid d
    else d

/-- Compile date `day` into the idle book and place its swap at TIME64 `t`; a swap whose time has passed is made at once
(R283). -/
def compileSwap (day t : Nat) (d : Dev) : Dev :=
  let b := idleBook d
  let d := compileInto b day d.time64 (bookDisarm b d)
  let d := { d with floor.next := some (b, (day : Int)) }
  if t ≤ d.time64 then
    let d := (armRequest b (bookDisarm (25 - b) d)).2.2
    dayBookActive b day false d
  else placeSwap t (25 - b) b d

/-- TIME64 of 23:59:59 of the date before `day`. -/
def midnightSwap (d : Dev) (day : Nat) : Nat := (localToTime d (progRule d 0) ((day : Int) * 86400 - 1)).toNat

/-- At 23:00:00 local time the runtime compiles the next date (R283), once the active book holds the present one. -/
def dayCompileOp (d : Dev) : Dev :=
  if d.ldg.st ≠ 1 ∨ tbUnset d ∨ d.floor.dirty ∨ d.floor.next.isSome ∨ d.floor.day ≠ some (schedDay d : Int) then d
  else compileSwap (schedDay d + 1) (midnightSwap d (schedDay d + 1)) d

/-- A change, or a date that no swap was placed for, recompiles the rest of the present date: a change is swapped in 2 s after
the next whole second, a late date at once (R283). -/
def dayRecompileOp (d : Dev) : Dev :=
  if d.ldg.st ≠ 1 ∨ tbUnset d then d
  else
    let day := schedDay d
    let late := decide (d.floor.day ≠ some (day : Int))
    if !late && !d.floor.dirty then d
    else
      let d := dropSwap { d with floor.dirty := false }
      compileSwap day (if late then d.time64 else (d.time64 / 1000000000 + 3) * 1000000000) d

/-- The day book of the present date, compiled before step 9 into book 12 (R106); entry 0 of book 14 holds its next swap once
the next date has been compiled. -/
def dayBookStart (d : Dev) : Dev :=
  if tbUnset d then d
  else
    let day := schedDay d
    let d := compileInto 12 day d.time64 (d.setEnt 0x5320 1 12)
    dayBookActive 12 day false { d with floor.dirty := false }

end Sys2Proof.Machine
end

