-- ==== Sys2Proof/Machine/SecOps.lean ====
section
/-! DEFINITION. The Teller: flash, boot directory, containers and their checks, life cycle, tamper events, debug tokens,
attestation and certificates (chapter 16). Cryptographic results are the uninterpreted constants of Config; `kind` of
`Config.crypto` is 1 a password verifier or the device certificate, 2 SHA-256, 3 a signature by the device identity key, 4 a
certificate request, 5 the role a certificate names, 6 a derived key, 7 an encrypted message and its tag, 8 a random number;
`kind` of `Config.cryptoOk` is 1 an ECDSA signature, 2 a Dalori key, 3 a certificate chain, 4 a self-signed certificate, 5 a
release that accepts a running version, 6 a frame tag, 7 a pre-shared key, 8 CERTIFIED_BUILD. -/

namespace Sys2Proof.Machine

/-! ### Outcomes of a dictionary operation: status and detail of R394, and the device -/

/-- An operation that has succeeded. -/
def okRes (d : Dev) : Nat × Nat × Dev := (0, 0, d)
/-- A refusal with a status. -/
def errRes (st : Nat) (d : Dev) : Nat × Nat × Dev := (st, 0, d)
/-- A refusal with the code of a check. -/
def chkRes (code : Nat) (d : Dev) : Nat × Nat × Dev := (0xD, code, d)

/-- A code of the store's check as a status and detail. -/
def storeSt (c : Nat) : Nat × Nat := if c = 0 then (0, 0) else if 16 ≤ c then (c - 16, 0) else (0x11, c)

/-- The store's answer to a write of `size` bytes. -/
def storeErr (d : Dev) (size : Nat) : Nat × Nat := storeSt (storeCheck d size)

/-- The store refuses: an energy refusal is counted and reported (R421). -/
def storeRefuse (n : Nat × Nat) (d : Dev) : Nat × Nat × Dev := (n.1, n.2, if n = (0x11, 1) then lowPower d else d)

/-- The NV values of a request, `l` bytes each, which turn `d` into `d'`, are stored or refused (R379, R388, R435). -/
def storeJoin (l : List Nat) (d d' : Dev) : Nat × Nat × Dev :=
  let n := storeSt (storeCheckL d d' l)
  if n.1 ≠ 0 then storeRefuse n d else okRes (storeWriteN (storeTxns l) d')

/-! ### Byte strings -/

end Sys2Proof.Machine

namespace Sys2Proof

/-- `k` bytes from offset `o`, little-endian; bytes beyond the end read 0. -/
def Octets.at (c : Octets) (o k : Nat) : Nat := c.val / 256 ^ o % 256 ^ k
/-- The bytes from offset `o`, `n` of them. -/
def Octets.part (c : Octets) (o n : Nat) : Octets := ⟨n, c.at o n⟩
/-- Concatenation. -/
def Octets.cat (a b : Octets) : Octets := ⟨a.len + b.len, a.val % 256 ^ a.len + 256 ^ a.len * b.val⟩
/-- The same bytes as the engine loader takes them. -/
def Octets.blob (c : Octets) : Machine.Blob := ⟨c.len, c.val⟩
end Sys2Proof

namespace Sys2Proof.Machine

/-- Fields one after another: width in bytes and value. -/
def packBytes (l : List (Nat × Nat)) : Nat := l.foldr (fun x n => x.2 % 256 ^ x.1 + 256 ^ x.1 * n) 0

/-- SHA-256 of a byte string, as the little-endian number of its bytes. -/
def sha256 (c : Octets) : Nat := Config.crypto 2 [c.len, c.val % 256 ^ c.len] % 2 ^ 256

/-- One step of the CRC-16 of R403 and R428 over a byte. -/
def crc16Byte (c b : Nat) : Nat :=
  (List.range 8).foldl (fun c _ => (if c / 32768 % 2 = 1 then (2 * c) ^^^ 0x1021 else 2 * c) % 65536) (c ^^^ (b * 256))
/-- CRC-16 of the first `n` bytes. -/
def crc16 (b : Octets) (n : Nat) : Nat := (List.range n).foldl (fun c i => crc16Byte c (b.at i 1)) 0xFFFF

/-! ### Flash and boot directory (chapter 16, flash layout) -/

/-- Program `n` bytes of the flash. The memory holds complements, so that an erased byte is unlisted. -/
def flashWrite (o v n : Nat) (d : Dev) : Dev := { d with flash := memWrite d.flash o (256 ^ n - 1 - v % 256 ^ n) n }

/-- Copy `i` of the directory: payload and SEQ, where its CRC matches (R428). -/
def dirCopy (d : Dev) (i : Nat) : Option (Nat × Nat) :=
  let c : Octets := ⟨28, flashRead d (0x1000 * i) 28⟩
  if crc16 c 26 = c.at 26 2 ∧ c.at 25 1 = 0 then some (c.at 0 24, c.at 24 1) else none

/-- The directory record. -/
def dirRec (d : Dev) : TwoCopy := ⟨dirCopy d 0, dirCopy d 1⟩

/-- The payload of the boot directory. -/
def dirRead (d : Dev) : Option Nat := (dirRec d).val

/-- Write one copy. -/
def dirCopyPut (i : Nat) (c : Option (Nat × Nat)) (d : Dev) : Dev :=
  match c with
  | none => d
  | some (v, s) =>
    let b : Octets := ⟨26, packBytes [(24, v), (1, s), (1, 0)]⟩
    flashWrite (0x1000 * i) (packBytes [(26, b.val), (2, crc16 b 26)]) 28 d

/-- Update the directory. -/
def dirWrite (v : Nat) (d : Dev) : Dev :=
  let r := (dirRec d).put v
  if newerA (dirRec d) then dirCopyPut 1 r.b d else dirCopyPut 0 r.a d

/-- The directory's fields. -/
structure BootDir where
  teller : Nat
  rtA    : Nat
  rtB    : Nat
  trial  : Nat
  verA   : Nat
  verB   : Nat
  verT   : Nat
deriving DecidableEq, Repr

/-- The fields of a payload. -/
def BootDir.ofNat (v : Nat) : BootDir :=
  let c : Octets := ⟨24, v⟩
  ⟨c.at 0 1, c.at 1 1, c.at 2 1, c.at 3 1, c.at 4 4, c.at 8 4, c.at 12 4⟩

/-- The payload of the fields. -/
def BootDir.toNat (x : BootDir) : Nat :=
  packBytes [(1, x.teller), (1, x.rtA), (1, x.rtB), (1, x.trial), (4, x.verA), (4, x.verB), (4, x.verT), (8, 0)]

/-- The directory in force; slots 0 with nothing on trial where none is valid. -/
def bootDir (d : Dev) : BootDir := BootDir.ofNat ((dirRead d).getD 0)

/-- Change the directory. -/
def dirUpdate (f : BootDir → BootDir) (d : Dev) : Dev := dirWrite (f (bootDir d)).toNat d

/-! ### Containers (R444 to R447) -/

end Sys2Proof.Machine

namespace Sys2Proof

/-- Fields of the header (R444). -/
def Octets.cType (c : Octets) : Nat := c.at 8 1
def Octets.cSigner (c : Octets) : Nat := c.at 9 1 % 4
def Octets.cKeyNo (c : Octets) : Nat := c.at 9 1 / 4 % 4
def Octets.cSeal (c : Octets) : Nat := c.at 10 1
def Octets.cFlags (c : Octets) : Nat := c.at 11 1
def Octets.cVersion (c : Octets) : Nat := c.at 12 4
def Octets.cPayLen (c : Octets) : Nat := c.at 16 4
def Octets.cTarget (c : Octets) : Nat := c.at 32 2
def Octets.cHash (c : Octets) : Nat := c.at 64 32
def Octets.cKey (c : Octets) : Nat := c.at 96 64

/-- Bytes of the block table: TELLER and RUNTIME only. -/
def Octets.cTable (c : Octets) : Nat := if c.cType = 1 ∨ c.cType = 2 then 32 * ((c.cPayLen + 65535) / 65536) else 0
/-- The payload. -/
def Octets.cPayload (c : Octets) : Octets := c.part (256 + c.cTable) c.cPayLen

end Sys2Proof

namespace Sys2Proof.Machine

/-- The largest PAYLOAD_LEN of a type (R444). -/
def payMax (ty : Nat) : Nat := if ty = 1 then 523776 else if ty = 2 then 16711680 else 16776960

/-- Check 1 of R445, but for the length received. -/
def headerOk (c : Octets) : Bool :=
  c.at 0 4 = 0x4D495653 && c.at 4 2 = 1 && c.at 6 2 = 256 && c.at 9 1 / 16 = 0 && c.cFlags / 2 % 8 = 0 &&
    (c.cType = 1 || c.cFlags / 16 = 0) && c.at 34 30 = 0 && c.at 224 32 = 0 && decide (1 ≤ c.cPayLen ∧ c.cPayLen ≤ payMax c.cType) &&
    (c.cSigner ≠ 2 || (c.at 96 128 = 0)) && (c.cType ≠ 0x15 || c.cPayLen = 64)

/-- A signature is required for ENGINE, CALSET, BOOK and CONFIG containers (R446); RMA is taken as LOCKED. -/
def signedNeeded (d : Dev) : Bool :=
  d.sec.certified || decide (2 ≤ d.sec.lcs) || (d.sec.lcs = 1 && d.ent 0x9003 0 = 1)

/-- A signature is required for ANCHOR and OWNER_KEY containers (R446, R442). -/
def anchorSigned (d : Dev) : Bool := d.sec.certified || decide (1 ≤ d.sec.lcs)

/-- TYPE and SIGNER agree (R446). -/
def signerOk (d : Dev) (c : Octets) : Bool :=
  match c.cType with
  | 0x01 | 0x02 => c.cSigner = 0
  | 0x10 | 0x11 | 0x12 | 0x13 => c.cSigner = 1 || (c.cSigner = 2 && !signedNeeded d)
  | 0x14 | 0x15 => if anchorSigned d then c.cSigner = 1 else c.cSigner = 2
  | _ => false

/-- SEAL names a counter that the type may use, and no mask revokes the container's own key (R447). -/
def sealOk (c : Octets) : Bool :=
  match c.cType with
  | 0x01 => c.cSeal = 0 && !(c.cFlags / 16).testBit c.cKeyNo
  | 0x02 => c.cSeal = 1
  | _ => if c.cSigner = 2 then c.cSeal = 0xFF else decide (2 ≤ c.cSeal ∧ c.cSeal ≤ 15) || c.cSeal = 0xFF

/-- The signing key is valid (R440, R446). -/
def keyOk (d : Dev) (c : Octets) : Bool :=
  if c.cSigner = 2 then true
  else if c.cSigner = 0 then !d.sec.revoked.testBit c.cKeyNo && Config.cryptoOk 2 [c.cKeyNo, c.cKey]
  else ownerSlot d ≠ 7 && tabGet 0 (ownerSlot d) d.sec.owner = sha256 ⟨64, c.cKey⟩

/-- The seal counter that a container names; none where it is damaged or none is named. -/
def sealNow (d : Dev) (c : Octets) : Option Nat := if c.cSeal = 0xFF then some 0 else d.sealC c.cSeal

/-- TARGET is a part of TYPE. ANCHOR takes the number of the anchor, OWNER_KEY 0. -/
def targetOk (ty t : Nat) : Bool :=
  match ty with
  | 0x01 => t = 0x200
  | 0x02 => t = 0x100
  | 0x10 => decide (0x300 ≤ t ∧ t < 0x320)
  | 0x11 => decide (0x400 ≤ t ∧ t < 0x404)
  | 0x12 => decide (0x600 ≤ t ∧ t < 0x610)
  | 0x13 => decide (0x700 ≤ t ∧ t < 0x704)
  | 0x14 => decide (t < 4)
  | 0x15 => t = 0
  | _ => false

/-- The first failing check of R445 for a container; 0 where it passes. -/
def containerCheck (d : Dev) (c : Octets) : Nat :=
  if c.len < 256 ∨ !headerOk c ∨ c.len ≠ 256 + c.cTable + c.cPayLen then 1
  else if !signerOk d c ∨ !sealOk c then 2
  else if !keyOk d c then 3
  else if c.cSigner ≠ 2 ∧ !Config.cryptoOk 1 [c.cKey, c.at 0 160, c.at 160 64] then 4
  else if sha256 (if c.cTable = 0 then c.cPayload else c.part 256 c.cTable) ≠ c.cHash then 5
  else if c.at 20 8 ≠ 0 ∧ c.at 20 8 ≠ eui64 then 6
  else if (match sealNow d c with | some x => decide (c.cVersion < x) | none => d.sec.certified) then 7
  else if c.at 28 4 > tellerVersion d ∨ !targetOk c.cType c.cTarget then 8
  else if d.sec.certified ∧ c.cType ≤ 2 ∧ !c.cFlags.testBit 0 then 9
  else if c.cType = 0x15 ∧ ownerSlot d = 3 then 10
  else 0

/-- The block hashes of a TELLER or RUNTIME container, the last block padded with 0xFF. -/
def blocksOk (c : Octets) : Bool :=
  (upto (c.cTable / 32)).all (fun k =>
    let p := c.cPayload
    let n := min 65536 (p.len - 65536 * k)
    sha256 ⟨65536, p.at (65536 * k) n + (256 ^ 65536 - 256 ^ n)⟩ = c.at (256 + 32 * k) 32)

/-- The container that a slot holds: its header alone where that is none. -/
def slotContainer (d : Dev) (teller : Bool) (slot : Nat) : Octets :=
  let b := slotBase teller slot
  let h : Octets := ⟨256, flashRead d b 256⟩
  let n := if headerOk h then min (256 + h.cTable + h.cPayLen) (if teller then 0x80000 else 0x1000000) else 256
  ⟨n, flashRead d b n⟩

/-- The check of a slot at boot, at a handover and at ACTIVATE_AT (R448): the Teller's with every block, the runtime's with
header and table. -/
def slotVerify (d : Dev) (teller : Bool) (slot : Nat) : Nat :=
  let c := slotContainer d teller slot
  let k := containerCheck d c
  if k ≠ 0 then k
  else if c.cType ≠ (if teller then 1 else 2) then 8
  else if teller ∧ !blocksOk c then 5 else 0

/-- A refused container (R445). -/
def imageRefused (target code : Nat) (d : Dev) : Dev := raise .SEC_IMAGE_REFUSED [target, code] (d.set SCU_BOOTSTAT_FAIL code)

/-- A damaged seal counter lets a container pass (R447). -/
def sealNote (c : Octets) (d : Dev) : Dev := if (sealNow d c).isNone then raise .SEC_SEAL_DAMAGED [c.cSeal] d else d

/-! ### Activation records and their states (R455) -/

/-- Index of the activation record of a part. -/
def recOf (part : Nat) : Nat :=
  let k := part % 256
  match part / 256 with
  | 1 => 0x9300
  | 2 => 0x9301
  | 3 => 0x4300 + k
  | 4 => 0x3020 + k
  | 6 => 0x9310 + k
  | 7 => 0x9320 + k
  | _ => 0x9330 + k

/-- Sub-indices of ACTIVATE_AT, HEALTH_WINDOW and HEALTH_FAIL in the record of a part. -/
def actSubs (part : Nat) : Nat × Nat × Nat :=
  match part / 256 with
  | 3 => (7, 8, 9)
  | 4 => (4, 5, 6)
  | _ => (1, 2, 3)

/-- Unit and slice of a slice part. -/
def sliceOf (part : Nat) : Nat × Nat := (part % 256 / 16, part % 16)

/-- STATE of a part: 0 idle, 1 pending, 2 on trial, 3 committed, 4 rolled back. -/
def partState (d : Dev) (part : Nat) : Nat :=
  if part / 256 = 3 then (d.eng (part % 256)).swap.st
  else if part / 256 = 5 then
    let x := sliceAt d (sliceOf part).1 (sliceOf part).2
    if x.trial then 2 else if x.st = 3 then 1 else (d.act part).st
  else (d.act part).st

/-- Part `i` of group `g` in a value of ACT_GROUPS. -/
def groupPart (v g i : Nat) : Nat := v / 2 ^ (16 * (8 * g + i)) % 65536

/-- The members of the group of a part, itself included; a part in no group is alone. -/
def groupOf (d : Dev) (part : Nat) : List Nat :=
  let v := d.ent 0x93F0 0
  match (upto 8).find? (fun g => (upto 8).any (fun i => decide (groupPart v g i = part))) with
  | none => [part]
  | some g => (part :: (upto 8).map (groupPart v g)).eraseDups.filter (fun p => decide (p ≠ 0))

/-- A value of ACT_GROUPS names a part twice, or one that is pending or on trial. -/
def groupsBad (d : Dev) (v : Nat) : Bool :=
  let l := ((upto 64).map (fun i => v / 2 ^ (16 * i) % 65536)).filter (fun p => decide (p ≠ 0))
  (l.eraseDups.length ≠ l.length) || l.any (fun p => let s := partState d p; s = 1 || s = 2)

/-! ### Staging through UPDATE (R446, R455) -/

/-- Hold the hash and version of an accepted container. -/
def stageNote (part : Nat) (c : Octets) (d : Dev) : Dev :=
  { d with sec.staged := tabIns part (c.cVersion, c.cSeal) d.sec.staged }

/-- A book image stored in an idle book (R106, R132): status and device. AUTO_ARM is clear in NV until the write ends, with the
cycle. The entries' status is cleared with the content (DESIGN CHOICE, log entry 125: R130 says so of single commits). -/
def bookImageOp (b : Nat) (v : Nat) (d : Dev) : Nat × Nat × Dev :=
  if bookArmed d b then errRes 7 d
  else
    let e := storeErr d 8192
    if e.1 ≠ 0 then storeRefuse e d
    else
      let auto := match d.ldg.imgArm.find? (fun x => x.1 = b) with | some x => x.2 | none => d.ent (0x2110 + b) 2
      let d := { d.setEnt (0x2110 + b) 2 0 with ldg.imgArm := (b, auto) :: d.ldg.imgArm.filter (fun x => x.1 ≠ b) }
      let d := storeWriteN (storeTxns [8192]) (d.setEnt (0x2110 + b) 4 (v % 256 ^ 8192))
      okRes (imageLoadBook b (bookClear b d))

/-- The content of an accepted container goes to its part: an inactive slot, an engine, the inactive bank, an idle book, the
set, a trust anchor or the next owner key slot. -/
def stageContent (t : Nat) (c : Octets) (d : Dev) : Nat × Nat × Dev :=
  let p := c.cPayload
  let nv := fun (n : Nat) (f : Dev → Nat × Nat × Dev) => let r := f d; if r.1 ≠ 0 then r else storeJoin [n] d r.2.2
  match c.cType with
  | 0x01 => okRes (flashWrite (slotBase true (1 - d.sec.slotT)) c.val c.len d)
  | 0x02 =>
    if d.sec.slotA ≠ d.sec.slotB then errRes 7 d
    else okRes (flashWrite (slotBase false (1 - d.sec.slotA)) c.val c.len d)
  | 0x10 =>
    let n := t % 32
    nv p.len (fun d =>
      let x := engineWrite n 1 0 p.len p.val (imageLoad n p.blob) d
      if x.1 then okRes x.2 else chkRes (x.2.get (CE_LOADSTAT_RESULT n)) x.2)
  | 0x11 =>
    let u := t % 4
    if p.len ≠ 256 then errRes 4 d
    else if !calsetOk p.val then chkRes 1 d
    else nv 256 (fun d => okRes (d.setEnt (0x3020 + u) (3 - (d.cvuS u).bank) p.val))
  | 0x12 => if 8192 < p.len then errRes 4 d else bookImageOp (t % 16) p.val d
  | 0x13 => if 65536 < p.len then errRes 4 d else nv p.len (fun d => okRes (d.setEnt (0x9320 + t % 4) 6 p.val))
  | 0x14 =>
    if 1025 < p.len ∨ 3 < p.at 0 1 then errRes 3 d
    else nv p.len (fun d => okRes ((d.setEnt (0x9100 + t % 4) 1 (p.at 0 1)).setEnt (0x9100 + t % 4) 2 (p.at 1 1024)))
  | _ =>
    let k := if ownerSlot d = 7 then 0 else ownerSlot d + 1
    okRes { d with sec.owner := tabIns k (sha256 p) d.sec.owner }

/-- The role that may write a container (UPDATE.CONTAINER). -/
def containerRole (c : Octets) : Nat := if c.cType ≤ 2 ∨ c.cType = 0x14 ∨ c.cType = 0x15 then 3 else 2

/-- A container written through UPDATE: role, state of the part, the checks of R445, then its content is staged (R445, R446,
R456). -/
def updateContainerOp (role : Nat) (c : Octets) (d : Dev) : Nat × Nat × Dev :=
  let t := d.ent 0x9200 1
  let fin := fun (x : Nat × Nat × Dev) =>
    (x.1, x.2.1, x.2.2.setEnt 0x9200 3 (x.1 + (if x.1 = 0xD then 256 * (x.2.1 % 256) else 0)))
  let part := c.cTarget
  let s := if 0x100 ≤ part then partState d part else 0
  if role < containerRole c then fin (errRes 5 d)
  else if s = 1 ∨ s = 2 then fin (errRes 7 d)
  else
    let k := containerCheck d c
    let k := if k = 0 ∧ part ≠ t then 8 else k
    if k ≠ 0 then fin (chkRes k (imageRefused t k d))
    else
      let x := stageContent t c d
      if x.1 ≠ 0 then fin x
      else
        let d := sealNote c x.2.2
        let d := if 0x100 ≤ t then stageNote t c d else d
        let key := if t / 256 = 4 then t + 0x1000 * (1 - (d.cvuS (t % 4)).bank) else t
        let d : Dev := if 0x300 ≤ t ∧ t < 0x700 then { d with sec.hashes := tabPut 0 key c.cHash d.sec.hashes } else d
        fin (okRes d)

/-! ### Recovery (R449, R450) -/

/-- The device enters recovery: outputs safe, every session closed, one transport served by the Teller ROM. `kind` names the
slot that failed: 0 Teller, 1 runtime. -/
def recoveryEnter (kind : Nat) (d : Dev) : Dev :=
  let d := if d.pwr.released then releaseWithdraw d else d
  let via := if d.pwr.bootSel = 2 ∧ !d.sec.certified then 1 else 0
  let d := closeAll d
  { d with sec.recovery := some (kind, via), pwr.hrdy := decide (via = 0), pwr.halves := 0 }

/-- A container written to RECOVERY_IMAGE: checked, programmed into the slot that failed, committed in the directory; a full
restart follows (R450). -/
def recoveryImageOp (c : Octets) (d : Dev) : Nat × Nat × Dev :=
  match d.sec.recovery with
  | none => errRes 7 d
  | some (_, via) =>
    if d.sec.certified ∧ via = 1 then errRes 7 d
    else
      let k := containerCheck d c
      let k := if k = 0 ∧ 2 < c.cType then 8 else k
      if k ≠ 0 then chkRes k (imageRefused c.cTarget k d)
      else
        let d := if (sealNow d c).isNone then nvRecord ⟨d.evSeq, d.time64, .SEC_SEAL_DAMAGED, [c.cSeal]⟩ (sealNote c d) else d
        let t := decide (c.cType = 1)
        let x := bootDir d
        let slot := if slotVerify d t (if t then x.teller else x.rtA) ≠ 0 then (if t then x.teller else x.rtA) % 2
          else 1 - (if t then x.teller else x.rtA) % 2
        let d := flashWrite (slotBase t slot) c.val c.len d
        let d := dirUpdate (fun x => if t then { x with teller := slot, verT := c.cVersion, trial := setBit x.trial 0 false }
          else { x with rtA := slot, rtB := slot, verA := c.cVersion, verB := c.cVersion, trial := x.trial % 2 }) d
        okRes (fullRestart PMC_RSTCAUSE_SEC d)

/-- A fill of the window's block buffer fails its hash: the access reads 0 and the half stops; after the second stop of each
half, recovery (R449). -/
def blockFail (half block : Nat) (d : Dev) : Dev :=
  let d := raise .SEC_BLOCK_FAIL [block] { d with bus := 0 }
  let d := halfStop half d
  let n := tabGet 0 half d.sec.blockStops + 1
  let d : Dev := { d with sec.blockStops := tabIns half n d.sec.blockStops }
  if 2 ≤ tabGet 0 0 d.sec.blockStops ∧ 2 ≤ tabGet 0 1 d.sec.blockStops then recoveryEnter 1 d else d

/-! ### Life cycle and tamper (R441, R442) -/

/-- The keys that an erase of the Vault destroys: operational key, PSKs, group keys and anchors (R441). -/
def vaultErase (d : Dev) : Dev :=
  let d := (upto 16).foldl (fun d k => d.setEnt (0x9110 + k) 0 0) d
  let d := (upto 8).foldl (fun d k => d.setEnt (0x9120 + k) 0 0) d
  let d := (upto 4).foldl (fun d k => (d.setEnt (0x9100 + k) 1 0).setEnt (0x9100 + k) 2 0) d
  { d with sec.opKey := none, sec.erased := true }

/-- Enter RMA (R441, R443): the Vault is erased, and the debug port is then an initiator. -/
def enterRma (d : Dev) : Dev :=
  let d := debugReset (vaultErase { d with sec.lcs := 3 })
  raise .SEC_LIFECYCLE [3] d

/-- A write of LC_REQUEST (R441). -/
def lcRequestOp (target eui : Nat) (d : Dev) : Nat × Nat × Dev :=
  if eui ≠ eui64 then errRes 7 d
  else if d.sec.lcs = 0 ∧ target = 1 ∧ tabGet 0 0 d.sec.owner ≠ 0 then
    okRes (raise .SEC_LIFECYCLE [1] (debugReset { d with sec.lcs := 1 }))
  else if d.sec.lcs = 1 ∧ target = 2 then
    okRes (raise .SEC_LIFECYCLE [2] ((debugReset { d with sec.lcs := 2 }).setEnt 0x9003 0 1))
  else errRes 7 d

/-- A tamper event (R442): the record in NV, the Vault erase at the eighth within 24 h in certified mode, and the security reset, after which
its bit and the count are set (DESIGN CHOICE, log entry 106). -/
def tamper (source : Nat) (d : Dev) : Dev :=
  let d := nvRecord ⟨d.evSeq, d.time64, .SEC_TAMPER, [source]⟩ (raise .SEC_TAMPER [source] d)
  let d : Dev := { d with sec.tampers := within d.now 86400000000000 d.sec.tampers }
  let n := d.sec.tampers.length
  let d := if d.sec.certified ∧ n = 8 then
      let d := vaultErase d
      let d := nvRecord ⟨d.evSeq, d.time64, .SEC_VAULT_ERASED, []⟩ (raise .SEC_VAULT_ERASED [] d)
      { d with sec.newKeys := true }
    else d
  ((fullRestart PMC_RSTCAUSE_SEC d).flagUpN ⟨SCU_TAMPER, 0, 5⟩ source).set SCU_TAMPER_COUNT (min n 255)

/-- The TRNG fails a health test (R437). -/
def trngFault (rct apt : Bool) (d : Dev) : Dev :=
  if !d.ready 11 ∨ !(rct || apt) then d
  else
    let d := if rct then d.flagUp SCU_TRNG_RCT_FAIL else d
    let d := if apt then d.flagUp SCU_TRNG_APT_FAIL else d
    let e := raise .TRNG_FAULT [] (d.set SCU_TRNG_OK 0)
    if d.sec.certified then tamper 4 (nvRecord ⟨d.evSeq, d.time64, .TRNG_FAULT, []⟩ e) else e

/-- Fresh randomness, or the Teller, is not available: requests that need it wait (R437, R459). -/
def trngStopped (d : Dev) : Bool := !d.bit SCU_TRNG_OK || d.sec.tellerBusy

/-- Entries whose write compares a password (R433). -/
def pwdEntry (idx sub : Nat) : Bool := (decide (0x8010 ≤ idx ∧ idx < 0x8018) && sub = 6) || (idx = 0x8020 && sub = 3)

/-- A write of the entry waits: attestation and the generation of the operational key for randomness, and these, every CSR and every password
comparison for the Teller (R437, R440, R459). -/
def tellerWaits (idx sub : Nat) (d : Dev) : Bool :=
  (((idx = 0x9005 && sub = 1) || (idx = 0x9006 && d.sec.opKey.isNone)) && trngStopped d) ||
    ((idx = 0x9006 || pwdEntry idx sub) && d.sec.tellerBusy)

/-- The write waits for its answer `r`: it is accepted, or only a comparison has refused it. -/
def answerWaits (idx sub len : Nat) (r : Nat × Nat) (d : Dev) : Bool :=
  tellerWaits idx sub d && decide (len ≠ 0) && decide (r.1 = 0 ∨ (r = (0x11, 4) ∧ pwdEntry idx sub = true))

/-- The first item of a request that waits for its answer; `r` names the item that is refused. -/
def itemWaits (l : List WItem) (r : Option (Nat × Nat × Nat)) (d : Dev) : Option Nat :=
  match r with
  | some (k, st, det) => if (l[k]?).any (fun w => answerWaits w.idx w.sub w.value.len (st, det) d) then some k else none
  | none => l.findIdx? (fun w => answerWaits w.idx w.sub w.value.len (0, 0) d)

/-- A request waits for fresh randomness or the Teller, or (`nv`) for the store that the debug port owns (R435, R437, R459); one that waits
already goes on waiting. -/
def waitAdd (sess req op : Nat) (args : List Nat) (nv : Bool) (d : Dev) : Dev :=
  if d.sec.waits.any (fun w => w.sess = sess ∧ w.req = req ∧ w.op = op) then d
  else { d with sec.waits := d.sec.waits ++ [⟨sess, req, op, args, d.now, nv⟩] }

/-- A write answered ERR_BUSY (`f` gives its status) because the debug port owns the store (R435). -/
def storeOwned (f : Dev → Nat) (d : Dev) : Bool :=
  decide (d.get NVS_STAT_OWNER = 12 ∧ f d = 6 ∧ f (d.set NVS_STAT_OWNER 0xF) ≠ 6)

/-- The certificate that the device shows in a DTLS handshake: 1 and the owner's once an operational key and its certificate exist, else 0 and
the DIK's; none in RMA, where the DIK is disabled (R440, R441). An operational key without a certificate leaves the DIK's (DESIGN CHOICE, log
entry 167). -/
def serverCert (d : Dev) : Option (Nat × Nat) :=
  if d.sec.opKey.isSome ∧ d.ent 0x9007 0 ≠ 0 then some (1, d.ent 0x9007 0)
  else if d.sec.lcs = 3 then none
  else some (0, dikCert)

/-! ### Debug token (R443) -/

/-- The fields of a token that do not depend on the life cycle. -/
def tokenOk (d : Dev) (c : Octets) : Bool :=
  c.len = 176 && c.at 0 4 = 0x54445653 && c.at 4 8 = eui64 && c.at 12 32 = d.sec.nonce % 2 ^ 256 && c.at 46 2 = 0 &&
    c.at 45 1 / 16 = 0

/-- The signature at offset `o` is the owner's. -/
def tokenOwner (d : Dev) (c : Octets) (o : Nat) : Bool :=
  ownerSlot d ≠ 7 && Config.cryptoOk 1 [tabGet 0 (ownerSlot d) d.sec.owner, c.at 0 48, c.at o 64]

/-- The first signature is by a Dalori key that is not revoked. -/
def tokenDalori (d : Dev) (c : Octets) : Bool :=
  !d.sec.revoked.testBit (c.at 45 1 / 4 % 4) && Config.cryptoOk 1 [c.at 45 1 / 4 % 4, c.at 0 48, c.at 48 64]

/-- A debug token (R443): a valid one opens the port or enters RMA; the challenge changes after every attempt. -/
def debugTokenOp (c : Octets) (d : Dev) : Dev :=
  if 3 ≤ d.sec.refused then d
  else
    let level := c.at 44 1
    let signer := c.at 45 1 % 4
    let okDebug := tokenOk d c && level = 1 &&
      ((d.sec.lcs = 1 && signer = 1 && tokenOwner d c 48) ||
        (d.sec.lcs = 0 && ((signer = 1 && tokenOwner d c 48) || (signer = 0 && tokenDalori d c))))
    let okRma := tokenOk d c && level = 3 && signer = 0 && tokenDalori d c &&
      (d.sec.lcs = 0 || (d.sec.lcs ≤ 2 && tokenOwner d c 112))
    let r := d.freeVal
    let d : Dev := { r.2 with sec.nonce := r.1 }
    if okDebug then { d with sec.dbgOpen := true }
    else if okRma then enterRma d
    else raise .SEC_DEBUG_REFUSED [] { d with sec.refused := d.sec.refused + 1 }

/-! ### Attestation (R451) -/

/-- CONFIG_DIGEST. -/
def configDigest (d : Dev) : Nat :=
  let h := fun (p : Nat) => tabGet 0 p d.sec.hashes
  let l := (upto 32).map (fun n => h (0x300 + n)) ++ (upto 4).map (fun u => h (0x400 + u + 0x1000 * (d.cvuS u).bank)) ++ (upto 16).map (fun b => h (0x600 + b))
  sha256 ⟨32 * l.length, packBytes (l.map (fun x => (32, x)))⟩

/-- PAYLOAD_HASH of a slot. -/
def slotHash (d : Dev) (teller : Bool) (slot : Nat) : Nat := flashRead d (slotBase teller slot + 64) 32

/-- The report over a nonce: 328 bytes. -/
def attestReport (nonce : Nat) (d : Dev) : Nat :=
  let up := fun (h : Nat) => d.pwr.halves.testBit h
  let mode := d.sec.certified.toNat + 2 * (d.sec.dbgOpen).toNat + 4 * d.sec.recovery.isSome.toNat +
    8 * (if d.sec.lcs = 2 then 1 else d.ent 0x9003 0 % 2)
  let hash := fun (h : Nat) (s : Nat) => if up h then slotHash d false s else 0
  let body := packBytes
    ([(4, 0x54415653), (2, 1), (2, 328), (8, eui64), (1, d.sec.lcs), (1, mode), (2, 0), (8, d.time64), (32, nonce),
      (32, slotHash d true (d.sec.slotT)), (32, hash 0 (d.sec.slotA)),
      (32, hash 1 (d.sec.slotB)), (4, tellerVersion d), (4, halfVersion d 0), (4, halfVersion d 1)] ++
      (upto 16).map (fun k => (4, (d.sealC k).getD 0xFFFFFFFF)) ++ [(32, configDigest d)])
  body + 256 ^ 264 * (Config.crypto 3 [Config.dik, body] % 256 ^ 64)

/-- A write of ATTEST NONCE by session `n` (R451, R441). -/
def attestOp (n nonce : Nat) (d : Dev) : Nat × Nat × Dev :=
  if d.sec.lcs = 3 then errRes 7 d
  else okRes (sessPut n 0x9005 2 (attestReport nonce d) (sessPut n 0x9005 1 nonce d))

/-! ### Certificates (R452) -/

/-- UTC in seconds, or TIME_FLOOR's while the time base is neither LOCKED nor HOLDOVER; with the flag that notBefore is checked. -/
def certTime (d : Dev) : Nat × Nat :=
  let utc := fun (t : Nat) => (taiToUtc d (t / 1000000000)).toNat
  if d.xtf.st = .locked ∨ d.xtf.st = .holdover then (utc d.time64, 1) else (utc (d.ent 0x9140 0), 0)

/-- A client certificate chains to an anchor whose ROLE_MAX allows `role`, names `role`, is valid and not revoked. -/
def certOk (d : Dev) (role : Nat) (cert : Octets) : Bool :=
  Config.crypto 5 [cert.len, cert.val] = role &&
    (upto 4).any (fun k => d.ent (0x9100 + k) 2 ≠ 0 && decide (role ≤ d.ent (0x9100 + k) 1) &&
      Config.cryptoOk 3 [cert.len, cert.val, d.ent (0x9100 + k) 2, d.ent 0x9130 0, (certTime d).1, (certTime d).2])

/-- In OPEN the host SPI takes a self-signed certificate that names any role (R441). -/
def spiCertOk (d : Dev) (role : Nat) (cert : Octets) : Bool :=
  if d.sec.lcs = 0 then Config.crypto 5 [cert.len, cert.val] = role && Config.cryptoOk 4 [cert.len, cert.val] else certOk d role cert

/-- TIME_FLOOR follows UTC at most once per hour while LOCKED (R452). -/
def timeFloorUpdateOp (d : Dev) : Dev :=
  let due : Bool := match d.sec.floorAt with
    | some t => decide (t + 3600000000000 ≤ d.now)
    | none => true
  if d.xtf.st = .locked ∧ due ∧ storeCheck d 8 = 0 then
    storeWrite ({ d with sec.floorAt := some d.now }.setEnt 0x9140 0 (max d.time64 (d.ent 0x9140 0)))
  else if d.xtf.st = .locked ∧ due ∧ storeCheck d 8 = 1 then lowPower d
  else d

/-! ### Certified mode (R453, R454) -/

/-- The container in a slot carries CERTIFIED_BUILD. -/
def certBuild (d : Dev) (teller : Bool) (slot : Nat) : Bool := (flashRead d (slotBase teller slot + 11) 1).testBit 0

/-- Publication `k` is enabled without encryption. -/
def pubPlain (d : Dev) (k : Nat) : Bool := d.ent (0x1300 + k) 1 = 1 && d.ent (0x1300 + k) 3 = 0xFF

/-- The conditions of R453 that entries state: the first failing code, or 0. -/
def certEntries (d : Dev) : Nat :=
  if d.ent 0x1000 5 ≠ 0 then 2
  else if (upto 16).any (fun k => d.ent (0x9110 + k) 0 ≠ 0) then 3
  else if (upto 64).any (pubPlain d) then 4
  else if (upto 8).any (fun n => d.ent (0x1240 + n) 0 ≠ 0) ∨ d.ent 0x1000 6 ≠ 0 then 5
  else if !(upto 4).any (fun k => d.ent (0x9100 + k) 1 = 3 && d.ent (0x9100 + k) 2 ≠ 0) then 7
  else 0

/-- The first failing code of R453, or 0. -/
def certCheck (d : Dev) : Nat :=
  let e := certEntries d
  if d.sec.lcs ≠ 2 then 1
  else if e ≠ 0 ∧ e ≠ 7 then e
  else if !certBuild d true (d.sec.slotT) ∨ !certBuild d false (d.sec.slotA) ∨
      !certBuild d false (d.sec.slotB) then 6
  else e

/-- A write of CERTIFIED_MODE (R453, R454). -/
def certifiedModeOp (on : Bool) (d : Dev) : Nat × Nat × Dev :=
  if on then
    if d.sec.certOtp = 2 then errRes 7 d
    else
      let k := certCheck d
      if k ≠ 0 then chkRes k d
      else okRes ({ d with sec.certOtp := 1, sec.restartAt := some (d.now + 100000000) }.setEnt 0x9002 0 1)
  else okRes ({ d with sec.certOtp := if d.sec.certOtp = 1 then 2 else d.sec.certOtp }.setEnt 0x9002 0 0)

/-! ### Entries of the ledger placed by the runtime (R389, R456) -/

/-- The words of an entry of the runtime: ABSOLUTE at `t`, PERIOD 0, COUNT 1, FIRE_LATE, REQ ANY, WAKE_LEAD 0. -/
def runtimeEntry (t action target value : Nat) (catchup : Bool) : Nat :=
  packW 32 [1 + (if catchup then 64 else 0) + 256 * action, t, t / 2 ^ 32, 0, 0, 1, target, value]

/-- The lowest free entry of book `b`: not enabled, or retired. -/
def freeEntry (d : Dev) (b : Nat) : Option Nat :=
  ((upto 256).map (b * 256 + ·)).find? (fun e => !(ldgEntry d e).en || (d.lent e).retired)

/-- Take an entry out of its book. -/
def entryRemove (e : Nat) (d : Dev) : Dev := entryReplace e 0 d

/-- 31 days in ns. -/
def days31 : Nat := 2678400000000000

/-! ### ACTIVATE_AT and HEALTH_FAIL (R456, R457) -/

/-- One item of R388, from offset `o`: the item, and the offset after it. -/
def itemAt (c : Octets) (o : Nat) : Option (WItem × Nat) :=
  let n := c.at (o + 4) 2
  if c.len < o + 6 + n ∨ c.at (o + 3) 1 ≠ 0 then none else some (⟨c.at o 2, c.at (o + 2) 1, c.part (o + 6) n⟩, o + 6 + n)

/-- `k` items from offset `o`. -/
def itemsAt (c : Octets) : Nat → Nat → Option (List WItem)
  | 0, _ => some []
  | k + 1, o => match itemAt c o with
    | none => none
    | some (x, o') => (itemsAt c k o').map (x :: ·)

/-- The items and CONFIRM of a CONFIG payload (R460); the entry pads it with zeros. -/
def configItems (v : Nat) : Option (List WItem × Bool) :=
  let c : Octets := ⟨65536, v⟩
  if c.at 1 1 / 2 ≠ 0 ∨ c.at 2 2 ≠ 0 then none else (itemsAt c (c.at 0 1) 4).map (·, (c.at 1 1).testBit 0)

/-- What a part's owning chapter checks when ACTIVATE_AT is written: status and detail, 0 where it passes. -/
def stagedCheck (d : Dev) (part : Nat) : Nat × Nat :=
  let k := part % 256
  match part / 256 with
  | 1 =>
    let slot := 1 - d.sec.slotA
    if !d.sec.staged.any (fun e => e.1 = part) ∨ d.sec.slotA ≠ d.sec.slotB then (7, 0)
    else
      let c := slotVerify d false slot
      if c ≠ 0 then (0xD, c)
      else if !Config.cryptoOk 5 [slotVersion d false slot, halfVersion d 0, halfVersion d 1] then (7, 0) else (0, 0)
  | 2 =>
    if !d.sec.staged.any (fun e => e.1 = part) then (7, 0)
    else
      let c := slotVerify d true (1 - d.sec.slotT)
      if c ≠ 0 then (0xD, c) else (0, 0)
  | 4 => if calsetOk (d.ent (0x3020 + k) (3 - (d.cvuS k).bank)) then (0, 0) else (0xD, 1)
  | 6 =>
    if bookArmed d k then (7, 0)
    else match bookCheck d k with
      | none => (0, 0)
      | some (i, c) => (0xD + c, 256 * k + i)
  | 7 =>
    match configItems (d.ent (0x9320 + k) 6) with
    | none => (7, 0)
    | some (l, _) => if l = [] then (7, 0) else (0, 0)
  | _ => if d.ent (0x9330 + k) 7 = 0 then (7, 0) else (0, 0)

/-- The runtime's entry for an activation at `t`. -/
def actEntry (d : Dev) (part t : Nat) : Nat :=
  if part / 256 = 6 then runtimeEntry t 0x10 (d.ent (recOf part) 6 % 16 + 16 * (part % 16)) 0 false
  else runtimeEntry t 0x11 0 (0x15000000 + part) false

/-- The time of an activation or timed request may be `t` (R456). -/
def actTimeOk (d : Dev) (t : Nat) : Bool := !tbUnset d && decide (d.time64 < t ∧ t ≤ d.time64 + days31)

/-- Place, or move, the entry of an activation in book 15. -/
def actPlace (part t : Nat) (a : ActS) (d : Dev) : Option (Nat × Dev) :=
  match a.entry.orElse (fun _ => freeEntry d 15) with
  | none => none
  | some e => some (e, entryReplace e (actEntry d part t) d)

/-- An event of the part that has been posted and not yet used is taken back. -/
def actUnpost (part : Nat) (d : Dev) : Dev :=
  { d with ldg.events := d.ldg.events.filter (fun v => decide (v ≠ 0x15000000 + part)) }

/-- A pending activation is cancelled. -/
def actCancel (part : Nat) (d : Dev) : Dev :=
  let d := actUnpost part d
  let a := d.act part
  let d := match a.entry with
    | some e => entryRemove e d
    | none => d
  let d := if part / 256 = 3 then
      let e := d.eng (part % 256)
      d.setEng (part % 256) { e with swap := { e.swap with st := 0, at_ := 0 } }
    else d
  (d.setAct part { a with st := 0, at_ := 0, entry := none }).setEnt (recOf part) (actSubs part).1 0

/-- A write of `t` to ACTIVATE_AT of a part by a session of role `role` (R456). -/
def activateWrite (part t role sess : Nat) (d : Dev) : Nat × Nat × Dev :=
  let a := d.act part
  if a.st = 2 then errRes 7 d
  else if t = 0 then okRes (if a.st = 1 then actCancel part d else d.setEnt (recOf part) (actSubs part).1 0)
  else
    let c := stagedCheck d part
    if c.1 ≠ 0 then (c.1, c.2, d)
    else if !actTimeOk d t then errRes 0xC d
    else match actPlace part t (if a.st = 1 then a else { a with entry := none }) (actUnpost part d) with
      | none => errRes 9 d
      | some (e, d) =>
        let v := tabGet (0, 255) part d.sec.staged
        okRes ((d.setAct part { st := 1, at_ := t, entry := some e, role := role, sess := sess, version := v.1, sealNo := v.2 }).setEnt
          (recOf part) (actSubs part).1 t)

/-- A write of ACTIVATE_AT of swap record `n`: the check of R250, then its entry in book 15 (R250, R456). -/
def swapActWrite (n t role sess : Nat) (d : Dev) : Nat × Nat × Dev :=
  let part := 0x300 + n
  let w := (d.eng n).swap
  if t = 0 then
    if w.st = 2 then errRes 7 d else okRes (if w.st = 1 then actCancel part d else d.setEnt (0x4300 + n) 7 0)
  else
    let r := swapArm n t d
    if r.1 ≠ 0 then chkRes r.1 r.2
    else if !actTimeOk d t then errRes 0xC d
    else match actPlace part t { d.act part with entry := none } r.2 with
      | none => errRes 9 d
      | some (e, d) =>
        let v := tabGet (0, 255) part d.sec.staged
        okRes ((d.setAct part { at_ := t, entry := some e, role := role, sess := sess, version := v.1, sealNo := v.2 }).setEnt
          (0x4300 + n) 7 t)

/-- The health check of a part on trial has failed with condition `why`: it rolls back at its next boundary, and with it
every member of its group that is pending or on trial (R457). -/
def partFail (part why : Nat) (d : Dev) : Dev :=
  (groupOf d part).foldl (fun d p =>
    let s := partState d p
    if s = 1 ∧ p ≠ part then
      let d := if p / 256 = 5 then
          let x := sliceAt d (sliceOf p).1 (sliceOf p).2
          setSlice (sliceOf p).1 (sliceOf p).2 { x with st := 2, pos := 15, passes := 0 } d
        else actCancel p d
      let d := if p / 256 = 3 then
          let e := d.eng (p % 256)
          d.setEng (p % 256) { e with swap := { e.swap with st := 4 } }
        else d
      raise .ACT_ROLLED_BACK [p, (d.act p).version, why] (d.setAct p { d.act p with st := 4 })
    else if s ≠ 2 then d
    else if p / 256 = 3 then
      let e := d.eng (p % 256)
      (d.setEng (p % 256) { e with swap := { e.swap with failed := true } }).setAct p { d.act p with failed := why }
    else
      let a := d.act p
      d.setAct p { a with failed := if a.failed = 0 then why else a.failed }) d

/-- A write of 1 to HEALTH_FAIL (R457); condition 1 is HEALTH_FAIL itself. -/
def healthFailOp (part : Nat) (d : Dev) : Nat × Nat × Dev :=
  if partState d part = 2 then okRes (partFail part 1 d) else errRes 7 d

end Sys2Proof.Machine
end

