-- ==== Sys2Proof/Machine/Reflect.lean ====
section
/-! DEFINITION. The register fields that the runtime sets from dictionary entries: what an entry's value gives, the writes,
and the configuration that a start restores (R10, R18, R37, R68, R381). -/

namespace Sys2Proof.Machine

/-- A register write that a value gives: address, bits, value. -/
abbrev RegSet := Nat × Word × Word

def rB (a lo w x : Nat) : RegSet := (a, wMask lo w, wSet 0 lo w x)
def rF (f : Fld) (x : Nat) : RegSet := rB f.addr f.lo f.width x
def rW (a x : Nat) : RegSet := (a, BitVec.allOnes 32, word x)

/-- Word `i` of a BLOB value. -/
def blobW (v i : Nat) : Nat := v / 2 ^ (32 * i) % 2 ^ 32

/-- `n` registers from a BLOB. -/
def rWs (f : Nat → Nat) (n v : Nat) : List RegSet := (upto n).map (fun i => rW (f i) (blobW v i))

/-- The fields that an entry with index below 0x3000 sets. -/
def reflect0 (idx sub v : Nat) : List RegSet :=
  if idx = 0x2001 then
    match sub with
    | 1 => [rF PTP_CFG_ROLE v] | 2 => [rF PTP_CFG_TRANSPORT v] | 3 => [rF PTP_CFG_DELAY_MECH v] | 4 => [rF PTP_CFG_DOMAIN v] | _ => []
  else if idx = 0x2004 then
    match sub with
    | 1 => [rF XTF_PPS_PPSIN_EN v] | 2 => [rF XTF_PPS_PPSIN_EDGE v] | 4 => [rF XTF_PPS_PPSOUT_MODE v]
    | 5 => [rF XTF_PPS_PPSOUT_WIDTH v] | 6 => [rW XTF_PPSOUT_PER v] | _ => []
  else if idx = 0x2140 then [rW LDG_FLAGS_LO (v % 2 ^ 32), rW LDG_FLAGS_HI (v / 2 ^ 32)]
  else if idx = 0x1100 ∧ sub = 8 then [rF FNS_CFG_LOOP_EN v]
  else if 0x1110 ≤ idx ∧ idx < 0x1117 then
    let p := idx - 0x1110
    if sub = 1 then [rW (FNS_PORTCFG p) v]
    else if sub = 2 then rWs (fun i => if i < 8 then FNS_POLICE p i else FNS_BCAST p) 9 v else []
  else if idx = 0x1120 then rWs FNS_VLAN 16 v
  else if idx = 0x1121 then rWs FNS_PLCA 4 v
  else if 0x1200 ≤ idx ∧ idx < 0x1208 then
    let n := idx - 0x1200
    match sub with
    | 1 => [rB (CAN_CFG n) 0 10 v] | 2 => [rW (CAN_NBT n) v] | 3 => [rW (CAN_DBT n) v] | 4 => [rB (CAN_TDC n) 0 8 v]
    | 5 => [rB (CAN_BOCFG n) 0 12 v] | 6 => [rB (CAN_ADR n) 0 12 v]
    | 7 => rWs (fun i => if i % 2 = 0 then CAN_FMATCH n (i / 2) else CAN_FMASK n (i / 2)) 128 v
    | _ => []
  else if 0x1220 ≤ idx ∧ idx < 0x1228 then
    let n := idx - 0x1220
    if sub = 1 then [rW (CAN_SEGCFG n) v] else if sub = 3 then [rF (CAN_SEGCTL_SEG_OFF n) v] else []
  else []

/-- The fields that an entry with index from 0x3000 below 0x6000 sets. -/
def reflect1 (idx sub v : Nat) : List RegSet :=
  let n := idx % 16
  if 0x3010 ≤ idx ∧ idx < 0x3014 then
    match sub with
    | 1 => [rF (CVU_CFG_DIFF n) v] | 2 => [rF (CVU_CFG_FGCAL_MODE n) v] | 3 => [rF (CVU_CFG_FGCAL_PERIOD n) v] | _ => []
  else if idx = 0x3030 ∧ 1 ≤ sub ∧ sub ≤ 8 then [rF (CVU_EXC_CODE (sub - 1)) (v / 10)]
  else if idx = 0x3031 ∧ 1 ≤ sub ∧ sub ≤ 8 then [rF (CVU_EXC_MODE (sub - 1)) v]
  else if 0x3100 ≤ idx ∧ idx < 0x3104 then
    match sub with
    | 1 => [rF (CVU_SEQ_CTRL_EN n) v] | 2 => [rF (CVU_SEQ_CTRL_LEN n) v] | 3 => [rF (CVU_SEQ_CTRL_MODE n) v]
    | 4 => [rF (CVU_SEQ_CTRL_TRIG_SRC n) v] | 5 => [rF (CVU_SEQ_CTRL_POLICY n) v] | 6 => [rF (CVU_SEQ_CTRL_INJ_MODE n) v]
    | 7 => rWs (CVU_SEQE n) 32 v
    | 8 => rWs (fun i => if i % 2 = 0 then CVU_FPA n (i / 2) else CVU_FPB n (i / 2)) 8 v
    | _ => []
  else if 0x3120 ≤ idx ∧ idx < 0x3124 ∧ 1 ≤ sub ∧ sub ≤ 16 then
    let s := sub - 1
    [rW (CVU_SBASE n s) (blobW v 1), rW (CVU_SLEN n s) (blobW v 2), rW (CVU_SMASK n s) (blobW v 3), rW (CVU_SCFG n s) (blobW v 0)]
  else if 0x4000 ≤ idx ∧ idx < 0x4020 then
    let e := idx - 0x4000
    if sub = 5 then rWs (CE_INRT e) 256 v else if sub = 6 then rWs (CE_OUTRT e) 256 v else []
  else if 0x4100 ≤ idx ∧ idx < 0x4300 then
    let e := (idx - 0x4100) / 16
    match sub with
    | 1 => [rF (CE_SCFG_EN e n) v] | 2 => [rB (CE_SCFG e n) 1 31 (v / 2)] | 3 => [rW (CE_SWIN e n) v] | 4 => [rW (CE_STRIG e n) v]
    | 5 => [rW (CE_SPER e n) v] | 6 => [rF (CE_SKEEP_KEEP e n) v] | 7 => rWs (CE_TOL e n) 32 v | 8 => rWs (CE_SAFE e n) 8 v
    | _ => []
  else []

/-- The fields that an entry with index from 0x6000 sets. -/
def reflect2 (idx sub v : Nat) : List RegSet :=
  if 0x6000 ≤ idx ∧ idx < 0x6008 then
    let m := idx - 0x6000
    match sub with
    | 1 => [rF (MDU_MCFG_PER m) ((100000000 + v / 2) / v)] | 2 => [rF (MDU_MCFG_DT m) (v / 5)]
    | 3 => [rF (MDU_MCFG_FLT_FILT m) v, rF (MDU_MCFG_FLT_POL m) (v / 128)] | 4 => [rF (MDU_MTRIG_TRIG_OFS m) v]
    | 6 => [rF (MDU_MMIN_MIN_SPEED m) v] | 7 => [rF (MDU_MRAMP_ACCEL m) v] | 8 => [rF (MDU_MRAMP_DECEL m) v]
    | 9 => [rF (MDU_MSTART_WINDOW m) (v / 100)] | 10 => [rF (MDU_MSTART_PAUSE m) (v / 100)] | 11 => [rF (MDU_MSTART_RETRIES m) v]
    | 12 => [rF (MDU_MSTART_COAST m) (v / 100)] | 13 => [rF (MDU_MTRIG_WDOG m) v] | 14 => [rF (MDU_MTRIG_LATCH m) v]
    | _ => []
  else if 0x6200 ≤ idx ∧ idx < 0x6210 then
    let f := idx - 0x6200
    match sub with
    | 1 => [(MDU_FCFG f, ~~~(wMask 28 1), word v)] | 2 => rWs (MDU_FCURVE f) 8 v | 3 => [rW (MDU_FTRIM f) v] | 4 => [rW (MDU_FIS f) v]
    | 6 => [rF (MDU_FCFG_LATCH f) v] | _ => []
  else if 0x7000 ≤ idx ∧ idx < 0x7020 then
    let n := idx - 0x7000
    match sub with
    | 1 => [rF (AIO_ACTCFG_MODE n) v] | 2 => [rF (AIO_ACTCFG_PULSE n) (v / 10)] | 3 => [rF (AIO_ACTCFG_LATCH n) v]
    | 4 => [rB AIO_ACTOUT n 1 v] | _ => []
  else if 0x7020 ≤ idx ∧ idx < 0x7030 then
    let p := idx - 0x7020
    match sub with
    | 1 => [rF (AIO_PAIRCFG_EN p) v] | 2 => [rF (AIO_PAIRCFG_GAP p) (v / 10)] | 3 => [rF (AIO_PAIRCFG_LATCH p) v]
    | 4 => [rF (AIO_PAIR_DRV p) v] | _ => []
  else if 0x7040 ≤ idx ∧ idx < 0x7058 then
    let n := idx - 0x7040
    if sub = 1 then [rF (AIO_DAC_CODE n) v] else if sub = 2 then [rF (AIO_DAC_LATCH n) v] else []
  else if 0x7100 ≤ idx ∧ idx < 0x7140 then
    let n := idx - 0x7100
    if sub = 1 then [rW (AIO_GPIOCFG n) v]
    else if sub = 3 then [if n < 32 then rB AIO_GPIOOUT_LO n 1 v else rB AIO_GPIOOUT_HI (n - 32) 1 v] else []
  else if 0x7200 ≤ idx ∧ idx < 0x7208 then
    let c := idx - 0x7200
    match sub with
    | 1 => [rF (AIO_I2CCFG_EN c) v] | 2 => [rF (AIO_I2CCFG_SPEED c) v] | 3 => [rF (AIO_I2CCFG_PERIOD c) v]
    | 4 => [rF (AIO_I2CCFG_FAIL_N c) v] | 5 => rWs (fun i => AIO_I2CP c (i / 4) (i % 4)) 64 v | _ => []
  else if idx = 0xA001 then
    match sub with
    | 1 => [rF PMC_CFG_VFAIL (v / 100)] | 3 => [rF PMC_CFG_HOLDWIN v] | 4 => [rF PMC_PSTATE_LOWEST v] | _ => []
  else if idx = 0xA101 then
    match sub with
    | 1 | 2 | 3 | 4 | 5 => [rF (THM_THR_THR (sub - 1)) v] | 6 => [rF THM_CFG_NBR_LIMIT v] | 7 => [rF THM_CFG_CONV_PACE v] | _ => []
  else if idx = 0xB000 then
    match sub with
    | 1 => [rF OBS_CTRL_FREEZE v] | 3 => [rF OBS_CTRL_UNPRIV_READ v] | _ => []
  else if idx = 0xB001 then rWs OBS_MODE 12 v
  else if 0xB300 ≤ idx ∧ idx < 0xB310 then
    let j := idx - 0xB300
    if sub = 1 then [rF (OBS_FSEL_EVENT j) v] else if sub = 2 then [rF (OBS_FSEL_MODE j) v] else []
  else []

/-- The register fields that the runtime sets from an entry's value. -/
def reflects (idx sub v : Nat) : List RegSet :=
  if idx < 0x3000 then reflect0 idx sub v else if idx < 0x6000 then reflect1 idx sub v else reflect2 idx sub v

/-- An FSEL register takes its event and mode together. -/
def fselWhole (d : Dev) (x : RegSet) : RegSet :=
  if OBS_FSEL 0 ≤ x.1 ∧ x.1 < OBS_FSEL 16 then (x.1, BitVec.allOnes 32, (d.rd x.1 &&& ~~~x.2.1) ||| (x.2.2 &&& x.2.1)) else x

/-- Bits of the configuration register at `a` that take no write while its block is enabled, as its own chapter says, judged
by the recorded values of a domain that is off (R164, R182, R226, R234, R331, R340). -/
def enHeld (d : Dev) (a : Nat) : Word :=
  let b := a / 0x10000
  let o := a % 0x10000
  let all : Word := BitVec.allOnes 32
  let on := fun (f : Fld) (m : Word) => if d.cget f ≠ 0 then m else 0
  if b = 0x4030 then
    let u := o / 0x1000
    let q := o % 0x1000
    if q = 0x200 then on (CVU_SEQ_CTRL_EN u) (~~~(wMask 0 1 ||| wMask 31 1))
    else if (0x220 ≤ q ∧ q < 0x240) ∨ (0x300 ≤ q ∧ q < 0x380) then on (CVU_SEQ_CTRL_EN u) all
    else if 0x400 ≤ q ∧ q < 0x600 ∧ q % 0x20 < 12 then
      on (CVU_SCFG_EN u ((q - 0x400) / 0x20)) (if q % 0x20 = 0 then wMask 1 3 else all)
    else 0
  else if 0x4010 ≤ b ∧ b < 0x4030 then
    let n := b - 0x4010
    if 0x100 ≤ o ∧ o < 0x300 ∧ o % 0x20 < 16 then
      on (CE_SCFG_EN n ((o - 0x100) / 0x20)) (if o % 0x20 = 0 then wMask 1 2 ||| wMask 4 1 ||| wMask 16 16 else all)
    else if 0x1000 ≤ o ∧ o < 0x1400 then
      (if (enabledSlots d n).any (fun s => inRange (inWin d n s) ((o - 0x1000) / 4)) then all else 0)
    else if 0x1400 ≤ o ∧ o < 0x1800 then
      (if (enabledSlots d n).any (fun s => inRange (outWin d n s) ((o - 0x1400) / 4)) then all else 0)
    else 0
  else if b = 0x4032 ∧ 0x800 ≤ o ∧ o < 0x1000 then
    on (AIO_I2CCFG_EN ((o - 0x800) / 0x100)) (if o % 0x100 = 0 then wMask 1 1 else if 0x40 ≤ o % 0x100 then all else 0)
  else if b = 0x4033 ∧ o < 0x8000 ∧ o % 0x1000 < 0x10 then
    on ⟨CAN_CFG (o / 0x1000), 0, 3⟩ (if o % 0x1000 = 0 then wMask 3 1 else all)
  else if b = 0x4033 ∧ o < 0x8000 ∧ 0x5F8 ≤ o % 0x1000 ∧ o % 0x1000 < 0x600 then on (CAN_CFG_HEGUS_EN (o / 0x1000)) all
  else 0

/-- A write turns on a slot or a stream of a domain that is off: it starts afresh when the domain is ready (R182, R227). -/
def freshNote (x : RegSet) (d : Dev) : Dev :=
  let o := x.1 % 0x1000
  let scfg := (x.1 / 0x10000 = 0x4030 ∧ 0x400 ≤ o ∧ o < 0x600 ∧ o % 0x20 = 0) ∨
    (0x4010 ≤ x.1 / 0x10000 ∧ x.1 / 0x10000 < 0x4030 ∧ 0x100 ≤ x.1 % 0x10000 ∧ x.1 % 0x10000 < 0x300 ∧ x.1 % 0x20 = 0)
  if scfg ∧ wGet x.2.1 0 1 = 1 ∧ wGet x.2.2 0 1 = 1 ∧ wGet (d.cfg x.1) 0 1 = 0 ∧ !d.pwr.fresh.contains x.1 then
    { d with pwr.fresh := x.1 :: d.pwr.fresh }
  else d

/-- The runtime sets register fields for session `sess`; while the domain is off, its context record takes them (R50). -/
def regApply (sess : Nat) (x : RegSet) (d : Dev) : Dev :=
  if d.readyAt x.1 then
    match findReg x.1 with
    | none => d
    | some (r, _) => let y := fselWhole d x; regPut 0 sess y.1 y.2.2 y.2.1 r d
  else ctxPut x.1 x.2.2 (x.2.1 &&& ~~~(enHeld d x.1)) (freshNote x d)

/-- All fields of an entry. -/
def reflectPut (sess idx sub v : Nat) (d : Dev) : Dev := (reflects idx sub v).foldl (fun d x => regApply sess x d) d

/-- Fields of the entry that are bound, or locked (R10, R18). -/
def entryHeld (d : Dev) (idx sub : Nat) : Bool :=
  (reflects idx sub 1).any (fun x =>
    (boundMask d x.1 &&& x.2.1) != 0 ||
      (match findReg x.1 with | none => false | some (r, _) => (lockedMask d x.1 r &&& x.2.1) != 0))

/-- Field values that a register's description refuses. -/
def entryRefused (d : Dev) (idx sub v : Nat) : Bool :=
  (reflects idx sub v).any (fun x => (refuseMask d x.1 ((d.rd x.1 &&& ~~~x.2.1) ||| (x.2.2 &&& x.2.1)) &&& x.2.1) != 0)

/-! ### The start (R68, R106, R223) -/

/-- Entries that turn a block on, and so are set after its configuration. -/
def isEnable (idx sub : Nat) : Bool :=
  (sub = 1 && (decide (0x3100 ≤ idx ∧ idx < 0x3104) || decide (0x4100 ≤ idx ∧ idx < 0x4300) || decide (0x7200 ≤ idx ∧ idx < 0x7208) ||
    decide (0x1200 ≤ idx ∧ idx < 0x1208) || decide (0x1110 ≤ idx ∧ idx < 0x1117))) ||
  decide (0x3120 ≤ idx ∧ idx < 0x3124)

/-- One restored value reaches its registers or its memory. -/
def entryRestore (k v : Nat) (d : Dev) : Dev :=
  let idx := k / 256
  let sub := k % 256
  if 0x4000 ≤ idx ∧ idx < 0x4020 ∧ sub = 1 then
    let len := min 12288 (v / 2 ^ 64 % 2 ^ 32)
    (engineWrite (idx - 0x4000) 1 0 len v (imageLoad (idx - 0x4000) ⟨len, v⟩) d).2
  else if 0x4000 ≤ idx ∧ idx < 0x4020 ∧ sub = 3 then (engineWrite (idx - 0x4000) 3 0 8 v (libBindWord (idx - 0x4000) v) d).2
  else if 0x1230 ≤ idx ∧ idx < 0x1238 ∧ 1 ≤ sub ∧ sub ≤ 32 then
    { d with win := memWrite d.win (txAddr (idx - 0x1230) (sub - 1)) v 72 }
  else reflectPut 0 idx sub v d

/-- A block that a start turns on has its domain powered (R54, R68). A slot is enabled once its engine's images are loaded (R191, R249). -/
def enableRestore (k v : Nat) (d : Dev) : Dev :=
  let idx := k / 256
  let dom := ceaDom ((idx - 0x4100) / 16)
  if 0x4100 ≤ idx ∧ idx < 0x4300 ∧ v % 2 = 1 ∧ !d.ready dom then wakeDomain dom (holdPart dom (.write 0 idx 1 1 v) d)
  else
  let d := entryRestore k v d
  match (reflects (k / 256) (k % 256) v).findSome? (fun x => domainOf x.1) with
  | some n => if v % 2 = 1 ∧ !d.ready n then wakeDomain n d else d
  | none => d

/-- A value that a start restores: one that is not volatile. -/
def restorable (d : Dev) (k : Nat) : Bool := match persOf d k with | some .nv | some .shd => true | _ => false

/-- The configuration of the entries reaches its registers: values first, then what turns a block on. -/
def restoreAll (d : Dev) : Dev :=
  let l := d.dict.filter (fun e => restorable d e.1)
  let d := (l.filter (fun e => !isEnable (e.1 / 256) (e.1 % 256))).foldl (fun d e => entryRestore e.1 e.2 d) d
  (l.filter (fun e => isEnable (e.1 / 256) (e.1 % 256))).foldl (fun d e => enableRestore e.1 e.2 d) d

end Sys2Proof.Machine
end

