-- ==== Sys2Proof/Machine/DictApply.lean ====
section
/-! DEFINITION. Writes of dictionary entries (R379 to R381): the order of the checks, what each chapter checks and does at a
write of its entries, and several items as one request (R388). Outcomes are status and detail of R394, and the device. -/

namespace Sys2Proof.Machine

/-! ### Encodings (R12, R378) -/

/-- The TYPE code of R378. -/
def tyCode : DTy → Nat
  | .bool => 1 | .u8 => 2 | .u16 => 3 | .u32 => 4 | .u64 => 5 | .i8 => 6 | .i16 => 7 | .i32 => 8 | .i64 => 9
  | .q15 => 10 | .q31 => 11 | .f32 => 12 | .time64 => 13 | .dur32 => 14 | .str _ => 15 | .blob _ => 16 | .record => 17

/-- The TYPE code of an entry of the manual or of the application area. -/
def entTy (d : Dev) (idx : Nat) (e : EntInfo) : Nat :=
  match e.row with
  | some r => tyCode r.ty
  | none => (appDef d idx).getD 0 / 2 ^ 16 % 256

/-- Size of the types of R12 whose size is fixed. -/
def codeSize (ty : Nat) : Nat :=
  match ty with
  | 1 | 2 | 6 => 1
  | 3 | 7 | 10 => 2
  | 4 | 8 | 11 | 12 | 14 => 4
  | 5 | 9 | 13 => 8
  | _ => 0

/-- UTF-8: `k` continuation bytes are still due, the next one between `lo` and `hi`. -/
def utf8Go : Nat → Nat → Nat → List Nat → Bool
  | k, _, _, [] => k = 0
  | 0, _, _, b :: t =>
    if b < 0x80 then utf8Go 0 0 0 t
    else if 0xC2 ≤ b ∧ b ≤ 0xDF then utf8Go 1 0x80 0xBF t
    else if b = 0xE0 then utf8Go 2 0xA0 0xBF t
    else if b = 0xED then utf8Go 2 0x80 0x9F t
    else if 0xE1 ≤ b ∧ b ≤ 0xEF then utf8Go 2 0x80 0xBF t
    else if b = 0xF0 then utf8Go 3 0x90 0xBF t
    else if 0xF1 ≤ b ∧ b ≤ 0xF3 then utf8Go 3 0x80 0xBF t
    else if b = 0xF4 then utf8Go 3 0x80 0x8F t
    else false
  | k + 1, lo, hi, b :: t => if lo ≤ b ∧ b ≤ hi then utf8Go k 0x80 0xBF t else false

/-- The bytes of a string. -/
def octList (c : Octets) : List Nat := (upto c.len).map (fun i => c.at i 1)

/-- A value within an outer range. -/
def inRng (r : Rng) (x : Int) : Bool := decide (r.lo ≤ x ∧ x ≤ r.hi ∧ x % r.step = 0) || decide (r.also = some x)

/-- The number that a value stands for in its type. -/
def tyNum (ty v : Nat) : Int :=
  match ty with
  | 6 => sx 8 v
  | 7 | 10 => sx 16 v
  | 8 | 11 => sx 32 v
  | 9 => sx 64 v
  | _ => (v : Int)

/-- A value lies within the entry's range and encoding (R12, R379 step 6, R380). -/
def valueOk (ty : Nat) (rng : Option Rng) (c : Octets) : Bool :=
  (ty ≠ 1 || c.val ≤ 1) && (ty ≠ 12 || c.val / 2 ^ 23 % 256 ≠ 255) && (ty ≠ 15 || utf8Go 0 0 0 (octList c)) &&
    (match rng with | none => true | some r => inRng r (tyNum ty c.val))

/-! ### A write in progress -/

/-- What a write carries: role and session, the address, the value and its length, the device as the earlier items of the request and this
value would leave it (R388), and whether a block transfer delivers it. -/
structure WCtx where
  role  : Nat
  sess  : Nat
  idx   : Nat
  sub   : Nat
  v     : Nat
  len   : Nat
  fin   : Dev
  block : Bool
  /-- the write was accepted before and has waited for its domain -/
  held  : Bool := false

/-- The value is stored and its register fields are set. -/
def WCtx.keep (c : WCtx) (d : Dev) : Nat × Nat × Dev := okRes (reflectPut c.sess c.idx c.sub c.v (d.setEnt c.idx c.sub c.v))

/-- A command in the block of domain `n`, whose value is stored unless the command is refused: performed now, or held until the domain is
ready, which it wakes. A refusal that stands already is given at once (R17, R379, R381). -/
def WCtx.inDom (c : WCtx) (n : Nat) (f : Dev → Nat × Nat × Dev) (d : Dev) : Nat × Nat × Dev :=
  let put := fun (d : Dev) => d.setEnt c.idx c.sub c.v
  if d.ready n then
    let r := f (put d)
    if r.1 = 0 then r else f d
  else
    let r := f (domView n (put d))
    if r.1 ≠ 0 then (r.1, r.2.1, d)
    else okRes (wakeDomain n (holdPart n (.write c.sess c.idx c.sub c.len c.v) (put d)))

/-- A command entry: the value is stored, and 1 performs the command. -/
def WCtx.cmd (c : WCtx) (n : Nat) (f : Dev → Dev) (d : Dev) : Nat × Nat × Dev :=
  if c.v = 1 then c.inDom n (fun d => okRes (f d)) d else okRes (d.setEnt c.idx c.sub c.v)

/-- A write that turns a block of domain `n` on: its configuration entries `subs` reach the registers, which take no writes
while it is on, and the check decides; `report` is the refused write of EN, which records the code (R164, R226). A block that is on is
checked again (R381). -/
def WCtx.enable (c : WCtx) (n : Nat) (was : Bool) (subs : List Nat) (check : Dev → Nat) (report : Dev → Dev) (d : Dev) :
    Nat × Nat × Dev :=
  if c.v = 0 then c.keep d
  else if was then
    let k := check (if d.ready n then d else domView n d)
    if k ≠ 0 then chkRes k d else c.keep d
  else
    let d := subs.foldl (fun d s => reflectPut c.sess c.idx s (d.ent c.idx s) d) d
    if d.ready n then
      let k := check d
      if k ≠ 0 then chkRes k (report d) else c.keep d
    else
      let x := domView n d
      let k := check x
      if k ≠ 0 then chkRes k (wakeDomain n ((report x).setN PMC_DOMSTAT_READY n false))
      else
        let r := c.keep d
        (r.1, r.2.1, wakeDomain n r.2.2)

/-! ### Identity, network, CAN and sessions: indices below 0x2000 -/

/-- The definition words of a schema. -/
def schemaWords (v : Nat) : List Nat := ((upto 512).map (fun i => v / 2 ^ (64 * i) % 2 ^ 64)).takeWhile (· ≠ 0)

/-- One definition keeps the table of R408. -/
def schemaWordOk (w : Nat) : Bool :=
  let idx := w % 65536
  let ty := w / 2 ^ 16 % 256
  let size := w / 2 ^ 32 % 65536
  let wr := w / 2 ^ 24 % 16
  decide (0xC000 ≤ idx ∧ idx ≤ 0xEFFF ∧ 1 ≤ ty ∧ ty ≤ 16 ∧ w / 2 ^ 28 % 16 ≤ 3 ∧ (wr ≤ 3 ∨ wr = 15) ∧ w / 2 ^ 48 % 256 ≤ 2 ∧
    w / 2 ^ 56 = 0 ∧ (if 15 ≤ ty then 1 ≤ size ∧ size ≤ 256 else size = codeSize ty))

/-- Indices strictly ascending. -/
def ascending : List Nat → Bool
  | a :: b :: t => decide (a % 65536 < b % 65536) && ascending (b :: t)
  | _ => true

/-- Bytes of the definitions with persistence `p`. -/
def schemaBytes (p : Nat) (l : List Nat) : Nat := l.foldl (fun n w => if w / 2 ^ 48 % 256 = p then n + w / 2 ^ 32 % 65536 else n) 0

/-- A schema takes effect: values stand where the definition does, and subscriptions to removed entries end (R408). -/
def schemaPut (v : Nat) (d : Dev) : Dev :=
  let old := schemaWords (d.ent 0x0C00 0)
  let new := schemaWords v
  let kept := fun (k : Nat) => !(decide (0xC00000 ≤ k ∧ k < 0xF00000)) ||
    old.any (fun w => w % 65536 = k / 256 && new.contains w)
  subsCheck (raise .APP_SCHEMA_CHANGED [] ({ d with dict := tabKeep kept d.dict }.setEnt 0x0C00 0 v))

/-- A write of APP_SCHEMA (R408). -/
def schemaOp (v : Nat) (d : Dev) : Nat × Nat × Dev :=
  let l := schemaWords v
  if !(l.all schemaWordOk && ascending l) then errRes 3 d
  else if 16384 < schemaBytes 1 l ∨ 8192 < schemaBytes 2 l then errRes 9 d
  else okRes (schemaPut v d)

/-- A timed request leaves the pending state. -/
def timedEnd (id st detail : Nat) (d : Dev) : Dev :=
  { d with heg.timed := d.heg.timed.map (fun t => if t.id = id then { t with state := st, detail := detail } else t) }

/-- The entry of book 14 that belongs to a timed request. -/
def timedEntry (d : Dev) (id : Nat) : Option Nat :=
  ((upto 248).map (14 * 256 + 8 + ·)).find? (fun e =>
    let w := ldgEntry d e
    w.en && w.action = 0x11 && w.value = 0x14000000 + id)

/-- Session `n` is the one with identity `sid`. -/
def isSess (d : Dev) (n sid : Nat) : Bool := (d.session n).any (fun s => decide (s.sid = sid))

/-- A write of TIMED CANCEL: by the session that was accepted, or by an ENGINEER (R390). -/
def timedCancelOp (role sess id : Nat) (d : Dev) : Nat × Nat × Dev :=
  match d.heg.timed.find? (fun t => t.id = id ∧ t.state = 1 ∧ !d.ldg.events.contains (0x14000000 + id)) with
  | none => errRes 7 d
  | some t =>
    if role < 2 ∧ !(t.sess = sess ∧ isSess d sess t.sid) then errRes 5 d
    else
      let d := match timedEntry d id with
        | some e => entryRemove e d
        | none => d
      okRes (timedEnd id 4 0 (d.setEnt 0x1010 5 id))

/-- A heartbeat (R288, R406). -/
def floorBeat (d : Dev) : Dev :=
  let limit := d.ent 0x1F01 0 * 1000000000
  let near : Bool := match d.floor.beat with
    | some t => decide (d.now ≤ t + limit)
    | none => false
  let st := d.ent 0x5500 1
  let n := if st = 2 ∧ near then d.floor.beats + 1 else 1
  let d : Dev := { d with floor.beat := some d.now, floor.beats := n }
  if limit = 0 ∨ st = 0 then d.setEnt 0x5500 1 0
  else if st = 2 ∧ 3 ≤ n then raise .HOST_BACK [] (d.setEnt 0x5500 1 0)
  else d.setEnt 0x5500 1 2

/-- VLAN word `i` of a value of VLANS. -/
def vlanAt (v i : Nat) : Nat := blobW v i
/-- The value keeps an enabled entry for `vid` that includes port 6. -/
def vlanMgmt (v vid : Nat) : Bool :=
  (upto 16).any (fun i => let w := vlanAt v i; w / 2 ^ 31 = 1 && w % 4096 = vid && (w / 2 ^ 12).testBit 6)
/-- Two enabled entries share a VID. -/
def vlanTwice (v : Nat) : Bool :=
  let l := ((upto 16).map (vlanAt v)).filter (fun w => decide (w / 2 ^ 31 = 1))
  (l.map (· % 4096)).eraseDups.length ≠ l.length

/-- A change of the addressing applies at once and closes the sessions of the old address (R376). -/
def addrChange (d : Dev) : Dev :=
  let l := (d.heg.sessions.filter (fun s => s.via = .udp)).map (·.num)
  addrRestart (l.foldl (fun d n => closeSession n d) d)

/-- Index and sub-index of item `i` of publication `k`. -/
def pubItem (d : Dev) (k i : Nat) : Nat × Nat :=
  let x := d.ent (0x1300 + k) 5 / 2 ^ (32 * i)
  (x % 65536, x / 65536 % 256)

/-- Size of the PUBLISH message of publication `k` (R384, R387, R405). -/
def pubSize (d : Dev) (k : Nat) : Nat :=
  (upto (d.ent (0x1300 + k) 4)).foldl (fun n i =>
    let x := pubItem d k i
    n + 6 + (match entInfo x.1 x.2 d with | some e => e.size | none => 0)) 22

/-- Writes of entries below 0x2000. -/
def entOp1 (c : WCtx) (d : Dev) : Nat × Nat × Dev :=
  let idx := c.idx
  let sub := c.sub
  let v := c.v
  if idx = 0x0100 ∧ sub = 2 ∨ idx = 0x1010 ∧ sub = 2 then okRes (sessPut c.sess idx sub v d)
  else if idx = 0x0C00 then schemaOp v d
  else if idx = 0x1010 ∧ sub = 5 then timedCancelOp c.role c.sess v d
  else if idx = 0x1100 ∧ 2 ≤ sub ∧ sub ≤ 7 then
    if sub = 2 ∧ !vlanMgmt (c.fin.ent 0x1120 0) v then errRes 3 d
    else if sub = 4 ∧ v ≠ 0 ∧ !(decide (1 ≤ v / 2 ^ 128 ∧ v / 2 ^ 128 ≤ 128)) then errRes 3 d
    else if sub = 7 ∧ v ≠ 0 ∧ !(decide (1 ≤ v / 2 ^ 32 % 256 ∧ v / 2 ^ 32 % 256 ≤ 32)) then errRes 3 d
    else okRes (addrChange (d.setEnt idx sub v))
  else if 0x1110 ≤ idx ∧ idx < 0x1117 then
    if sub = 4 then
      if idx = 0x1116 then errRes 7 d else c.cmd 8 (cableStart (idx - 0x1110)) d
    else c.keep d
  else if idx = 0x1120 then
    if vlanTwice v ∨ !vlanMgmt v (c.fin.ent 0x1100 2) then errRes 3 d else c.keep d
  else if 0x1200 ≤ idx ∧ idx < 0x1208 ∧ sub = 1 then
    let n := idx - 0x1200
    if c.v % 8 = 0 then c.keep d
    else if d.cget ⟨CAN_CFG n, 0, 3⟩ ≠ 0 then
      let k := channelCheck (if d.ready 9 then d else domView 9 d) n (v % 8)
      if k ≠ 0 then chkRes k d else c.keep d
    else if !d.ready 9 then
      let x := reflectPut c.sess idx 1 (v / 8 * 8) (domView 9 d)
      let k := channelCheck x n (v % 8)
      if k ≠ 0 then chkRes k (wakeDomain 9 ((modeRefuse n k (domView 9 d)).setN PMC_DOMSTAT_READY 9 false))
      else (let r := c.keep d; (r.1, r.2.1, wakeDomain 9 r.2.2))
    else
      let x := [2, 3, 4, 5, 6, 7].foldl (fun d s => reflectPut c.sess idx s (d.ent idx s) d) d
      let x := reflectPut c.sess idx 1 (v / 8 * 8) x
      let k := channelCheck x n (v % 8)
      if k ≠ 0 then chkRes k (modeRefuse n k d) else c.keep x
  else if 0x1220 ≤ idx ∧ idx < 0x1228 ∧ sub = 2 then
    c.inDom 9 (fun d => okRes (hushRequest (idx - 0x1220) (v % 128) (v / 65536) false d)) d
  else if 0x1220 ≤ idx ∧ idx < 0x1228 ∧ sub = 3 then
    c.inDom 9 (fun d => okRes (segOffOp (idx - 0x1220) (v = 1) d)) d
  else if 0x1220 ≤ idx ∧ idx < 0x1228 ∧ sub = 4 then c.cmd 9 (segClearOp (idx - 0x1220)) d
  else if 0x1230 ≤ idx ∧ idx < 0x1238 then
    let n := idx - 0x1230
    if sub = 33 then c.inDom 9 (fun d => okRes (txRequest n v d)) d
    else if sub = 34 then c.inDom 9 (fun d => okRes (txCancel n v d)) d
    else if 31 ≤ sub ∧ d.cget (CAN_CFG_HEGUS_EN n) = 1 then okRes d
    else if d.ready 9 ∧ (txStatus d n (sub - 1) = 1 ∨ txStatus d n (sub - 1) = 2) then errRes 7 d
    else okRes { d.setEnt idx sub v with win := memWrite d.win (txAddr n (sub - 1)) v 72 }
  else if 0x1300 ≤ idx ∧ idx < 0x1340 then
    if 1200 < pubSize (d.setEnt idx sub v) (idx - 0x1300) then errRes 3 d else c.keep d
  else if idx = 0x1F00 then okRes (if 1 ≤ c.role then floorBeat (d.setEnt idx sub v) else d.setEnt idx sub v)
  else if idx = 0x1F01 then okRes (if v = 0 then (d.setEnt idx sub v).setEnt 0x5500 1 0 else d.setEnt idx sub v)
  else c.keep d

/-! ### Time and ledger: indices 0x2000 to 0x2FFF -/

/-- Writes of entries of the time and ledger areas. -/
def entOp2 (c : WCtx) (d : Dev) : Nat × Nat × Dev :=
  let idx := c.idx
  let sub := c.sub
  let v := c.v
  if idx = 0x2001 then
    if sub = 1 ∧ v = 3 ∧ c.fin.ent 0xA001 8 = 0 then (0x12, 3, d)
    else if sub ≤ 4 then c.keep d
    else okRes (d.setEnt idx sub v)
  else if idx = 0x2003 then okRes (setTime v (d.setEnt idx sub v))
  else if idx = 0x2005 then okRes (ldgRecompute d (d.setEnt idx sub v))
  else if 0x2010 ≤ idx ∧ idx < 0x2014 then
    if (sub = 3 ∨ sub = 4) ∧ !ruleWordOk v then errRes 3 d
    else if (sub = 3 ∨ sub = 4) ∧ !rulePairOk (c.fin.ent idx 3) (c.fin.ent idx 4) then errRes 3 d
    else okRes (ruleChange (idx - 0x2010) [(sub, v)] d)
  else if idx = 0x2020 then okRes (ldgRecompute d (d.setEnt idx sub v))
  else if idx = 0x2030 ∧ sub = 3 then okRes (if v = 1 then hoClear (d.setEnt idx sub v) else d.setEnt idx sub v)
  else if 0x2110 ≤ idx ∧ idx < 0x2120 then
    let b := idx - 0x2110
    if sub = 1 then
      if v = 1 then
        let r := armRequest b d
        if r.1 = 0 then okRes (r.2.2.setEnt idx sub v)
        else if r.1 = 5 then errRes 7 r.2.2
        else (0xD + r.1, 256 * b + r.2.1, r.2.2)
      else
        let r := disarmRequest b d
        if r.1 = 0 then okRes (r.2.setEnt idx sub v) else errRes 7 r.2
    else if sub = 4 then
      if signedNeeded d ∨ partState d (0x600 + b) = 1 then errRes 7 d else bookImageOp b v d
    else if sub = 2 then c.keep { d with ldg.imgArm := d.ldg.imgArm.filter (fun x => x.1 ≠ b) }
    else c.keep d
  else if idx = 0x2130 ∧ sub ≤ 2 then okRes (sessPut c.sess idx sub v d)
  else if idx = 0x2130 ∧ sub = 3 then
    if v = 0 then okRes (d.setEnt idx sub v)
    else
      let e := sessVal d c.sess 0x2130 1
      let x := sessVal d c.sess 0x2130 2
      let b := e / 256
      if bookRoleOf b = 5 ∨ c.role < bookRoleOf b then errRes 5 d
      else
        let k := entryCheck b (LWords.ofNat x)
        if k ≠ 0 then (0xD + k, e, d)
        else
          let n := storeErr d 32
          if n.1 ≠ 0 then storeRefuse n d
          else okRes (entryCommit e x (storeWrite (imagePut b (e % 256) x (d.setEnt idx sub v))))
  else c.keep d

/-! ### Converter units: indices 0x3000 to 0x3FFF -/

/-- Writes of entries of the converter area. -/
def entOp3 (c : WCtx) (d : Dev) : Nat × Nat × Dev :=
  let idx := c.idx
  let sub := c.sub
  let v := c.v
  let u := idx % 16
  if 0x3010 ≤ idx ∧ idx < 0x3014 then
    if sub = 1 ∧ 4096 ≤ v then errRes 3 d
    else if sub = 4 then
      if 512 ≤ v then errRes 3 d else c.inDom (cvuDom u) (fun d => okRes (cvuShow u (requalify u v d))) d
    else c.keep d
  else if 0x3020 ≤ idx ∧ idx < 0x3024 then
    if sub = 2 ∨ sub = 3 then
      if signedNeeded d ∨ (d.cvuS u).bank = sub - 2 ∨ partState d (0x400 + u) = 1 then errRes 7 d
      else if !calsetOk v then chkRes 1 d
      else okRes (d.setEnt idx sub v)
    else if sub = 4 then activateWrite (0x400 + u) v c.role c.sess d
    else if sub = 6 then (if v = 1 then healthFailOp (0x400 + u) d else okRes (d.setEnt idx sub v))
    else c.keep d
  else if 0x3100 ≤ idx ∧ idx < 0x3104 then
    if sub = 1 then
      c.enable (cvuDom u) (d.cget (CVU_SEQ_CTRL_EN u) = 1) [2, 3, 4, 5, 6, 7, 8] (fun d => (seqCheck d u).1) (seqEnable u) d
    else if (sub = 7 ∨ sub = 8) ∧ d.ent idx 1 = 1 then errRes 7 d
    else c.keep d
  else if 0x3120 ≤ idx ∧ idx < 0x3124 then
    let s := sub - 1
    let d' := regApply c.sess (rB (CVU_SCFG u s) 0 1 0) d
    if v % 2 = 1 then
      let d' := (reflects idx sub (v - 1)).foldl (fun d x => regApply c.sess x d) d'
      let r := d.ready (cvuDom u)
      let x := if r then d' else domView (cvuDom u) d'
      let k := streamCheck x u s
      if k = 0 then c.keep d'
      else if r then chkRes k (streamEnable u s false d')
      else chkRes k (wakeDomain (cvuDom u) ((streamEnable u s false x).setN PMC_DOMSTAT_READY (cvuDom u) false))
    else c.keep d'
  else if 0x3140 ≤ idx ∧ idx < 0x3144 then
    c.inDom (cvuDom u) (fun d =>
      if injRefusal d u v ≠ 0 then errRes 3 (cvuInject u v d) else okRes (cvuInjectBus u v d)) d
  else c.keep d

/-! ### Control engines: indices 0x4000 to 0x4FFF -/

/-- The first route that the words of `v` change and that lies in a window of an enabled slot, with that slot (R234). -/
def routeHeld (d : Dev) (n : Nat) (out : Bool) (v old : Nat) : Option (Nat × Nat) :=
  (upto 256).findSome? (fun p =>
    if blobW v p = blobW old p then none
    else ((enabledSlots d n).find? (fun s => inRange (if out then outWin d n s else inWin d n s) p)).map (fun s => (s, p)))

/-- A write of the routes of engine `n`: refused whole with code 9 where a changed one is held by an enabled slot; otherwise the changed
ones are written (R234). -/
def routesWrite (c : WCtx) (n : Nat) (out : Bool) (d : Dev) : Nat × Nat × Dev :=
  match routeHeld d n out c.v (d.ent c.idx c.sub) with
  | some x => chkRes 9 (cfgErr n x.1 9 x.2 d)
  | none =>
    let l := (reflects c.idx c.sub c.v).filter (fun x => (x.2.2 ^^^ d.cfg x.1) &&& x.2.1 ≠ 0)
    okRes (l.foldl (fun d x => regApply c.sess x d) (d.setEnt c.idx c.sub c.v))

/-- Writes of entries of the engine area. -/
def entOp4 (c : WCtx) (d : Dev) : Nat × Nat × Dev :=
  let idx := c.idx
  let sub := c.sub
  let v := c.v
  if idx < 0x4020 then
    let n := idx - 0x4000
    match sub with
    | 1 =>
      if signedNeeded d ∧ !c.held then errRes 7 d
      else
        let r := engineWrite n 1 c.sess c.len v (imageLoad n ⟨c.len, v⟩) d
        if r.1 then okRes r.2 else chkRes (r.2.get (CE_LOADSTAT_RESULT n)) r.2
    | 3 =>
      if signedNeeded d ∧ !c.held then errRes 7 d
      else
        let r := engineWrite n 3 c.sess c.len v (libBindWord n v) d
        if r.1 then okRes r.2 else chkRes (r.2.get (CE_LOADSTAT_RESULT n)) r.2
    | 4 => let r := engineWrite n 4 c.sess c.len v (removeProg n v) d; if r.1 then okRes r.2 else errRes 7 r.2
    | 5 | 6 => routesWrite c n (sub = 6) d
    | _ => c.keep d
  else if 0x4100 ≤ idx ∧ idx < 0x4300 then
    let n := (idx - 0x4100) / 16
    let s := idx % 16
    if sub = 1 then
      c.enable (ceaDom n) (d.cget (CE_SCFG_EN n s) = 1) [2, 3, 4, 5, 6, 7, 8] (fun d => (slotCheck d n s).1) (slotEnable n s) d
    else if sub = 9 then c.cmd (ceaDom n) (fun d => followUp (slotTrig n s false d)) d
    else if sub = 10 then c.cmd (ceaDom n) (slotArm n s) d
    else c.keep d
  else if 0x4300 ≤ idx ∧ idx < 0x4320 then
    let n := idx - 0x4300
    if sub ≤ 6 then (if (d.eng n).swap.st = 1 then errRes 7 d else c.keep d)
    else if sub = 7 then swapActWrite n v c.role c.sess d
    else if sub = 9 then (if v = 1 then healthFailOp (0x300 + n) d else okRes (d.setEnt idx sub v))
    else c.keep d
  else if 0x4800 ≤ idx ∧ idx < 0x4C00 then
    let k := idx - 0x4800
    let d := d.setEnt idx sub v
    okRes { d with cea.hostIn := if d.cea.hostIn.contains k then d.cea.hostIn else d.cea.hostIn ++ [k] }
  else c.keep d

/-! ### Zones, schedules, lighting, drives: indices 0x5000 to 0x6FFF -/

/-- A source word (R261). -/
def srcOk (w : Nat) : Bool :=
  let i := w / 16 % 4096
  w / 2 ^ 48 = 0 &&
    (match w % 16 with | 0 => true | 1 => decide (i ≤ 131) | 2 => decide (i ≤ 255) | 3 => decide (i ≤ 1023) | 4 => i = 0 | _ => false)

/-- SETPOINTS (R266). -/
def setpointsOk (v : Nat) : Bool :=
  (upto 4).all (fun m => decide (sx 16 (v / 2 ^ (32 * m)) + 50 ≤ sx 16 (v / 2 ^ (32 * m + 16))))

/-- A day profile (R280). -/
def profileOk (v : Nat) : Bool :=
  let l := (upto 8).map (blobW v)
  let on := (l.filter (fun w => w.testBit 20)).map (· % 2 ^ 17)
  l.all (fun w => decide (w % 2 ^ 17 < 86400 ∧ w / 2 ^ 17 % 8 ≤ 4 ∧ w / 2 ^ 21 = 0)) && on.eraseDups.length = on.length

/-- An exception (R281). -/
def exceptionOk (v : Nat) : Bool :=
  decide (v % 65536 ≤ v / 2 ^ 16 % 65536 ∧ v / 2 ^ 51 % 16 = 0 ∧ v / 2 ^ 56 ≤ 4)

/-- One lighting rule of 12 bytes (R285, R108). -/
def lightRuleOk (x : Nat) : Bool :=
  let ta := x % 2 ^ 32
  let tb := x / 2 ^ 32 % 2 ^ 32
  let k := x / 2 ^ 64 % 256
  if k = 0 then x / 2 ^ 80 = 0
  else decide (k ≤ 2 ∧ x / 2 ^ 72 % 256 ≤ 1 ∧ x / 2 ^ 80 % 65536 = 0) &&
    entryCheck 0 ⟨1 + 2 * k, ta, tb, 0, 0, 1, 0, 0⟩ = 0

/-- RULES. -/
def lightRulesOk (v : Nat) : Bool := (upto 4).all (fun i => lightRuleOk (v / 2 ^ (96 * i) % 2 ^ 96))

/-- Lighting groups that share a latch group have identical RULES, PROGRAM and ON_MODE (R285). -/
def lightsAgree (d : Dev) : Bool :=
  (upto 128).all (fun g =>
    let l := d.ent (0x5400 + g) 2
    l = 255 || (upto g).all (fun h => d.ent (0x5400 + h) 2 ≠ l ||
      [8, 9, 10].all (fun s => d.ent (0x5400 + h) s = d.ent (0x5400 + g) s)))

/-- Entries whose change recompiles the day book (R283). -/
def schedEntry (idx sub : Nat) : Bool :=
  decide (0x5300 ≤ idx ∧ idx ≤ 0x5310) || (decide (0x5400 ≤ idx ∧ idx < 0x5480) && sub ≤ 10) || idx = 0x2020 ||
    decide (0x2010 ≤ idx ∧ idx < 0x2014)

/-- A motor's or fan's RUN or TARGET field is bound (R310). -/
def driveBound (d : Dev) (n : Nat) : Bool :=
  if n < 8 then
    (boundMask d (MDU_MCMD n) &&& (wMask (MDU_MCMD_RUN n).lo (MDU_MCMD_RUN n).width ||| wMask (MDU_MCMD_TARGET n).lo (MDU_MCMD_TARGET n).width)) != 0
  else (boundMask d (MDU_FTGT (n - 8)) &&& wMask (MDU_FTGT_TARGET (n - 8)).lo (MDU_FTGT_TARGET (n - 8)).width) != 0

/-- Writes of entries of zones, schedules and lighting. -/
def entOp5 (c : WCtx) (d : Dev) : Nat × Nat × Dev :=
  let idx := c.idx
  let sub := c.sub
  let v := c.v
  if idx < 0x5100 then
    if (2 ≤ sub ∧ sub ≤ 5 ∨ sub = 10) ∧ !srcOk v then errRes 3 d
    else if sub = 12 ∧ 4096 ≤ v then errRes 3 d
    else okRes (d.setEnt idx sub v)
  else if idx < 0x5200 then
    if sub = 1 ∧ !setpointsOk v then errRes 3 d
    else if sub = 8 then okRes (stamp 4 (idx - 0x5100) (d.setEnt idx sub v))
    else if sub = 9 then okRes (d.setEnt idx sub (v / 65536 * 65536))
    else okRes (d.setEnt idx sub v)
  else if 0x5300 ≤ idx ∧ idx < 0x5310 then
    if 2 ≤ sub ∧ sub ≤ 8 ∧ !profileOk v then errRes 3 d else okRes (d.setEnt idx sub v)
  else if idx = 0x5310 then (if exceptionOk v then okRes (d.setEnt idx sub v) else errRes 3 d)
  else if 0x5400 ≤ idx ∧ idx < 0x5480 then
    if sub = 10 ∧ !lightRulesOk v then errRes 3 d
    else if (sub = 2 ∨ 8 ≤ sub ∧ sub ≤ 10) ∧ !lightsAgree c.fin then errRes 3 d
    else okRes (d.setEnt idx sub v)
  else if idx = 0x5500 then
    if (sub = 18 ∨ sub = 19) ∧ c.fin.ent idx 19 ≤ c.fin.ent idx 18 then errRes 3 d else okRes (d.setEnt idx sub v)
  else okRes (d.setEnt idx sub v)

/-- Writes of entries of motors, fans, drives and maps. -/
def entOp6 (c : WCtx) (d : Dev) : Nat × Nat × Dev :=
  let idx := c.idx
  let sub := c.sub
  let v := c.v
  if 0x6000 ≤ idx ∧ idx < 0x6008 then
    if sub = 16 then c.cmd 6 (motorClear (idx - 0x6000)) d
    else if sub = 3 ∧ v.testBit 6 then errRes 3 d
    else c.keep d
  else if 0x6100 ≤ idx ∧ idx < 0x6118 then
    if sub = 1 ∧ v = 1 ∧ driveBound d (idx - 0x6100) then errRes 7 d else okRes (d.setEnt idx sub v)
  else if 0x6200 ≤ idx ∧ idx < 0x6210 ∧ sub = 10 then c.cmd 6 (fanClear (idx - 0x6200)) d
  else if 0x6300 ≤ idx ∧ idx < 0x6310 then
    if sub = 4 ∧ 512 ≤ v then errRes 3 d else okRes (d.setEnt idx sub v)
  else if 0x6400 ≤ idx ∧ idx < 0x6418 ∧ sub = 1 then okRes (ageLearn (idx - 0x6400) (v = 1) (d.setEnt idx sub v))
  else c.keep d

/-! ### I/O and non-volatile store: indices 0x7000 to 0x8FFF -/

/-- The status of an NVS operation as a response. -/
def nvRes (r : Nat × Dev) : Nat × Nat × Dev := if r.1 = 0 then okRes r.2 else (0x11, r.1, r.2)

/-- The runtime carries out an NVS operation for a session: not while the debug port owns the interface, nor after a line failure, where
the refusal of one with an energy check is counted (R421, R422, R435). -/
def sessNv (energy : Bool) (f : Dev → Nat × Dev) (d : Dev) : Nat × Nat × Dev :=
  if d.get NVS_STAT_OWNER = 12 then errRes 6 d
  else if d.bit PMC_LINE_FAIL then (0x11, 1, if energy then lowPower d else d)
  else nvRes (f d)

/-- Writes of entries of the I/O area. -/
def entOp7 (c : WCtx) (d : Dev) : Nat × Nat × Dev :=
  let idx := c.idx
  let sub := c.sub
  if 0x7200 ≤ idx ∧ idx < 0x7208 then
    let n := idx - 0x7200
    if sub = 1 then
      c.enable 7 (d.cget (AIO_I2CCFG_EN n) = 1) [2, 3, 4, 5] (fun d => ((i2cCheck d n).map (·.2)).getD 0) (i2cEnable n) d
    else if sub = 5 ∧ d.ent idx 1 = 1 then errRes 7 d
    else c.keep d
  else c.keep d

/-- Writes of entries of the NV area. -/
def entOp8 (c : WCtx) (d : Dev) : Nat × Nat × Dev :=
  let idx := c.idx
  let sub := c.sub
  let v := c.v
  if idx = 0x8001 ∧ sub = 2 then
    let d := d.setEnt idx sub v
    okRes (if v = 0 then d else ckptAsk d)
  else if 0x8010 ≤ idx ∧ idx < 0x8018 then
    let r := idx - 0x8010
    if sub = 3 then
      if v = 1 ∧ 0x220 ≤ d.ent idx 1 ∧ d.ent idx 1 < 0x220 + storePages d then errRes 7 d
      else sessNv false (setRegionOp c.sess r (d.ent idx 1) (d.ent idx 2) (v = 1)) d
    else if sub = 6 then if 2 ≤ v % 256 then errRes 3 d else sessNv false (setPwdOp r (v % 256) (v / 2 ^ 8 % 2 ^ 128) (v / 2 ^ 136 % 2 ^ 128)) d
    else c.keep d
  else if idx = 0x8020 then
    match sub with
    | 1 => okRes (sessPut c.sess idx sub v d)
    | 2 => sessNv true (nvPut c.sess (sessVal d c.sess 0x8020 1) ((upto c.len).map (fun i => v / 256 ^ i % 256))) d
    | 3 => sessNv false (unlockOp c.sess (v % 256) (v / 256 % 2) (v / 2 ^ 16)) d
    | _ => sessNv false (relockOp c.sess (v % 8) (v / 128)) d
  else c.keep d

/-! ### Security and update: indices 0x9000 to 0x9FFF -/

/-- A CONFIRM of a configuration set (R460). -/
def confirmOp (part : Nat) (c : WCtx) (d : Dev) : Nat × Nat × Dev :=
  let a := d.act part
  if c.v = 0 then okRes (d.setEnt c.idx c.sub c.v)
  else if a.st ≠ 2 then errRes 7 d
  else okRes ((d.setAct part { a with confirmed := true }).setEnt c.idx c.sub c.v)

/-- Writes of entries of the security area. -/
def entOp9 (c : WCtx) (d : Dev) : Nat × Nat × Dev :=
  let idx := c.idx
  let sub := c.sub
  let v := c.v
  if idx = 0x9001 then lcRequestOp (v % 256) (v / 256) d
  else if idx = 0x9002 then certifiedModeOp (v = 1) d
  else if idx = 0x9003 then okRes (if d.sec.lcs = 2 then d else d.setEnt idx sub v)
  else if idx = 0x9005 then attestOp c.sess v d
  else if idx = 0x9006 then
    let r := match d.sec.opKey with
      | some k => (k, d)
      | none => let f := d.freeVal; (f.1, { f.2 with sec.opKey := some f.1 })
    okRes (r.2.setEnt idx sub (Config.crypto 4 [v, r.1] % 256 ^ 1024))
  else if idx = 0x9010 then recoveryImageOp ⟨c.len, v⟩ d
  else if 0x9100 ≤ idx ∧ idx < 0x9104 then (if anchorSigned d then errRes 7 d else c.keep d)
  else if 0x9110 ≤ idx ∧ idx < 0x9128 then
    if d.sec.lcs = 3 then errRes 7 d else okRes { d.setEnt idx sub v with sec.newKeys := false }
  else if idx = 0x9200 ∧ sub = 2 then updateContainerOp c.role ⟨c.len, v⟩ d
  else if idx = 0x93F0 then (if groupsBad d v then errRes 7 d else c.keep d)
  else if 0x9300 ≤ idx ∧ idx < 0x9338 then
    match partOf idx with
    | none => c.keep d
    | some part =>
      match sub with
      | 1 => activateWrite part v c.role c.sess d
      | 3 => if v = 1 then healthFailOp part d else okRes (d.setEnt idx sub v)
      | 5 => confirmOp part c d
      | 6 | 7 => if partState d part = 1 then errRes 7 d else c.keep d
      | _ => c.keep d
  else c.keep d

/-! ### Power, thermal management, counters, mirror: indices from 0xA000 -/

/-- A write of 1 to OUTPUTS_RELEASE (R69, R441). -/
def grantOp (role : Nat) (d : Dev) : Nat × Nat × Dev :=
  if d.pwr.step < 6 then errRes 6 d
  else if d.sec.lcs = 3 ∨ d.sec.recovery.isSome then errRes 7 d
  else if d.pwr.shortfall ∧ role < 3 ∧ d.ent 0xA001 6 = 0 then errRes 5 d
  else okRes (releaseGrant d)

/-- The value of a counter entry is written: [47:0] stored, [63] written 1 clears the overflow bit. -/
def cntWrite (k v : Nat) (d : Dev) : Nat × Nat × Dev :=
  let d := cntPut k (v % 2 ^ 48) d
  okRes (if v.testBit 63 then ovfClear (k / 32) (wMask (k % 32) 1) d else d)

/-- Writes of entries from 0xA000. -/
def entOpA (c : WCtx) (d : Dev) : Nat × Nat × Dev :=
  let idx := c.idx
  let sub := c.sub
  let v := c.v
  if idx = 0xA010 then
    if v = 1 then (let r := grantOp c.role d; if r.1 = 0 then okRes (r.2.2.setEnt idx sub v) else r)
    else okRes ((if d.pwr.released then releaseWithdraw d else d).setEnt idx sub v)
  else if idx = 0xA001 ∧ sub = 8 ∧ v = 0 ∧ c.fin.ent 0x2001 1 = 3 then (0x12, 3, d)
  else if idx = 0xB000 ∧ sub = 2 then okRes (if v = 1 then snapRequest (d.setEnt idx sub v) else d.setEnt idx sub v)
  else if 0xB100 ≤ idx ∧ idx < 0xB280 then cntWrite (idx - 0xB100) v d
  else if 0xB300 ≤ idx ∧ idx < 0xB310 ∧ sub = 3 then cntWrite (384 + (idx - 0xB300)) v d
  else if 0xF000 ≤ idx ∧ idx < 0xF039 then
    let b := idx - 0xF000
    match sub with
    | 1 => okRes (sessPut c.sess idx sub v d)
    | 2 => okRes (mirrorAccess c.sess b (some v) d)
    | _ => okRes (mirrorInc c.sess b (some v) d)
  else c.keep d

/-- What a write of an entry does once the checks of R379 that do not depend on the chapter have passed. -/
def entOp (c : WCtx) (d : Dev) : Nat × Nat × Dev :=
  if c.idx < 0x2000 then entOp1 c d
  else if c.idx < 0x3000 then entOp2 c d
  else if c.idx < 0x4000 then entOp3 c d
  else if c.idx < 0x5000 then entOp4 c d
  else if c.idx < 0x6000 then entOp5 c d
  else if c.idx < 0x7000 then entOp6 c d
  else if c.idx < 0x8000 then entOp7 c d
  else if c.idx < 0x9000 then entOp8 c d
  else if c.idx < 0xA000 then entOp9 c d
  else entOpA c d

/-! ### The order of the checks (R379) -/

/-- Entries that can be written only through a block transfer. -/
def blockOnly (idx sub : Nat) : Bool := idx = 0x9010 || (idx = 0x9200 && sub = 2)

/-- Step 4: not writable now. -/
def heldNow (d : Dev) (idx sub : Nat) : Bool :=
  (idx = 0x2003 && d.xtf.src = 1) ||
    (idx = 0x2005 && (upto 6).any (fun n => decide (d.get (PTP_PORTSTAT_STATE n) = 9))) ||
    (decide (0xB100 ≤ idx ∧ idx < 0xB280) && !cntDefined (idx - 0xB100)) ||
    entryHeld d idx sub

/-- Steps 1 to 4: the status, 0 where they pass. -/
def writeGate (role idx sub : Nat) (block : Bool) (d : Dev) : Nat :=
  match entInfo idx sub d with
  | none => 1
  | some e =>
    if e.wr = 4 then 2
    else if e.wr = 5 ∨ role < e.wr then 5
    else if heldNow d idx sub ∨ (blockOnly idx sub ∧ !block) then 2
    else 0

/-- Conditions of certified mode that a write would break (R454): the status, or 0. -/
def certGate (d d' : Dev) (idx sub v : Nat) : Nat :=
  if !d.sec.certified then 0
  else if idx = 0x1000 ∧ sub = 7 ∧ v < 300 then 3
  else if certEntries d = 0 ∧ certEntries d' ≠ 0 then 7
  else 0

/-- Operations that keep the NV store themselves. -/
def ownStore (idx sub : Nat) : Bool :=
  (decide (0x2110 ≤ idx ∧ idx < 0x2120) && sub = 4) || (decide (0x8010 ≤ idx ∧ idx < 0x8018) && decide (3 ≤ sub))

/-- The part whose content a plain entry is. -/
def contentPart (idx sub : Nat) : Option Nat :=
  if 0x4000 ≤ idx ∧ idx < 0x4020 ∧ sub = 1 then some (0x300 + (idx - 0x4000))
  else if 0x3020 ≤ idx ∧ idx < 0x3024 ∧ (sub = 2 ∨ sub = 3) then some (0x400 + (idx - 0x3020))
  else if 0x2110 ≤ idx ∧ idx < 0x2120 ∧ sub = 4 then some (0x600 + (idx - 0x2110))
  else if 0x9320 ≤ idx ∧ idx < 0x9324 ∧ sub = 6 then some (0x700 + (idx - 0x9320))
  else none

/-- Content written plainly no longer comes from a container (R447, R451). -/
def unstage (idx sub : Nat) (d : Dev) : Dev :=
  match contentPart idx sub with
  | none => d
  | some p =>
    let key := if p / 256 = 4 then p + 0x1000 * (sub - 2) else p
    { d with sec.staged := tabDel p d.sec.staged, sec.hashes := tabDel key d.sec.hashes }

/-- Steps 1 to 7 of R379 and what the write does: a refusal leaves no more than its report. -/
def entApply (role sess : Nat) (block : Bool) (idx sub : Nat) (value : Octets) (d : Dev) : Nat × Nat × Dev :=
  match entInfo idx sub d with
  | none => errRes 1 d
  | some e =>
    let g := writeGate role idx sub block d
    if g ≠ 0 then errRes g d
    else if value.len = 0 then okRes d
    else
      let ty := entTy d idx e
      let v := value.val % 256 ^ value.len
      if (if 15 ≤ ty then e.size < value.len else value.len ≠ e.size) then errRes 4 d
      else if !valueOk ty (e.row.bind (·.range)) ⟨value.len, v⟩ ∨ (idx ≠ 0x1120 ∧ entryRefused d idx sub v) then errRes 3 d
      else
        let r := entOp ⟨role, sess, idx, sub, v, value.len, d.setEnt idx sub v, block, false⟩ d
        if r.1 ≠ 0 then r
        else
          let d' := r.2.2
          let k := certGate d d' idx sub v
          if k ≠ 0 then errRes k d
          else if 90 < loadTotal d' ∧ loadTotal d < loadTotal d' then errRes 9 d
          else if schedEntry idx sub ∧ dayBookFull d' then errRes 9 d
          else okRes (unstage idx sub (if schedEntry idx sub then { d' with floor.dirty := true } else d'))

/-- The bytes that a write stores in the NV store as an entry. -/
def nvBytes (idx sub : Nat) (value : Octets) (d : Dev) : List Nat :=
  match entInfo idx sub d with
  | some e => if e.pers = .nv ∧ !ownStore idx sub ∧ value.len ≠ 0 then [e.size] else []
  | none => []

/-- One write under R379. -/
def entWrite (role sess : Nat) (block : Bool) (idx sub : Nat) (value : Octets) (d : Dev) : Nat × Nat × Dev :=
  let r := entApply role sess block idx sub value d
  let l := nvBytes idx sub value d
  if r.1 ≠ 0 ∨ l = [] then r else storeJoin l d r.2.2

/-- A write of one entry. -/
def writeOne (role sess idx sub : Nat) (value : Octets) (d : Dev) : Nat × Nat × Dev := entWrite role sess false idx sub value d

/-! ### Several items as one request (R388) -/

/-- The items in order on the device `d`, from position `n`, each on what the earlier ones leave: the failing position with status and
detail, or none; the device before that item, and after it. `d0` is the device before the request, `l` the NV values so far. -/
def itemsGo (role sess : Nat) (d0 : Dev) : Nat → List Nat → List WItem → Dev → Option (Nat × Nat × Nat) × Dev × Dev × List Nat
  | _, l, [], d => (none, d, d, l)
  | n, l, w :: t, d =>
    let r := entApply role sess false w.idx w.sub w.value d
    let nv := l ++ nvBytes w.idx w.sub w.value d
    let k := if nv = l then (0, 0) else storeSt (storeCheckL d0 r.2.2 nv)
    if r.1 ≠ 0 then (some (n, r.1, r.2.1), d, r.2.2, l)
    else if k.1 ≠ 0 then (some (n, k.1, k.2), d, (storeRefuse k d).2.2, l)
    else itemsGo role sess d0 (n + 1) nv t r.2.2

/-- What a refused item reports, from the device before and after it, is all that the request leaves on `d0`: registers, events with
their counters, and a counted energy refusal. -/
def reportOnto (k : Nat × Nat) (dk d1 d0 : Dev) : Dev :=
  let d := (dk.regs ++ d1.regs).foldl (fun d e => if dk.rd e.1 = d1.rd e.1 then d else d.wr e.1 (d1.rd e.1)) d0
  if k = (0x11, 1) then lowPower d
  else ((d1.evLog.take (d1.evSeq - dk.evSeq)).reverse).foldl (fun d r => raise r.ev r.par d) d

/-- The whole request: applied, its NV values in as few transactions as the store allows, or refused with the failing item, its status and
detail and nothing applied. -/
def itemsApply (role sess : Nat) (l : List WItem) (d : Dev) : Option (Nat × Nat × Nat) × Dev :=
  let r := itemsGo role sess d 0 [] l d
  match r.1 with
  | some f => (some f, reportOnto (f.2.1, f.2.2) r.2.1 r.2.2.1 d)
  | none => (none, if r.2.2.2 = [] then r.2.1 else storeWriteN (storeTxns r.2.2.2) r.2.1)

/-- A held dictionary write is performed; a check that refuses it now still reports, and its answer goes to the session that waits for it
(R223, R381). -/
def heldWrite (sess idx sub len v : Nat) (d : Dev) : Dev :=
  let r := entOp ⟨3, sess, idx, sub, v, len, d, false, true⟩ d
  let d := r.2.2
  match d.heg.heldAcks.find? (fun a => a.1 = sess ∧ a.2.1 = idx ∧ a.2.2.1 = sub) with
  | none => d
  | some a => { d with heg.heldAcks := d.heg.heldAcks.erase a, heg.acks := d.heg.acks ++ [(sess, ⟨a.2.2.2.2, a.2.2.2.1, r.1, r.2.1, ⟨0, 0⟩⟩)] }

end Sys2Proof.Machine
end

