-- ==== Sys2Proof/Machine/Publish.lean ====
section
/-! DEFINITION. Reads of dictionary entries (R379), the items of READ_MULTI and publications (R387, R405). -/

namespace Sys2Proof.Machine

/-- One read (R379): status, value, and the device, which the read of a mirror entry or of NV_ACCESS changes. -/
def readEnt (role sess idx sub : Nat) (d : Dev) : Nat × Octets × Dev :=
  match entInfo idx sub d with
  | none => (1, ⟨0, 0⟩, d)
  | some e =>
    if role < e.rd then (5, ⟨0, 0⟩, d)
    else if 0xF000 ≤ idx ∧ idx < 0xF039 ∧ 2 ≤ sub then
      let d := if sub = 2 then mirrorAccess sess (idx - 0xF000) none d else mirrorInc sess (idx - 0xF000) none d
      (0, ⟨4, d.bus % 2 ^ 32⟩, d)
    else (0, ⟨e.size, entValue sess idx sub d % 256 ^ e.size⟩, d)

/-- One item of a READ_MULTI response: INDEX, SUB, STATUS, LEN and the value (R387). -/
def itemOct (idx sub st : Nat) (v : Octets) : Octets :=
  ⟨6 + v.len, packBytes [(2, idx), (1, sub), (1, st), (2, v.len), (v.len, v.val)]⟩

/-- The items of a READ_MULTI, read in one pass. -/
def readItems (role sess : Nat) : List (Nat × Nat) → Dev → Octets × Dev
  | [], d => (⟨0, 0⟩, d)
  | (i, s) :: t, d =>
    let r := readEnt role sess i s d
    let x := readItems role sess t r.2.2
    ((itemOct i s r.1 r.2.1).cat x.1, x.2)

/-- A Hegus message: header and body (R384). -/
def hegMsg (op req flags st detail : Nat) (body : Octets) : Octets :=
  (⟨10, packBytes [(1, 1), (1, op), (2, req), (2, body.len), (1, flags), (1, st), (2, detail)]⟩ : Octets).cat body

/-- The destination of publication `k` is reachable from a valid address of the device (R376, R405). -/
def pubAddrOk (d : Dev) (k : Nat) : Bool :=
  let a := d.ent (0x1300 + k) 2
  let st := d.ent 0x1101 4
  if a % 2 ^ 80 = 0 ∧ a / 2 ^ 80 % 2 ^ 16 = 0xFFFF then st.testBit 1
  else if (a % 256 = 0xFE ∧ a / 2 ^ 14 % 4 = 2) ∨ (a % 256 = 0xFF ∧ a / 256 % 16 = 2) then d.ent 0x1101 1 ≠ 0
  else st.testBit 0

/-- Send publication `k` for a posting at TIME64 `t` (R405). Items are read with the role that configures them (log). -/
def publish (k t : Nat) (d : Dev) : Dev :=
  if d.ent (0x1300 + k) 1 = 0 ∨ !d.ready 8 ∨ t + 10000000 < d.time64 ∨ !pubAddrOk d k then count 0x14D d
  else
    let n := d.ent (0x1300 + k) 4
    let r := readItems 2 0 ((upto n).map (pubItem d k)) d
    let d := r.2
    let key := d.ent (0x1300 + k) 3
    let seq := tabGet 0 k d.heg.pubSeq
    let ctr := tabGet 0 key d.heg.pubCtr
    let body := (⟨12, packBytes [(1, k), (1, n), (2, 0), (8, t)]⟩ : Octets).cat r.1
    let msg := hegMsg 0x20 seq 0 0 0 body
    let sealed : Octets := if key = 0xFF then msg
      else ⟨msg.len + 16, Config.crypto 7 [d.ent (0x9120 + key) 0, Config.eui48, ctr, msg.len, msg.val] % 256 ^ (msg.len + 16)⟩
    let gram := (⟨8, packBytes [(1, key), (3, 0), (4, ctr)]⟩ : Octets).cat sealed
    let d : Dev := { d with heg.pubSeq := tabPut 0 k ((seq + 1) % 65536) d.heg.pubSeq,
                            heg.pubCtr := tabPut 0 key ((ctr + 1) % 2 ^ 32) d.heg.pubCtr }
    let dst := d.ent (0x1300 + k) 2
    udpOut (some 5) 0x120 dst (be16 (dst % 2 ^ 128)) (dst / 2 ^ 128) (hegusPort d) (octList gram) gram.len (d.setEnt (0x1300 + k) 6 ((d.ent (0x1300 + k) 6 + 1) % 2 ^ 32))

end Sys2Proof.Machine
end

