-- ==== Sys2Proof/Machine/Act.lean ====
section
/-! DEFINITION. In-service replacement: switch-over, trial, commit and rollback of the parts, the runtime handover and the
Teller restart (R131, R153, R155, R251, R252, R447, R455 to R460). -/

namespace Sys2Proof.Machine

/-- Failed trials reach their groups (R457); condition 2 is a health condition of the owning chapter. -/
def failsSettle (d : Dev) : Dev :=
  d.sec.failing.foldl (fun d p => partFail p 2 d) { d with sec.failing := [] }

/-- A part becomes rolled back for condition `why` (R457). -/
def actBack (part why : Nat) (d : Dev) : Dev :=
  let a := d.act part
  raise .ACT_ROLLED_BACK [part, a.version, why] (d.setAct part { a with st := 4, entry := none, at_ := 0 })

/-- A part goes on trial (R457). -/
def actTrial (part old : Nat) (d : Dev) : Dev :=
  let a := d.act part
  raise .ACT_ACTIVATED [part, a.version]
    (d.setAct part { a with st := 2, at_ := 0, entry := none, failed := 0, ended := false, confirmed := false, old := old })

/-! ### The parts of the protocol -/

/-- VERSION of a bank of unit `u` (R154). -/
def bankVersion (d : Dev) (u bank : Nat) : Nat := calWord (d.ent (0x3020 + u) (2 + bank)) 0

/-- Unit `u` changes to its other bank from now on (R155). -/
def bankSwitch (u : Nat) (trial : Bool) (d : Dev) : Dev :=
  let s := d.cvuS u
  cvuShow u (d.setCvu u { s with bank := 1 - s.bank, bankTrial := trial, bankFail := false, bankAt := d.time64 })

/-- The inactive bank becomes active and goes on trial (R155, R160). -/
def bankActivate (u : Nat) (d : Dev) : Dev :=
  let d := bankSwitch u true d
  let b := (d.cvuS u).bank
  raise .CVU_CALSET_ACTIVATED [u, b, bankVersion d u b] (if d.ready (cvuDom u) then d.flagUp (CVU_EVT_CALSET_ACT u) else d)

/-- A bank is rolled back (R155, R160). -/
def bankRolled (u bank : Nat) (d : Dev) : Dev :=
  raise .CVU_CALSET_ROLLBACK [u, bank, bankVersion d u bank] (if d.ready (cvuDom u) then d.flagUp (CVU_EVT_CALSET_ROLLBACK u) else d)

/-- The reverse set of a configuration set: the present value of every item, that of a key too, which no read shows (R460). -/
def reverseSet (l : List WItem) (d : Dev) : List WItem :=
  l.map (fun w => { w with value := if 0x9110 ≤ w.idx ∧ w.idx < 0x9128 then ⟨if w.idx < 0x9120 then 48 else 16, d.ent w.idx 0⟩
                                    else (readEnt 3 0 w.idx w.sub d).2.1 })

/-- The eight bytes of node `k` in the table of channel `n` (R359). -/
def nodeBytes (d : Dev) (n k : Nat) : Nat := d.ent (0x1220 + n) 5 / 256 ^ (8 * k) % 256 ^ 8

/-- Replace them. -/
def nodePut (n k x : Nat) (d : Dev) : Dev :=
  let v := d.ent (0x1220 + n) 5
  let hi := v / 256 ^ (8 * k + 8) * 256 ^ (8 * k + 8)
  d.setEnt (0x1220 + n) 5 (hi + x % 256 ^ 8 * 256 ^ (8 * k) + v % 256 ^ (8 * k))

/-- The posting of a pending activation has been applied (R456). -/
def actPosted (d : Dev) (part : Nat) : Bool :=
  if part / 256 = 6 then (match (d.act part).entry with | some e => decide (0 < (d.lent e).posted) | none => false)
  else d.ldg.events.contains (0x15000000 + part)

/-- The entry and the event of a pending activation are used up. -/
def actUse (part : Nat) (d : Dev) : Dev :=
  let d := actUnpost part d
  match (d.act part).entry with
  | some e => (entryRemove e d).setAct part { d.act part with entry := none }
  | none => d

/-- A configuration set is applied (R460). A refused one applies nothing, beside what the check of its item reports, and is rolled back at
once; the condition is 256 plus the position of the item. -/
def configSwitch (part : Nat) (d : Dev) : Dev :=
  let a := d.act part
  match configItems (d.ent (recOf part) 6) with
  | none => actBack part 2 d
  | some (l, _) =>
    let rev := reverseSet l d
    let r := itemsApply a.role a.sess l d
    match r.1 with
    | some f =>
      let d := actBack part (256 + f.1) r.2
      { d with sec.failing := d.sec.failing ++ [part] }
    | none =>
      let d := actTrial part 0 r.2
      d.setAct part { d.act part with rev := rev }

/-- A configuration set whose items wait for randomness or for the store: the position of the item, and whether it is the store (R435, R437). -/
def configWaits (part : Nat) (d : Dev) : Option (Nat × Bool) :=
  match configItems (d.ent (recOf part) 6) with
  | none => none
  | some (l, _) =>
    let a := d.act part
    let f := fun (d : Dev) => (itemsApply a.role a.sess l d).1
    if storeOwned (fun d => ((f d).map (·.2.1)).getD 0) d then (f d).map (fun x => (x.1, true))
    else (itemWaits l (f d) d).map (·, false)

/-- A set that has waited too long is refused with ERR_BUSY and rolled back at once (R460). -/
def configLost (part : Nat) (d : Dev) : Dev :=
  match configWaits part d with
  | none => d
  | some (k, _) =>
    let d := actBack part (256 + k) (actUse part d)
    { d with sec.failing := d.sec.failing ++ [part] }

/-- The switch-over of a part at its boundary after its posting (R455, R456). -/
def actSwitch (part : Nat) (d : Dev) : Dev :=
  let k := part % 256
  match part / 256 with
  | 1 =>
    let old := d.sec.slotA
    let new := 1 - old
    let d := dirUpdate (fun x => { x with rtA := new, rtB := new, trial := x.trial % 2 + 6 }) d
    actTrial part old { d with sec.handover := some { stage := 1, slot := new } }
  | 2 =>
    let old := d.sec.slotT
    let d := dirUpdate (fun x => { x with teller := 1 - old, trial := setBit x.trial 0 true }) d
    actTrial part old { tellerSlotPut (1 - old) d with sec.tellerBusy := true }
  | 4 =>
    let old := (d.cvuS k).bank
    if calsetOk (d.ent (0x3020 + k) (3 - old)) then actTrial part old (bankActivate k d)
    else { actBack part 2 d with sec.failing := d.sec.failing ++ [part] }
  | 6 =>
    let old := d.ent (recOf part) 6 % 16
    let d := actTrial part old d
    if bookArmed d k then d else trialFails part d
  | 7 => configSwitch part d
  | _ =>
    let node := d.ent (recOf part) 6 % 64
    let old := nodeBytes d k node
    actTrial part old (nodeBind k node (d.ent (recOf part) 7) d)

/-- ACTIVATION_SWITCHOVER: a loaded engine switches at a trigger of its slot (R251), a slice once three windows have passed
(R153), every other part once its posting has been applied. -/
def switchover (part : Nat) (d : Dev) : Dev :=
  let d := failsSettle d
  let k := part % 256
  if part / 256 = 3 then
    let w := (d.eng k).swap
    if 32 ≤ k ∨ w.st ≠ 1 ∨ !d.ready (ceaDom k) ∨ !swapDue d k w.slot ∨ !boundaryFree d k w.slot then d
    else actUse part (swapBoundary k w.slot d)
  else if part / 256 = 5 then
    let u := k / 16
    let x := sliceAt d u (k % 16)
    if x.st = 3 ∧ x.passes = 3 ∧ d.ready (cvuDom u) then actTrial part 0 (sliceActivate u (k % 16) d) else d
  else if (d.act part).st = 1 ∧ actPosted d part then
    match (if part / 256 = 7 then configWaits part d else none) with
    | some (_, nv) => waitAdd 0 part 0x102 [part] nv d
    | none => actSwitch part (actUse part d)
  else d

/-! ### Commit (R447, R457) -/

/-- A committed part advances its seal counter where VERSION is higher; a damaged counter is left (R447). -/
def sealCommit (a : ActS) (d : Dev) : Dev :=
  if a.sealNo = 255 then d
  else match d.sealC a.sealNo with
    | some v => if v < a.version then (sealAdvanceOp a.sealNo a.version d).2 else d
    | none => d

/-- A part commits. -/
def actCommit (part : Nat) (d : Dev) : Dev :=
  let a := d.act part
  let k := part % 256
  let d := sealCommit a d
  let d := match part / 256 with
    | 1 => dirUpdate (fun x => { x with trial := x.trial % 2, verA := a.version, verB := a.version }) d
    | 2 =>
      let c := slotContainer d true (d.sec.slotT)
      let d := dirUpdate (fun x => { x with trial := setBit x.trial 0 false, verT := a.version }) d
      { d with sec.revoked := d.sec.revoked ||| (c.cFlags / 16) }
    | 3 =>
      let e := d.eng k
      let i := 0x4100 + 16 * k + e.swap.slot
      let d := d.setEng k { e with swap := { e.swap with st := 3 } }
      d.setEnt i 2 (d.ent i 2 % 65536 + 65536 * e.swap.newProg)
    | 4 => d.setCvu k { d.cvuS k with bankTrial := false }
    | 5 =>
      let x := sliceAt d (k / 16) (k % 16)
      setSlice (k / 16) (k % 16) { x with trial := false } d
    | _ => d
  raise .ACT_COMMITTED [part, a.version] (d.setAct part { a with st := 3, rev := [], ended := false })

/-- A part's trial has failed. -/
def actFailed (d : Dev) (part : Nat) : Bool :=
  if part / 256 = 3 then (d.eng (part % 256)).swap.failed
  else (d.act part).failed ≠ 0 || (part / 256 = 4 && (d.cvuS (part % 256)).bankFail)

/-- The condition of R455 that is decided at the end of the window. -/
def lastCheck (d : Dev) (part : Nat) : Bool :=
  match part / 256 with
  | 7 => (match configItems (d.ent (recOf part) 6) with | some (_, c) => !c || (d.act part).confirmed | none => true)
  | 8 => (d.act part).confirmed
  | _ => true

/-- HEALTH_WINDOW_END (R457): a part without failure commits, with its group once every member on trial has ended. -/
def windowEnd (part : Nat) (d : Dev) : Dev :=
  let d := failsSettle d
  if partState d part ≠ 2 ∨ actFailed d part then d
  else if !lastCheck d part then partFail part 2 d
  else
    let d := d.setAct part { d.act part with ended := true }
    let g := (groupOf d part).filter (fun p => let s := partState d p; s = 1 || s = 2)
    if g.all (fun p => partState d p = 2 && (d.act p).ended && !actFailed d p) then g.foldl (fun d p => actCommit p d) d else d

/-! ### Rollback (R457, R458, R460) -/

/-- The rollback of a failed part at its boundary. The runtime's and the Teller's end with their last stage. A calibration bank that
becomes active again raises CVU_CALSET_ROLLBACK alone (DESIGN CHOICE, log entry 157). -/
def actRollback (part : Nat) (d : Dev) : Dev :=
  let a := d.act part
  let k := part % 256
  let why := if a.failed = 0 then 2 else a.failed
  match part / 256 with
  | 1 =>
    let aNew := decide (d.sec.slotA ≠ a.old)
    let bNew := decide (d.sec.slotB ≠ a.old)
    let first := if d.pwr.halves.testBit 1 ∨ !aNew then 1 else 0
    let h : Handover := ⟨if d.pwr.halves.testBit first then 1 else 2, a.old, true, first, if first = 1 then !aNew else !bNew⟩
    if (match d.sec.handover with | some h => h.back | none => false) then d
    else { d with sec.handover := some h }
  | 2 =>
    if d.sec.slotT = a.old then d
    else
      let d := dirUpdate (fun x => { x with teller := a.old, trial := setBit x.trial 0 false }) d
      { tellerSlotPut a.old d with sec.tellerBusy := true }
  | 3 =>
    let w := (d.eng k).swap
    if d.ready (ceaDom k) ∧ boundaryFree d k w.slot then swapBoundary k w.slot d else d
  | 4 => actBack part why (bankRolled k (d.cvuS k).bank (bankSwitch k false d))
  | 5 =>
    let u := k / 16
    cvuShow u (rateApply u (retire u (k % 16) 0 0 d))
  | 6 => actBack part why (bookControl 0x10 (k % 16 + 16 * a.old) d)
  | 7 => actBack part why (itemsApply 3 0 a.rev d).2
  | _ => actBack part why (nodePut k (d.ent (recOf part) 6 % 64) a.old d)

/-- ACT_ROLLED_BACK (R457). -/
def rollbackNow (part : Nat) (d : Dev) : Dev :=
  let d := failsSettle d
  if partState d part = 2 ∧ actFailed d part then actRollback part d else d

/-- Trials that a full restart has ended are rolled back before step 9 (R457); condition 3 is the restart. -/
def trialsRollback (d : Dev) : Dev :=
  d.sec.acts.foldl (fun d e =>
    let part := e.1
    let k := part % 256
    if e.2.st ≠ 2 then d
    else
      let d := match part / 256 with
        | 3 =>
          let x := d.eng k
          d.setEng k { x with swap := { x.swap with st := 4 } }
        | 4 => bankRolled k (1 - (d.cvuS k).bank) d
        | 7 => (itemsApply 3 0 e.2.rev d).2
        | 8 => nodePut k (d.ent (recOf part) 6 % 64) e.2.old d
        | _ => d
      actBack part 3 d) d

/-! ### Runtime handover (R458) -/

/-- The handover ends; a rollback makes the part rolled back. -/
def handoverEnd (h : Handover) (d : Dev) : Dev :=
  let d : Dev := { d with sec.handover := none }
  if h.back then
    let a := d.act 0x100
    let d := dirUpdate (fun x => { x with rtA := a.old, rtB := a.old, trial := x.trial % 2 }) d
    actBack 0x100 (if a.failed = 0 then 2 else a.failed) d
  else d

/-- A stage of the handover fails: in stage 1 nothing has moved, in stages 2 and 3 the half that moves first goes back
alone; later the trial has failed and the other half has not moved. -/
def handoverFail (h : Handover) (d : Dev) : Dev :=
  if h.back then d
  else
    let old := (d.act 0x100).old
    let d := partFail 0x100 2 d
    let back : Handover := { stage := 2, slot := old, back := true, first := h.first, only := true }
    if h.stage = 1 then handoverEnd { back with stage := 3 } d
    else if h.stage ≤ 3 then { d with sec.handover := some back }
    else { d with sec.handover := none }

/-- One stage of the table is over (R458). -/
def handoverStage (ok : Bool) (d : Dev) : Dev :=
  match d.sec.handover with
  | none => d
  | some h =>
    let one := h.first
    let two := 1 - h.first
    let next := fun (n : Nat) (d : Dev) => { d with sec.handover := some { h with stage := n } }
    let stop := fun (half : Nat) (d : Dev) =>
      let d := ownerStop half d
      { d with pwr.halves := setBit d.pwr.halves half false,
               pwr.coreWait := (upto 4).foldl (fun w c => setBit w (4 * half + c) false) d.pwr.coreWait }
    let start := fun (half : Nat) (d : Dev) =>
      let d := halfSlotPut half h.slot d
      { d with pwr.halves := setBit d.pwr.halves half true }
    if !ok then handoverFail h d
    else match h.stage with
      | 1 => if d.pwr.halves.testBit two then next 2 (stop one d) else d
      | 2 => if slotVerify d false h.slot = 0 then next 3 d else handoverFail h d
      | 3 => if h.only then handoverEnd h (start one d) else next 4 (start one d)
      | 4 => next 5 (stop two d)
      | _ => if slotVerify d false h.slot = 0 then handoverEnd h (start two d) else handoverFail h d

/-! ### Teller restart (R459) -/

/-- The Teller reports ready, or its self-test fails or takes too long (R455, R459). -/
def tellerStart (ok : Bool) (d : Dev) : Dev :=
  if !d.sec.tellerBusy then d
  else
    let a := d.act 0x200
    let back := decide (d.sec.slotT = a.old)
    if back then
      if ok then actBack 0x200 (if a.failed = 0 then 2 else a.failed) { d with sec.tellerBusy := false } else d
    else if ok then { d with sec.tellerBusy := false }
    else actRollback 0x200 (partFail 0x200 2 d)

end Sys2Proof.Machine
end

