-- ==== Sys2Proof/Machine/Zones.lean ====
section
/-! DEFINITION. The floor functions of the runtime (chapter 9) with the drive targets and demand maps of chapter 10: the
evaluation of every zone after each whole second (R260 to R273, R279), demand maps and drive targets (R307 to R310), lighting
groups (R286, R287) and host supervision (R288). -/

namespace Sys2Proof.Machine

/-! ### Scales (R260) -/

/-- A dictionary temperature in the engine scale. -/
def toQ (t : Int) : Int := (t * 512 + 50) / 100
/-- An engine temperature in 0.01 °C. -/
def ofQ (q : Int) : Int := (q * 100 + 256) / 512

/-- FLOOR entries, unsigned and signed. -/
def floorN (d : Dev) (s : Nat) : Nat := d.ent 0x5500 s
def floorI (d : Dev) (s : Nat) : Int := sx 16 (d.ent 0x5500 s)

/-- The host state is PRESENT. -/
def hostPresent (d : Dev) : Bool := d.ent 0x5500 1 = 0

def Dev.zone (d : Dev) (z : Nat) : ZoneS := tabGet {} z d.floor.zones
def Dev.setZone (d : Dev) (z : Nat) (x : ZoneS) : Dev := { d with floor.zones := tabPut {} z x d.floor.zones }

/-! ### Sources and vote (R261 to R264) -/

/-- The raw value of a source word and whether it is valid. -/
def srcRaw (d : Dev) (z w : Nat) : Int × Bool :=
  let i := w / 16 % 4096
  match w % 16 with
  | 1 => let x := tabGet (0, true) i d.cea.conv; (x.1.toInt, !x.2)
  | 2 => (sx 16 (d.get (AIO_I2CRD_VALUE i)), d.bit (AIO_I2CRD_VALID i))
  | 3 => ((tabGet 0 i d.cea.vals).toInt, true)
  | _ => let x := d.ent (0x5100 + z) 8; (sx 16 x, x ≠ 0x8000)

/-- The source has been updated within SRC_STALE. -/
def srcFresh (d : Dev) (z w : Nat) : Bool :=
  let k := w % 16 * 65536 + (if w % 16 = 4 then z else w / 16 % 4096)
  d.stamps.any (fun e => e.1 = k && decide (d.now ≤ e.2 + floorN d 7 * 1000000000))

/-- The value of a source; none where it is not configured, invalid or stale. -/
def srcVal (d : Dev) (z w : Nat) : Option Int :=
  if w % 16 = 0 then none
  else
    let r := srcRaw d z w
    if r.2 && srcFresh d z w then some (satI 16 (sx 16 (w / 2 ^ 32) + (r.1 * sx 16 (w / 2 ^ 16) + 2048) / 4096)) else none

/-- A mean rounded under R197. -/
def meanR (l : List Int) : Int := if l = [] then 0 else (2 * lsum l + (l.length : Int)) / (2 * (l.length : Int))

/-- The median; of four values the mean of the middle two, of two their mean. -/
def medianR (l : List Int) : Int :=
  let s := sortBy id l
  let n := s.length
  if n % 2 = 1 then s.getD (n / 2) 0 else meanR ((s.drop (n / 2 - 1)).take 2)

/-- The zone temperature from the candidates, by source number from 0, and the source that two candidates disagree over. -/
def voteTemp (d : Dev) (vote : Nat) (l : List (Nat × Int)) : Option Int × Option Nat :=
  match l with
  | [] => (none, none)
  | [a] => (some a.2, none)
  | [a, b] => if (a.2 - b.2).natAbs ≤ (toQ (floorN d 2 : Int)).natAbs then (some (meanR [a.2, b.2]), none) else (some a.2, some b.1)
  | l =>
    let v := l.map (·.2)
    (some (match vote with
      | 0 => medianR v
      | 1 => meanR v
      | 2 => v.foldl min (v.headD 0)
      | _ => v.foldl max (v.headD 0)), none)

/-- Deviation of candidate `k` from the median of the others; with fewer than three candidates none. -/
def srcDev (l : List (Nat × Int)) (k : Nat) (v : Int) : Nat :=
  if l.length < 3 then 0 else (v - medianR ((l.filter (fun x => decide (x.1 ≠ k))).map (·.2))).natAbs

/-- How far a value lies outside PLAUS_MIN to PLAUS_MAX. -/
def plausDev (d : Dev) (v : Int) : Nat :=
  let lo := toQ (floorI d 4)
  let hi := toQ (floorI d 5)
  if v < lo then (lo - v).natAbs else if hi < v then (v - hi).natAbs else 0

/-- The exclusion counters after an evaluation: consecutive disagreements under key k, evaluations out of range under k + 4. A
source of `kept`, configured but without a valid value, keeps its counts (R265), but for the disagreements, which every
evaluation with fewer than three candidates resets (R264). -/
def disCounts (d : Dev) (l : List (Nat × Int)) (kept : Nat → Bool) (t : Tab Nat) : Tab Nat :=
  (upto 4).foldl (fun t k =>
    match l.find? (fun x => x.1 = k) with
    | none =>
      if kept k then (if l.length < 3 then tabPut 0 k 0 t else t)
      else tabPut 0 (k + 4) 0 (tabPut 0 k 0 t)
    | some x =>
      let t := tabPut 0 k (if (toQ (floorN d 2 : Int)).natAbs < srcDev l k x.2 then tabGet 0 k t + 1 else 0) t
      tabPut 0 (k + 4) (if 0 < plausDev d x.2 then tabGet 0 (k + 4) t + 1 else 0) t) t

/-- The candidate to exclude: of those at the dwell, the one with the larger deviation, then the higher number. -/
def worstSrc (d : Dev) (l : List (Nat × Int)) (t : Tab Nat) : Option Nat :=
  (l.filter (fun x => decide (floorN d 8 ≤ tabGet 0 x.1 t ∨ floorN d 8 ≤ tabGet 0 (x.1 + 4) t))).foldl (fun r x =>
    match r with
    | none => some x.1
    | some k =>
      let dev := fun (j : Nat) (v : Int) => max (srcDev l j v) (plausDev d v)
      let old := ((l.find? (fun y => y.1 = k)).map (fun y => dev k y.2)).getD 0
      if old ≤ dev x.1 x.2 then some x.1 else some k) none

/-- Sources and vote of one zone: zone temperature, candidates as a mask, whether two disagree, the zone, and the device with
the events. -/
def zoneVote (z : Nat) (s : ZoneS) (d : Dev) : Option Int × Nat × Bool × ZoneS × Dev :=
  let words := (upto 4).map (fun k => d.ent (0x5000 + z) (2 + k))
  let vals := (upto 4).map (fun k => srcVal d z (words.getD k 0))
  let excl := (upto 4).foldl (fun m k => if s.excl.testBit k && words.getD k 0 % 16 ≠ 0 then m + 2 ^ k else m) 0
  let cand := (upto 4).filterMap (fun k => if excl.testBit k then none else (vals.getD k none).map (fun v => (k, v)))
  let t := voteTemp d (d.ent (0x5000 + z) 6) cand
  let d := match t.2 with
    | some k => raise .ZONE_SRC_DISAGREE [z, k + 1] d
    | none => d
  let kept := fun (k : Nat) => !excl.testBit k && (vals.getD k none).isNone && words.getD k 0 % 16 ≠ 0
  let dis := disCounts d cand kept s.dis
  let back : Tab Nat := (upto 4).foldl (fun b k =>
    if !excl.testBit k then tabPut 0 k 0 b
    else match vals.getD k none, t.1 with
      | none, _ => tabPut 0 k 0 b
      | some _, none => b
      | some v, some x =>
        let h := toQ (floorN d 6 : Int)
        let ok := decide (toQ (floorI d 4) + h ≤ v ∧ v ≤ toQ (floorI d 5) - h ∧
          ((v - x).natAbs : Int) ≤ toQ (floorN d 2 : Int) - toQ (floorN d 3 : Int))
        tabPut 0 k (if ok then tabGet 0 k b + 1 else 0) b) s.back
  let inn := (upto 4).filter (fun k => excl.testBit k && decide (floorN d 8 ≤ tabGet 0 k back))
  let d := inn.foldl (fun d k => raise .ZONE_SRC_READMITTED [z, k + 1] d) d
  let back := inn.foldl (fun b k => tabPut 0 k 0 b) back
  let excl' := inn.foldl (fun m k => setBit m k false) excl
  let mask := cand.foldl (fun m x => m + 2 ^ x.1) 0
  match worstSrc d cand dis with
  | none => (t.1, mask, t.2.isSome, { s with excl := excl', dis := dis, back := back }, d)
  | some k =>
    let dis := tabPut 0 (k + 4) 0 (tabPut 0 k 0 dis)
    (t.1, mask, t.2.isSome, { s with excl := setBit excl' k true, dis := dis, back := back }, raise .ZONE_SRC_EXCLUDED [z, k + 1] d)

/-! ### Thresholds (R265) -/

/-- One evaluation of a condition with count `n`: `beyond` its threshold, or on the `other` side by its hysteresis. -/
def condStep (c : Cond) (beyond other : Bool) (n : Nat) : Cond :=
  let go := if c.on then other else beyond
  if !go then { c with cnt := 0 }
  else if n ≤ c.cnt + 1 then ⟨!c.on, 0⟩
  else { c with cnt := c.cnt + 1 }

/-- A condition's event on entering and on leaving. -/
def condEvent (e : Ev) (z : Nat) (old new : Cond) (d : Dev) : Dev := if old.on = new.on then d else raise e [z] d

/-- Setpoint of mode `m` (1 PROTECT to 4 COMFORT) in 0.01 °C; SP_OFFSET shifts STANDBY and COMFORT (R266). -/
def setpointC (d : Dev) (z m : Nat) (cool : Bool) : Int :=
  let x := sx 16 (d.ent (0x5100 + z) 1 / 2 ^ (32 * (m - 1) + (if cool then 16 else 0)))
  x + (if 3 ≤ m then sx 16 (d.ent (0x5100 + z) 7) else 0)

/-- The same in the engine scale. -/
def setpointOf (d : Dev) (z m : Nat) (cool : Bool) : Int := toQ (setpointC d z m cool)

/-- sp and DB of R269, formed in 0.01 °C and converted. -/
def loopSetpoint (d : Dev) (z m : Nat) : Int × Int :=
  let heat := setpointC d z m false
  let cool := setpointC d z m true
  let sp := (heat + cool + 1) / 2
  (toQ sp, toQ (cool - sp))

/-- Level of a contact; an input that is not configured is inactive. -/
def contact (d : Dev) (g : Nat) : Bool := decide (g < 64) && gpioIn d g

/-- The thresholds of one zone. -/
def zoneConds (z : Nat) (t : Option Int) (s : ZoneS) (d : Dev) : ZoneS × Dev :=
  let comfort := match t with
    | none => s.comfort
    | some x =>
      if s.mode = 0 then s.comfort
      else
        let lo := setpointOf d z s.mode false - toQ (floorN d 9 : Int)
        let hi := setpointOf d z s.mode true + toQ (floorN d 9 : Int)
        let h := toQ (floorN d 10 : Int)
        condStep s.comfort (decide (x < lo ∨ hi < x)) (decide (lo + h ≤ x ∧ x ≤ hi - h)) (floorN d 11)
  let frost := match t with
    | none => s.frost
    | some x =>
      let f := toQ (floorI d 12)
      condStep s.frost (decide (x < f)) (decide (f + toQ (floorI d 13) ≤ x)) (floorN d 8)
  let w := contact d (d.ent (0x5000 + z) 8)
  let c := contact d (d.ent (0x5000 + z) 9)
  let window := condStep s.window w (!w) (floorN d 14)
  let condense := condStep s.condense c (!c) (floorN d 15)
  let lost := t.isNone
  let d := if lost = s.lost then d else raise .ZONE_SENSOR_LOST [z] d
  let d := condEvent .ZONE_COMFORT_ALARM z s.comfort comfort d
  let d := condEvent .ZONE_FROST z s.frost frost d
  let d := condEvent .ZONE_WINDOW z s.window window d
  let d := condEvent .ZONE_CONDENSATION z s.condense condense d
  ({ s with comfort := comfort, frost := frost, window := window, condense := condense, lost := lost }, d)

/-! ### Mode (R267, R268) -/

/-- MANUAL_UNTIL has passed. -/
def manualOver (d : Dev) (until_ : Nat) : Bool := until_ ≠ 0 && decide (until_ ≤ d.time64)

/-- The requested mode and its source. -/
def zoneRequest (d : Dev) (z : Nat) : Nat × Nat :=
  let m := d.ent (0x5100 + z) 2
  let h := d.ent (0x5100 + z) 5
  let p := d.ent (0x5000 + z) 11
  if m ≠ 0xFF then (m, 3) else if h ≠ 0xFF ∧ hostPresent d then (h, 2) else if p < 16 then (progMode d p, 1) else (0, 0)

/-- The effective mode with its source and presence, and the zone. -/
def zoneMode (z : Nat) (s : ZoneS) (d : Dev) : Nat × Nat × Bool × ZoneS :=
  let r := zoneRequest d z
  let g := d.ent (0x5000 + z) 7
  let active := contact d g || (decide (g < 64 ∧ s.seen) && tabGet 0 g d.aio.capAll ≠ tabGet 0 g d.floor.caps)
  let at_ := if active then d.now else s.presAt.getD d.now
  let m := r.1
  let m :=
    if 64 ≤ g then m
    else if m = 4 ∧ at_ + floorN d 16 * 1000000000 ≤ d.now then 3
    else if m = 3 ∧ active ∧ d.ent 0x5500 20 = 1 then 4
    else m
  let m := if s.window.on ∧ m ≠ 0 then 1 else m
  let m := if s.frost.on then 1 else m
  (m, r.2, active, { s with presAt := some at_ })

/-! ### Command sources and the loop (R269 to R273) -/

/-- Engine, slot and position of a zone's or map's LOOP word. -/
def loopOf (w : Nat) : Nat × Nat × Nat := (w % 32, w / 32 % 16, w / 512 % 8)

/-- DBASE of the program of a slot. -/
def slotDbase (d : Dev) (n s : Nat) : Option Nat := (findDesc d n (d.cget (CE_SCFG_PROG_ID n s))).map (·.dbase)

/-- The runtime writes words from `a` of the data of a slot's program (R273). -/
def loopData (n s a : Nat) (l : List Int) (d : Dev) : Dev :=
  if !d.ready (ceaDom n) then d
  else match slotDbase d n s with
    | none => d
    | some b => ((upto l.length).foldl (fun d j => busData n ((b + a + j) % 1024) (BitVec.ofInt 16 (l.getD j 0)) d) d)

/-- The runtime writes host input `k`; none carries the invalid mark (R273). -/
def hostInput (k : Nat) (v : Option Int) (d : Dev) : Dev :=
  match v with
  | none => { d with cea.hostIn := d.cea.hostIn.filter (· ≠ k) }
  | some x =>
    let d := d.setEnt (0x4800 + k) 0 (ux 16 x)
    { d with cea.hostIn := if d.cea.hostIn.contains k then d.cea.hostIn else d.cea.hostIn ++ [k] }

/-- The output last released on a zone's port (R271). -/
def zonePresent (d : Dev) (z : Nat) : Int :=
  let l := loopOf (d.ent (0x5000 + z) 12)
  (tabGet 0 ((outWin d l.1 l.2.1).1 + l.2.2) (d.eng l.1).outs).toInt

/-- The output source and its target (R270). -/
def zoneSource (d : Dev) (z mode : Nat) (lost : Bool) : Nat × Int :=
  let m := d.ent (0x5100 + z) 4
  let h := d.ent (0x5100 + z) 6
  if m ≠ 0x8000 ∧ !manualOver d (d.ent (0x5100 + z) 3) then (3, sx 16 m)
  else if h ≠ 0x8000 ∧ hostPresent d then (1, sx 16 h)
  else if mode = 0 ∨ lost then (2, if mode = 0 then 0 else sx 16 (d.ent (0x5100 + z) 9 / 2 ^ (16 * mode)))
  else (0, 0)

/-- A value moved toward a goal by at most `step`. -/
def moveTo (x goal : Int) (step : Nat) : Int :=
  if x < goal then min goal (x + step) else max goal (x - step)

/-- The track word of this evaluation, none for 0x8000, and whether the condensation hold is in force (R271, R272). -/
def zoneTrack (d : Dev) (s : ZoneS) (present : Int) (src : Nat) (target : Int) (mode : Nat) : Option Int × Bool :=
  if s.condense.on then (some (max present 0), true)
  else if !s.seen then (some present, false)
  else if src ≠ 0 then (some (moveTo (s.trk.getD present) target (floorN d 17)), false)
  else if s.outSrc = 0 ∧ s.trk.isNone ∧ mode ≠ s.mode then (some present, false)
  else (none, false)

/-- The zone demand (R279). -/
def zoneVent (d : Dev) (z : Nat) : Int :=
  match srcVal d z (d.ent (0x5000 + z) 10) with
  | none => 0
  | some x =>
    let lo : Int := (floorN d 18 : Nat)
    let hi : Int := (floorN d 19 : Nat)
    if hi ≤ lo then 0 else clampI 0 32767 ((2 * (x - lo) * 32767 + (hi - lo)) / (2 * (hi - lo)))

/-- One zone's evaluation (R262). -/
def zoneEval (z : Nat) (d : Dev) : Dev :=
  if d.ent (0x5000 + z) 1 = 0 then
    if d.zone z = {} then d else (d.setZone z {}).setEnt (0x5200 + z) 8 0
  else
    let d := if d.ent (0x5100 + z) 2 ≠ 0xFF ∧ manualOver d (d.ent (0x5100 + z) 3) then d.setEnt (0x5100 + z) 2 0xFF else d
    let v := zoneVote z (d.zone z) d
    let t := v.1
    let c := zoneConds z t v.2.2.2.1 v.2.2.2.2
    let d := c.2
    let m := zoneMode z c.1 d
    let mode := m.1
    let s := m.2.2.2
    let o := zoneSource d z mode t.isNone
    let present := zonePresent d z
    let k := zoneTrack d s present o.1 o.2 mode
    let lp := loopOf (d.ent (0x5000 + z) 12)
    let ib := d.ent (0x5000 + z) 13
    let sp := loopSetpoint d z mode
    let d := if mode = 0 then d else hostInput ib (some sp.1) d
    let d := hostInput (ib + 1) t d
    let at_ := 8 + 4 * lp.2.2
    let d := loopData lp.1 lp.2.1 at_ [sx 16 (d.ent (0x5000 + z) 14), sx 16 (d.ent (0x5000 + z) 15)] d
    let d := if mode = 0 then d else loopData lp.1 lp.2.1 (at_ + 2) [sp.2] d
    let d := loopData lp.1 lp.2.1 (at_ + 3) [k.1.getD (-32768)] d
    let demand := min 32767 (max present.natAbs (zoneVent d z).natAbs)
    let ok := mode ≠ 0 && t.isSome && (d.slot lp.1 lp.2.1).st ≠ .demoted
    let flags := m.2.2.1.toNat + 2 * s.window.on.toNat + 4 * s.condense.on.toNat + 8 * s.comfort.on.toNat + 16 * s.frost.on.toNat +
      32 * t.isNone.toNat + 64 * v.2.2.1.toNat
    let d := d.setZone z { s with seen := true, mode := mode, outSrc := o.1, trk := k.1, hold := k.2 }
    let st := [(match t with | none => 0x8000 | some x => ux 16 (satI 16 (ofQ x))), v.2.1 + 16 * s.excl, mode, m.2.1, o.1, ux 16 present,
      demand, ok.toNat, flags]
    (upto 9).foldl (fun d i => d.setEnt (0x5200 + z) (i + 1) (st.getD i 0)) d

/-! ### Demand maps (R308) -/

/-- One demand map; a map that names no zone does nothing. -/
def mapEval (g : Nat) (d : Dev) : Dev :=
  let zs := (upto 64).map (fun i => d.entByte (0x6300 + g) 1 i)
  let v := d.ent (0x6300 + g) 6
  let d := d.setEnt (0x6300 + g) 7 (if v < 1024 ∧ engValid d v then (tabGet 0 v d.cea.vals).toNat else 0x8000)
  if zs.all (· = 0xFF) then d
  else
    let lp := loopOf (d.ent (0x6300 + g) 4)
    let ib := d.ent (0x6300 + g) 5
    let d := (upto 64).foldl (fun d i =>
      let z := zs.getD i 0xFF
      if z = 0xFF then d
      else hostInput (ib + i) (if d.ent (0x5200 + z) 8 = 1 then some (sx 16 (d.ent (0x5200 + z) 7)) else none) d) d
    let curve := (upto 16).map (fun i => sx 16 (d.entHalf (0x6300 + g) 2 i))
    loopData lp.1 lp.2.1 0 (curve ++ [sx 16 (d.ent (0x6300 + g) 3), 0, 0, 0]) d

/-! ### Drive targets (R307, R309, R310) -/

/-- The source of a drive's target and its value. -/
def driveSelect (d : Dev) (n : Nat) : Nat × Int :=
  let e := fun (s : Nat) => d.ent (0x6100 + n) s
  let cv := e 4
  let map : Option Int := let x := d.ent (0x6300 + e 3 % 16) 7; if x = 0x8000 then none else some (sx 16 x)
  let casc : Option Int := if cv < 1024 ∧ engValid d cv then some (tabGet 0 cv d.cea.vals).toInt else none
  let auto : Option (Nat × Int) := match e 2 with
    | 1 => map.map (fun x => (1, x))
    | 2 => casc.map (fun x => (2, x))
    | 3 => match map, casc with
      | some x, some y => some (if x < y then (2, y) else (1, x))
      | some x, none => some (1, x)
      | none, some y => some (2, y)
      | none, none => none
    | _ => none
  if e 7 ≠ 0x8000 ∧ !manualOver d (e 8) then (4, sx 16 (e 7))
  else if e 9 ≠ 0x8000 ∧ hostPresent d then (3, sx 16 (e 9))
  else match auto with
    | some x => x
    | none => (0, sx 16 (d.entHalf (0x6100 + n) 6 (if e 5 < 16 then progMode d (e 5) else 4)))

/-- One drive (R309, R316): its target moves by at most FAN_SLEW, a change of source is reported, and its channel's registers are written. -/
def driveEval (n : Nat) (d : Dev) : Dev :=
  if d.ent (0x6100 + n) 1 = 0 then d
  else
    let x := driveSelect d n
    let s := d.drive n
    let t := moveTo s.target x.2 (d.ent (0x6100 + n) 10)
    let d := d.setDrive n { s with target := t, source := x.1 }
    let d := if x.1 ≠ s.source then raise .DRIVE_SOURCE [n, s.source, x.1] d else d
    if driveBound d n then d
    else
      let d := if t ≠ 0 ∧ !d.ready 6 then wakeDomain 6 d else d
      if n < 8 then
        let a := MDU_MCMD n
        regApply 0 (a, wMask 0 1 ||| wMask 16 16, wSet (wSet 0 0 1 (decide (t ≠ 0)).toNat) 16 16 (ux 16 t)) d
      else regApply 0 (rF (MDU_FTGT_TARGET (n - 8)) (ux 16 (max t 0))) d

/-- The evaluation after a whole second (R262, R307, R308). -/
def floorEval (d : Dev) : Dev :=
  if d.pwr.step < 6 ∨ d.pwr.halves = 0 then d
  else
    let d := (upto 256).foldl (fun d z => zoneEval z d) d
    let d : Dev := { d with floor.caps := d.aio.capAll }
    let d := (upto 16).foldl (fun d g => mapEval g d) d
    (upto 24).foldl (fun d n => driveEval n d) d

/-! ### Lighting (R285 to R287) -/

def Dev.light (d : Dev) (g : Nat) : LightS := tabGet {} g d.floor.lights
def Dev.setLight (d : Dev) (g : Nat) (x : LightS) : Dev := { d with floor.lights := tabPut {} g x d.floor.lights }

/-- The state source and commanded state of a group: MANUAL, HOST while PRESENT, else the schedule (R287). -/
def lightWant (d : Dev) (g : Nat) : Nat × Bool :=
  let m := d.ent (0x5400 + g) 11
  let h := d.ent (0x5400 + g) 12
  if m ≤ 1 then (2, m = 1) else if h ≤ 1 ∧ hostPresent d then (1, h = 1) else (0, (d.light g).sched)

/-- The event LIGHT_SWITCHED. -/
def lightEvt (g : Nat) (x : LightS) (d : Dev) : Dev := raise .LIGHT_SWITCHED [g, x.on.toNat, x.src] d

/-- A program's transition reaches the runtime (R282, R284): its programs take the mode. -/
def progTransition (w m : Nat) (d : Dev) : Dev :=
  let day := d.time64
  (upto 16).foldl (fun d k =>
    if k = w ∨ progModeAt d k day = m then d.setEnt (0x5300 + k) 9 m else d) d

/-- A lighting transition reaches the runtime: for each group of the latch group MANUAL is cleared, the scheduled state is the
present one, which the transition's entries have put on the outputs, and a restage follows. Where HOST is the source, its state is applied
again by LIGHT_SWITCHED (R286, R287; DEDUCED, log entry 159). -/
def lightTransition (g : Nat) (d : Dev) : Dev :=
  (latchMates d g).foldl (fun d h =>
    let x := d.light h
    let now := lightSched d h d.time64
    let d := d.setEnt (0x5400 + h) 11 0xFF
    let sched := decide ((lightWant d h).1 = 0)
    let y : LightS := ⟨now, now, if sched then 0 else x.src⟩
    let d := d.setLight h y
    let d := if sched ∧ (x.on ≠ y.on ∨ x.src ≠ y.src) then lightEvt h y d else d
    { d with floor.restage := if d.floor.restage.contains h then d.floor.restage else d.floor.restage ++ [h] }) d

/-- The runtime stages a group's next scheduled state in the pending outputs of its latch group (R286). -/
def lightRestage (g : Nat) (d : Dev) : Dev :=
  let mask := d.ent (0x5400 + g) 3
  let p := if lightNext d g d.time64 then d.aio.pendAct ||| mask else (d.aio.pendAct ||| mask) ^^^ mask
  { d with aio.pendAct := p, floor.restage := d.floor.restage.filter (· ≠ g) }

/-- A change of source or commanded state is applied through the group's outputs (R287). -/
def lightApply (g : Nat) (d : Dev) : Dev :=
  if d.ent (0x5400 + g) 1 = 0 then d
  else
    let x := d.light g
    let w := lightWant d g
    if x.on = w.2 ∧ x.src = w.1 then d
    else
      let y : LightS := { x with on := w.2, src := w.1 }
      let d := d.setLight g y
      let d :=
        if x.on = w.2 then d
        else
          let d := ctxPut AIO_ACTOUT (if w.2 then BitVec.allOnes 32 else 0) (word (d.ent (0x5400 + g) 3) &&& ~~~(boundMask d AIO_ACTOUT)) d
          let d := if d.ready 7 then
              (upto 32).foldl (fun d n => if (d.ent (0x5400 + g) 3).testBit n then actApply n w.2 d else d) d
            else d
          let ch := d.ent (0x5400 + g) 4
          let d := if ch < 8 ∧ d.ready 9 then txRequest ch (d.ent (0x5400 + g) (if w.2 then 5 else 6)) d else d
          let pub := d.ent (0x5400 + g) 7
          if pub < 64 then publish pub d.time64 d else d
      lightEvt g y d

/-! ### Host supervision (R288) -/

/-- HOST_TIMEOUT has passed without a heartbeat. -/
def hostLose (d : Dev) : Dev :=
  if d.ent 0x1F01 0 = 0 then d
  else match d.ent 0x5500 1 with
    | 0 => raise .HOST_LOST [] ({ d with floor.beats := 0 }.setEnt 0x5500 1 1)
    | 2 => { d with floor.beats := 0 }.setEnt 0x5500 1 1
    | _ => d

end Sys2Proof.Machine
end

