-- ==== Sys2Proof/Machine/Posting.lean ====
section
/-! DEFINITION. Postings of the ledger (R17, R19, R111 to R118, R125): consumption, guards, what each action does at its
target, parts that wait for a domain, the order and number of postings of a cycle; and the commands of the ledger. -/

namespace Sys2Proof.Machine

/-! ### Register postings and flags (R19, R113) -/

/-- One entry of the log takes kind 7 where it is the entry of the write by `ini` at `addr` in this cycle and names a lower
kind. -/
def collideMark (now addr ini sess : Nat) (unpriv : Bool) (l : List AvEntry) : List AvEntry :=
  l.map (fun e => if e.cycle = now ∧ e.addr = addr ∧ e.ini = ini ∧ e.sess = sess ∧ e.write ∧ e.unpriv = unpriv ∧ e.kind < 7
    then { e with kind := 7 } else e)

/-- The write by `ini` at `addr` in this cycle has lost against a posting: its violation, where it has one already, takes the
higher kind (R19, R35). -/
def collideLog (addr ini sess : Nat) (unpriv : Bool) (d : Dev) : Dev :=
  match d.cyc.viols.find? (fun e => e.addr = addr && e.ini = ini && e.sess = sess && e.write && e.unpriv == unpriv) with
  | none => busViolation 7 addr ini sess true unpriv 4 d
  | some e =>
    if 7 ≤ e.kind then d
    else count 7 { d with av.entries := collideMark d.now addr ini sess unpriv d.av.entries,
                          cyc.viols := collideMark d.now addr ini sess unpriv d.cyc.viols }

/-- Bus writes of this cycle that meet a posting of the bits in `mask` with another value are violations (R19). -/
def postCollide (a : Nat) (mask new : Word) (d : Dev) : Dev :=
  match findReg a with
  | none => d
  | some (r, _) =>
    d.cyc.wrote.foldr (fun w d =>
      let pv := if w.2.2.2.2 then privMask a r else 0
      if w.1 = a ∧ (w.2.1 ^^^ new) &&& mask &&& ~~~(boundMask d a ||| pv ||| rsvdMask a r) ≠ 0 then
        collideLog (if w.2.2.2.2 then a + 0x20000000 else a) w.2.2.1 w.2.2.2.1 w.2.2.2.2 d
      else d) d

/-- What the register at `a` held before the bus writes of this cycle that no posting has overwritten yet (R19). -/
def beforeWrites (d : Dev) (a : Nat) : Word := tabGet (d.rd a) a d.cyc.before

/-- What a write changed from `t0` to `t1` is taken back where `t` still holds it. -/
def tabUndo {α : Type} [DecidableEq α] (dflt : Nat → α) (t0 t1 t : Tab α) : Tab α :=
  (t0 ++ t1).foldl (fun t e =>
    let a := tabGet (dflt e.1) e.1 t0
    let b := tabGet (dflt e.1) e.1 t1
    if a ≠ b ∧ tabGet (dflt e.1) e.1 t = b then tabPut (dflt e.1) e.1 a t else t) t

/-- The bits that a write changed from `n0` to `n1` are taken back where `n` still holds them. -/
def bitsUndo (n0 n1 n : Nat) : Nat :=
  let x := n0 ^^^ n1
  n ^^^ (x ^^^ ((n ^^^ n1) &&& x))

/-- What a bus write of this cycle has begun in the MDU or the AIO is taken back; what has happened there since stays, and so do counts
and events (R19). -/
def ioUndo (x : IoBack) (d : Dev) : Dev :=
  { d with
    regs := tabUndo resetOf x.regs0 x.regs1 d.regs,
    mdu.motors := tabUndo (fun _ => {}) x.mdu0.motors x.mdu1.motors d.mdu.motors,
    mdu.fans := tabUndo (fun _ => {}) x.mdu0.fans x.mdu1.fans d.mdu.fans,
    mdu.starts := bitsUndo x.mdu0.starts x.mdu1.starts d.mdu.starts,
    aio.pulse := bitsUndo x.aio0.pulse x.aio1.pulse d.aio.pulse,
    aio.latch := bitsUndo x.aio0.latch x.aio1.latch d.aio.latch,
    aio.pendAct := bitsUndo x.aio0.pendAct x.aio1.pendAct d.aio.pendAct,
    aio.pendGpio := bitsUndo x.aio0.pendGpio x.aio1.pendGpio d.aio.pendGpio,
    aio.pendDrv := tabUndo (fun _ => 0) x.aio0.pendDrv x.aio1.pendDrv d.aio.pendDrv,
    aio.pendDac := tabUndo (fun _ => 0) x.aio0.pendDac x.aio1.pendDac d.aio.pendDac,
    aio.i2c := tabUndo (fun _ => {}) x.aio0.i2c x.aio1.i2c d.aio.i2c }

/-- A posting to the register at `a` discards the bus writes that reached it in this cycle, latest first (R19). -/
def undoWrites (a : Nat) (d : Dev) : Dev :=
  let l := d.cyc.ioBack.filter (fun x => decide (x.addr = a))
  { l.foldl (fun d x => ioUndo x d) d with cyc.ioBack := d.cyc.ioBack.filter (fun x => decide (x.addr ≠ a)) }

/-- A posting discards what bus writes of this cycle have stored in the W1S bits of the register at `a`, which no later write can
clear (R8, R19). -/
def undoSet (a : Nat) (r : RegRow) (d : Dev) : Dev :=
  let m := accMask r (· == .w1s)
  let old := beforeWrites d a
  let d : Dev := { d with cyc.before := tabDel a d.cyc.before }
  if (d.rd a ^^^ old) &&& m = 0 then d else ctxPut a old m (d.wr a ((d.rd a &&& ~~~m) ||| (old &&& m)))

/-- REG_WRITE (6), REG_SET (7) and REG_CLR (8): the whole register but its bound and locked fields and values that the register ignores, from the value that it held
before the bus writes of this cycle (R19, R113). -/
def postReg (code a value : Nat) (d : Dev) : Dev :=
  match findReg a with
  | none => d
  | some (r, _) =>
    let old := beforeWrites d a
    let d := undoSet a r (undoWrites a d)
    let v := word value
    let new := if code = 7 then old ||| v else if code = 8 then old &&& ~~~v else v
    let bd := boundMask d a
    let lk := lockedMask d a r ||| refuseMask d a new
    let d := if (new ^^^ old) &&& bd ≠ 0 then count 0x038 d else d
    let d := if (new ^^^ old) &&& lockedMask d a r ≠ 0 then count 0x039 d else d
    let d := postCollide a (BitVec.allOnes 32) new d
    let d : Dev := { d with cyc.posted := (a, BitVec.allOnes 32, new) :: d.cyc.posted }
    regPut 0 0 a new (~~~(bd ||| lk)) r d

/-- FLAG_SET and FLAG_CLR of flag `k` (R112, R19). -/
def postFlag (k : Nat) (on : Bool) (d : Dev) : Dev :=
  let old := d.get LDG_FLAGS_LO_FLAGS + 2 ^ 32 * d.get LDG_FLAGS_HI_FLAGS
  let d : Dev := { d with cyc.flags0 := some (d.cyc.flags0.getD old) }
  let a := if k < 32 then LDG_FLAGS_LO else LDG_FLAGS_HI
  let m := wMask (k % 32) 1
  let v : Word := if on then m else 0
  let d := postCollide a m v d
  let d : Dev := { d with cyc.posted := (a, m, v) :: d.cyc.posted }
  d.wr a ((d.rd a &&& ~~~m) ||| v)

/-! ### Events of the runtime (R284, R389, R456) -/

/-- An event code reaches the runtime: a core has an event to handle (R55, R507). Program and lighting transitions are handled at once;
timed writes and activations are kept for their commands; other codes have no handler. -/
def runtimeEvent (v : Nat) (d : Dev) : Dev :=
  let hi := v / 2 ^ 16
  let d := coreEvent d
  if hi = 0x5001 then progTransition (v / 256 % 16) (v % 8) d
  else if hi = 0x5002 then lightTransition (v % 128) d
  else if hi = 0x1400 ∨ hi = 0x1500 then { d with ldg.events := d.ldg.events ++ [v] }
  else d

/-! ### Actions at their targets (R112) -/

/-- The parts of an action: the domain each needs, with TARGET and VALUE of that part (R17). -/
def postParts (d : Dev) (code target value : Nat) : List (Option Nat × Nat × Nat) :=
  match code with
  | 0x01 =>
    (if target % 4 ≠ 0 then [(some 4, target % 4, value)] else []) ++
      (if target / 4 % 4 ≠ 0 then [(some 5, target / 4 % 4 * 4, value)] else [])
  | 0x02 => [(some (cvuDom (target % 4)), target, value)]
  | 0x03 | 0x04 => [(some (ceaDom (target % 32)), target, value)]
  | 0x05 => [(some (if target = 0 then 6 else 7), target, value)]
  | 0x06 | 0x07 | 0x08 => [(some (if target < 0x40320000 then 6 else 7), target, value)]
  | 0x09 => [(some 9, target, value)]
  | 0x0A => [(some 8, target, value)]
  | 0x11 =>
    if d.ready 0 ∨ d.ready 1 then [(none, target, value)]
    else [(some (if d.pwr.halfOff.testBit 0 then 1 else 0), target, value)]
  | _ => [(none, target, value)]

/-- A part is applied; `t` is the TIME64 of its posting. -/
def postPart (code target value t : Nat) (d : Dev) : Dev :=
  match code with
  | 0x01 => cvuStart target false d
  | 0x02 => cvuInjectPost (target % 4) value d
  | 0x03 => trigMask (target % 32) value d
  | 0x04 => escrowPost (target % 32) value d
  | 0x05 =>
    if target = 0 then { d with mdu.latch := d.mdu.latch ||| value }
    else { d with aio.latch := d.aio.latch ||| value,
                  cyc.ioBack := d.cyc.ioBack.map (fun x => { x with aio0.latch := x.aio0.latch ||| value, aio1.latch := x.aio1.latch ||| value }) }
  | 0x06 | 0x07 | 0x08 => postReg code target value d
  | 0x09 => txRequest (target % 8) value d
  | 0x0A => publish (target % 64) t d
  | 0x0B => snapRequest d
  | 0x0C => postFlag (target % 64) true d
  | 0x0D => postFlag (target % 64) false d
  | 0x0E | 0x0F | 0x10 => { d with ldg.ctl := d.ldg.ctl ++ [(code, target)] }
  | 0x11 => runtimeEvent value d
  | _ => d

/-- A part whose domain is ready is applied, and the domain's hold time runs (R44). -/
def postReady (code t : Nat) (p : Option Nat × Nat × Nat) (d : Dev) : Dev :=
  let d := postPart code p.2.1 p.2.2 t d
  match p.1 with
  | none => d
  | some n => domainUsed n d

/-! ### Occurrences (R111, R116, R125) -/

/-- An occurrence has posted late (R125, R134). -/
def ldgLate (e i : Nat) (d : Dev) : Dev := raise .LEDGER_LATE [e / 256, e % 256, i] { d with ldg.late := d.ldg.late + 1 }

/-- A posting of entry `e` is counted (R134). -/
def postCounted (e : Nat) (d : Dev) : Dev :=
  let d : Dev := { d with ldg.posts := d.ldg.posts + 1, cyc.posts := d.cyc.posts + 1 }
  count (0x7B0 + e / 256 % 16) (count 0x030 d)

/-- An occurrence posts: its index is consumed, its entry's status and the counters follow (R116, R127, R134). -/
def ldgPosted (e i : Nat) (late : Bool) (d : Dev) : Dev :=
  let d := if isConsumed (d.lent e) i then d else consume e i i 1 d
  let d := d.setLent e { d.lent e with lateLast := late, guardedLast := false, posted := d.time64 }
  let d := ldgFallback e i (postCounted e d)
  if late then ldgLate e i d else d

/-- An occurrence is consumed without posting (R111, R44). -/
def ldgGuarded (e i : Nat) (d : Dev) : Dev :=
  let d := if isConsumed (d.lent e) i then d else consume e i i 1 d
  let d := ldgFallback e i (d.setLent e { d.lent e with guardedLast := true })
  count 0x03A { d with ldg.guarded := d.ldg.guarded + 1 }

/-- The occurrences of entry `e` that are held as a whole. -/
def wholeHeld (e : Nat) (d : Dev) : List Nat :=
  d.held.filterMap (fun h => match h.2 with
    | .action _ _ _ e' i true => if e' = e then some i else none
    | _ => none)

/-- Earlier occurrences of entry `e` that are held as a whole are missed; parts of an occurrence that has posted stay (R118, R125). -/
def heldEarlier (e : Nat) (d : Dev) : Dev :=
  let l := wholeHeld e d
  l.foldl (fun d i => ldgFallback e i (ldgMissed e i 1 d)) { d with held := d.held.filter (fun h => match h.2 with
    | .action _ _ _ e' i _ => !(e' = e && l.contains i)
    | _ => true) }

/-- The parts of an occurrence held at their targets; with `whole`, the first part carries the occurrence. -/
def holdParts (code e i : Nat) (whole : Bool) : List (Option Nat × Nat × Nat) → Dev → Dev
  | [], d => d
  | (none, _, _) :: t, d => holdParts code e i whole t d
  | (some n, tg, v) :: t, d => holdParts code e i false t (wakeDomain n (holdPart n (.action code tg v e i whole) d))

/-- Occurrence `i` of entry `e` reaches its posting cycle with the action `code` on TARGET and VALUE (R17, R111, R116, R118,
R125). -/
def ldgOccur (code e i : Nat) (late : Bool) (target value : Nat) (d : Dev) : Dev :=
  let w := ldgEntry d e
  if isConsumed (d.lent e) i then d
  else if !entryAllowed d w then ldgGuarded e i d
  else
    let parts := postParts d code target value
    let ok := fun (p : Option Nat × Nat × Nat) => match p.1 with | none => true | some n => d.ready n
    let off := parts.filter (fun p => !ok p)
    let t := d.time64
    if off ≠ [] ∧ off.length = parts.length then
      match w.late with
      | 0 => holdParts code e i true off (consume e i i 1 (heldEarlier e d))
      | 1 => ldgMissed e i 1 (ldgFallback e i (consume e i i 1 d))
      | _ =>
        let d := d.setLent e { d.lent e with start := t }
        if (nextIdx d e).isNone then d.setLent e { d.lent e with retired := true } else d
    else
      let d := ldgPosted e i late d
      let d := (parts.filter ok).foldl (fun d p => postReady code t p d) d
      if off = [] then d
      else if w.late = 0 then
        holdParts code e i false off (if late then d else ldgLate e i (d.setLent e { d.lent e with lateLast := true }))
      else ldgMissed e i 1 d

/-- A posting of entry `e` as a command gives it: the occurrence that waits to post, or else the entry's next one, with the
action's TARGET and VALUE (R116, R121, R124). -/
def ldgPost (code e target value : Nat) (late : Bool) (d : Dev) : Dev :=
  if d.ldg.st ≠ 1 ∨ tbUnset d then d
  else match d.ldg.due.findIdx? (fun x => x.entry = e) with
    | some k =>
      let x := d.ldg.due.getD k ⟨e, 0, late⟩
      let d : Dev := { d with ldg.due := d.ldg.due.eraseIdx k, ldg.old := if k < d.ldg.old then d.ldg.old - 1 else d.ldg.old }
      ldgOccur code e x.idx (x.late || late) target value d
    | none =>
      if !bookArmed d (e / 256) then d
      else match nextIdx d e with
        | none => d
        | some i => ldgOccur code e i late target value d

/-- The order of postings of one cycle: deferred ones first, then by book, entry and index (R117). -/
def dueOrder (d : Dev) : List Due :=
  d.ldg.due.take d.ldg.old ++ sortBy (fun (x : Due) => ((x.entry * 2 ^ 64 + x.idx : Nat) : Int)) (d.ldg.due.drop d.ldg.old)

/-- The occurrence would post: it is unconsumed and allowed, and a part of it finds its domain ready (R111, R116, R118). -/
def ldgPosts (d : Dev) (x : Due) : Bool :=
  let w := ldgEntry d x.entry
  let parts := postParts d w.action w.target w.value
  !isConsumed (d.lent x.entry) x.idx && entryAllowed d w &&
    (parts.isEmpty || parts.any (fun p => match p.1 with | none => true | some n => d.ready n))

/-- The occurrences of a list post in their order until the cycle has applied 64 postings; the others wait, those with `true` for the
first time, which is counted and raises its event (R117). One that waits posts in a following cycle although its book has been disarmed
meanwhile (DESIGN CHOICE, log entry 152). -/
def ldgTake : List (Due × Bool) → Nat → Dev → Dev
  | [], _, d => d
  | (x, new) :: t, n, d =>
    if n = 0 ∧ ldgPosts d x then
      let d : Dev := { d with ldg.due := d.ldg.due.take d.ldg.old ++ x :: d.ldg.due.drop d.ldg.old, ldg.old := d.ldg.old + 1 }
      ldgTake t n (if new then
          raise .LEDGER_DEFERRED [x.entry / 256, x.entry % 256, x.idx] { d with ldg.deferred := d.ldg.deferred + 1 }
        else d)
    else
      let w := ldgEntry d x.entry
      ldgTake t (if ldgPosts d x then n - 1 else n) (ldgOccur w.action x.entry x.idx x.late w.target w.value d)

/-- At most `n` of the occurrences that wait to post are applied; the rest are deferred (R117, R121). -/
def ldgDrain (n : Nat) (d : Dev) : Dev :=
  if d.ldg.st ≠ 1 then d
  else
    let l := dueOrder d
    ldgTake ((l.take d.ldg.old).map (·, false) ++ (l.drop d.ldg.old).map (·, true)) n { d with ldg.due := [], ldg.old := 0 }

/-- The end of a cycle for the ledger: its postings, then book control and commits; what a book that was armed catches up posts in
the same cycle, and may control books in turn (R114, R117, R123, R130). The fuel bounds the turns. -/
def ldgSettle : Nat → Dev → Dev
  | 0, d => d
  | fuel + 1, d =>
    let d := ldgCycleEnd (ldgDrain (64 - d.cyc.posts) d)
    if d.ldg.due.length ≤ d.ldg.old then d else ldgSettle fuel d

/-- An occurrence's instant has come: it posts in this cycle (R116). -/
def occurrenceDue (e : Nat) (d : Dev) : Dev :=
  match dueIdx d e with
  | none => d
  | some i => ldgDue e i false d

/-! ### Held parts (R17, R118) -/

/-- One held part is applied at its target; a pass that it starts is late (R167). -/
def heldApply (h : HeldPart) (d : Dev) : Dev :=
  match h with
  | .release n p v => deliverHeld n p v d
  | .action code target value e i first =>
    let d := if first then ldgPosted e i true d else d
    let t := if first then (instant d (ldgEntry d e) i).1.toNat else (d.lent e).posted
    if code = 0x01 then cvuStart target true d else postPart code target value t d
  | .old code target value e i t first =>
    let d := if first then ldgLate e i (postCounted e d) else d
    if code = 0x01 then cvuStart target true d else postPart code target value t d
  | .write sess idx sub len v => heldWrite sess idx sub len v d

/-- A held part may be applied: one of a posting only while the ledger is not suspended (R121). -/
def heldAllowed (d : Dev) (h : HeldPart) : Bool :=
  match h with
  | .action .. | .old .. => d.ldg.st = 1
  | _ => true

/-- The parts held for domain `n` are applied in their order once it is ready; those of postings never once the ledger is suspended
(R118, R121). -/
def heldFor (n : Nat) (d : Dev) : Dev :=
  if !d.ready n then d
  else
    let l := d.held.filter (fun h => h.1 = n && heldAllowed d h.2)
    let d : Dev := { d with held := d.held.filter (fun h => h.1 ≠ n) }
    l.foldl (fun d h => domainUsed n (heldApply h.2 d)) d

/-! ### Commands -/

/-- LEDGER_WAKE (R119). -/
def execLedgerWake (e : Nat) (st : State) : Host.Outcome State Fault Refusal := st.app (ldgWake e)

/-- OCCURRENCE_DUE (R111, R116, R125): the occurrence joins the postings of this cycle, which apply in the order of R117 at its
end. -/
def execOccurrenceDue (e : Nat) (st : State) : Host.Outcome State Fault Refusal := st.app (occurrenceDue e)

/-- DEFERRED_POSTING (R117): the next 64 of the postings that wait. -/
def execDeferredPosting (st : State) : Host.Outcome State Fault Refusal := st.app (ldgDrain 64)

/-- HELD_POSTING_APPLY (R118). -/
def execHeldPostingApply (n : Nat) (st : State) : Host.Outcome State Fault Refusal := st.app (heldFor n)

/-- NOP (R112). -/
def execNop (e target value : Nat) (late : Bool) (st : State) : Host.Outcome State Fault Refusal :=
  st.app (ldgPost 0x00 e target value late)

/-- CVU_START (R112, R166). -/
def execCvuStart (e target value : Nat) (late : Bool) (st : State) : Host.Outcome State Fault Refusal :=
  st.app (ldgPost 0x01 e target value late)

/-- CVU_INJECT (R112, R171). -/
def execCvuInject (e target value : Nat) (late : Bool) (st : State) : Host.Outcome State Fault Refusal :=
  st.app (ldgPost 0x02 e target value late)

/-- SLOT_START (R112, R228). -/
def execSlotStart (e target value : Nat) (late : Bool) (st : State) : Host.Outcome State Fault Refusal :=
  st.app (ldgPost 0x03 e target value late)

/-- ESCROW_POST (R112, R230). -/
def execEscrowPost (e target value : Nat) (late : Bool) (st : State) : Host.Outcome State Fault Refusal :=
  st.app (ldgPost 0x04 e target value late)

/-- OUT_LATCH (R112, R309, R322). -/
def execOutLatch (e target value : Nat) (late : Bool) (st : State) : Host.Outcome State Fault Refusal :=
  st.app (ldgPost 0x05 e target value late)

/-- REG_WRITE (R113). -/
def execRegWrite (e target value : Nat) (late : Bool) (st : State) : Host.Outcome State Fault Refusal :=
  st.app (ldgPost 0x06 e target value late)

/-- REG_SET (R113). -/
def execRegSet (e target value : Nat) (late : Bool) (st : State) : Host.Outcome State Fault Refusal :=
  st.app (ldgPost 0x07 e target value late)

/-- REG_CLR (R113). -/
def execRegClr (e target value : Nat) (late : Bool) (st : State) : Host.Outcome State Fault Refusal :=
  st.app (ldgPost 0x08 e target value late)

/-- CAN_QUEUE (R112, R346). -/
def execCanQueue (e target value : Nat) (late : Bool) (st : State) : Host.Outcome State Fault Refusal :=
  st.app (ldgPost 0x09 e target value late)

/-- NET_PUBLISH (R112, R405). -/
def execNetPublish (e target value : Nat) (late : Bool) (st : State) : Host.Outcome State Fault Refusal :=
  st.app (ldgPost 0x0A e target value late)

/-- OBS_SNAPSHOT (R112, R486). -/
def execObsSnapshot (e target value : Nat) (late : Bool) (st : State) : Host.Outcome State Fault Refusal :=
  st.app (ldgPost 0x0B e target value late)

/-- FLAG_SET (R112). -/
def execFlagSet (e target value : Nat) (late : Bool) (st : State) : Host.Outcome State Fault Refusal :=
  st.app (ldgPost 0x0C e target value late)

/-- FLAG_CLR (R112). -/
def execFlagClr (e target value : Nat) (late : Bool) (st : State) : Host.Outcome State Fault Refusal :=
  st.app (ldgPost 0x0D e target value late)

/-- BOOK_ARM (R114). -/
def execBookArm (e target value : Nat) (late : Bool) (st : State) : Host.Outcome State Fault Refusal :=
  st.app (ldgPost 0x0E e target value late)

/-- BOOK_DISARM (R114). -/
def execBookDisarm (e target value : Nat) (late : Bool) (st : State) : Host.Outcome State Fault Refusal :=
  st.app (ldgPost 0x0F e target value late)

/-- BOOK_SWAP (R114). -/
def execBookSwap (e target value : Nat) (late : Bool) (st : State) : Host.Outcome State Fault Refusal :=
  st.app (ldgPost 0x10 e target value late)

/-- RUNTIME_EVENT (R112, R284). -/
def execRuntimeEvent (e target value : Nat) (late : Bool) (st : State) : Host.Outcome State Fault Refusal :=
  st.app (ldgPost 0x11 e target value late)

/-- LDG_ARM (R106, R115, R121 to R123). -/
def execLdgArm (ini sess b : Nat) (st : State) : Host.Outcome State Fault Refusal :=
  st.app (busWrite ini sess LDG_BOOKCMD 4 (b % 16 + 16))

/-- LDG_DISARM (R106, R121). -/
def execLdgDisarm (ini sess b : Nat) (st : State) : Host.Outcome State Fault Refusal :=
  st.app (busWrite ini sess LDG_BOOKCMD 4 (b % 16 + 32))

/-- LDG_COMMIT (R106, R115, R130). -/
def execLdgCommit (ini sess e : Nat) (nv : Bool) (st : State) : Host.Outcome State Fault Refusal :=
  st.app (fun d =>
    if ini = 12 ∧ !debugOpen d then d
    else if !inReach d ini sess 6 LDG_COMMIT true then busViolation 10 LDG_COMMIT ini sess true false 4 d
    else ldgCommitOp ini sess (e % 4096) nv (noteWrite LDG_COMMIT (word (e % 4096 + 4096)) ini sess false
      ((d.set LDG_COMMIT_ENTRY (e % 256)).set LDG_COMMIT_BOOK (e / 256 % 16))))

/-- ZONE_EVALUATION (R262 to R273, R279, R307 to R309). -/
def execZoneEvaluation (st : State) : Host.Outcome State Fault Refusal := st.app floorEval

/-- DAY_BOOK_COMPILE (R283). -/
def execDayBookCompile (st : State) : Host.Outcome State Fault Refusal := st.app dayCompileOp

/-- DAY_BOOK_RECOMPILE (R283). -/
def execDayBookRecompile (st : State) : Host.Outcome State Fault Refusal := st.app dayRecompileOp

/-- LIGHT_RESTAGE (R286). -/
def execLightRestage (g : Nat) (st : State) : Host.Outcome State Fault Refusal := st.app (Sys2Proof.Machine.lightRestage g)

/-- LIGHT_SWITCHED (R287). -/
def execLightSwitched (g : Nat) (st : State) : Host.Outcome State Fault Refusal := st.app (lightApply g)

/-- HOST_LOST (R288). -/
def execHostLost (st : State) : Host.Outcome State Fault Refusal := st.app hostLose

end Sys2Proof.Machine
end

