-- ==== Sys2Proof/Machine/Hegus.lean ====
section
/-! DEFINITION. Hegus: requests, limits and responses, the messages of R386 to R393, sessions, authentication and the host
SPI (R378, R382 to R406). -/

namespace Sys2Proof.Machine

/-! ### Transports and sources (R384, R396, R399) -/

/-- The largest message of a transport. -/
def maxMsg (v : Transport) : Nat := if v = .udp then 1200 else 4096

/-- The source of a session: the host SPI, a CAN node, or an IP address. -/
def srcOf (s : Sess) : Nat :=
  match s.via with
  | .spi => 0
  | .can => s.num
  | .udp => 65536 + s.peer / 65536

/-- Transport and source as events name them (R409): 0 host SPI, 1 UDP, 2 CAN; of an IP address the last 12 bytes, which an IPv4 address in
the form ::ffff:a.b.c.d fills (DEDUCED, log entry 164). -/
def srcWords (src : Nat) : List Nat := if src = 0 then [0, 0] else if src < 65536 then [2, src] else 1 :: (addrWords (src - 65536)).drop 1

/-- Channel of a CAN session. -/
def canOf (n : Nat) : Nat := (n - 512) / 64

/-- Channel `c` carries Hegus sessions: HEGUS_EN 1, MODE not 0, the segment neither HELD nor OFF (R399). -/
def canCarries (d : Dev) (c : Nat) : Bool :=
  let w := d.cget (CAN_CFG_HEGUS_EN c)
  w = 1 && d.cget (CAN_CFG_MODE c) ≠ 0 && (!d.ready 9 || decide (d.get (CAN_STAT_SEG c) ≠ 3 ∧ d.get (CAN_STAT_SEG c) ≠ 4))

/-- Sessions whose transport has ended close (R399). -/
def sessSweep (d : Dev) : Dev :=
  d.heg.sessions.foldl (fun d s =>
    if s.via = .can ∧ !canCarries d (canOf s.num) then closeSession s.num d
    else if s.via = .spi ∧ !d.bit HIF_CFG_EN then closeSession s.num d
    else d) d

/-! ### Sending (R384, R396, R403) -/

/-- Frames and messages held for the host show in HIF_STAT. -/
def spiShow (d : Dev) : Dev :=
  let n := d.heg.outq.length + ((d.session 1).map (fun s => s.queue.length)).getD 0
  (d.set HIF_STAT_OUTQ (min n 64)).setB HIF_STAT_IRQ (decide (0 < n))

/-- A message goes out to session `n` over its transport; `plain` keeps the tag off. -/
def sendTo (n : Nat) (plain : Bool) (msg : Octets) (d : Dev) : Dev :=
  if n = 1 then spiShow { d with heg.outq := d.heg.outq ++ [(if plain then none else d.heg.key, msg)] }
  else if 512 ≤ n then heSend (canOf n) (n % 64) (octList msg) d
  else match d.session n with
    | some s => udpOut (some (if 2 ≤ s.role then 7 else 4)) 0x121 n (s.peer / 65536) (s.peer % 65536) s.lport (octList msg) (msg.len + 22) d
    | none => d

/-- A response is kept and sent (R384, R395); that of an AUTH_PROOF carries no tag (R398). -/
def respond (n : Nat) (x : Resp) (keep : Bool) (d : Dev) : Dev :=
  let d : Dev := { d with heg.resp := some (n, x) }
  let d := match d.session n with
    | some s => if keep then d.setSession { s with cache := (x :: s.cache).take 8, open_ := s.open_.filter (fun q => decide (q ≠ x.req)) } else d
    | none => d
  sendTo n (x.op = 0x13) (hegMsg x.op x.req 1 x.status x.detail x.body) d

/-! ### Limits (R399) -/

/-- One request of a source: 0 admitted, 1 to be answered with ERR_LIMIT, 2 discarded. -/
def rateTake (src : Nat) (d : Dev) : Nat × Dev :=
  let full := d.ent 0x1000 3 * 1000000000
  let b : Nat × Nat × Nat × Nat := tabGet (full, d.now, 0, d.now) src d.heg.buckets
  let credit := min full (b.1 + (d.now - b.2.1) * d.ent 0x1000 2)
  let put := fun (x : Nat × Nat × Nat × Nat) (d : Dev) => { d with heg.buckets := tabIns src x d.heg.buckets }
  if 1000000000 ≤ credit then (0, put (credit - 1000000000, d.now, b.2.2.1, b.2.2.2) d)
  else
    let fresh := decide (b.2.2.1 = 0 ∨ b.2.2.2 + 1000000000 ≤ d.now)
    let cnt := if fresh then 0 else b.2.2.1
    let since := if fresh then d.now else b.2.2.2
    if 10 ≤ cnt then (2, count 0x14B { put (credit, d.now, cnt, since) d with heg.limited := d.heg.limited + 1 })
    else (1, put (credit, d.now, cnt + 1, since) d)

/-- A source has failed to authenticate (R400, R430). -/
def authFail (src : Nat) (d : Dev) : Dev :=
  let d := raise .HEGUS_AUTH_FAILED (srcWords src) (tallyAdd 1 d)
  let l := within d.now 60000000000 (tabGet [] src d.heg.fails)
  if l.length < 5 then { d with heg.fails := tabIns src l d.heg.fails }
  else
    let d : Dev := { d with heg.fails := tabDel src d.heg.fails,
                            heg.lockout := tabIns src (d.now + d.ent 0x1000 7 * 1000000000) d.heg.lockout }
    raise .HEGUS_AUTH_LOCKOUT (srcWords src) d

/-- The source is locked out (R400). -/
def lockedOut (d : Dev) (src : Nat) : Bool := d.heg.lockout.any (fun e => e.1 = src)

/-! ### The request pipeline (R382, R384, R395, R396, R399, R450) -/

/-- What executing a request gives: status, detail and body, or none while it waits; and the device. -/
abbrev Out := Option (Nat × Nat × Octets) × Dev

/-- An empty answer. -/
def outErr (st detail : Nat) (d : Dev) : Out := (some (st, detail, ⟨0, 0⟩), d)
def outOk (body : Octets) (d : Dev) : Out := (some (0, 0, body), d)
/-- The answer to a dictionary operation. -/
def outRes (r : Nat × Nat × Dev) : Out := outErr r.1 r.2.1 r.2.2

/-- A transport can carry a message of session `n` now (R382, R402, R450). -/
def carries (d : Dev) (n : Nat) : Bool :=
  match d.sec.recovery with
  | some (_, via) => if via = 0 then n = 1 && d.bit HIF_CFG_EN else decide (2 ≤ n ∧ n < 34) && d.ready 8
  | none =>
    decide (4 ≤ d.pwr.step) &&
      (if n = 1 then d.bit HIF_CFG_EN else if 512 ≤ n then decide (n < 1024) && canCarries d (canOf n) && d.ready 9 else d.ready 8)

/-- A session opens. -/
def openSession (s : Sess) (d : Dev) : Dev :=
  raise .HEGUS_SESSION_OPENED [s.num, s.role] { d with heg.sessions := d.heg.sessions ++ [{ s with sid := d.heg.sids + 1 }], heg.sids := d.heg.sids + 1 }

/-- The first message of a CAN node opens its session (R396). -/
def canFirst (n : Nat) (d : Dev) : Dev :=
  if 512 ≤ n ∧ (d.session n).isNone then
    openSession { num := n, via := .can, role := d.ent (0x1240 + canOf n) 0, peer := n % 64, last := d.now } d
  else d

/-- Requests are refused as busy (R21, R382, R458). -/
def hegBusy (d : Dev) (write : Bool) : Bool :=
  (write && decide (d.pwr.step < 6)) ||
    (match d.pwr.takeover with | some t => decide (d.now < t) | none => false) ||
    (match d.sec.handover with | some h => h.stage = 1 || h.stage = 4 | none => false)

/-- A request of opcode `op` from session `r.sess`: `write` tells a write, `rom` one that the Teller ROM serves in recovery,
`f` executes it. -/
def hegRequest (r : Req) (op : Nat) (write rom : Bool) (f : Sess → Dev → Out) (d : Dev) : Dev :=
  if !carries d r.sess then d
  else
    let d := canFirst r.sess d
    match d.session r.sess with
    | none =>
      if r.sess ≠ 1 then d
      else
        let q := rateTake 0 d
        if q.1 = 2 then q.2
        else respond 1 ⟨op, r.id, if q.1 = 1 then 0xB else if r.bad then 0x13 else 0x14, 0, ⟨0, 0⟩⟩ false q.2
    | some s =>
      let d := d.setSession { s with last := d.now }
      let q := rateTake (srcOf s) d
      let d := q.2
      let refuse := fun (st : Nat) (keep : Bool) => respond s.num ⟨op, r.id, st, 0, ⟨0, 0⟩⟩ keep d
      if q.1 = 2 then d
      else if q.1 = 1 then refuse 0xB false
      else match s.cache.find? (fun x => x.req = r.id) with
      | some x => respond s.num x false (count 0x149 d)
      | none =>
        if s.open_.contains r.id then count 0x14A d
        else if 8 ≤ s.open_.length then refuse 0xB false
        else if r.bad then refuse 0x13 true
        else if d.sec.recovery.isSome ∧ !rom then refuse 7 true
        else if d.sec.recovery.isNone ∧ hegBusy d write then refuse 6 true
        else
          let x := f { s with last := d.now } d
          match x.1 with
          | none => x.2
          | some (st, det, body) =>
            if maxMsg s.via < 10 + body.len then refuse 0xA true
            else respond s.num ⟨op, r.id, st, det, body⟩ true x.2

/-- A request that needs fresh randomness or the Teller waits (R437, R459), or one for the NV store that the debug port owns (`nv`, R435). -/
def hegWait (nv : Bool) (s : Sess) (req op : Nat) (args : List Nat) (d : Dev) : Out :=
  (none, waitAdd s.num req op args nv (d.setSession { s with open_ := s.open_ ++ [req] }))

/-- The write of an entry has left its action to be performed when a domain is ready. -/
def leftHeld (sess idx sub : Nat) (d e : Dev) : Bool :=
  decide (d.held.length < e.held.length) && (match e.held.getLast? with
    | some (_, .write n i k _ _) => decide (n = sess ∧ i = idx ∧ k = sub)
    | _ => false)

/-- The answer waits for the action (R381). -/
def heldWait (s : Sess) (req op idx sub : Nat) (d : Dev) : Out :=
  let s := (d.session s.num).getD s
  (none, { d.setSession { s with open_ := s.open_ ++ [req] } with heg.heldAcks := d.heg.heldAcks ++ [(s.num, idx, sub, req, op)] })

/-! ### READ, WRITE, DESCRIBE (R378, R379, R386) -/

/-- Entries that the Teller ROM serves in recovery. -/
def romEntry (idx : Nat) : Bool := idx = 0 || idx = 0x9000

/-- READ. -/
def readOp (idx sub : Nat) (s : Sess) (d : Dev) : Out :=
  let r := readEnt s.role s.num idx sub d
  if r.1 ≠ 0 then outErr r.1 0 d else outOk r.2.1 r.2.2

/-- WRITE of one entry for a session, by a single message or a block transfer. -/
def writeOp (block : Bool) (req op idx sub : Nat) (v : Octets) (s : Sess) (d : Dev) : Out :=
  let f := fun (d : Dev) => entWrite s.role s.num block idx sub v d
  let args := [idx, sub, v.len, v.val, block.toNat]
  let r := f d
  if answerWaits idx sub v.len (r.1, r.2.1) d then hegWait false s req op args d
  else if storeOwned (fun d => (f d).1) d then hegWait true s req op args d
  else if r.1 = 0 ∧ leftHeld s.num idx sub d r.2.2 then heldWait s req op idx sub r.2.2
  else outRes r

/-- The entries whose default the dictionary tables leave as "–". -/
def noDefault (idx sub : Nat) : Bool :=
  (idx = 0xA000 && (sub = 2 || sub = 3 || sub = 4 || sub = 6)) || (idx = 0x2000 && (sub = 1 || sub = 8)) ||
    (decide (0x4000 ≤ idx ∧ idx < 0x4020) && sub = 9) || (idx = 0 && (sub = 3 || sub = 4)) ||
    (idx = 0x1001 && (sub = 1 || sub = 2)) || (idx = 0x9000 && (sub = 2 || sub = 3 || sub = 4)) ||
    (idx = 0x0A20 && (sub = 5 || sub = 6)) || (decide (0xF000 ≤ idx ∧ idx < 0xF039) && (sub = 2 || sub = 3)) ||
    idx = 0xA012 || (idx = 0x1100 && sub = 1) || (idx = 0x1101 && sub = 1) || (idx = 0x0100 && sub = 3) ||
    (idx = 0x8020 && sub = 2) || idx = 0x9004 || (idx = 0x9005 && sub = 2) || idx = 0x9006 || idx = 0x9010 ||
    (idx = 0x9200 && sub = 2) || idx = 0xB400 || decide (0xF800 ≤ idx)

/-- Entries that each session holds for itself (R383, chapter 15 for NV_ACCESS, R451). -/
def perSession (idx sub : Nat) : Bool :=
  (decide (0xF000 ≤ idx ∧ idx < 0xF039) && sub = 1) || (idx = 0x2130 && (sub = 1 || sub = 2)) || (idx = 0x0100 && sub = 2) ||
    (idx = 0x1010 && sub = 2) || (idx = 0x1001 && (sub = 1 || sub = 2)) || (idx = 0x8020 && sub = 1) ||
    (idx = 0x9005 && (sub = 1 || sub = 2))

/-- Fields of registers that an owning chapter marks as bindable (R315, R323). -/
def bindableBits (a : Nat) (m : Word) : Bool :=
  (upto 32).any (fun lo => m.toNat.testBit lo &&
    (bindable a lo 1 false || bindable a lo 16 false || bindable a lo 16 true || bindable a lo 2 true))

/-- The entry mirrors a bindable register field. -/
def mirrorsBindable (idx sub : Nat) : Bool := (reflects idx sub 1).any (fun x => bindableBits x.1 x.2.1)

/-- A range limit in 8 bytes. -/
def limitVal (i : Int) : Nat := ux 64 i

/-- The 56 bytes of a descriptor (R378). -/
def descriptor (idx sub : Nat) (e : EntInfo) (d : Dev) : Octets :=
  let ty := entTy d idx e
  let r := e.row.bind (·.range)
  let lo := (r.map (fun x => min x.lo (x.also.getD x.lo))).getD 0
  let hi := (r.map (fun x => max x.hi (x.also.getD x.hi))).getD 0
  let dv := !noDefault idx sub
  let fl := (perSession idx sub).toNat + 2 * (mirrorsBindable idx sub).toNat + 4 * r.isSome.toNat + 8 * dv.toNat
  let pers := match e.pers with | .vol => 0 | .nv => 1 | .shd => 2 | .cmp => 3
  let name := (e.row.map (fun x => strVal x.name)).getD 0
  ⟨56, packBytes [(1, ty), (1, pers), (1, e.rd), (1, if 4 ≤ e.wr then 0xFF else e.wr), (2, min e.size 65535), (1, fl), (1, 0),
    (8, limitVal lo), (8, limitVal hi), (8, if dv then entDflt (entKey idx sub) else 0), (24, name)]⟩

/-- DESCRIBE. -/
def describeOp (idx sub : Nat) (_ : Sess) (d : Dev) : Out :=
  match entInfo idx sub d with
  | none => outErr 1 0 d
  | some e => outOk (descriptor idx sub e d) d

/-! ### READ_MULTI and WRITE_MULTI (R387 to R389) -/

/-- READ_MULTI. -/
def readMultiOp (items : List (Nat × Nat)) (s : Sess) (d : Dev) : Out :=
  let r := readItems s.role s.num items d
  outOk r.1 r.2

/-- Bytes that the items of pending timed requests occupy (R389). -/
def timedBytes (l : List WItem) : Nat := l.foldl (fun n w => n + 6 + w.value.len) 0
def timedUsed (d : Dev) : Nat := d.heg.timed.foldl (fun n t => if t.state = 1 then n + timedBytes t.items else n) 0

/-- The next TIMED_ID: in turn from the last, skipping those in use. -/
def timedId (d : Dev) : Nat :=
  ((upto 65535).map (fun i => (d.heg.nextTid - 1 + i) % 65535 + 1)).find?
    (fun id => !(d.heg.timed.any (fun t => t.id = id ∧ t.state = 1))) |>.getD 1

/-- Accept a checked timed request (R389). -/
def timedAccept (t : Nat) (items : List WItem) (s : Sess) (d : Dev) : Out :=
  if tbUnset d ∨ t < d.time64 + 10000000 ∨ d.time64 + days31 < t then outErr 0xC 0 d
  else if 248 ≤ (d.heg.timed.filter (fun q => decide (q.state = 1))).length ∨ 32768 ≤ timedUsed d then outErr 9 0 d
  else
    let id := timedId d
    match ((upto 248).map (14 * 256 + 8 + ·)).find? (fun e => !(ldgEntry d e).en || (d.lent e).retired) with
    | none => outErr 9 0 d
    | some e =>
      let d := entryReplace e (runtimeEntry t 0x11 0 (0x14000000 + id) (decide (d.pwr.step < 9))) d
      let q : TimedReq := { id := id, time := t, role := s.role, sess := s.num, sid := s.sid, vals := s.vals, items := items }
      let d : Dev := { d with heg.timed := d.heg.timed.filter (fun x => decide (x.id ≠ id)) ++ [q], heg.nextTid := id % 65535 + 1 }
      outOk ⟨4, packBytes [(2, id), (1, 0xFF), (1, 0)]⟩ d

/-- Items as numbers, and back. -/
def itemsNat (l : List WItem) : List Nat := l.flatMap (fun w => [w.idx, w.sub, w.value.len, w.value.val])
def natItems : List Nat → List WItem
  | i :: k :: n :: v :: t => ⟨i, k, ⟨n, v⟩⟩ :: natItems t
  | _ => []

/-- WRITE_MULTI. -/
def writeMultiOp (req : Nat) (timed : Option Nat) (items : List WItem) (s : Sess) (d : Dev) : Out :=
  let f := fun (d : Dev) => itemsApply s.role s.num items d
  let args := (match timed with | some t => t + 1 | none => 0) :: itemsNat items
  if items = [] then outErr 8 0 d
  else if storeOwned (fun d => ((f d).1.map (·.2.1)).getD 0) d then hegWait true s req 4 args d
  else
    let r := f d
    if timed.isNone ∧ (itemWaits items r.1 d).isSome then hegWait false s req 4 args d
    else match r.1, timed with
      | some x, _ => (some (x.2.1, x.2.2, ⟨4, x.1⟩), r.2)
      | none, some t => timedAccept t items s d
      | none, none => outOk ⟨4, 0xFF⟩ r.2

/-- The items of a timed request with the role and the per-session values of its acceptance (R389). -/
def timedApply (t : TimedReq) (d : Dev) : Option (Nat × Nat × Nat) × Dev :=
  itemsApply t.role t.sess t.items { d with heg.tctx := some (t.sess, t.role, t.vals) }

/-- A timed request is applied (R389). -/
def timedRun (t : TimedReq) (d : Dev) : Dev :=
  let id := t.id
  let d : Dev := { d with ldg.events := d.ldg.events.filter (fun v => decide (v ≠ 0x14000000 + id)) }
  let e := timedEntry d id
  let late := (e.map (fun e => (d.lent e).lateLast)).getD false
  let d := match e with
    | some e => entryRemove e d
    | none => d
  let d : Dev := { d with heg.timed := d.heg.timed.map (fun x => if x.id = id then { x with late := late } else x) }
  let r := timedApply t d
  let d : Dev := { r.2 with heg.tctx := none }
  match r.1 with
  | none => raise .TIMED_WRITE_DONE [id] (timedEnd id 2 0 d)
  | some f => raise .TIMED_WRITE_FAILED [id] (timedEnd id 3 (f.2.1 % 256 + 256 * (f.1 % 256) + 65536 * (f.2.2 % 65536)) d)

/-- The posting of timed request `id` reaches the runtime (R389); it waits for randomness or for the store (R435, R437). -/
def timedFire (id : Nat) (d : Dev) : Dev :=
  if !d.ldg.events.contains (0x14000000 + id) then d
  else
    match d.heg.timed.find? (fun t => t.id = id ∧ t.state = 1) with
    | none => { d with ldg.events := d.ldg.events.filter (fun v => decide (v ≠ 0x14000000 + id)) }
    | some t =>
      let busy := storeOwned (fun d => ((timedApply t d).1.map (·.2.1)).getD 0) d
      if busy || (itemWaits t.items (timedApply t d).1 d).isSome then waitAdd 0 id 0x101 [id] busy d else timedRun t d

/-- A timed request has waited too long for randomness. -/
def timedLost (id : Nat) (d : Dev) : Dev :=
  raise .TIMED_WRITE_FAILED [id] (timedEnd id 3 6 { d with ldg.events := d.ldg.events.filter (fun v => decide (v ≠ 0x14000000 + id)) })

/-! ### Subscriptions (R391, R392) -/

/-- The body of a NOTIFY. -/
def notifyBody (n : Notification) : Octets :=
  (⟨12, packBytes [(1, n.sub), (1, n.status), (2, n.coalesced), (8, n.time)]⟩ : Octets).cat n.value

/-- The last member of the list that satisfies `p`, changed. -/
def mapLast {α : Type} (p : α → Bool) (f : α → α) : List α → List α
  | [] => []
  | x :: t => if p x && !t.any p then f x :: t else x :: mapLast p f t

/-- Queue a NOTIFY of subscription `b` of session `s`; in a full queue a value replaces the newest of its subscription (R392). -/
def notifyQueue (b : Subscription) (st : Nat) (v : Octets) (s : Sess) (d : Dev) : Sess × Dev :=
  let put := fun (b : Subscription) (s : Sess) => { s with subs := s.subs.map (fun x => if x.id = b.id then b else x) }
  let n : Notification := ⟨b.id, st, min b.carried 65535, d.time64, v⟩
  if s.queue.length < 64 then (put { b with carried := 0, last := some v } { s with queue := s.queue ++ [n] }, d)
  else if b.mode ≠ 3 ∧ s.queue.any (fun x => x.sub = b.id) then
    (put { b with last := some v }
      { s with queue := mapLast (fun x => decide (x.sub = b.id)) (fun x => { n with coalesced := min (x.coalesced + 1) 65535 }) s.queue },
      count 0x14C d)
  else (put { b with carried := b.carried + 1 } s, count 0x14C d)

/-- Queue event records, oldest first, for subscription `id` (R391). -/
def eventsQueue (id : Nat) (l : List EvRec) (s : Sess) (d : Dev) : Sess × Dev :=
  l.foldl (fun x ev => match x.1.subs.find? (fun b => b.id = id) with
    | none => x
    | some b => notifyQueue b 0 ⟨52, evBytes ev⟩ x.1 x.2) (s, d)

/-- The difference of two values in raw units of the type. -/
def rawDiff (ty : Nat) (a b : Octets) : Nat :=
  let signed := ty = 6 || ty = 7 || ty = 8 || ty = 9 || ty = 10 || ty = 11
  let w := 8 * a.len
  if signed then (sx w a.val - sx w b.val).natAbs else ((a.val : Int) - b.val).natAbs

/-- DEADBAND suits the type: integers, Q15, Q31, TIME64 and DUR32. -/
def deadbandOk (ty : Nat) : Bool := (2 ≤ ty && ty ≤ 11) || ty = 13 || ty = 14

/-- A sample instant, or a new event record, of subscription `id` (R391, R392); the final NOTIFY of a subscription that ends finds room
in any queue. -/
def notifyStep (id : Nat) (s : Sess) (d : Dev) : Dev :=
  match s.subs.find? (fun b => b.id = id) with
  | none => d
  | some b =>
    let endWith := fun (st : Nat) (d : Dev) =>
      d.setSession { s with subs := s.subs.filter (fun x => decide (x.id ≠ id)),
                            queue := s.queue ++ [⟨b.id, st, min b.carried 65535, d.time64, ⟨0, 0⟩⟩] }
    match entInfo b.idx b.sub d with
    | none => endWith 1 d
    | some e =>
      if s.role < e.rd then endWith 5 d
      else if b.mode = 3 then
        let r := eventsQueue id (d.evLog.filter (fun ev => decide (b.next ≤ ev.seq))).reverse s d
        r.2.setSession { r.1 with subs := r.1.subs.map (fun x => if x.id = id then { x with next := d.evSeq } else x) }
      else
        let x := readEnt s.role s.num b.idx b.sub d
        let v := x.2.1
        let due : Bool := match b.last with
          | none => true
          | some l =>
            if b.mode = 0 then v ≠ l
            else if b.mode = 1 then true
            else decide (b.deadband < rawDiff (entTy d b.idx e) v l)
        let s := (x.2.2.session s.num).getD s
        if due then (let r := notifyQueue b 0 v s x.2.2
                     r.2.setSession r.1)
        else x.2.2

/-- SUBSCRIBE (R391). -/
def subscribeOp (idx sub mode period deadband : Nat) (s : Sess) (d : Dev) : Out :=
  match entInfo idx sub d with
  | none => outErr 1 0 d
  | some e =>
    let all : Nat := d.heg.sessions.foldl (fun n x => n + x.subs.length) 0
    if s.role < e.rd then outErr 5 0 d
    else if 3 < mode then outErr 3 0 d
    else if mode = 3 ∧ (idx ≠ 0x0100 ∨ sub ≠ 0 ∨ period ≠ 0) then outErr 3 0 d
    else if mode ≠ 3 ∧ (period < 100 ∨ 86400000 < period) then outErr 3 0 d
    else if mode = 2 ∧ !deadbandOk (entTy d idx e) then outErr 3 0 d
    else if maxMsg s.via < 22 + e.size then outErr 0xA 0 d
    else if 32 ≤ s.subs.length ∨ 256 ≤ all then outErr 9 0 d
    else
      let id := ((upto 255).map (· + 1)).find? (fun i => !(s.subs.any (fun b => b.id = i))) |>.getD 0
      let b : Subscription := { id := id, idx := idx, sub := sub, mode := mode, period := period, deadband := deadband, next := d.evSeq }
      let s := { s with subs := s.subs ++ [b] }
      let d := d.setSession s
      outOk ⟨4, id⟩ (if mode = 3 then d else notifyStep id s d)

/-- UNSUBSCRIBE (R386): a SUB_ID that names no subscription is refused as a session value. -/
def unsubscribeOp (id : Nat) (s : Sess) (d : Dev) : Out :=
  if s.subs.any (fun b => b.id = id) then outOk ⟨0, 0⟩ (d.setSession { s with subs := s.subs.filter (fun b => decide (b.id ≠ id)) })
  else outErr 0x14 0 d

/-- Queued NOTIFY messages of a session go out, where its transport is free: one on CAN while no transfer to the node is in
progress, all of them on UDP; the host fetches its own. -/
def notifyDrain (s : Sess) (d : Dev) : Dev :=
  let go := fun (l : List Notification) (d : Dev) =>
    l.foldl (fun d n =>
      match d.session s.num with
      | none => d
      | some x => sendTo x.num false (hegMsg 7 (x.seq % 65536) 0 0 0 (notifyBody n))
          (d.setSession { x with seq := (x.seq + 1) % 65536, queue := x.queue.tail })) d
  match s.via with
  | .spi => spiShow d
  | .udp => if d.ready 8 then go s.queue d else d
  | .can => if d.ready 9 ∧ !((d.canS (canOf s.num)).tx.any (fun t => decide (t.node = s.num % 64))) then go (s.queue.take 1) d else d

/-! ### Block transfers (R393) -/

/-- The largest data of one BLOCK_DATA: a message less header, BLOCK_ID and OFFSET. -/
def blockChunk (s : Sess) : Nat := maxMsg s.via - 18

/-- Replace a transfer of a session. -/
def xferPut (s : Sess) (x : BlockXfer) (d : Dev) : Dev :=
  d.setSession { s with xfers := s.xfers.map (fun y => if y.id = x.id then x else y) }
/-- End a transfer. -/
def xferEnd (s : Sess) (id : Nat) (d : Dev) : Dev := d.setSession { s with xfers := s.xfers.filter (fun x => decide (x.id ≠ id)) }

/-- BLOCK_START. -/
def blockStartOp (idx sub dir total : Nat) (s : Sess) (d : Dev) : Out :=
  let id := ((upto 255).map (· + 1)).find? (fun i => !(s.xfers.any (fun x => x.id = i))) |>.getD 0
  let body := fun (id n : Nat) => (⟨8, packBytes [(1, id), (1, 0), (2, blockChunk s), (4, n)]⟩ : Octets)
  if d.sec.recovery.isSome ∧ idx ≠ 0x9010 then outErr 7 0 d
  else if dir = 0 then
    let r := readEnt s.role s.num idx sub d
    if r.1 ≠ 0 then outErr r.1 0 d
    else if s.xfers.any (fun x => !x.write) then outErr 9 0 d
    else
      let s := (r.2.2.session s.num).getD s
      let x : BlockXfer := { id := id, idx := idx, sub := sub, write := false, total := r.2.1.len, data := r.2.1, last := d.now }
      outOk (body id r.2.1.len) (r.2.2.setSession { s with xfers := s.xfers ++ [x] })
  else
    let g := writeGate s.role idx sub true d
    let size := ((entInfo idx sub d).map (·.size)).getD 0
    let all : Nat := d.heg.sessions.foldl (fun n x => n + (x.xfers.filter (·.write)).length) 0
    if g ≠ 0 then outErr g 0 d
    else if size < total then outErr 3 0 d
    else if total = 0 then outOk (body 0 0) d
    else if s.xfers.any (·.write) ∨ 4 ≤ all then outErr 9 0 d
    else
      let x : BlockXfer := { id := id, idx := idx, sub := sub, write := true, total := total, last := d.now }
      outOk (body id total) (d.setSession { s with xfers := s.xfers ++ [x] })

/-- BLOCK_DATA. -/
def blockDataOp (id offset : Nat) (data : Octets) (s : Sess) (d : Dev) : Out :=
  match s.xfers.find? (fun x => x.id = id) with
  | none => outErr 0x14 0 d
  | some x =>
    let d := xferPut s { x with last := d.now } d
    if !x.write then
      if data.len ≠ 0 then outErr 0x13 0 d
      else if x.total ≤ offset then outErr 3 0 d
      else outOk (x.data.part offset (min (blockChunk s) (x.total - offset))) d
    else if blockChunk s < data.len then outErr 0x13 0 d
    else if offset ≠ x.data.len then outErr 0x17 (x.data.len % 65536) d
    else if x.total < offset + data.len then outErr 3 0 d
    else outOk ⟨4, offset + data.len⟩ (xferPut s { x with data := x.data.cat data, last := d.now } d)

/-- BLOCK_END: the CRC is compared, then the whole value is written. A write that has not received TOTAL bytes is out of
sequence. -/
def blockEndOp (req id crc : Nat) (s : Sess) (d : Dev) : Out :=
  match s.xfers.find? (fun x => x.id = id) with
  | none => outErr 0x14 0 d
  | some x =>
    let s := { s with xfers := s.xfers.filter (fun y => decide (y.id ≠ id)) }
    let d := d.setSession s
    if !x.write then outOk ⟨4, crc32 x.data.blob x.data.len⟩ d
    else if x.data.len ≠ x.total then outErr 0x17 (x.data.len % 65536) d
    else if crc32 x.data.blob x.data.len ≠ crc then outErr 0x18 0 d
    else
      let r := writeOp true req 0x0B x.idx x.sub x.data s d
      if r.1.isSome then r
      else (none, { r.2 with sec.waits := r.2.sec.waits.map (fun w => if w.sess = s.num ∧ w.req = req then { w with args := w.args ++ [id] } else w) })

/-- The BLOCK_END of transfer `id` that still waits for its value to be written. -/
def blockWaiting (id : Nat) (s : Sess) (d : Dev) : Option Waiting :=
  d.sec.waits.find? (fun w => decide (w.sess = s.num ∧ w.op = 0x0B ∧ w.args.drop 5 = [id]))

/-- BLOCK_ABORT: a BLOCK_END of the transfer that still waits is answered with ERR_ABORTED, and nothing is written (R394; DEDUCED, log
entry 140). -/
def blockAbortOp (id : Nat) (s : Sess) (d : Dev) : Out :=
  if s.xfers.any (fun x => x.id = id) then outOk ⟨0, 0⟩ (xferEnd s id d)
  else match blockWaiting id s d with
    | none => outErr 0x14 0 d
    | some w => outOk ⟨0, 0⟩ (respond s.num ⟨0x0B, w.req, 0x19, 0, ⟨0, 0⟩⟩ true { d with sec.waits := d.sec.waits.erase w })

/-! ### Sessions (R396, R399, R401) -/

/-- The body of a SESSION_OPEN response. -/
def sessionBody (s : Sess) : Octets := ⟨8, packBytes [(2, s.num), (1, s.role), (1, 0), (2, maxMsg s.via), (2, 0)]⟩

/-- SESSION_OPEN: it opens the session of the host SPI, or in recovery that of its transport, and is answered with the
existing session elsewhere (R396, R450). -/
def sessionOpenOp (r : Req) (role : Nat) (d : Dev) : Dev :=
  let openNow := carries d r.sess ∧ (d.session r.sess).isNone ∧ !r.bad ∧ (d.sec.recovery.isSome ∨ !hegBusy d false) ∧
    (r.sess = 1 ∨ (r.sess < 34 ∧ d.sec.recovery.isSome)) ∧ (rateTake 0 d).1 = 0
  let via : Transport := if r.sess = 1 then .spi else .udp
  let s : Sess := { num := r.sess, via := via, role := min role (if r.sess = 1 then d.ent 0x1000 6 else 0), last := d.now }
  let d := if openNow then openSession s d else d
  let d := if openNow ∧ r.sess = 1 then (d.set HIF_STAT_ROLE s.role).set HIF_STAT_AUTH 0 else d
  hegRequest r 0x10 false true (fun s d => outOk (sessionBody s) d) d

/-- The answer to a SESSION_CLOSE, then the close; what the host has not fetched stays for it, under the keys of its frames (R386). -/
def closeAnswered (id : Nat) (s : Sess) (d : Dev) : Dev :=
  let d := respond s.num ⟨0x11, id, 0, 0, ⟨0, 0⟩⟩ false d
  let q := d.heg.outq
  let d := closeSession s.num d
  if s.via = .spi then spiShow { d with heg.outq := q } else d

/-- SESSION_CLOSE: the response is the session's last message (R386, R401). -/
def sessionCloseOp (r : Req) (d : Dev) : Dev :=
  hegRequest r 0x11 false false (fun s d => (none, closeAnswered r.id s d)) d

/-! ### Authentication (R397, R398, R437, R459) -/

/-- AUTH_BEGIN on the host SPI: the ephemeral key, the challenge and their signature are the device's own values. -/
def authBeginGo (role : Nat) (key cert : Octets) (s : Sess) (d : Dev) : Out :=
  let f := d.freeVal
  let dk := Config.crypto 8 [f.1, 0] % 256 ^ 65
  let nonce := Config.crypto 8 [f.1, 1] % 256 ^ 32
  let body : Octets := ⟨164, packBytes [(65, dk), (3, 0), (32, nonce), (64, Config.crypto 3 [Config.dik, key.val, dk, nonce])]⟩
  outOk body (f.2.setSession { s with authing := some (role, cert, [role, cert.len, key.val, cert.val, body.val]) })

/-- AUTH_BEGIN (R385, R398, R400, R437, R441). -/
def authBeginOp (req role : Nat) (key cert : Octets) (s : Sess) (d : Dev) : Out :=
  if s.via ≠ .spi then outErr 0x15 0 d
  else if key.len ≠ 65 ∨ role < 2 ∨ 3 < role then outErr 0x13 0 d
  else if d.sec.lcs = 3 then outErr 7 0 d
  else if lockedOut d (srcOf s) then outErr 0x16 0 d
  else if trngStopped d then hegWait false s req 0x12 [role, key.val, cert.len, cert.val] d
  else authBeginGo role key cert s d

/-- AUTH_PROOF: certificate, role and signature are verified; on success the role rises and the frame key is derived (R398).
-/
def authProofOp (sig : Nat) (s : Sess) (d : Dev) : Out :=
  if s.via ≠ .spi then outErr 0x15 0 d
  else match s.authing with
    | none => outErr 0x16 0 (authFail (srcOf s) d)
    | some (role, cert, l) =>
      let s := { s with authing := none }
      if spiCertOk d role cert && Config.cryptoOk 1 (cert.val :: sig :: l) then
        let d := (d.setSession { s with role := role, authed := true }).set HIF_STAT_AUTH 1 |>.set HIF_STAT_ROLE role
        let x := d.sec
        outOk ⟨0, 0⟩ { d with heg.key := some (Config.crypto 6 l), heg.rxCtr := 0, heg.txCtr := 0, heg.tagFails := 0,
                              sec := { x with newKeys := x.newKeys && decide (role ≠ 3 ∨ x.lcs = 0) } }
      else outErr 0x16 0 (authFail (srcOf s) (d.setSession s))

/-- The lowest free number of a UDP session. -/
def udpFree (d : Dev) : Option Nat := ((upto 32).map (· + 2)).find? (fun n => (d.session n).isNone)

/-- The least recently active OBSERVER or OPERATOR session on UDP. -/
def udpIdlest (d : Dev) : Option Nat :=
  ((d.heg.sessions.filter (fun s => decide (s.via = .udp ∧ s.role < 2))).foldl (fun (m : Option Sess) s => match m with
    | none => some s
    | some x => if s.last < x.last then some s else some x) none).map (·.num)

/-- A handshake message that is no session's: a HelloRetryRequest (0x122), an alert (0x123) or the device's certificate (0x124). -/
def hsSend (kind peer lport : Nat) (body : List Nat) (d : Dev) : Dev :=
  udpOut none kind peer (peer / 65536) (peer % 65536) lport body (if kind = 0x122 then 128 else if kind = 0x123 then 15 else 1664) d

/-- A completed handshake opens a session (R396, R397, R399). -/
def udpOpen (peer role lport : Nat) (d : Dev) : Dev :=
  let d := match d.heg.sessions.find? (fun s => s.via = .udp ∧ s.peer = peer) with
    | some s => closeSession s.num d
    | none => d
  let d := if (udpFree d).isNone ∧ 2 ≤ role then (match udpIdlest d with | some n => closeSession n d | none => d) else d
  match udpFree d with
  | none => hsSend 0x123 peer lport [40] d
  | some n =>
    let d := openSession { num := n, via := .udp, role := role, peer := peer, lport := lport, last := d.now } d
    if 2 ≤ role then letIn peer d else d

/-- The device shows its certificate in a handshake with one (R440); without any the handshake fails. -/
def withCert (peer lport : Nat) (f : Dev → Dev) (d : Dev) : Dev :=
  match serverCert d with
  | none => hsSend 0x123 peer lport [40] d
  | some (k, c) => f (hsSend 0x124 peer lport [k, c] d)

/-- The handshake after the cookie (R397, R400, R440, R452). Alerts: 40 handshake_failure, 42 bad_certificate. -/
def handshake (peer kind role lport : Nat) (cred : Octets) (d : Dev) : Dev :=
  let src := 65536 + peer / 65536
  match kind with
  | 0 => withCert peer lport (fun d => if certOk d role cred then udpOpen peer role lport d else authFail src (hsSend 0x123 peer lport [42] d)) d
  | 1 =>
    if (upto 16).any (fun k => d.ent (0x9110 + k) 0 ≠ 0 && Config.cryptoOk 7 [d.ent (0x9110 + k) 0, cred.len, cred.val]) then
      udpOpen peer 1 lport d
    else authFail src (hsSend 0x123 peer lport [40] d)
  | _ => if d.ent 0x1000 5 = 1 then withCert peer lport (udpOpen peer 0 lport) d else hsSend 0x123 peer lport [40] d

/-- A ClientHello to port `dport`: the device listens on UDP_PORT alone (R397, R399, R400, R437). -/
def helloOp (ip port dport : Nat) (cookie : Bool) (kind role : Nat) (cred : Octets) (d : Dev) : Dev :=
  let src := 65536 + ip
  let l := within d.now 10000000000 (tabGet [] src d.heg.hellos)
  if dport ≠ hegusPort d ∨ !d.ready 8 ∨ d.pwr.step < 4 ∨ d.sec.recovery.isSome ∨ lockedOut d src then d
  else if 4 < l.length then d
  else
    let d : Dev := { d with heg.hellos := tabIns src l d.heg.hellos }
    let peer := ip * 65536 + port
    if !cookie then hsSend 0x122 peer dport [] d
    else if trngStopped d then waitAdd 0 peer 0x100 [peer, kind, role, cred.len, cred.val, dport] false d
    else handshake peer kind role dport cred d

/-- A waiting request is executed once what it waits for is back (R435, R437, R459). -/
def waitGo (w : Waiting) (d : Dev) : Dev :=
  let a := fun (i : Nat) => w.args.getD i 0
  if w.op = 0x100 then handshake (a 0) (a 1) (a 2) (a 5) ⟨a 3, a 4⟩ d
  else if w.op = 0x101 then timedFire (a 0) d
  else if w.op = 0x102 then switchover (a 0) d
  else match d.session w.sess with
    | none => d
    | some s =>
      let x := if w.op = 0x12 then authBeginGo (a 0) ⟨65, a 1⟩ ⟨a 2, a 3⟩ s d
        else if w.op = 0x04 then writeMultiOp w.req (if a 0 = 0 then none else some (a 0 - 1)) (natItems (w.args.drop 1)) s d
        else writeOp (a 4 = 1) w.req w.op (a 0) (a 1) ⟨a 2, a 3⟩ s d
      match x.1 with
      | none => x.2
      | some (st, det, body) => respond s.num ⟨w.op, w.req, st, det, body⟩ true x.2

/-- The requests of which `p` holds, in the order of arrival. -/
def waitsOf (p : Waiting → Bool) (d : Dev) : Dev :=
  (d.sec.waits.filter p).foldl (fun d w => waitGo w d) { d with sec.waits := d.sec.waits.filter (fun w => !p w) }

/-- What a request waits for is back: the Teller, and for all but a comparison of a password randomness. -/
def waitReady (d : Dev) (w : Waiting) : Bool :=
  !w.nv && (!trngStopped d || (!d.sec.tellerBusy && (w.op = 2 || w.op = 0x0B) && pwdEntry (w.args.getD 0 0) (w.args.getD 1 0)))

/-- Every request that waits for randomness or the Teller and can go on. -/
def waitsRun (d : Dev) : Dev := waitsOf (waitReady d) d

/-- A waiting request ends unexecuted: ERR_BUSY. -/
def waitDrop (w : Waiting) (d : Dev) : Dev :=
  let d : Dev := { d with sec.waits := d.sec.waits.erase w }
  if w.op = 0x100 then d else if w.op = 0x101 then timedLost w.req d else if w.op = 0x102 then configLost w.req d
  else respond w.sess ⟨w.op, w.req, 6, 0, ⟨0, 0⟩⟩ true d

/-- A request has waited for more than 1 s (R437). -/
def waitEnd (sess req : Nat) (d : Dev) : Dev :=
  match d.sec.waits.find? (fun w => w.sess = sess ∧ w.req = req ∧ !w.nv) with
  | none => d
  | some w => waitDrop w d

/-- The requests that wait for the store: executed once the debug port has released it, refused after 100 ms (R435). -/
def storeWaits (d : Dev) : Dev :=
  if d.get NVS_STAT_OWNER ≠ 12 then waitsOf (·.nv) d
  else (d.sec.waits.filter (fun w => w.nv && decide (w.at_ + 100000000 ≤ d.now))).foldl (fun d w => waitDrop w d) d

/-- The answers of writes whose action a domain has performed (R381). -/
def acksOut (d : Dev) : Dev := d.heg.acks.foldl (fun d a => respond a.1 a.2 true d) { d with heg.acks := [] }

/-! ### Messages as bytes (R384 to R388) -/

/-- Addresses of a READ_MULTI body. -/
def addrList (b : Octets) : Nat → Nat → List (Nat × Nat)
  | 0, _ => []
  | k + 1, o => (b.at o 2, b.at (o + 2) 1) :: addrList b k (o + 4)

/-- The reserved byte of an address is 0. -/
def addrOk (b : Octets) (o : Nat) : Bool := b.at (o + 3) 1 = 0

/-- A message of session `n`, executed by its opcode. -/
def hegHandle (n : Nat) (m : Octets) (d : Dev) : Dev :=
  let op := m.at 1 1
  let b := m.part 10 (m.len - 10)
  let via := ((d.session n).map (·.via)).getD (if n = 1 then .spi else if 512 ≤ n then .can else .udp)
  let hdr := decide (10 ≤ m.len ∧ m.len ≤ maxMsg via) && m.at 0 1 = 1 && m.at 4 2 = m.len - 10 && m.at 6 4 = 0
  let rq := fun (ok : Bool) => ({ sess := n, id := m.at 2 2, bad := !(hdr && ok) } : Req)
  let four := b.len = 4 && addrOk b 0
  let ent := b.at 0 2
  let sub := b.at 2 1
  match op with
  | 0x01 => hegRequest (rq four) op false (romEntry ent) (readOp ent sub) d
  | 0x02 =>
    hegRequest (rq (decide (4 ≤ b.len) && addrOk b 0)) op true false (writeOp false (m.at 2 2) op ent sub (b.part 4 (b.len - 4))) d
  | 0x03 =>
    let k := b.at 0 1
    let ok := b.len = 4 + 4 * k && b.at 1 3 = 0 && (upto k).all (fun i => addrOk b (4 + 4 * i))
    hegRequest (rq ok) op false false (readMultiOp (addrList b k 4)) d
  | 0x04 =>
    let t := b.at 1 1
    let o := if t = 1 then 12 else 4
    let l := itemsAt b (b.at 0 1) o
    let items := l.getD []
    let ok := decide (o ≤ b.len) && decide (t ≤ 1) && b.at 2 2 = 0 && l.isSome && b.len = o + timedBytes items
    hegRequest (rq ok) op true false (writeMultiOp (m.at 2 2) (if t = 1 then some (b.at 4 8) else none) items) d
  | 0x05 =>
    let ok := b.len = 16 && addrOk b 0 && b.at 5 3 = 0
    hegRequest (rq ok) op false false (subscribeOp ent sub (b.at 4 1) (b.at 8 4) (b.at 12 4)) d
  | 0x06 => hegRequest (rq (b.len = 4 && b.at 1 3 = 0)) op false false (unsubscribeOp (b.at 0 1)) d
  | 0x08 => hegRequest (rq four) op false false (describeOp ent sub) d
  | 0x09 =>
    let ok := b.len = 12 && addrOk b 0 && b.at 5 3 = 0 && decide (b.at 4 1 ≤ 1) && (b.at 4 1 = 1 || b.at 8 4 = 0)
    hegRequest (rq ok) op (b.at 4 1 = 1) true (blockStartOp ent sub (b.at 4 1) (b.at 8 4)) d
  | 0x0A =>
    let ok := decide (8 ≤ b.len) && b.at 1 3 = 0
    hegRequest (rq ok) op false true (blockDataOp (b.at 0 1) (b.at 4 4) (b.part 8 (b.len - 8))) d
  | 0x0B => hegRequest (rq (b.len = 8 && b.at 1 3 = 0)) op false true (blockEndOp (m.at 2 2) (b.at 0 1) (b.at 4 4)) d
  | 0x0C => hegRequest (rq (b.len = 4 && b.at 1 3 = 0)) op false true (blockAbortOp (b.at 0 1)) d
  | 0x10 => let r := rq (b.len = 4 && b.at 1 3 = 0); sessionOpenOp r (b.at 0 1) d
  | 0x11 => sessionCloseOp (rq (b.len = 0)) d
  | 0x12 =>
    let c := b.at 2 2
    let ok := b.len = 72 + c && b.at 1 1 = 0 && b.at 69 3 = 0
    hegRequest (rq ok) op false false (authBeginOp (m.at 2 2) (b.at 0 1) (b.part 4 65) (b.part 72 c)) d
  | 0x13 => hegRequest (rq (b.len = 64)) op false false (authProofOp (b.at 0 64)) d
  | _ => hegRequest (rq true) op false false (fun _ d => outErr 0x15 0 d) d

/-! ### Host SPI frames (R402 to R404) -/

/-- The frame that the device sends in a transfer: the message in front, or none, with a tag under `key` or a CRC (R403). -/
def spiFrame (key : Option Nat) (msg : Octets) (more busy : Bool) (d : Dev) : Octets :=
  let fl := key.isSome.toNat + 2 * more.toNat + 4 * busy.toNat
  let h0 : Octets := ⟨6, packBytes [(1, 0x5A), (1, fl), (2, msg.len), (2, d.heg.txCtr % 65536)]⟩
  let h : Octets := ⟨8, packBytes [(6, h0.val), (2, crc16 h0 6)]⟩
  let b := h.cat msg
  let tr : Octets := match key with
    | some k => ⟨16, Config.crypto 7 [k, 1, d.heg.txCtr, b.len, b.val] % 256 ^ 16⟩
    | none => ⟨4, crc32 b.blob b.len⟩
  b.cat tr

/-- The message that the device holds in front for the host, with the key of its tag, and how many it holds. -/
def spiHead (d : Dev) : Option (Option Nat × Octets) × Nat :=
  let q := ((d.session 1).map (·.queue)).getD []
  let n := d.heg.outq.length + q.length
  match d.heg.outq, q with
  | x :: _, _ => (some x, n)
  | [], y :: _ => (some (d.heg.key, hegMsg 7 (((d.session 1).map (·.seq)).getD 0) 0 0 0 (notifyBody y)), n)
  | [], [] => (none, 0)

/-- The message in front has been delivered; the counter of tagged frames does not count an untagged one. -/
def spiPop (key : Option Nat) (d : Dev) : Dev :=
  let d : Dev := if key.isSome || d.heg.key.isNone then { d with heg.txCtr := d.heg.txCtr + 1 } else d
  match d.heg.outq with
  | _ :: t => spiShow { d with heg.outq := t }
  | [] => match d.session 1 with
    | none => d
    | some s => spiShow (d.setSession { s with queue := s.queue.tail, seq := (s.seq + 1) % 65536 })

/-- A tag failure; the third in a row takes the role and the key back, and what is still held goes out without tags (R404). -/
def tagFail (d : Dev) : Dev :=
  let d := d.bump HIF_ERRCNT_TAG
  if d.heg.tagFails + 1 < 3 then { d with heg.tagFails := d.heg.tagFails + 1 }
  else
    let d : Dev := { d with heg.tagFails := 0, heg.key := none, heg.outq := d.heg.outq.map (fun x => (none, x.2)) }
    let d := match d.session 1 with
      | some s => d.setSession { s with role := d.ent 0x1000 6, authed := false, authing := none }
      | none => d
    raise .HOST_AUTH_LOST [] ((d.set HIF_STAT_AUTH 0).set HIF_STAT_ROLE (d.ent 0x1000 6))

/-- The host frame of a transfer (R403, R404). -/
def spiAccept (c : Octets) (clocked : Nat) (d : Dev) : Dev :=
  let tag := (c.at 1 1).testBit 0
  let len := c.at 2 2
  let need := 8 + len + (if tag then 16 else 4)
  let body := c.part 0 (8 + len)
  if clocked < 8 ∨ c.len < 8 then d.bump HIF_ERRCNT_PCRC
  else if c.at 0 1 ≠ 0xA5 ∨ crc16 c 6 ≠ c.at 6 2 ∨ 4096 < len then d.bump HIF_ERRCNT_HCRC
  else if clocked < need ∨ c.len < need then d.bump HIF_ERRCNT_PCRC
  else if tag ≠ d.heg.key.isSome then tagFail d
  else if tag ∧ (c.at 4 2 ≠ d.heg.rxCtr % 65536 ∨ !Config.cryptoOk 6 [d.heg.key.getD 0, 0, d.heg.rxCtr, body.len, body.val, c.at (8 + len) 16]) then
    tagFail d
  else if !tag ∧ crc32 body.blob body.len ≠ c.at (8 + len) 4 then d.bump HIF_ERRCNT_PCRC
  else
    let d : Dev := { d with heg.tagFails := 0, heg.rxCtr := if len = 0 then d.heg.rxCtr else d.heg.rxCtr + 1 }
    if len = 0 then d else hegHandle 1 (c.part 8 len) { d with heg.rxFull := true }

/-- One transfer on the host SPI: `ready`: HRDY was high when HCS fell. The fall of HCS is a wake source, also while EN is 0
(R402 to R404). -/
def spiTransferOp (c : Octets) (clocked : Nat) (ready : Bool) (d : Dev) : Dev :=
  let up := ready && hrdyHigh d
  let d := wakeIfIdle 4 d
  if !d.bit HIF_CFG_EN then d
  else
    let q := spiHead d
    let m := q.1.getD (d.heg.key, ⟨0, 0⟩)
    let f := spiFrame m.1 m.2 (decide (1 < q.2)) (!up) d
    let d : Dev := { d with heg.lastOut := f }
    let d := if q.1.isSome ∧ f.len ≤ clocked then spiPop m.1 d else d
    if !up then d.bump HIF_ERRCNT_BUSY else spiAccept c clocked d

end Sys2Proof.Machine
end

