-- ==== Sys2Proof/Machine/HegusCmd.lean ====
section
/-! DEFINITION. The commands of chapter 14, and those of other chapters that a client writes through Hegus. -/

namespace Sys2Proof.Machine

/-- A WRITE of an entry by a client. -/
def hegWrite (r : Req) (idx sub len v : Nat) (d : Dev) : Dev :=
  hegRequest r 0x02 true false (writeOp false r.id 0x02 idx sub ⟨len, v⟩) d

/-- The BLOCK_END that completes a block write of an entry by a client. -/
def hegBlock (r : Req) (rom : Bool) (idx sub : Nat) (v : Octets) (d : Dev) : Dev :=
  hegRequest r 0x0B true rom (writeOp true r.id 0x0B idx sub v) d

/-- READ (R379, R386). -/
def execRead (r : Req) (idx sub : Nat) (st : State) : Host.Outcome State Fault Refusal :=
  st.app (hegRequest r 0x01 false (romEntry idx) (readOp idx sub))

/-- WRITE (R379, R380, R386). -/
def execWrite (r : Req) (idx sub : Nat) (value : Octets) (st : State) : Host.Outcome State Fault Refusal :=
  st.app (hegRequest r 0x02 true false (writeOp false r.id 0x02 idx sub value))

/-- READ_MULTI (R387). -/
def execReadMulti (r : Req) (items : List (Nat × Nat)) (st : State) : Host.Outcome State Fault Refusal :=
  st.app (hegRequest r 0x03 false false (readMultiOp items))

/-- WRITE_MULTI (R388, R389). -/
def execWriteMulti (r : Req) (timed : Option Nat) (items : List WItem) (st : State) : Host.Outcome State Fault Refusal :=
  st.app (hegRequest r 0x04 true false (writeMultiOp r.id timed items))

/-- TIMED_WRITE (R389). -/
def execTimedWrite (id : Nat) (st : State) : Host.Outcome State Fault Refusal := st.app (timedFire id)

/-- CALSET_WRITE (R155): a write of BANK_A or BANK_B. -/
def execCalsetWrite (r : Req) (b : CalBank) (set : List Nat) (st : State) : Host.Outcome State Fault Refusal :=
  st.app (hegWrite r (0x3020 + b.unit) (2 + b.bank) set.length (Blob.ofBytes set).val)

/-- TIMED_CANCEL (R390). -/
def execTimedCancel (r : Req) (id : Nat) (st : State) : Host.Outcome State Fault Refusal := st.app (hegWrite r 0x1010 5 2 id)

/-- SUBSCRIBE (R391). -/
def execSubscribe (r : Req) (idx sub mode period deadband : Nat) (st : State) : Host.Outcome State Fault Refusal :=
  st.app (hegRequest r 0x05 false false (subscribeOp idx sub mode period deadband))

/-- UNSUBSCRIBE (R386). -/
def execUnsubscribe (r : Req) (id : Nat) (st : State) : Host.Outcome State Fault Refusal :=
  st.app (hegRequest r 0x06 false false (unsubscribeOp id))

/-- NOTIFY (R391, R392). -/
def execNotify (sess id : Nat) (st : State) : Host.Outcome State Fault Refusal :=
  st.app (fun d => match d.session sess with
    | none => d
    | some s => notifyStep id s d)

/-- DESCRIBE (R378). -/
def execDescribe (r : Req) (idx sub : Nat) (st : State) : Host.Outcome State Fault Refusal :=
  st.app (hegRequest r 0x08 false false (describeOp idx sub))

/-- BLOCK_START (R393). -/
def execBlockStart (r : Req) (idx sub dir total : Nat) (st : State) : Host.Outcome State Fault Refusal :=
  st.app (hegRequest r 0x09 (dir ≠ 0) true (blockStartOp idx sub dir total))

/-- BLOCK_DATA (R393). -/
def execBlockData (r : Req) (id offset : Nat) (data : Octets) (st : State) : Host.Outcome State Fault Refusal :=
  st.app (hegRequest r 0x0A false true (blockDataOp id offset data))

/-- A block transfer of the session writes. -/
def blockWrites (d : Dev) (sess id : Nat) : Bool :=
  ((d.session sess).map (fun s => s.xfers.any (fun x => x.id = id && x.write))).getD false

/-- BLOCK_END (R393). -/
def execBlockEnd (r : Req) (id crc : Nat) (st : State) : Host.Outcome State Fault Refusal :=
  st.app (fun d => hegRequest r 0x0B (blockWrites d r.sess id && d.sec.recovery.isNone) true (blockEndOp r.id id crc) d)

/-- BLOCK_ABORT (R393). -/
def execBlockAbort (r : Req) (id : Nat) (st : State) : Host.Outcome State Fault Refusal :=
  st.app (hegRequest r 0x0C false true (blockAbortOp id))

/-- BLOCK_TIMEOUT (R393). -/
def execBlockTimeout (sess id : Nat) (st : State) : Host.Outcome State Fault Refusal :=
  st.app (fun d => match d.session sess with
    | none => d
    | some s => xferEnd s id d)

/-- SESSION_OPEN (R396). -/
def execSessionOpen (r : Req) (role : Nat) (st : State) : Host.Outcome State Fault Refusal := st.app (sessionOpenOp r role)

/-- SESSION_CLOSE (R386, R401). -/
def execSessionClose (r : Req) (st : State) : Host.Outcome State Fault Refusal := st.app (sessionCloseOp r)

/-- SESSION_IDLE (R399): the session of the host SPI has no idle timeout. -/
def execSessionIdle (sess : Nat) (st : State) : Host.Outcome State Fault Refusal :=
  st.app (fun d => if sess = 1 then d else closeSession sess d)

/-- AUTH_BEGIN (R398). -/
def execAuthBegin (r : Req) (role : Nat) (key cert : Octets) (st : State) : Host.Outcome State Fault Refusal :=
  st.app (hegRequest r 0x12 false false (authBeginOp r.id role key cert))

/-- AUTH_PROOF (R398, R400). -/
def execAuthProof (r : Req) (sig : Nat) (st : State) : Host.Outcome State Fault Refusal :=
  st.app (hegRequest r 0x13 false false (authProofOp sig))

/-- CLIENT_HELLO (R397, R399, R400). -/
def execClientHello (ip : Nat) (port : UdpPorts) (cookie : Bool) (kind role : Nat) (cred : Octets) (st : State) :
    Host.Outcome State Fault Refusal := st.app (helloOp ip port.src port.dst cookie kind role cred)

/-- SPI_TRANSFER (R402 to R404). -/
def execSpiTransfer (frame : Octets) (clocked : Nat) (ready : Bool) (st : State) : Host.Outcome State Fault Refusal :=
  st.app (spiTransferOp frame clocked ready)

/-- APP_SCHEMA_WRITE (R408). -/
def execAppSchemaWrite (r : Req) (value : Octets) (st : State) : Host.Outcome State Fault Refusal :=
  st.app (hegBlock r false 0x0C00 0 value)

/-- HEGUS_LOCKOUT_END (R400). -/
def execHegusLockoutEnd (src : Nat) (st : State) : Host.Outcome State Fault Refusal :=
  st.app (fun d => { d with heg.lockout := tabDel src d.heg.lockout })

/-- BOOK_IMAGE_WRITE (R106, R132). -/
def execBookImageWrite (r : Req) (b : Nat) (image : Octets) (st : State) : Host.Outcome State Fault Refusal :=
  st.app (hegBlock r false (0x2110 + b) 4 image)

/-- HOST_HEARTBEAT (R288, R406). -/
def execHostHeartbeat (r : Req) (value : Nat) (st : State) : Host.Outcome State Fault Refusal := st.app (hegWrite r 0x1F00 0 4 value)

/-- LC_REQUEST (R441). -/
def execLcRequest (r : Req) (target eui : Nat) (st : State) : Host.Outcome State Fault Refusal :=
  st.app (hegWrite r 0x9001 0 9 (target % 256 + 256 * eui))

/-- UPDATE_CONTAINER (R445, R446). -/
def execUpdateContainer (r : Req) (c : Octets) (st : State) : Host.Outcome State Fault Refusal := st.app (hegBlock r false 0x9200 2 c)

/-- RECOVERY_IMAGE (R450). -/
def execRecoveryImage (r : Req) (c : Octets) (st : State) : Host.Outcome State Fault Refusal :=
  st.app (fun d => hegRequest r 0x0B false true (writeOp true r.id 0x0B 0x9010 0 c) d)

/-- ATTEST_NONCE (R451). -/
def execAttestNonce (r : Req) (nonce : Nat) (st : State) : Host.Outcome State Fault Refusal := st.app (hegWrite r 0x9005 1 32 nonce)

/-- CERTIFIED_MODE (R453, R454). -/
def execCertifiedMode (r : Req) (on : Bool) (st : State) : Host.Outcome State Fault Refusal := st.app (hegWrite r 0x9002 0 1 on.toNat)

/-- The part of an activation record. -/
def recPart (idx : Nat) : Nat := (partOf idx).getD 0x100

/-- ACTIVATE_AT (R456). -/
def execActivateAt (r : Req) (idx t : Nat) (st : State) : Host.Outcome State Fault Refusal :=
  st.app (hegWrite r idx (actSubs (recPart idx)).1 8 t)

/-- HEALTH_FAIL (R457). -/
def execHealthFail (r : Req) (idx : Nat) (st : State) : Host.Outcome State Fault Refusal :=
  st.app (hegWrite r idx (actSubs (recPart idx)).2.2 1 1)

/-- SWAP_ACTIVATE_AT (R250, R456). -/
def execSwapActivateAt (r : Req) (n t : Nat) (st : State) : Host.Outcome State Fault Refusal := st.app (hegWrite r (0x4300 + n) 7 8 t)

end Sys2Proof.Machine
end

