-- ==== Sys2Proof/Machine/Net.lean ====
section
/-! DEFINITION. The commands of chapter 13. While the NET domain is not ready, they have no effect. -/

namespace Sys2Proof.Machine

/-- A change made while the NET domain is ready. -/
def State.net (s : State) (f : Dev → Dev) : Host.Outcome State Fault Refusal :=
  s.app (fun d => if d.ready 8 then f d else d)

/-- FNS_FRAME_RECEIVED (R364 to R369, R371, R374, R375): a frame on a powered port wakes the device (R57). -/
def execFnsFrameReceived (p : Nat) (f : Option NetFrame) (st : State) : Host.Outcome State Fault Refusal :=
  st.net (fun d => match f with
    | none => plcaOther p d
    | some f => if portUp d p then netReceive p f (if p < 6 then wakeIfIdle 1 d else d) else d)

/-- FNS_FRAME_TRANSMIT (R367). -/
def execFnsFrameTransmit (p : Nat) (st : State) : Host.Outcome State Fault Refusal := st.net (netTransmit p)

/-- MAC_AGE (R364): `addr` has had no traffic for AGE × 10 s. -/
def execMacAge (addr : Nat) (st : State) : Host.Outcome State Fault Refusal :=
  st.net (fun d => { d with net.macs := d.net.macs.filter (fun m => decide (m.addr ≠ addr)) })

/-- PORT_ENABLE (R370, R371). -/
def execPortEnable (p : Nat) (en : Bool) (st : State) : Host.Outcome State Fault Refusal := st.net (portEn p en)

/-- LINK_UP (R370). -/
def execLinkUp (p : Nat) (low : Bool) (st : State) : Host.Outcome State Fault Refusal :=
  st.net (fun d =>
    if p < 2 ∧ d.get (FNS_PORTSTAT_LINK p) = 1 then
      raise .LINK_UP [p] ((d.set (FNS_PORTSTAT_LINK p) 2).setB (FNS_PORTSTAT_AMP_ACT p) (low && d.bit (FNS_PORTCFG_AMP p)))
    else d)

/-- LINK_DOWN (R370, R373): the port then trains again. -/
def execLinkDown (p : Nat) (st : State) : Host.Outcome State Fault Refusal :=
  st.net (fun d => if p < 2 ∧ d.get (FNS_PORTSTAT_LINK p) = 2 then netStart p (netDownOp p d) else d)

/-- PLCA_BEACON (R371): the BEACON, then the device's own transmit opportunity. -/
def execPlcaBeacon (t : Nat) (st : State) : Host.Outcome State Fault Refusal :=
  st.net (fun d =>
    if t < 4 ∧ portUp d (t + 2) then
      netTransmitN (t + 2) (1 + d.get (FNS_PLCA_BURST_CNT t)) (sendMsg 0x183 (t + 2) [] d)
    else d)

/-- SQI_UPDATE (R372). -/
def execSqiUpdate (p sqi : Nat) (st : State) : Host.Outcome State Fault Refusal :=
  st.net (fun d => if p < 2 then d.set (FNS_PORTSTAT_SQI p) (min sqi 7) else d)

/-- CABLE_TEST (R372). -/
def execCableTest (p : Nat) (st : State) : Host.Outcome State Fault Refusal := st.net (cableStart p)

/-- CABLE_TEST_DONE (R372). -/
def execCableTestDone (p result dist : Nat) (st : State) : Host.Outcome State Fault Refusal :=
  st.net (fun d =>
    if d.bit (FNS_DIAG_BUSY p) then
      let d := (d.set (FNS_DIAG_BUSY p) 0).set (FNS_DIAG_RESULT p) (min result 3)
      netStart p (if 2 ≤ result then d.set (FNS_DIAG_DIST p) (min dist 4095) else d)
    else d)

/-- LOOP_CHECK (R375). -/
def execLoopCheck (st : State) : Host.Outcome State Fault Refusal := st.net loopTick

/-- ADDR_CONFLICT (R376). -/
def execAddrConflict (x : AddrClash) (st : State) : Host.Outcome State Fault Refusal := st.net (addrFail x.kind x.addr)

/-- DHCPV4_ATTEMPT_TIMEOUT (R376). -/
def execDhcpv4AttemptTimeout (st : State) : Host.Outcome State Fault Refusal := st.net dhcpTimeout

/-- DUPLICATE_ADDRESS_DETECTION (R376). -/
def execDuplicateAddressDetection (kind addr : Nat) (st : State) : Host.Outcome State Fault Refusal :=
  st.net (addrValid kind addr)

end Sys2Proof.Machine
end

