-- ==== Sys2Proof/Machine/Nvs.lean ====
section
/-! DEFINITION. The commands of chapter 15. -/

namespace Sys2Proof.Machine

/-- A write by `ini` to the register at `a` of the command interface: performed as `f` where the bus lets it through, else logged
(R22, R24, R31, R412). -/
def nvIssue (ini a : Nat) (f : Dev → Dev) (d : Dev) : Dev :=
  if ini = 12 ∧ !debugOpen d then d
  else if 8 ≤ ini ∧ ini ≠ 12 ∧ ini ≠ 14 then busViolation 10 a ini 0 true false 4 d
  else if !d.ready 10 then busViolation 6 a ini 0 true false 4 d
  else if ini = 14 then busViolation 4 a ini 0 true false 4 d
  else f d

/-- A command on the interface. -/
def State.nvCommand (s : State) (ini op index kind : Nat) (bad : Bool) : Host.Outcome State Fault Refusal :=
  s.app (nvIssue ini NVS_CMD (nvCmd ini (nvOp op index kind bad)))

/-- NV_WINDOW_READ (R22, R24, R53, R410, R411, R420, R432): a bus read of the window. -/
def execNvWindowRead (ini off size : Nat) (st : State) : Host.Outcome State Fault Refusal :=
  st.app (busRead ini 0 (0x30000000 + off) size)

/-- CLAIM (R412). -/
def execClaim (ini : Nat) (st : State) : Host.Outcome State Fault Refusal := st.app (nvIssue ini NVS_CLAIM (nvClaim ini))

/-- RELEASE (R412). -/
def execRelease (ini : Nat) (st : State) : Host.Outcome State Fault Refusal := st.app (nvIssue ini NVS_CLAIM (nvRelease ini))

/-- NV_WRITE (R413, R414, R416). -/
def execNvWrite (ini : Nat) (bad : Bool) (st : State) : Host.Outcome State Fault Refusal :=
  st.nvCommand ini 1 0 0 bad

/-- TXN_BEGIN (R413). -/
def execTxnBegin (ini : Nat) (st : State) : Host.Outcome State Fault Refusal := st.nvCommand ini 2 0 0 false

/-- TXN_ADD (R414, R417). -/
def execTxnAdd (ini : Nat) (bad : Bool) (st : State) : Host.Outcome State Fault Refusal :=
  st.nvCommand ini 3 0 0 bad

/-- TXN_COMMIT (R417, R419, R421). -/
def execTxnCommit (ini : Nat) (st : State) : Host.Outcome State Fault Refusal := st.nvCommand ini 4 0 0 false

/-- TXN_ABORT (R413). -/
def execTxnAbort (ini : Nat) (st : State) : Host.Outcome State Fault Refusal := st.nvCommand ini 5 0 0 false

/-- NVS_TXN_COMPLETE (R416, R419). -/
def execNvsTxnComplete (x : TxnEnd) (st : State) : Host.Outcome State Fault Refusal :=
  st.app (fun d => if d.ready 10 then txnFinish x.lost x.bad d else d)

/-- UNLOCK (R433, R434). -/
def execUnlock (ini region kind : Nat) (st : State) : Host.Outcome State Fault Refusal :=
  st.nvCommand ini 6 region kind false

/-- RELOCK (R413). -/
def execRelock (ini region kind : Nat) (st : State) : Host.Outcome State Fault Refusal :=
  st.nvCommand ini 7 region kind false

/-- SET_PWD (R433, R434). -/
def execSetPwd (ini region kind : Nat) (st : State) : Host.Outcome State Fault Refusal :=
  st.nvCommand ini 8 region kind false

/-- SET_REGION (R432). -/
def execSetRegion (ini region : Nat) (st : State) : Host.Outcome State Fault Refusal :=
  st.nvCommand ini 9 region 0 false

/-- TALLY_INC (R430). -/
def execTallyInc (ini k : Nat) (st : State) : Host.Outcome State Fault Refusal := st.nvCommand ini 10 k 0 false

/-- CHECKPOINT (R426): the command, CHECKPOINT_NOW or CHECKPOINT_PERIOD. -/
def execCheckpoint (cmd : Option Nat) (st : State) : Host.Outcome State Fault Refusal :=
  match cmd with
  | some ini => st.nvCommand ini 11 0 0 false
  | none => st.app ckptAsk

/-- UNLOCK_EXPIRY (R433). -/
def execUnlockExpiry (sess region kind : Nat) (st : State) : Host.Outcome State Fault Refusal :=
  st.app (fun d => (relockOp sess region kind d).2)

/-- SEAL_ADVANCE (R429). -/
def execSealAdvance (k v : Nat) (st : State) : Host.Outcome State Fault Refusal := st.app (fun d => (sealAdvanceOp k v d).2)

/-- CHECKPOINT_COMPLETE (R425, R426). -/
def execCheckpointComplete (st : State) : Host.Outcome State Fault Refusal := st.app ckptDone

/-- NV_LOCKOUT_END (R434). -/
def execNvLockoutEnd (region : Nat) (st : State) : Host.Outcome State Fault Refusal :=
  st.app (fun d => if d.nvs.lock.any (fun e => decide (e.1 = region)) then
    rgnShow region { d with nvs.lock := tabDel region d.nvs.lock } else d)

end Sys2Proof.Machine
end

