-- ==== Sys2Proof/Machine/PwrUp.lean ====
section
/-! DEFINITION. The return of a domain, the steps of the power-up order, clocks, resets and the end of a save
(R46 to R77, R448, R493, R507). -/

namespace Sys2Proof.Machine

/-! ### A domain becomes ready (R50, R52, R493) -/

/-- A recorded value goes back into its register without any effect of a write (R50). -/
def replayRaw (a : Nat) (v : Word) (d : Dev) : Dev :=
  let m := recMask a
  d.wr a ((d.rd a &&& ~~~m) ||| (v &&& m))

/-- The slots and the trace of an engine after replay. A slot whose EN was written 0 meanwhile is disabled, and one whose EN was then or
has only now been written 1 is enabled; one that was enabled all along is checked again and stays as it was (R164, R226, R227, R249). -/
def engineUp (n : Nat) (d : Dev) : Dev :=
  let d := (upto 16).foldl (fun d s =>
    let en := d.bit (CE_SCFG_EN n s)
    let off := decide ((d.slot n s).st = .disabled)
    let new := d.pwr.fresh.contains (CE_SCFG n s)
    let d := if !off && (!en || new) then slotDisable n s d else d
    if en && (off || new) then slotEnable n s (d.set (CE_SCFG_EN n s) 0)
    else if en && (slotCheck d n s).1 ≠ 0 then slotEnable n s ((slotDisable n s d).set (CE_SCFG_EN n s) 0)
    else d) d
  if d.bit (CE_TCTRL_EN n) then traceEnable n d else d

/-- A converter unit after replay: streams that were enabled go on with the counts held in AON, one enabled meanwhile starts empty, and an
enabled sequence starts (R164, R176, R182, R186). -/
def unitUp (u : Nat) (d : Dev) : Dev :=
  let d := (upto 16).foldl (fun d s =>
    if d.bit (CVU_SCFG_EN u s) then streamEnable u s (!d.pwr.fresh.contains (CVU_SCFG u s)) d else d) d
  let d := profShow u (modeFollow u (rateApply u d))
  let d := if d.bit (CVU_SEQ_CTRL_EN u) then seqEnable u (d.set (CVU_SEQ_CTRL_EN u) 0) else d
  cvuShow u d

/-- The outputs of the AIO after replay: one whose write waits for its latch group, and one in PULSE mode, keep the level that
its retention latch holds; an enabled I²C controller checks its entries again (R321, R331, R493). -/
def aioUp (d : Dev) : Dev :=
  let h := d.aio.held.getD (0, [], 0, 0)
  let d := (upto 32).foldl (fun d n =>
    let v := d.bitN AIO_ACTOUT_LEVEL n
    let pulse := decide (d.get (AIO_ACTCFG_MODE n) = 1) && !inPair d n
    let held := h.1.testBit n
    if d.get (AIO_ACTCFG_LATCH n) ≠ 15 then
      let d : Dev := { d with aio.pendAct := setBit d.aio.pendAct n v, aio.pulse := setBit d.aio.pulse n (pulse && held) }
      d.setN AIO_ACTOUT_LEVEL n held
    else if pulse then
      let d : Dev := { d with aio.pulse := setBit d.aio.pulse n held }
      d.setN AIO_ACTOUT_LEVEL n held
    else d) d
  let d := (upto 64).foldl (fun d n =>
    if d.get (AIO_GPIOCFG_LATCH n) = 15 then d
    else
      let v := if n < 32 then d.bitN AIO_GPIOOUT_LO_OUT n else d.bitN AIO_GPIOOUT_HI_OUT (n - 32)
      let d : Dev := { d with aio.pendGpio := setBit d.aio.pendGpio n v }
      gpioApply n (d.aio.held.isSome && (h.2.2.1.testBit n != d.bit (AIO_GPIOCFG_POL n))) d) d
  let d := (upto 24).foldl (fun d n =>
    if d.get (AIO_DAC_LATCH n) = 15 then d
    else
      let d : Dev := { d with aio.pendDac := tabPut 0 n (d.get (AIO_DAC_CODE n)) d.aio.pendDac }
      d.set (AIO_DAC_CODE n) (tabGet 0 n h.2.1)) d
  let d := (upto 8).foldl (fun d c => if d.bit (AIO_I2CCFG_EN c) then i2cEnable c (d.set (AIO_I2CCFG_EN c) 0) else d) d
  (upto 16).foldl (fun d p => pairFollow p d) { d with aio.held := none }

/-- A motor after replay: its counter runs again, what its latch group has not applied waits, and it starts from OFF (R56, R290, R296,
R298, R309). -/
def motorUp (m : Nat) (d : Dev) : Dev :=
  let d := if d.bit (MDU_MCFG_TMR_EN m) then tmrStart m d else d
  let s := d.motor m
  let d := if d.get (MDU_MTRIG_LATCH m) = 15 then d
    else
      let d := d.setMotor m { s with pendRun := d.get (MDU_MCMD_RUN m), pendTgt := d.get (MDU_MCMD_TARGET m), offRun := 0, offTgt := 0 }
      (d.set (MDU_MCMD_RUN m) s.offRun).set (MDU_MCMD_TARGET m) s.offTgt
  motorTryStart m (mfltShow m d)

/-- A fan after replay starts from OFF likewise (R56, R305, R309). -/
def fanUp (f : Nat) (d : Dev) : Dev :=
  let s := d.fan f
  let d := if d.get (MDU_FCFG_LATCH f) = 15 then d
    else (d.setFan f { s with pendTgt := d.get (MDU_FTGT_TARGET f), offTgt := 0 }).set (MDU_FTGT_TARGET f) s.offTgt
  fanFollow f d

/-- Motors and fans after replay. -/
def mduUp (d : Dev) : Dev := (upto 16).foldl (fun d f => fanUp f d) ((upto 8).foldl (fun d m => motorUp m d) d)

/-- A CAN channel after replay takes its recorded MODE, after a forced DEEP that of its dictionary entry (R56). -/
def channelUp (n : Nat) (d : Dev) : Dev :=
  let rec0 := wGet (d.rd (CAN_CFG n)) 0 3
  let mode := if d.pwr.forced then d.ent (0x1200 + n) 1 % 8 else rec0
  let d := d.wr (CAN_CFG n) (wSet (d.rd (CAN_CFG n)) 0 3 0)
  let d := if d.bit (CAN_SEGCTL_SEG_OFF n) then segOffOp n true d else d
  if mode = 0 then d else canMode n mode d

/-- What begins when domain `n` reports ready. -/
def domainStart (n : Nat) (d : Dev) : Dev :=
  match n with
  | 2 => (upto 16).foldl (fun d k => engineUp k d) d
  | 3 => (upto 16).foldl (fun d k => engineUp (16 + k) d) d
  | 4 => unitUp 1 (unitUp 0 d)
  | 5 => unitUp 3 (unitUp 2 d)
  | 6 => mduUp d
  | 7 => aioUp d
  | 8 => admRefill ((upto 7).foldl (fun d p => netStart p d) (ptpConfigure d))
  | 9 =>
    let d := (upto 8).foldl (fun d k => channelUp k d) d
    { d with pwr.forced := false }
  | 10 =>
    let d := ckptKick (nvWindowDrain d)
    { d with pwr.wakeReq := d.pwr.wakeReq.filter (· ≠ 10) }
  | 11 => d.set SCU_TRNG_OK 1
  | _ => d

/-- Domain `n` has ramped: its context record is replayed in ascending address order, it reports ready, and what was held
for it applies (R17, R50, R52, R118). -/
def domainUp (n : Nat) (d : Dev) : Dev :=
  if 12 ≤ n ∨ !d.bitN PMC_DOMSTAT_ON n ∨ d.ready n ∨ !d.pwr.buck then d
  else
    let d := (d.pwr.ctx.filter (fun e => decide (domainOf e.1 = some n))).foldl (fun d e => replayRaw e.1 e.2 d) d
    let d := domainStart n (d.setN PMC_DOMSTAT_READY n true)
    heldFor n { d with pwr.fresh := d.pwr.fresh.filter (fun a => decide (domainOf a ≠ some n)) }

/-! ### Input and step 1 (R46, R47, R67, R72) -/

/-- The inrush phase ends: the switch is fully on and the buck starts. Before step 1 the capacitance measurement opens the
switch again (R72); after a line return nothing of step 1 is repeated (R76). -/
def inrushEnd (d : Dev) : Dev :=
  if !d.bit PMC_LINE_INRUSH then d
  else
    let d : Dev := { (d.set PMC_LINE_INRUSH 0) with pwr.buck := true, pwr.swOpen := false }
    if d.pwr.step = 0 then
      (if d.pwr.capPhase = .idle then { d with pwr.capPhase := .first, pwr.swOpen := true } else d)
    else wakeDomain 11 d

/-- A fully-on switch opens at a reverse current. -/
def reverseCurrent (d : Dev) : Dev :=
  if d.bit PMC_LINE_INRUSH then d else { d with pwr.swOpen := true }

/-- An inserted reading of VHOLD (R158). -/
def capReading (mv : Nat) (d : Dev) : Dev :=
  (((d.set (HKC_RESULT_VALUE 37) (mv % 65536)).set (HKC_RESULT_VALID 37) 1).set (HKC_RESULT_ROUND 37)
    (d.get HKC_STATUS_ROUND % 256)).set HKC_STATUS_CHAN 37

/-- An interval of the measurement ends; its last reading stands in the result register (R72, R158). -/
def capInterval (start mv : Nat) (d : Dev) : Dev :=
  let d := if d.pwr.capPhase = .first ∨ d.pwr.capPhase = .second then capReading mv d else d
  match d.pwr.capPhase with
  | .first => { d with pwr.capPhase := .second, pwr.capReads := [mv, start] }
  | .second =>
    let r := d.pwr.capReads
    let d0 : Int := (r.getD 1 0 : Nat) - (r.getD 0 0 : Nat)
    let d1 : Int := (start : Int) - mv
    let x := (d1 - d0).toNat
    let c : Option Nat := if x = 0 then none else some ((2 * 200000000 + x) / (2 * x))
    { d with pwr.capPhase := .ended, pwr.capReads := [], pwr.capNF := c, pwr.swOpen := d.bit PMC_LINE_FAIL }
  | _ => d

/-- Step 1 completes (R67): the reference and all three PLLs run (DESIGN CHOICE, log entry 145). -/
def aonReady (refOk : Bool) (d : Dev) : Dev :=
  if d.pwr.step ≠ 0 ∨ d.pwr.capPhase ≠ .ended ∨ !d.pwr.buck ∨ d.pwr.save ≠ .none then d
  else
    let d := (((d.set PMC_CLKSTAT_PLL_LOCK 7).setB PMC_CLKSTAT_REF_OK refOk).setB PMC_CLKSTAT_ON_RC (!refOk))
    let d := if refOk then d else enter32 d
    wakeDomain 11 { d with pwr.step := 1 }

/-! ### Step 2 (R64, R448, R450) -/

/-- The order may go on: powered, not held in reset, no save, no recovery. -/
def orderRuns (d : Dev) : Bool :=
  d.pwr.buck && !d.pwr.pinHeld && decide (d.pwr.save = .none) && d.sec.recovery.isNone

/-- The slot that step 2 uses: the named one, the other one where that fails its check; none where both fail. -/
def slotChoose (teller : Bool) (slot : Nat) (d : Dev) : Option Nat × Dev :=
  let c := slotVerify d teller slot
  if c = 0 then (some slot, d)
  else
    let d := raise .SEC_BOOT_FALLBACK [slot, c] ((d.set SCU_BOOTSTAT_FAIL c).set SCU_BOOTSTAT_FALLBACK 1)
    let k := slotVerify d teller (1 - slot)
    if k = 0 then (some (1 - slot), d) else (none, d.set SCU_BOOTSTAT_FAIL k)

/-- A slot on trial is left for the other one, and its trial is recorded as rolled back (R448, R455). -/
def bootTrials (d : Dev) : Dev :=
  let x := bootDir d
  let d := if x.trial.testBit 0 then
      actBack 0x200 3 ((dirUpdate (fun x => { x with teller := 1 - x.teller % 2, trial := setBit x.trial 0 false }) d).set SCU_BOOTSTAT_TRIAL_ROLLBACK 1)
    else d
  if x.trial / 2 % 4 ≠ 0 then
    let d := dirUpdate (fun x => { x with
      rtA := if x.trial.testBit 1 then 1 - x.rtA % 2 else x.rtA,
      rtB := if x.trial.testBit 2 then 1 - x.rtB % 2 else x.rtB, trial := x.trial % 2 }) d
    actBack 0x100 3 (d.set SCU_BOOTSTAT_TRIAL_ROLLBACK 1)
  else d

/-- A half without a runtime is left off. -/
def halfLeft (h : Nat) (d : Dev) : Dev :=
  ({ d with pwr.halfOff := setBit d.pwr.halfOff h true }).setN PMC_DOMREQ_HOLD h false

/-- The chain: Teller, then the runtime of each half; recovery where one is missing altogether. -/
def bootChain (d : Dev) : Dev :=
  let d := bootTrials d
  let x := bootDir d
  let t := slotChoose true (x.teller % 2) d
  match t.1 with
  | none => recoveryEnter 0 t.2
  | some ts =>
    let d := sealNote (slotContainer t.2 true ts) (tellerSlotPut ts t.2)
    let a := slotChoose false (x.rtA % 2) d
    let b := if x.rtB % 2 = x.rtA % 2 then a else slotChoose false (x.rtB % 2) a.2
    let d := b.2
    let d := match a.1 with
      | some s => sealNote (slotContainer d false s) (halfSlotPut 0 s d)
      | none => halfLeft 0 d
    let d := match b.1 with
      | some s => (if a.1 = some s then id else sealNote (slotContainer d false s)) (halfSlotPut 1 s d)
      | none => halfLeft 1 d
    if a.1.isNone ∧ b.1.isNone then recoveryEnter 1 d
    else wakeDomain 10 { d with pwr.step := 2 }

/-- BOOT_CHAIN_VERIFY. 0b11 is taken as 0b00 outside OPEN; in OPEN the source gives the factory test no effect, and the chain
runs as for 0b00 (log entry 30). -/
def bootVerify (boot : Nat) (d : Dev) : Dev :=
  if d.pwr.step ≠ 1 ∨ !orderRuns d ∨ !d.ready 11 then d
  else
    let sel := if boot % 4 = 3 ∧ d.sec.lcs ≠ 0 then 0 else boot % 4
    let d := ({ d with pwr.bootSel := sel }).set SCU_TRNG_OK 1
    if sel = 1 ∨ sel = 2 then recoveryEnter 0 d else bootChain d

/-! ### Steps 3 to 6 (R67 to R69, R73, R423, R427) -/

/-- Step 3: journal recovery; the core domains are then held on (R507). -/
def journalStep (hdrBad : Bool) (bad : List Nat) (recs : List (Nat × Nat)) (d : Dev) : Dev :=
  if d.pwr.step ≠ 2 ∨ !orderRuns d ∨ !d.ready 10 then d
  else
    let d := nvsRecover hdrBad bad recs d
    let d : Dev := { d with pwr.step := 3 }
    (upto 2).foldl (fun d h => if halfAvailable d h then wakeDomain h d else d) d

/-- Events recorded in NV are reported (R78). -/
def nvReport (d : Dev) : Dev :=
  let k := d.pwr.nvEvents.length
  let old := d.pwr.nvEvents.zipIdx.map (fun x => EvRec.mk x.2 x.1.time x.1.ev x.1.par)
  { d with evLog := (d.evLog.map (fun (r : EvRec) => { r with seq := r.seq + k }) ++ old.reverse).take 256, evSeq := d.evSeq + k, pwr.nvEvents := [] }

/-- Step 4: the runtime reports up on the halves in the mask; the step completes when every half that is not left off is up. -/
def runtimeStep (mask : Nat) (d : Dev) : Dev :=
  if d.pwr.step ≠ 3 ∨ !orderRuns d then d
  else
    let up := fun (h : Nat) => (mask.testBit h || d.pwr.halves.testBit h) && halfAvailable d h && d.ready h
    let d : Dev := { d with pwr.halves := maskOf 2 up }
    if d.pwr.halves = 0 ∨ (upto 2).any (fun h => halfAvailable d h && !d.pwr.halves.testBit h) then d
    else
      let d := nvReport { d with pwr.step := 4, pwr.hrdy := true }
      (upto 12).foldl (fun d n => if 2 ≤ n then wakeDomain n d else d) d

/-- The pending timed requests after a start: those at least 10 ms ahead go into book 14, the others are dropped (R390). -/
def timedRebuild (d : Dev) : Dev :=
  let l := d.heg.timed.filter (fun t => decide (t.state = 1))
  let ok := fun (t : TimedReq) => decide (d.time64 + 10000000 ≤ t.time)
  let d := (l.filter ok).zipIdx.foldl (fun d x =>
    entryReplace (14 * 256 + 8 + x.2) (runtimeEntry x.1.time 0x11 0 (0x14000000 + x.1.id) true) d) d
  let lost := l.filter (fun t => !ok t)
  if lost = [] then d
  else raise .TIMED_WRITE_DROPPED [lost.length] (lost.foldl (fun d t => timedEnd t.id 5 0 d) d)

/-- Step 5: the shadow restore; the pending timed requests then fill book 14 (R390). -/
def shadowStep (badA badB : Bool) (d : Dev) : Dev :=
  if d.pwr.step ≠ 4 ∨ !orderRuns d then d
  else timedRebuild (bookClear 14 { shadowLoad badA badB d with pwr.step := 5 })

/-- A restored value is outside its range. -/
def rangeBad (d : Dev) (e : Nat × Nat) : Bool :=
  match entInfo (e.1 / 256) (e.1 % 256) d with
  | none => false
  | some i => !valueOk (entTy d (e.1 / 256) i) (i.row.bind (·.range)) ⟨i.size, e.2⟩

/-- The restored entries that fail the load check: the first at which the total passes 90 %, and every later one that adds
load (R20, R68). -/
def loadOver (d : Dev) : List Nat :=
  (d.dict.foldl (fun (s : Nat × Bool × List Nat) e =>
    let l := Config.entryLoad e.1 e.2
    if l = 0 ∨ !restorable d e.1 then s
    else if s.2.1 ∨ 90 < s.1 + l then (s.1, true, s.2.2 ++ [e.1])
    else (s.1 + l, false, s.2.2)) (0, false, [])).2.2

/-- Entries that fail take their defaults; the event names the index of the first. -/
def entriesFail (l : List Nat) (d : Dev) : Dev :=
  match l with
  | [] => d
  | k :: _ =>
    raise .CONFIG_CHECK_FAILED [k / 256]
      { d with dict := tabKeep (fun k => !l.contains k) d.dict, pwr.cfgFailed := true }

/-- The hold-up check fails (R73). -/
def holdupShort (d : Dev) : Bool :=
  decide (eAvail d < eReserve d) ||
    (match d.pwr.capNF with
     | some c => decide (10 * c < 8 * (d.ent 0xA001 2 * 1000))
     | none => false)

/-- The conditions of the automatic release (R69). -/
def autoRelease (d : Dev) : Bool :=
  d.ent 0xA001 5 = 1 && !d.pwr.cfgFailed && !d.pwr.shortfall && decide (d.sec.lcs ≠ 3)

/-- Step 6, and step 7 where the release is automatic. -/
def configStep (d : Dev) : Dev :=
  if d.pwr.step ≠ 5 ∨ !orderRuns d then d
  else
    let d := entriesFail ((d.dict.filter (fun e => restorable d e.1 && rangeBad d e)).map (·.1)) d
    let d := entriesFail (loadOver d) d
    let d := addrRestart (trialsRollback (restoreAll d))
    let d := if d.ent 0x1F01 0 = 0 then d.setEnt 0x5500 1 0 else d
    let d := if holdupShort d then raise .HOLDUP_INSUFFICIENT [] { d with pwr.shortfall := true } else d
    let d : Dev := { d with pwr.step := 6 }
    if autoRelease d then releaseGrant d else d

/-! ### Steps 8 and 9 (R84, R106, R121) -/

/-- Step 9. The image of each book is loaded over its window page, so that what only the window held is lost (DESIGN CHOICE, log entry 150). -/
def ledgerStep (d : Dev) : Dev :=
  if d.pwr.step ≠ 8 ∨ !orderRuns d then d
  else
    let d := [0, 1, 2, 3, 4, 5, 6, 7, 8, 9, 10, 11, 15].foldl (fun d b => imageLoadBook b d) d
    let d := dayBookStart (bookClear 13 (bookClear 12 d))
    let d := ldgStart (d.ent 0x5320 1) d
    { d with pwr.step := 9 }

/-! ### Wakes and clocks (R55, R57, R58, R60, R61) -/

/-- The reference is lost. -/
def refLost (d : Dev) : Dev :=
  if !d.bit PMC_CLKSTAT_REF_OK then d
  else
    let d := (d.set PMC_CLKSTAT_REF_OK 0).set PMC_CLKSTAT_ON_RC 1
    let d := raise .CLK_REF_LOST [] d
    let d := if d.ready 8 then (upto 6).foldl (fun d p => netStop p d) d else d
    let d := if d.xtf.st = .locked ∨ d.xtf.st = .locking then loseSource d else { d with xtf.src := 0 }
    enter32 d

/-- The reference is back. -/
def refBack (d : Dev) : Dev :=
  if d.bit PMC_CLKSTAT_REF_OK ∨ d.get PMC_PSTATE_STATE = 3 ∨ d.pwr.step = 0 then d
  else
    let d := (d.set PMC_CLKSTAT_REF_OK 1).set PMC_CLKSTAT_ON_RC 0
    let d := raise .CLK_REF_BACK [] { d with xtf.leave32 := d.xtf.on32 }
    sourceRefresh (if d.ready 8 then (upto 7).foldl (fun d p => netStart p d) d else d)

/-! ### Resets (R62, R63, R473, R493) -/

/-- nRESET has been low for 10 µs. During a save, and in THERMAL_OFF, the reset is recorded and waits. -/
def pinReset (d : Dev) : Dev :=
  let d : Dev := { d with pwr.pinHeld := true }
  if d.pwr.thermalOff then
    let d : Dev := { d.flagUp PMC_RSTCAUSE_PIN with thm.pinWait := true }
    if d.pwr.save = .complete ∧ d.thm.cool ≥ 4 ∧ !d.bit PMC_LINE_FAIL then thermalRestart PMC_RSTCAUSE_PIN d else d
  else if d.pwr.save ≠ .none then d.flagUp PMC_RSTCAUSE_PIN
  else if d.pwr.step = 0 then d.flagUp PMC_RSTCAUSE_PIN
  else fullRestart PMC_RSTCAUSE_PIN d

/-- Both core domains are reset; the third time within 10 min they stay off. -/
def watchdog (d : Dev) : Dev :=
  if d.pwr.step < 4 ∨ d.pwr.save ≠ .none ∨ d.pwr.rccDown then d
  else
    let l := within d.now 600000000000 d.pwr.wdogTimes
    let d := d.flagUp PMC_RSTCAUSE_WDOG
    let d := if d.get NVS_STAT_OWNER < 8 then ownerEnd d else d
    let d := trialFails 0x100 { d with pwr.wdogTimes := l, pwr.halves := 0, pwr.coreWait := 0 }
    let d := domainReset 1 (domainReset 0 d)
    if l.length < 3 then d
    else
      let d := (d.setN PMC_DOMREQ_HOLD 0 false).setN PMC_DOMREQ_HOLD 1 false
      let d := domainOff 1 (domainOff 0 d)
      raise .RCC_DOWN [] ({ d with pwr.rccDown := true }.flagUp PMC_RSTCAUSE_RCC_DOWN)

/-! ### The end of a save, and the line's return (R74, R76, R77) -/

/-- The full restart after a line return: the switch closes through the inrush phase, and the buck starts at its end. -/
def lineRestart (d : Dev) : Dev :=
  let d := fullRestart PMC_RSTCAUSE_LINE_RETURN { d with pwr.buck := false }
  d.set PMC_LINE_INRUSH 1

/-- The save completes. -/
def saveFinish (d : Dev) : Dev :=
  if d.pwr.save ≠ .running then d
  else
    let d := if d.nvs.saving.isSome then tallyAdd 2 (saveDone d) else d
    let d := saveEnd d
    let d : Dev := { d with pwr.save := .complete, pwr.halves := 0 }
    if d.pwr.lineBack then lineRestart d else d

/-- VHOLD reaches 8.0 V: the buck stops and the save is left incomplete; its marker stays in NV (R77, R425). -/
def holdupEnd (d : Dev) : Dev :=
  if d.pwr.save ≠ .running then d
  else
    let d := nvsPowerLoss d
    let d := (upto 12).foldl (fun d n => domainOff n d) d
    let d : Dev := { d with pwr.save := .exhausted, pwr.buck := false, pwr.halves := 0 }
    if d.pwr.lineBack then lineRestart d else d

/-- VLINE is back above 17.5 V after a line failure. -/
def lineReturn (d : Dev) : Dev :=
  if !d.bit PMC_LINE_FAIL ∨ d.pwr.lineBack then d
  else if d.pwr.save = .running then raise .LINE_RETURN [d.pwr.vlineMV] { d with pwr.lineBack := true }
  else
    let mv := d.pwr.vlineMV
    raise .LINE_RETURN [mv] (lineRestart d)

/-- Power-on (R62): everything is reset but what keeps its contents without supply. -/
def powerOn (d : Dev) : Dev :=
  let d := if d.pwr.aon then powerGone d else d
  { d with pwr.aon := true }

end Sys2Proof.Machine
end

