-- ==== Sys2Proof/Machine/Pwr.lean ====
section
/-! DEFINITION. The commands of chapter 2. -/

namespace Sys2Proof.Machine

/-- DOMAIN_RELEASE (R44, R51, R52, R54). -/
def execDomainRelease (n : Nat) (st : State) : Host.Outcome State Fault Refusal :=
  st.app (fun d => if mayRelease d n then domainOff n d else d)

/-- POWER_ON_RESET (R62): the one command that reaches a device without power. -/
def execPowerOnReset (st : State) : Host.Outcome State Fault Refusal := .next { st with dev := powerOn st.dev }

/-- INRUSH_END (R46, R47). -/
def execInrushEnd (st : State) : Host.Outcome State Fault Refusal := st.appSupply inrushEnd

/-- REVERSE_CURRENT (R46). -/
def execReverseCurrent (st : State) : Host.Outcome State Fault Refusal := st.appSupply reverseCurrent

/-- CAP_MEASURE_INTERVAL (R72). -/
def execCapMeasureInterval (start mv : Nat) (st : State) : Host.Outcome State Fault Refusal := st.app (capInterval start mv)

/-- AON_READY (R67). -/
def execAonReady (refOk : Bool) (st : State) : Host.Outcome State Fault Refusal := st.app (aonReady refOk)

/-- BOOT_CHAIN_VERIFY (R64, R448, R450). -/
def execBootChainVerify (boot : Nat) (st : State) : Host.Outcome State Fault Refusal := st.app (bootVerify boot)

/-- JOURNAL_RECOVERY (R423, R67). -/
def execJournalRecovery (hdrBad : Bool) (bad : List Nat) (recs : List (Nat × Nat)) (st : State) : Host.Outcome State Fault Refusal :=
  st.app (journalStep hdrBad bad recs)

/-- RUNTIME_UP (R67, R402). -/
def execRuntimeUp (halves : Nat) (st : State) : Host.Outcome State Fault Refusal := st.app (runtimeStep halves)

/-- SHADOW_RESTORE (R427). -/
def execShadowRestore (badA badB : Bool) (st : State) : Host.Outcome State Fault Refusal := st.app (shadowStep badA badB)

/-- CONFIG_CHECK (R68, R69, R73). -/
def execConfigCheck (st : State) : Host.Outcome State Fault Refusal := st.app configStep

/-- OUTPUTS_RELEASE_GRANT (R69): by a session's write of 1, or automatic at the end of step 6. -/
def execOutputsReleaseGrant (r : Option Req) (st : State) : Host.Outcome State Fault Refusal :=
  st.app (fun d => match r with
    | some r => hegWrite r 0xA010 0 1 1 d
    | none => if d.pwr.step = 6 ∧ autoRelease d then releaseGrant d else d)

/-- OUTPUTS_RELEASE_WITHDRAW (R70). -/
def execOutputsReleaseWithdraw (r : Req) (st : State) : Host.Outcome State Fault Refusal := st.app (hegWrite r 0xA010 0 1 0)

/-- TIME_ACQUIRE_TIMEOUT (R84). -/
def execTimeAcquireTimeout (st : State) : Host.Outcome State Fault Refusal :=
  st.app (fun d => if orderRuns d then timeAcquired d else d)

/-- LEDGER_ARM (R121). -/
def execLedgerArm (st : State) : Host.Outcome State Fault Refusal := st.app ledgerStep

/-- DOMAIN_READY (R50, R52). -/
def execDomainReady (n : Nat) (st : State) : Host.Outcome State Fault Refusal := st.app (domainUp n)

/-- CORE_WAIT (R507). -/
def execCoreWait (core : Nat) (far : Bool) (st : State) : Host.Outcome State Fault Refusal := st.app (coreWaits core far)

/-- ENTER_NAP (R55). -/
def execEnterNap (st : State) : Host.Outcome State Fault Refusal := st.app napEnter

/-- ENTER_DEEP (R55). -/
def execEnterDeep (st : State) : Host.Outcome State Fault Refusal := st.app deepAuto

/-- WAKE_EVENT (R55, R57, R58). -/
def execWakeEvent (src : Nat) (st : State) : Host.Outcome State Fault Refusal := st.app (wakeEvent src)

/-- REF_LOST (R60, R82). -/
def execRefLost (st : State) : Host.Outcome State Fault Refusal := st.appLine refLost

/-- REF_BACK (R60). -/
def execRefBack (st : State) : Host.Outcome State Fault Refusal := st.appLine refBack

/-- CLK32_LOST (R61). -/
def execClk32Lost (st : State) : Host.Outcome State Fault Refusal :=
  st.appLine (fun d => raise .CLK32_LOST [] (d.set PMC_CLKSTAT_CLK32_OK 0))

/-- PIN_RESET (R62, R473, R493). -/
def execPinReset (st : State) : Host.Outcome State Fault Refusal := st.appSupply pinReset

/-- PIN_RESET_RELEASE (R62). -/
def execPinResetRelease (st : State) : Host.Outcome State Fault Refusal := st.appSupply (fun d => { d with pwr.pinHeld := false })

/-- FULL_RESTART_LINE (R23, R62). -/
def execFullRestartLine (sec : Bool) (st : State) : Host.Outcome State Fault Refusal :=
  st.app (fun d =>
    if d.ready 11 ∧ d.pwr.save = .none then fullRestart (if sec then PMC_RSTCAUSE_SEC else PMC_RSTCAUSE_SOFT) d else d)

/-- RCC_WATCHDOG (R62, R63). -/
def execRccWatchdog (st : State) : Host.Outcome State Fault Refusal := st.app watchdog

/-- LINE_FAIL (R48, R74, R75): a line below VFAIL or above 59 V opens the same sequence. -/
def execLineFail (_over : Bool) (st : State) : Host.Outcome State Fault Refusal := st.appLine lineFailure

/-- SAVE_COMPLETE (R74, R76). -/
def execSaveComplete (st : State) : Host.Outcome State Fault Refusal := st.appLine saveFinish

/-- HOLDUP_EXHAUSTED (R77). -/
def execHoldupExhausted (st : State) : Host.Outcome State Fault Refusal := st.appLine holdupEnd

/-- VAON_FAIL (R62, R74). -/
def execVaonFail (st : State) : Host.Outcome State Fault Refusal :=
  st.appSupply (fun d => { powerGone d with pwr.aon := false })

/-- LINE_RETURN (R76). -/
def execLineReturn (st : State) : Host.Outcome State Fault Refusal := st.appLine Sys2Proof.Machine.lineReturn

/-- SCCP_CLASSIFICATION (R45). -/
def execSccpClassification (ok : Bool) (st : State) : Host.Outcome State Fault Refusal :=
  st.appSupply (sccpOp ok)

/-- CLK32_STABLE (R61). -/
def execClk32Stable (st : State) : Host.Outcome State Fault Refusal := st.appSupply (fun d => d.set PMC_CLKSTAT_CLK32_OK 1)

end Sys2Proof.Machine
end

