-- ==== Sys2Proof/Machine/Sec.lean ====
section
/-! DEFINITION. The commands of chapter 16 that no client sends. -/

namespace Sys2Proof.Machine

/-- 1,024 samples in a row pass both tests: what waited for randomness goes on (R437). -/
def trngRecover (d : Dev) : Dev :=
  if !d.ready 11 ∨ d.bit SCU_TRNG_OK then d else waitsRun (d.set SCU_TRNG_OK 1)

/-- TRNG_FAULT (R437, R442). -/
def execTrngFault (rct apt : Bool) (st : State) : Host.Outcome State Fault Refusal := st.app (trngFault rct apt)

/-- TRNG_RECOVERED (R437). -/
def execTrngRecovered (st : State) : Host.Outcome State Fault Refusal := st.app trngRecover

/-- SEC_TAMPER (R442): a TRNG failure is a tamper event in certified mode only. -/
def execSecTamper (source : Nat) (st : State) : Host.Outcome State Fault Refusal :=
  st.app (fun d => if source < 4 ∨ (source = 4 ∧ d.sec.certified) then tamper source d else d)

/-- DEBUG_TOKEN (R441, R443): the Teller's mailbox answers while the SEC domain is ready. -/
def execDebugToken (token : Octets) (st : State) : Host.Outcome State Fault Refusal :=
  st.app (fun d => if d.ready 11 then debugTokenOp token d else d)

/-- FLASH_BLOCK_FILL (R449): a block that passes its hash is delivered. -/
def execFlashBlockFill (half block : Nat) (ok : Bool) (st : State) : Host.Outcome State Fault Refusal :=
  st.app (fun d => if ok ∨ 2 ≤ half ∨ !d.pwr.halves.testBit half then d else blockFail half block d)

/-- ACTIVATION_SWITCHOVER (R455, R456). -/
def execActivationSwitchover (part : Nat) (st : State) : Host.Outcome State Fault Refusal := st.app (switchover part)

/-- HEALTH_WINDOW_END (R447, R457). -/
def execHealthWindowEnd (part : Nat) (st : State) : Host.Outcome State Fault Refusal := st.app (windowEnd part)

/-- ACT_ROLLED_BACK (R457). -/
def execActRolledBack (part : Nat) (st : State) : Host.Outcome State Fault Refusal := st.app (rollbackNow part)

/-- RUNTIME_HANDOVER_STAGE (R458). -/
def execRuntimeHandoverStage (ok : Bool) (st : State) : Host.Outcome State Fault Refusal := st.app (handoverStage ok)

/-- TELLER_RESTART (R459): what waited for the Teller goes on once it is ready. -/
def execTellerRestart (ok : Bool) (st : State) : Host.Outcome State Fault Refusal :=
  st.app (fun d => waitsRun (pwdGo (tellerStart ok d)))

/-- TRNG_WAIT_TIMEOUT (R437). -/
def execTrngWaitTimeout (sess req : Nat) (st : State) : Host.Outcome State Fault Refusal := st.app (waitEnd sess req)

/-- TIME_FLOOR_UPDATE (R452). -/
def execTimeFloorUpdate (st : State) : Host.Outcome State Fault Refusal := st.app timeFloorUpdateOp

/-- DEBUG_PORT_RESET (R493): only the debug port logic is reset, and an open session ends. -/
def execDebugPortReset (st : State) : Host.Outcome State Fault Refusal := st.app debugReset

end Sys2Proof.Machine
end

