-- ==== Sys2Proof/Machine/Thm.lean ====
section
/-! DEFINITION. The commands of chapter 17. -/

namespace Sys2Proof.Machine

/-- HKC_CONVERSION (R157, R158). -/
def execHkcConversion (ch value : Nat) (st : State) : Host.Outcome State Fault Refusal := st.app (hkcConvert ch value)

/-- THERMAL_HOLD_END (R467). -/
def execThermalHoldEnd (st : State) : Host.Outcome State Fault Refusal := st.app holdOver

/-- THERMAL_TRIP (R472, R474). -/
def execThermalTrip (st : State) : Host.Outcome State Fault Refusal := st.app (criticalShutdown true)

/-- THERMAL_RESTART (R473): without its conditions nothing happens. -/
def execThermalRestart (st : State) : Host.Outcome State Fault Refusal :=
  st.app (fun d => if thermalMayRestart d then thermalRestart PMC_RSTCAUSE_THERMAL d else d)

/-- CONV_PACE_END (R471): a pass that waits for the end of the interval starts. -/
def execConvPaceEnd (u : Nat) (st : State) : Host.Outcome State Fault Refusal :=
  st.app (fun d =>
    let s := d.cvuS u
    if !(s.on && s.waiting && s.paced && d.ready (cvuDom u)) then d
    else if s.fgBusy ∨ s.queue ≠ [] ∨ s.conv.isSome then d.setCvu u { s with paced := false }
    else passBegin u s.late false d)

end Sys2Proof.Machine
end

