-- ==== Sys2Proof/Machine/Time.lean ====
section
/-! DEFINITION. The commands of chapter 3. A command whose cause is an instant stands for that instant having come. -/

namespace Sys2Proof.Machine

/-- The Teller's time-set line: XTF_SET and then SET (R23, R83). -/
def timeSetByLine (t : Nat) (d : Dev) : Dev :=
  let d := (d.set XTF_SET_LO_SET_LO (t % 2 ^ 32)).set XTF_SET_HI_SET_HI (t / 2 ^ 32)
  timeSetOp t d

/-- A PPSIN edge counts when it is the configured one (R92); it is a wake source where its wake is enabled (R57). -/
def ppsinEdge (rising : Bool) (d : Dev) : Dev :=
  if d.bit XTF_PPS_PPSIN_EDGE != rising then
    let d := wakeIfIdle 5 d
    if d.bit XTF_PPS_PPSIN_EN then ppsPulse d else d
  else d

/-- The error estimate has grown past HOLDOVER_LIMIT (R97): once for each crossing. -/
def holdoverLimitHit (d : Dev) : Dev :=
  if errKnown d ∧ !d.xtf.limitHit then raise .HOLDOVER_LIMIT [] { d with xtf.limitHit := true } else d

/-- The end of a UTC day with LEAP set (R98). -/
def leapNow (d : Dev) : Dev :=
  match leapDue d with
  | some (m, k) => leapApply m k d
  | none => d

/-- A value of a rule set passes its range (R99). -/
def ruleValueOk (v : Nat × Nat) : Bool :=
  match v.1 with
  | 1 => v.2 < 65536 && decide (-720 ≤ sx 16 v.2 ∧ sx 16 v.2 ≤ 840)
  | 2 => v.2 ≤ 120
  | 3 | 4 => ruleWordOk v.2
  | _ => false

/-- A change to rule set `k`: refused values change nothing, and neither does a change with which some date's day book would not fit (R99,
R284). -/
def localtimeChange (k : Nat) (vals : List (Nat × Nat)) (d : Dev) : Dev :=
  let n : Dev := vals.foldl (fun d v => d.setEnt (0x2010 + k) v.1 v.2) d
  if k < 4 ∧ vals.all ruleValueOk ∧ rulePairOk (n.ent (0x2010 + k) 3) (n.ent (0x2010 + k) 4) ∧ !dayBookFull n then ruleChange k vals d else d

/-- TIME_SET (R82, R83): a write of SET, or of the SET_TIME entry. -/
def execTimeSet (ini sess : Nat) (value : Option Nat) (st : State) : Host.Outcome State Fault Refusal :=
  st.app (fun d => match value with
    | none => busWrite ini sess XTF_CTRL 4 (d.set XTF_CTRL_SET 1 |>.rd XTF_CTRL).toNat d
    | some t => (writeOne (d.roleOf ini sess) sess 0x2003 0 ⟨8, t⟩ d).2.2)

/-- TIME_SET_LINE (R23, R83). -/
def execTimeSetLine (t : Nat) (st : State) : Host.Outcome State Fault Refusal := st.app (timeSetByLine t)

/-- SLEW_END (R509). -/
def execSlewEnd (st : State) : Host.Outcome State Fault Refusal := st.app slewStop

/-- PTP_SYNC (R82, R86). -/
def execPtpSync (h : PtpHdr) (twoStep : Bool) (origin : Nat) (corr : Int) (rx : Nat) (st : State) : Host.Outcome State Fault Refusal :=
  st.app (ptpRx h (ptpSyncRx h twoStep origin corr rx))

/-- PTP_FOLLOW_UP (R86). -/
def execPtpFollowUp (h : PtpHdr) (origin : Nat) (corr : Int) (st : State) : Host.Outcome State Fault Refusal :=
  st.app (ptpRx h (ptpFollowUpRx h origin corr))

/-- PTP_ANNOUNCE (R85, R91, R98). -/
def execPtpAnnounce (h : PtpHdr) (a : Announce) (st : State) : Host.Outcome State Fault Refusal :=
  st.app (ptpRx h (ptpAnnounceRx h a))

/-- PTP_DELAY_REQ (R86). -/
def execPtpDelayReq (h : PtpHdr) (rx : Nat) (st : State) : Host.Outcome State Fault Refusal :=
  st.app (ptpRx h (ptpDelayReqRx h rx))

/-- PTP_DELAY_RESP (R86). -/
def execPtpDelayResp (h : PtpHdr) (req t4 : Nat) (corr : Int) (st : State) : Host.Outcome State Fault Refusal :=
  st.app (ptpRx h (ptpDelayRespRx h req t4 corr))

/-- PTP_PDELAY_REQ (R86). -/
def execPtpPdelayReq (h : PtpHdr) (rx : Nat) (st : State) : Host.Outcome State Fault Refusal :=
  st.app (ptpRx h (ptpPdelayReqRx h rx))

/-- PTP_PDELAY_RESP (R86). -/
def execPtpPdelayResp (h : PtpHdr) (req : Nat) (turn : Int) (rx : Nat) (st : State) : Host.Outcome State Fault Refusal :=
  st.app (ptpRx h (ptpPdelayRespRx h req turn rx))

/-- PTP_MANAGEMENT (R86). -/
def execPtpManagement (h : PtpHdr) (action id : Nat) (st : State) : Host.Outcome State Fault Refusal :=
  st.app (ptpRx h (ptpManagementRx h action id))

/-- PTP_MESSAGE_TIMER (R85, R86). -/
def execPtpMessageTimer (port kind : Nat) (st : State) : Host.Outcome State Fault Refusal := st.app (ptpSend port kind)

/-- ANNOUNCE_TIMEOUT (R82). -/
def execAnnounceTimeout (port : Nat) (st : State) : Host.Outcome State Fault Refusal := st.app (ptpTimeout port)

/-- PPSIN_PULSE (R92, R93). -/
def execPpsinPulse (rising : Bool) (st : State) : Host.Outcome State Fault Refusal := st.app (ppsinEdge rising)

/-- PPS_MISSING (R92). -/
def execPpsMissing (st : State) : Host.Outcome State Fault Refusal :=
  st.app (fun d => if d.bit XTF_PPS_PPSIN_EN then ppsMissing d else d)

/-- HOLDOVER_LEARN (R96): only while LOCKED. -/
def execHoldoverLearn (x32 : List Int) (st : State) : Host.Outcome State Fault Refusal :=
  st.app (fun d => if d.xtf.st = .locked then hoLearn (fMean d) x32 d else d)

/-- HOLDOVER_LIMIT (R97). -/
def execHoldoverLimit (st : State) : Host.Outcome State Fault Refusal := st.app holdoverLimitHit

/-- HOLDOVER_CLEAR (R96): a write of 1 to the CLEAR entry that has been accepted. -/
def execHoldoverClear (st : State) : Host.Outcome State Fault Refusal := st.app (fun d => hoClear (d.setEnt 0x2030 3 1))

/-- LEAP_APPLIED (R98). -/
def execLeapApplied (st : State) : Host.Outcome State Fault Refusal := st.app leapNow

/-- PPSOUT_EDGE (R94). -/
def execPpsoutEdge (level : Bool) (st : State) : Host.Outcome State Fault Refusal := st.app (ppsOutEdge level)

/-- TSYNC_CAPTURE (R95). -/
def execTsyncCapture (rising : Bool) (st : State) : Host.Outcome State Fault Refusal := st.app (tsyncEdge rising)

/-- LOCALTIME_CHANGED (R99). -/
def execLocaltimeChanged (k : Nat) (vals : List (Nat × Nat)) (st : State) : Host.Outcome State Fault Refusal :=
  st.app (localtimeChange k vals)

/-- SUN_EVENTS_UPDATED (R101, R103). -/
def execSunEventsUpdated (st : State) : Host.Outcome State Fault Refusal := st.app sunUpdate

/-- SUN_POSITION (R102). -/
def execSunPosition (st : State) : Host.Outcome State Fault Refusal := st.app sunPos

end Sys2Proof.Machine
end

