-- ==== Sys2Proof/Machine/Dispatch.lean ====
section
/-! DEFINITION. One arm per command: a direct call of its meaning. -/

namespace Sys2Proof.Machine

/-- The effect of a command on everything but the queue. -/
def exec (i : Instr) (s : State) : Host.Outcome State Fault Refusal :=
  match i with
  | .registerWrite ini sess addr size data => Sys2Proof.Machine.execRegisterWrite ini sess addr size data s
  | .registerRead ini sess addr size => Sys2Proof.Machine.execRegisterRead ini sess addr size s
  | .avlogClear ini sess => Sys2Proof.Machine.execAvlogClear ini sess s
  | .mirrorData sess b write => Sys2Proof.Machine.execMirrorData sess b write s
  | .mirrorDataInc sess b write => Sys2Proof.Machine.execMirrorDataInc sess b write s
  | .halfStop half => Sys2Proof.Machine.execHalfStop half s
  | .halfRestart half ok => Sys2Proof.Machine.execHalfRestart half ok s
  | .sramUncorrectable ini addr entry single => Sys2Proof.Machine.execSramUncorrectable ini addr entry single s
  | .domainRelease n => Sys2Proof.Machine.execDomainRelease n s
  | .powerOnReset => Sys2Proof.Machine.execPowerOnReset s
  | .inrushEnd => Sys2Proof.Machine.execInrushEnd s
  | .reverseCurrent => Sys2Proof.Machine.execReverseCurrent s
  | .capMeasureInterval start mv => Sys2Proof.Machine.execCapMeasureInterval start mv s
  | .aonReady refOk => Sys2Proof.Machine.execAonReady refOk s
  | .bootChainVerify boot => Sys2Proof.Machine.execBootChainVerify boot s
  | .journalRecovery hdrBad bad recs => Sys2Proof.Machine.execJournalRecovery hdrBad bad recs s
  | .runtimeUp halves => Sys2Proof.Machine.execRuntimeUp halves s
  | .shadowRestore badA badB => Sys2Proof.Machine.execShadowRestore badA badB s
  | .configCheck => Sys2Proof.Machine.execConfigCheck s
  | .outputsReleaseGrant r => Sys2Proof.Machine.execOutputsReleaseGrant r s
  | .outputsReleaseWithdraw r => Sys2Proof.Machine.execOutputsReleaseWithdraw r s
  | .timeAcquireTimeout => Sys2Proof.Machine.execTimeAcquireTimeout s
  | .ledgerArm => Sys2Proof.Machine.execLedgerArm s
  | .domainReady n => Sys2Proof.Machine.execDomainReady n s
  | .domreqWrite ini sess mask => Sys2Proof.Machine.execDomreqWrite ini sess mask s
  | .domainReset ini sess mask => Sys2Proof.Machine.execDomainReset ini sess mask s
  | .coreWait core far => Sys2Proof.Machine.execCoreWait core far s
  | .enterNap => Sys2Proof.Machine.execEnterNap s
  | .enterDeep => Sys2Proof.Machine.execEnterDeep s
  | .forceDeep ini sess => Sys2Proof.Machine.execForceDeep ini sess s
  | .wakeEvent src => Sys2Proof.Machine.execWakeEvent src s
  | .refLost => Sys2Proof.Machine.execRefLost s
  | .refBack => Sys2Proof.Machine.execRefBack s
  | .clk32Lost => Sys2Proof.Machine.execClk32Lost s
  | .pinReset => Sys2Proof.Machine.execPinReset s
  | .pinResetRelease => Sys2Proof.Machine.execPinResetRelease s
  | .softReset ini sess => Sys2Proof.Machine.execSoftReset ini sess s
  | .fullRestartLine sec => Sys2Proof.Machine.execFullRestartLine sec s
  | .rccWatchdog => Sys2Proof.Machine.execRccWatchdog s
  | .lineFail high => Sys2Proof.Machine.execLineFail high s
  | .saveComplete => Sys2Proof.Machine.execSaveComplete s
  | .holdupExhausted => Sys2Proof.Machine.execHoldupExhausted s
  | .vaonFail => Sys2Proof.Machine.execVaonFail s
  | .lineReturn => Sys2Proof.Machine.execLineReturn s
  | .sccpClassification ok => Sys2Proof.Machine.execSccpClassification ok s
  | .clk32Stable => Sys2Proof.Machine.execClk32Stable s
  | .timeLoRead ini sess => Sys2Proof.Machine.execTimeLoRead ini sess s
  | .timeSet ini sess value => Sys2Proof.Machine.execTimeSet ini sess value s
  | .timeSetLine t => Sys2Proof.Machine.execTimeSetLine t s
  | .slewEnd => Sys2Proof.Machine.execSlewEnd s
  | .ptpSync h twoStep origin corr rx => Sys2Proof.Machine.execPtpSync h twoStep origin corr rx s
  | .ptpFollowUp h origin corr => Sys2Proof.Machine.execPtpFollowUp h origin corr s
  | .ptpAnnounce h a => Sys2Proof.Machine.execPtpAnnounce h a s
  | .ptpDelayReq h rx => Sys2Proof.Machine.execPtpDelayReq h rx s
  | .ptpDelayResp h req t4 corr => Sys2Proof.Machine.execPtpDelayResp h req t4 corr s
  | .ptpPdelayReq h rx => Sys2Proof.Machine.execPtpPdelayReq h rx s
  | .ptpPdelayResp h req turn rx => Sys2Proof.Machine.execPtpPdelayResp h req turn rx s
  | .ptpManagement h action id => Sys2Proof.Machine.execPtpManagement h action id s
  | .ptpMessageTimer port kind => Sys2Proof.Machine.execPtpMessageTimer port kind s
  | .announceTimeout port => Sys2Proof.Machine.execAnnounceTimeout port s
  | .ppsinPulse rising => Sys2Proof.Machine.execPpsinPulse rising s
  | .ppsMissing => Sys2Proof.Machine.execPpsMissing s
  | .holdoverLearn x32 => Sys2Proof.Machine.execHoldoverLearn x32 s
  | .holdoverLimit => Sys2Proof.Machine.execHoldoverLimit s
  | .holdoverClear => Sys2Proof.Machine.execHoldoverClear s
  | .leapApplied => Sys2Proof.Machine.execLeapApplied s
  | .ppsoutEdge level => Sys2Proof.Machine.execPpsoutEdge level s
  | .tsyncCapture rising => Sys2Proof.Machine.execTsyncCapture rising s
  | .tsyncHiRead ini sess => Sys2Proof.Machine.execTsyncHiRead ini sess s
  | .localtimeChanged k vals => Sys2Proof.Machine.execLocaltimeChanged k vals s
  | .sunEventsUpdated => Sys2Proof.Machine.execSunEventsUpdated s
  | .sunPosition => Sys2Proof.Machine.execSunPosition s
  | .ledgerWake e => Sys2Proof.Machine.execLedgerWake e s
  | .occurrenceDue e => Sys2Proof.Machine.execOccurrenceDue e s
  | .deferredPosting => Sys2Proof.Machine.execDeferredPosting s
  | .heldPostingApply n => Sys2Proof.Machine.execHeldPostingApply n s
  | .nop e target value late => Sys2Proof.Machine.execNop e target value late s
  | .cvuStart e target value late => Sys2Proof.Machine.execCvuStart e target value late s
  | .cvuInject e target value late => Sys2Proof.Machine.execCvuInject e target value late s
  | .slotStart e target value late => Sys2Proof.Machine.execSlotStart e target value late s
  | .escrowPost e target value late => Sys2Proof.Machine.execEscrowPost e target value late s
  | .outLatch e target value late => Sys2Proof.Machine.execOutLatch e target value late s
  | .regWrite e target value late => Sys2Proof.Machine.execRegWrite e target value late s
  | .regSet e target value late => Sys2Proof.Machine.execRegSet e target value late s
  | .regClr e target value late => Sys2Proof.Machine.execRegClr e target value late s
  | .canQueue e target value late => Sys2Proof.Machine.execCanQueue e target value late s
  | .netPublish e target value late => Sys2Proof.Machine.execNetPublish e target value late s
  | .obsSnapshot e target value late => Sys2Proof.Machine.execObsSnapshot e target value late s
  | .flagSet e target value late => Sys2Proof.Machine.execFlagSet e target value late s
  | .flagClr e target value late => Sys2Proof.Machine.execFlagClr e target value late s
  | .bookArm e target value late => Sys2Proof.Machine.execBookArm e target value late s
  | .bookDisarm e target value late => Sys2Proof.Machine.execBookDisarm e target value late s
  | .bookSwap e target value late => Sys2Proof.Machine.execBookSwap e target value late s
  | .runtimeEvent e target value late => Sys2Proof.Machine.execRuntimeEvent e target value late s
  | .ldgArm ini sess b => Sys2Proof.Machine.execLdgArm ini sess b s
  | .ldgDisarm ini sess b => Sys2Proof.Machine.execLdgDisarm ini sess b s
  | .ldgCommit ini sess e nv => Sys2Proof.Machine.execLdgCommit ini sess e nv s
  | .bookImageWrite r b image => Sys2Proof.Machine.execBookImageWrite r b image s
  | .calWindowEnd u k off gain shadow => Sys2Proof.Machine.execCalWindowEnd u k off gain shadow s
  | .fgcalPending u => Sys2Proof.Machine.execFgcalPending u s
  | .fgcalNow u => Sys2Proof.Machine.execFgcalNow u s
  | .fgcalStart u => Sys2Proof.Machine.execFgcalStart u s
  | .fgcalEnd u meas => Sys2Proof.Machine.execFgcalEnd u meas s
  | .requalify u mask => Sys2Proof.Machine.execRequalify u mask s
  | .excCompliance j open_ => Sys2Proof.Machine.execExcCompliance j open_ s
  | .calsetWrite r b set => Sys2Proof.Machine.execCalsetWrite r b set s
  | .seqEnable u => Sys2Proof.Machine.execSeqEnable u s
  | .seqDisable u => Sys2Proof.Machine.execSeqDisable u s
  | .seqStart u => Sys2Proof.Machine.execSeqStart u s
  | .resultDelivery u x high aged t => Sys2Proof.Machine.execResultDelivery u x high aged t s
  | .cvuInjWrite u w => Sys2Proof.Machine.execCvuInjWrite u w s
  | .streamEnable u sv => Sys2Proof.Machine.execStreamEnable u sv s
  | .ringRdWrite u sv v => Sys2Proof.Machine.execRingRdWrite u sv v s
  | .nopI n d sv t imm => Sys2Proof.Machine.execNopI n d sv t imm s
  | .ldi n d sv t imm => Sys2Proof.Machine.execLdi n d sv t imm s
  | .ldih n d sv t imm => Sys2Proof.Machine.execLdih n d sv t imm s
  | .mov n d sv t imm => Sys2Proof.Machine.execMov n d sv t imm s
  | .ld n d sv t imm => Sys2Proof.Machine.execLd n d sv t imm s
  | .st n d sv t imm => Sys2Proof.Machine.execSt n d sv t imm s
  | .lds n d sv t imm => Sys2Proof.Machine.execLds n d sv t imm s
  | .sts n d sv t imm => Sys2Proof.Machine.execSts n d sv t imm s
  | .inP n d sv t imm => Sys2Proof.Machine.execInP n d sv t imm s
  | .outP n d sv t imm => Sys2Proof.Machine.execOutP n d sv t imm s
  | .add n d sv t imm => Sys2Proof.Machine.execAdd n d sv t imm s
  | .adds n d sv t imm => Sys2Proof.Machine.execAdds n d sv t imm s
  | .sub n d sv t imm => Sys2Proof.Machine.execSub n d sv t imm s
  | .subs n d sv t imm => Sys2Proof.Machine.execSubs n d sv t imm s
  | .neg n d sv t imm => Sys2Proof.Machine.execNeg n d sv t imm s
  | .abs n d sv t imm => Sys2Proof.Machine.execAbs n d sv t imm s
  | .min n d sv t imm => Sys2Proof.Machine.execMin n d sv t imm s
  | .max n d sv t imm => Sys2Proof.Machine.execMax n d sv t imm s
  | .andI n d sv t imm => Sys2Proof.Machine.execAndI n d sv t imm s
  | .orI n d sv t imm => Sys2Proof.Machine.execOrI n d sv t imm s
  | .xorI n d sv t imm => Sys2Proof.Machine.execXorI n d sv t imm s
  | .shl n d sv t imm => Sys2Proof.Machine.execShl n d sv t imm s
  | .shr n d sv t imm => Sys2Proof.Machine.execShr n d sv t imm s
  | .sar n d sv t imm => Sys2Proof.Machine.execSar n d sv t imm s
  | .mpy n d sv t imm => Sys2Proof.Machine.execMpy n d sv t imm s
  | .mac n d sv t imm => Sys2Proof.Machine.execMac n d sv t imm s
  | .msu n d sv t imm => Sys2Proof.Machine.execMsu n d sv t imm s
  | .clra n d sv t imm => Sys2Proof.Machine.execClra n d sv t imm s
  | .lda n d sv t imm => Sys2Proof.Machine.execLda n d sv t imm s
  | .sta n d sv t imm => Sys2Proof.Machine.execSta n d sv t imm s
  | .sha n d sv t imm => Sys2Proof.Machine.execSha n d sv t imm s
  | .cmp n d sv t imm => Sys2Proof.Machine.execCmp n d sv t imm s
  | .lim n d sv t imm => Sys2Proof.Machine.execLim n d sv t imm s
  | .slew n d sv t imm => Sys2Proof.Machine.execSlew n d sv t imm s
  | .deadb n d sv t imm => Sys2Proof.Machine.execDeadb n d sv t imm s
  | .lut n d sv t imm => Sys2Proof.Machine.execLut n d sv t imm s
  | .sincos n d sv t imm => Sys2Proof.Machine.execSincos n d sv t imm s
  | .div n d sv t imm => Sys2Proof.Machine.execDiv n d sv t imm s
  | .sqrt n d sv t imm => Sys2Proof.Machine.execSqrt n d sv t imm s
  | .bra n d sv t imm => Sys2Proof.Machine.execBra n d sv t imm s
  | .bcc n d sv t imm => Sys2Proof.Machine.execBcc n d sv t imm s
  | .loopI n d sv t imm => Sys2Proof.Machine.execLoopI n d sv t imm s
  | .trig n d sv t imm => Sys2Proof.Machine.execTrig n d sv t imm s
  | .endI n => Sys2Proof.Machine.execEndI n s
  | .runFault n => Sys2Proof.Machine.execRunFault n s
  | .runLimit n => Sys2Proof.Machine.execRunLimit n s
  | .faultClr n => Sys2Proof.Machine.execFaultClr n s
  | .engineImageLoad n image => Sys2Proof.Machine.execEngineImageLoad n image s
  | .libBind n pid sbase dbase last => Sys2Proof.Machine.execLibBind n pid sbase dbase last s
  | .removeProg n pid => Sys2Proof.Machine.execRemoveProg n pid s
  | .slotEnable n sv => Sys2Proof.Machine.execSlotEnable n sv s
  | .slotDisable n sv => Sys2Proof.Machine.execSlotDisable n sv s
  | .slotStartWrite n sv => Sys2Proof.Machine.execSlotStartWrite n sv s
  | .slotTrigger n sv => Sys2Proof.Machine.execSlotTrigger n sv s
  | .runStart n => Sys2Proof.Machine.execRunStart n s
  | .specStartTime n sv => Sys2Proof.Machine.execSpecStartTime n sv s
  | .sampleInstant n sv => Sys2Proof.Machine.execSampleInstant n sv s
  | .specNoTrigger n sv => Sys2Proof.Machine.execSpecNoTrigger n sv s
  | .slotArm n sv => Sys2Proof.Machine.execSlotArm n sv s
  | .routeWrite n out p v => Sys2Proof.Machine.execRouteWrite n out p v s
  | .swapBoundary n => Sys2Proof.Machine.execSwapBoundary n s
  | .traceEnable n => Sys2Proof.Machine.execTraceEnable n s
  | .zoneEvaluation => Sys2Proof.Machine.execZoneEvaluation s
  | .dayBookCompile => Sys2Proof.Machine.execDayBookCompile s
  | .dayBookRecompile => Sys2Proof.Machine.execDayBookRecompile s
  | .lightRestage g => Sys2Proof.Machine.execLightRestage g s
  | .lightSwitched g => Sys2Proof.Machine.execLightSwitched g s
  | .hostHeartbeat r value => Sys2Proof.Machine.execHostHeartbeat r value s
  | .hostLost => Sys2Proof.Machine.execHostLost s
  | .tmrEnable m => Sys2Proof.Machine.execTmrEnable m s
  | .pwmValley m => Sys2Proof.Machine.execPwmValley m s
  | .centreTrigger m => Sys2Proof.Machine.execCentreTrigger m s
  | .mfltFault m low => Sys2Proof.Machine.execMfltFault m low s
  | .runWrite m run => Sys2Proof.Machine.execRunWrite m run s
  | .motorRun m => Sys2Proof.Machine.execMotorRun m s
  | .startWindow m => Sys2Proof.Machine.execStartWindow m s
  | .retryPause m => Sys2Proof.Machine.execRetryPause m s
  | .motorStall m => Sys2Proof.Machine.execMotorStall m s
  | .motorStopped m => Sys2Proof.Machine.execMotorStopped m s
  | .motorClear m => Sys2Proof.Machine.execMotorClear m s
  | .attemptReset drive => Sys2Proof.Machine.execAttemptReset drive s
  | .fanPeriodStart f => Sys2Proof.Machine.execFanPeriodStart f s
  | .tachUpdate f phases => Sys2Proof.Machine.execTachUpdate f phases s
  | .tachTimeout f => Sys2Proof.Machine.execTachTimeout f s
  | .fanTargetWrite f v => Sys2Proof.Machine.execFanTargetWrite f v s
  | .kickEnd f => Sys2Proof.Machine.execKickEnd f s
  | .fanPauseEnd f => Sys2Proof.Machine.execFanPauseEnd f s
  | .tachLostTimeout f => Sys2Proof.Machine.execTachLostTimeout f s
  | .fanClear f => Sys2Proof.Machine.execFanClear f s
  | .bandLearn f => Sys2Proof.Machine.execBandLearn f s
  | .ageingSample drive => Sys2Proof.Machine.execAgeingSample drive s
  | .ageingLearn drive learn => Sys2Proof.Machine.execAgeingLearn drive learn s
  | .coastElapsed m => Sys2Proof.Machine.execCoastElapsed m s
  | .actOvercurrent n => Sys2Proof.Machine.execActOvercurrent n s
  | .actocClear mask => Sys2Proof.Machine.execActocClear mask s
  | .actPulseEnd n => Sys2Proof.Machine.execActPulseEnd n s
  | .pairGapEnd p => Sys2Proof.Machine.execPairGapEnd p s
  | .latchApply mask => Sys2Proof.Machine.execLatchApply mask s
  | .gpioInput n level raw => Sys2Proof.Machine.execGpioInput n level raw s
  | .gcapRead ini sess n => Sys2Proof.Machine.execGcapRead ini sess n s
  | .i2cEnable c => Sys2Proof.Machine.execI2cEnable c s
  | .i2cDisable c => Sys2Proof.Machine.execI2cDisable c s
  | .i2cRound c bus => Sys2Proof.Machine.execI2cRound c bus s
  | .i2cWait start => Sys2Proof.Machine.execI2cWait start s
  | .i2cEntryDone c ok data bus => Sys2Proof.Machine.execI2cEntryDone c ok data bus s
  | .i2cStretchTimeout c bus => Sys2Proof.Machine.execI2cStretchTimeout c bus s
  | .canModeWrite n mode => Sys2Proof.Machine.execCanModeWrite n mode s
  | .adrDwell n => Sys2Proof.Machine.execAdrDwell n s
  | .canTxreq n mask => Sys2Proof.Machine.execCanTxreq n mask s
  | .canTxcan n mask => Sys2Proof.Machine.execCanTxcan n mask s
  | .canSof n => Sys2Proof.Machine.execCanSof n s
  | .canFrameSent n won delay => Sys2Proof.Machine.execCanFrameSent n won delay s
  | .canError n e => Sys2Proof.Machine.execCanError n e s
  | .busoffRecovery n => Sys2Proof.Machine.execBusoffRecovery n s
  | .clearBo n => Sys2Proof.Machine.execClearBo n s
  | .canFrameReceived n f => Sys2Proof.Machine.execCanFrameReceived n f s
  | .rxhRead ini sess n q w => Sys2Proof.Machine.execRxhRead ini sess n q w s
  | .rxUnlock n q => Sys2Proof.Machine.execRxUnlock n q s
  | .rxDrop n q => Sys2Proof.Machine.execRxDrop n q s
  | .hushReq n p => Sys2Proof.Machine.execHushReq n p s
  | .hushAck n node => Sys2Proof.Machine.execHushAck n node s
  | .hushDeadline n => Sys2Proof.Machine.execHushDeadline n s
  | .busloadWindow n load => Sys2Proof.Machine.execBusloadWindow n load s
  | .nodeAnnounce n node ident => Sys2Proof.Machine.execNodeAnnounce n node ident s
  | .beacon n => Sys2Proof.Machine.execBeacon n s
  | .cutTime n => Sys2Proof.Machine.execCutTime n s
  | .canSegRestored n => Sys2Proof.Machine.execCanSegRestored n s
  | .segClear n => Sys2Proof.Machine.execSegClear n s
  | .segOff n off => Sys2Proof.Machine.execSegOff n off s
  | .hegusSingle n node data => Sys2Proof.Machine.execHegusSingle n node data s
  | .hegusFirst n node data => Sys2Proof.Machine.execHegusFirst n node data s
  | .hegusConsecutive n node data => Sys2Proof.Machine.execHegusConsecutive n node data s
  | .hegusFlow n node data => Sys2Proof.Machine.execHegusFlow n node data s
  | .hegusCanTimeout n node send => Sys2Proof.Machine.execHegusCanTimeout n node send s
  | .fnsFrameReceived p f => Sys2Proof.Machine.execFnsFrameReceived p f s
  | .fnsFrameTransmit p => Sys2Proof.Machine.execFnsFrameTransmit p s
  | .macAge addr => Sys2Proof.Machine.execMacAge addr s
  | .portEnable p en => Sys2Proof.Machine.execPortEnable p en s
  | .linkUp p low => Sys2Proof.Machine.execLinkUp p low s
  | .linkDown p => Sys2Proof.Machine.execLinkDown p s
  | .plcaBeacon t => Sys2Proof.Machine.execPlcaBeacon t s
  | .sqiUpdate p sqi => Sys2Proof.Machine.execSqiUpdate p sqi s
  | .cableTest p => Sys2Proof.Machine.execCableTest p s
  | .cableTestDone p result dist => Sys2Proof.Machine.execCableTestDone p result dist s
  | .loopCheck => Sys2Proof.Machine.execLoopCheck s
  | .addrConflict clash => Sys2Proof.Machine.execAddrConflict clash s
  | .dhcpv4AttemptTimeout => Sys2Proof.Machine.execDhcpv4AttemptTimeout s
  | .duplicateAddressDetection kind addr => Sys2Proof.Machine.execDuplicateAddressDetection kind addr s
  | .read r idx sub => Sys2Proof.Machine.execRead r idx sub s
  | .write r idx sub value => Sys2Proof.Machine.execWrite r idx sub value s
  | .readMulti r items => Sys2Proof.Machine.execReadMulti r items s
  | .writeMulti r timed items => Sys2Proof.Machine.execWriteMulti r timed items s
  | .timedWrite id => Sys2Proof.Machine.execTimedWrite id s
  | .timedCancel r id => Sys2Proof.Machine.execTimedCancel r id s
  | .subscribe r idx sub mode period deadband => Sys2Proof.Machine.execSubscribe r idx sub mode period deadband s
  | .unsubscribe r id => Sys2Proof.Machine.execUnsubscribe r id s
  | .notify sess id => Sys2Proof.Machine.execNotify sess id s
  | .describe r idx sub => Sys2Proof.Machine.execDescribe r idx sub s
  | .blockStart r idx sub dir total => Sys2Proof.Machine.execBlockStart r idx sub dir total s
  | .blockData r id offset data => Sys2Proof.Machine.execBlockData r id offset data s
  | .blockEnd r id crc => Sys2Proof.Machine.execBlockEnd r id crc s
  | .blockAbort r id => Sys2Proof.Machine.execBlockAbort r id s
  | .blockTimeout sess id => Sys2Proof.Machine.execBlockTimeout sess id s
  | .sessionOpen r role => Sys2Proof.Machine.execSessionOpen r role s
  | .sessionClose r => Sys2Proof.Machine.execSessionClose r s
  | .sessionIdle sess => Sys2Proof.Machine.execSessionIdle sess s
  | .authBegin r role key cert => Sys2Proof.Machine.execAuthBegin r role key cert s
  | .authProof r sig => Sys2Proof.Machine.execAuthProof r sig s
  | .clientHello ip port cookie kind role cred => Sys2Proof.Machine.execClientHello ip port cookie kind role cred s
  | .spiTransfer frame clocked ready => Sys2Proof.Machine.execSpiTransfer frame clocked ready s
  | .appSchemaWrite r value => Sys2Proof.Machine.execAppSchemaWrite r value s
  | .hegusLockoutEnd src => Sys2Proof.Machine.execHegusLockoutEnd src s
  | .nvWindowRead ini off size => Sys2Proof.Machine.execNvWindowRead ini off size s
  | .claim ini => Sys2Proof.Machine.execClaim ini s
  | .release ini => Sys2Proof.Machine.execRelease ini s
  | .nvWrite ini bad => Sys2Proof.Machine.execNvWrite ini bad s
  | .txnBegin ini => Sys2Proof.Machine.execTxnBegin ini s
  | .txnAdd ini bad => Sys2Proof.Machine.execTxnAdd ini bad s
  | .txnCommit ini => Sys2Proof.Machine.execTxnCommit ini s
  | .txnAbort ini => Sys2Proof.Machine.execTxnAbort ini s
  | .nvsTxnComplete done => Sys2Proof.Machine.execNvsTxnComplete done s
  | .unlock ini region kind => Sys2Proof.Machine.execUnlock ini region kind s
  | .relock ini region kind => Sys2Proof.Machine.execRelock ini region kind s
  | .setPwd ini region kind => Sys2Proof.Machine.execSetPwd ini region kind s
  | .setRegion ini region => Sys2Proof.Machine.execSetRegion ini region s
  | .tallyInc ini k => Sys2Proof.Machine.execTallyInc ini k s
  | .checkpoint cmd => Sys2Proof.Machine.execCheckpoint cmd s
  | .unlockExpiry sess region kind => Sys2Proof.Machine.execUnlockExpiry sess region kind s
  | .sealAdvance k v => Sys2Proof.Machine.execSealAdvance k v s
  | .checkpointComplete => Sys2Proof.Machine.execCheckpointComplete s
  | .nvLockoutEnd region => Sys2Proof.Machine.execNvLockoutEnd region s
  | .trngFault rct apt => Sys2Proof.Machine.execTrngFault rct apt s
  | .trngRecovered => Sys2Proof.Machine.execTrngRecovered s
  | .secTamper source => Sys2Proof.Machine.execSecTamper source s
  | .lcRequest r target eui => Sys2Proof.Machine.execLcRequest r target eui s
  | .debugToken token => Sys2Proof.Machine.execDebugToken token s
  | .updateContainer r c => Sys2Proof.Machine.execUpdateContainer r c s
  | .flashBlockFill half block ok => Sys2Proof.Machine.execFlashBlockFill half block ok s
  | .recoveryImage r c => Sys2Proof.Machine.execRecoveryImage r c s
  | .attestNonce r nonce => Sys2Proof.Machine.execAttestNonce r nonce s
  | .certifiedMode r on => Sys2Proof.Machine.execCertifiedMode r on s
  | .activateAt r idx t => Sys2Proof.Machine.execActivateAt r idx t s
  | .activationSwitchover part => Sys2Proof.Machine.execActivationSwitchover part s
  | .healthFail r idx => Sys2Proof.Machine.execHealthFail r idx s
  | .healthWindowEnd part => Sys2Proof.Machine.execHealthWindowEnd part s
  | .actRolledBack part => Sys2Proof.Machine.execActRolledBack part s
  | .runtimeHandoverStage ok => Sys2Proof.Machine.execRuntimeHandoverStage ok s
  | .tellerRestart ok => Sys2Proof.Machine.execTellerRestart ok s
  | .trngWaitTimeout sess req => Sys2Proof.Machine.execTrngWaitTimeout sess req s
  | .timeFloorUpdate => Sys2Proof.Machine.execTimeFloorUpdate s
  | .debugPortReset => Sys2Proof.Machine.execDebugPortReset s
  | .swapActivateAt r n t => Sys2Proof.Machine.execSwapActivateAt r n t s
  | .hkcConversion ch value => Sys2Proof.Machine.execHkcConversion ch value s
  | .thermalHoldEnd => Sys2Proof.Machine.execThermalHoldEnd s
  | .thermalTrip => Sys2Proof.Machine.execThermalTrip s
  | .thermalRestart => Sys2Proof.Machine.execThermalRestart s
  | .convPaceEnd u => Sys2Proof.Machine.execConvPaceEnd u s
  | .fselWrite ini sess j value => Sys2Proof.Machine.execFselWrite ini sess j value s
  | .counterLoRead ini sess k => Sys2Proof.Machine.execCounterLoRead ini sess k s
  | .counterLoWrite ini sess k value => Sys2Proof.Machine.execCounterLoWrite ini sess k value s
  | .counterHiWrite ini sess k value => Sys2Proof.Machine.execCounterHiWrite ini sess k value s
  | .freeze ini sess on => Sys2Proof.Machine.execFreeze ini sess on s
  | .snap ini sess => Sys2Proof.Machine.execSnap ini sess s
  | .snapshotWritten => Sys2Proof.Machine.execSnapshotWritten s
  | .unprivRead ini sess on => Sys2Proof.Machine.execUnprivRead ini sess on s

end Sys2Proof.Machine
end

