-- ==== Sys2Proof/Machine/Tick.lean ====
section
/-! DEFINITION. The end of a clock cycle: what the block does when no command waits (log entry 1). -/

namespace Sys2Proof.Machine

/-- The period-start events of counters that have restarted in this cycle (R290, R294). -/
def startsEnd (d : Dev) : Dev :=
  let m := d.mdu.starts
  fire (((upto 8).filter (fun k => m.testBit k)).map (0x358 + ·)) { d with mdu.starts := 0 }

/-- Outputs whose latch group was triggered in this cycle apply their pending copies (R309, R322). -/
def latchEnd (d : Dev) : Dev :=
  let a := d.aio.latch
  let m := d.mdu.latch
  let d := if a ≠ 0 ∧ d.ready 7 then aioApplyGroups a d else d
  let d := if m ≠ 0 ∧ d.ready 6 then mduApplyGroups m d else d
  { d with aio.latch := 0, mdu.latch := 0 }

/-- A byte list as a string of octets. -/
def octBytes (l : List Nat) : Octets := ⟨l.length, l.foldr (fun b n => b % 256 + 256 * n) 0⟩

/-- Whole Hegus messages that channel `c` has received are executed, oldest first (R403). -/
def inboxEnd (c : Nat) (d : Dev) : Dev :=
  let l := (d.canS c).inbox.reverse
  if l = [] then d
  else
    let d := d.setCan c { d.canS c with inbox := [] }
    l.foldl (fun d m => hegHandle (512 + 64 * c + m.1) (octBytes m.2) d) d

/-- The runtime's and the Teller's work between requests: the host's frame leaves the receive buffer, answers that waited for a domain go out,
messages from the bus, requests that wait for the store, sessions whose transport has ended, and notifications that wait. -/
def hegusEnd (d : Dev) : Dev :=
  let d := acksOut { d with heg.rxFull := false }
  let d := (upto 8).foldl (fun d c => inboxEnd c d) d
  let d := sessSweep (storeWaits d)
  d.heg.sessions.foldl (fun d s => notifyDrain s d) d

/-- A restart that a command has announced (R453). -/
def restartDue (d : Dev) : Dev :=
  match d.sec.restartAt with
  | some t => if t ≤ d.now then fullRestart PMC_RSTCAUSE_SEC d else d
  | none => d

/-- The end of the cycle: messages, postings that are due, book control, events of restarted counters, triggers of running passes and runs,
output latches, failed trials, a forced DEEP that waits, a fall of the hold-up energy and the events of violations. -/
def cycleEnd (d : Dev) : Dev :=
  avEvents (energyFall (deepDue (failsSettle (latchEnd (afterSwap (imageRestore (engineSettle 16 (trigEnd (startsEnd (ldgSettle 16 (hegusEnd d)))))))))))

/-- What one cycle has seen is forgotten; the state of the time base and the release stand as guard sources of the next one. -/
def cycleClear (d : Dev) : Dev :=
  { d with cyc := { tb0 := some d.xtf.st, rel0 := some d.pwr.released }, obs.start := [], obs.incN := [], obs.wrote := [], obs.sel := [], obs.lostN := [], obs.ovf0 := none }

/-- Time moves on by one cycle of the 200 MHz clock. The time base counts from the start of the buck, also while nRESET holds the
device (R47, R62, R67, R79); calibration windows count the powered time of their units (R142). -/
def timePass (d : Dev) : Dev :=
  let d : Dev := (upto 4).foldl (fun d u => windowsPass u 5 d) { d with now := d.now + 5 }
  if aonHeld d then d else if resetHeld d then timeTick d else specWake (timeTick d)

/-- One cycle of the 200 MHz clock (5 ns) passes. -/
def tickDev (d : Dev) : Dev :=
  if d.pwr.aon then
    restartDue (timePass (cycleClear (countConds ((d.now + 5) / 1000 - d.now / 1000) (cycleEnd d))))
  else { d with now := d.now + 5 }

end Sys2Proof.Machine
end

