-- ==== Sys2Proof/Machine/Layout.lean ====
section
/-! DEFINITION. The bytes of the NVS system pages (R410, R418, R424, R428) and of the OTP (R438), computed from the records that State
holds. None stands for a byte of a copy, a header or a descriptor that does not match its check: nothing says what it holds. -/

namespace Sys2Proof.Machine

/-- The `n` low bytes of a number (R3). -/
def lowBytes (v n : Nat) : List (Option Nat) := (leBytes v n).map (fun b => some b.toNat)

/-- `n` bytes of which nothing is known. -/
def lostBytes (n : Nat) : List (Option Nat) := List.replicate n none

/-- CRC-32 of known bytes; none where one is not known. -/
def crcBytes (l : List (Option Nat)) : List (Option Nat) :=
  if l.all (·.isSome) then lowBytes (l.foldl (fun c b => crcByte c (b.getD 0)) 0xFFFFFFFF ^^^ 0xFFFFFFFF) 4 else lostBytes 4

/-- Zeros up to `n` bytes. -/
def padTo (n : Nat) (l : List (Option Nat)) : List (Option Nat) := (l ++ List.replicate (n - l.length) (some 0)).take n

/-- Bytes 0 to 107 of journal control (R418); PCRC of unused entries are 0 (DEDUCED, log entry 168). -/
def journalHeader (j : Journal) : List (Option Nat) :=
  if !j.ok then lostBytes 108
  else
    lowBytes 0x4C4E524A 4 ++ lowBytes j.seq 4 ++ lowBytes j.homes.length 1 ++ lowBytes 0 3 ++
      (upto 16).flatMap (fun i => lowBytes (j.homes.getD i 0) 2) ++
      (upto 16).flatMap (fun i => if i < j.homes.length then (match j.pcrc[i]? with | some c => lowBytes c 4 | none => lostBytes 4) else lowBytes 0 4)

/-- Page 0x000. A header without its COMMIT or DONE keeps those of the transaction before (R419). -/
def journalPage (j : Journal) : List (Option Nat) :=
  let old := (j.seq + (2 ^ 32 - 1)) % 2 ^ 32
  let h := journalHeader j
  padTo 256 (h ++ crcBytes h ++ lowBytes ((if j.commit then j.seq else old) ^^^ 0xA55AC33C) 4 ++ lowBytes (if j.done then j.seq else old) 4)

/-- A shadow descriptor of the image that stands from byte `base` of the array (R424). -/
def descBytes (base : Nat) (x : Option ShadowDesc) (d : Dev) : List (Option Nat) :=
  match x with
  | none => lostBytes 32
  | some s =>
    let crc := (upto 65536).foldl (fun c i => crcByte c (memByte d.nvs.arr (base + i)).toNat) 0xFFFFFFFF ^^^ 0xFFFFFFFF
    let h := lowBytes s.seq 4 ++ lowBytes crc 4 ++ lowBytes s.time 8 ++ lowBytes s.cause 1 ++ lowBytes 0 11
    h ++ crcBytes h

/-- The save-start marker: SEQ and its bitwise inverse, or 0 (R424). -/
def markerBytes (m : Option Nat) : List (Option Nat) :=
  match m with
  | some s => lowBytes s 4 ++ lowBytes (2 ^ 32 - 1 - s % 2 ^ 32) 4
  | none => lowBytes 0 8

/-- Page 0x001. -/
def shadowPage (d : Dev) : List (Option Nat) :=
  padTo 256 (descBytes (imageBase 0) d.nvs.descA d ++ descBytes (imageBase 1) d.nvs.descB d ++ markerBytes d.nvs.marker)

/-- One copy of a two-copy record of `w` payload bytes: payload, SEQ, a zero byte and CRC-16 (R428). -/
def copyBytes (w : Nat) (c : Option (Nat × Nat)) : List (Option Nat) :=
  match c with
  | none => lostBytes (w + 4)
  | some (v, s) =>
    let b : Octets := ⟨w + 2, packBytes [(w, v), (1, s), (1, 0)]⟩
    lowBytes b.val (w + 2) ++ lowBytes (crc16 b (w + 2)) 2

/-- Copy A, then copy B. -/
def recordBytes (w : Nat) (x : TwoCopy) : List (Option Nat) := copyBytes w x.a ++ copyBytes w x.b

/-- `n` records one after another, in `pages` pages (DEDUCED, log entry 168). -/
def recordPages (w n pages : Nat) (t : Tab TwoCopy) : List (Option Nat) :=
  padTo (256 * pages) ((upto n).flatMap (fun k => recordBytes w (tabGet {} k t)))

/-- The system area, pages 0x000 to 0x00F, as the array holds it (R410). -/
def sysPages (d : Dev) : List (Option Nat) :=
  journalPage (journalNow d) ++ shadowPage d ++ recordPages 4 16 1 d.nvs.seals ++ recordPages 4 16 1 d.nvs.tallies ++
    recordPages 16 16 3 d.nvs.verif ++ recordPages 8 8 1 d.nvs.regions ++ recordPages 1 8 1 d.nvs.fails ++ padTo 768 [] ++
    padTo 1024 (d.pwr.nvEvents.flatMap (fun r => lowBytes (evBytes r) 52))

/-- The 4 KiB OTP (R438). The words of the life cycle stand for themselves and those below them, and the flag word is programmed half by half
(DEDUCED, log entry 168). -/
def otpBytes (d : Dev) : List (Option Nat) :=
  padTo 0x10 ((upto 3).flatMap (fun k => lowBytes (if k < d.sec.lcs then 0xFFFFFFFF else 0) 4)) ++ padTo 0x10 (lowBytes (beRev 6 Config.eui48) 6) ++
    lowBytes Config.dus 32 ++ padTo 0x40 (lowBytes dikWrapped 48) ++ padTo 0x80 (lowBytes d.sec.revoked 1) ++
    (upto 4).flatMap (fun k => lowBytes (tabGet 0 k d.sec.owner) 32) ++
    padTo 0x80 (lowBytes (if d.sec.certOtp = 0 then 0 else if d.sec.certOtp = 1 then 0xFFFF else 0xFFFFFFFF) 4) ++
    padTo 0xE00 (lowBytes dikCert 1536)

end Sys2Proof.Machine
end

