-- ==== Sys2Proof/WellFormed.lean ====
section
/-! DEFINITION. Well-formed commands: operands within the ranges that the manual's fields, buses and messages give them. A
command outside them is one that no bus or protocol can carry. -/

namespace Sys2Proof

/-- An initiator ID (R22), and a session number only for the mirror agent (R40). -/
def okIni (ini sess : Nat) : Bool := decide (ini < 16) && (decide (ini = 14) || decide (sess = 0)) && decide (sess < 65536)

/-- An access size in bytes (R35). -/
def okSize (size : Nat) : Bool := decide (size = 1 ∨ size = 2 ∨ size = 4)

/-- A value that is absent or below a bound. -/
def optLt (x : Option Nat) (n : Nat) : Bool := match x with | none => true | some v => decide (v < n)

/-- A request header (R384). -/
def okReq (r : Req) : Bool := decide (r.id < 65536)

/-- Each element is a byte. -/
def okBytes (l : List Nat) : Bool := l.all (fun b => decide (b < 256))

/-- A byte string has no bit beyond its length (R3). -/
def okOct (o : Octets) : Bool := decide (o.val < 256 ^ o.len)

/-- One item of a WRITE_MULTI (R388). -/
def okItem (w : WItem) : Bool := decide (w.idx < 65536) && decide (w.sub < 256) && okOct w.value

/-- A PTP header (R85). -/
def okHdr (h : PtpHdr) : Bool :=
  decide (h.port < 6) && decide (h.dom < 256) && decide (h.src < 2 ^ 64) && decide (h.srcPort < 65536) && decide (h.seq < 65536)

/-- The command is well-formed. -/
def wellFormed : Instr → Bool
  | .registerWrite ini sess addr size data => okIni ini sess && okSize size && decide (addr < 2 ^ 32) &&
      decide (data < 2 ^ (8 * size))
  | .registerRead ini sess addr size => okIni ini sess && okSize size && decide (addr < 2 ^ 32)
  | .avlogClear ini sess => okIni ini sess
  | .mirrorData _ b x => decide (b < 256) && optLt x (2 ^ 32)
  | .mirrorDataInc _ b x => decide (b < 256) && optLt x (2 ^ 32)
  | .halfStop half => decide (half < 2)
  | .halfRestart half _ => decide (half < 2)
  | .sramUncorrectable ini addr entry _ => decide (ini < 16) && decide (0x20000000 ≤ addr) &&
      decide (addr < 0x20400000) && decide (entry < 2 ^ 24)
  | .domainRelease n => decide (n < 12)
  | .capMeasureInterval start mv => decide (start < 65536) && decide (mv < 65536)
  | .bootChainVerify boot => decide (boot < 4)
  | .journalRecovery _ bad recs => bad.all (fun k => decide (k < 16)) && recs.all (fun x => decide (x.1 < 64 ∧ x.2 < 4))
  | .runtimeUp halves => decide (halves < 4)
  | .outputsReleaseGrant r => (match r with | none => true | some q => okReq q)
  | .outputsReleaseWithdraw r => okReq r
  | .domainReady n => decide (n < 12)
  | .domreqWrite ini sess mask => okIni ini sess && decide (mask < 4096)
  | .domainReset ini sess mask => okIni ini sess && decide (mask < 4096)
  | .coreWait core _ => decide (core < 8)
  | .forceDeep ini sess => okIni ini sess
  | .wakeEvent src => decide (src < 16)
  | .softReset ini sess => okIni ini sess
  | .timeLoRead ini sess => okIni ini sess
  | .timeSet ini sess value => okIni ini sess && optLt value (2 ^ 64)
  | .timeSetLine t => decide (t < 2 ^ 64)
  | .ptpSync h _ origin _ rx => okHdr h && decide (origin < 2 ^ 64) && decide (rx < 2 ^ 64)
  | .ptpFollowUp h origin _ => okHdr h && decide (origin < 2 ^ 64)
  | .ptpAnnounce h a => okHdr h && decide (a.cls < 256) && decide (a.acc < 256) &&
      decide (a.var < 65536) && decide (a.prio1 < 256) && decide (a.prio2 < 256) && decide (a.gm < 2 ^ 64) &&
      decide (a.steps < 65536) && decide (a.tsrc < 256)
  | .ptpDelayReq h rx => okHdr h && decide (rx < 2 ^ 64)
  | .ptpDelayResp h _ t4 _ => okHdr h && decide (t4 < 2 ^ 64)
  | .ptpPdelayReq h rx => okHdr h && decide (rx < 2 ^ 64)
  | .ptpPdelayResp h _ _ rx => okHdr h && decide (rx < 2 ^ 64)
  | .ptpManagement h action id => okHdr h && decide (action < 16) && decide (id < 65536)
  | .ptpMessageTimer port kind => decide (port < 6) && decide (kind < 3)
  | .announceTimeout port => decide (port < 6)
  | .tsyncHiRead ini sess => okIni ini sess
  | .localtimeChanged k vals => decide (k < 4) && vals.all (fun x => decide (1 ≤ x.1 ∧ x.1 ≤ 4 ∧ x.2 < 2 ^ 32))
  | .ledgerWake e => decide (e < 4096)
  | .occurrenceDue e => decide (e < 4096)
  | .heldPostingApply n => decide (n < 12)
  | .nop e target value _ => decide (e < 4096) && decide (target < 2 ^ 32) &&
      decide (value < 2 ^ 32)
  | .cvuStart e target value _ => decide (e < 4096) && decide (target < 2 ^ 32) &&
      decide (value < 2 ^ 32)
  | .cvuInject e target value _ => decide (e < 4096) && decide (target < 2 ^ 32) &&
      decide (value < 2 ^ 32)
  | .slotStart e target value _ => decide (e < 4096) && decide (target < 2 ^ 32) &&
      decide (value < 2 ^ 32)
  | .escrowPost e target value _ => decide (e < 4096) && decide (target < 2 ^ 32) &&
      decide (value < 2 ^ 32)
  | .outLatch e target value _ => decide (e < 4096) && decide (target < 2 ^ 32) &&
      decide (value < 2 ^ 32)
  | .regWrite e target value _ => decide (e < 4096) && decide (target < 2 ^ 32) &&
      decide (value < 2 ^ 32)
  | .regSet e target value _ => decide (e < 4096) && decide (target < 2 ^ 32) &&
      decide (value < 2 ^ 32)
  | .regClr e target value _ => decide (e < 4096) && decide (target < 2 ^ 32) &&
      decide (value < 2 ^ 32)
  | .canQueue e target value _ => decide (e < 4096) && decide (target < 2 ^ 32) &&
      decide (value < 2 ^ 32)
  | .netPublish e target value _ => decide (e < 4096) && decide (target < 2 ^ 32) &&
      decide (value < 2 ^ 32)
  | .obsSnapshot e target value _ => decide (e < 4096) && decide (target < 2 ^ 32) &&
      decide (value < 2 ^ 32)
  | .flagSet e target value _ => decide (e < 4096) && decide (target < 2 ^ 32) &&
      decide (value < 2 ^ 32)
  | .flagClr e target value _ => decide (e < 4096) && decide (target < 2 ^ 32) &&
      decide (value < 2 ^ 32)
  | .bookArm e target value _ => decide (e < 4096) && decide (target < 2 ^ 32) &&
      decide (value < 2 ^ 32)
  | .bookDisarm e target value _ => decide (e < 4096) && decide (target < 2 ^ 32) &&
      decide (value < 2 ^ 32)
  | .bookSwap e target value _ => decide (e < 4096) && decide (target < 2 ^ 32) &&
      decide (value < 2 ^ 32)
  | .runtimeEvent e target value _ => decide (e < 4096) && decide (target < 2 ^ 32) &&
      decide (value < 2 ^ 32)
  | .ldgArm ini sess b => okIni ini sess && decide (b < 16)
  | .ldgDisarm ini sess b => okIni ini sess && decide (b < 16)
  | .ldgCommit ini sess e _ => okIni ini sess && decide (e < 4096)
  | .bookImageWrite r b image => okReq r && decide (b < 16) && okOct image
  | .calWindowEnd u k _ _ _ => decide (u < 4) && decide (k < 9)
  | .fgcalPending u => decide (u < 4)
  | .fgcalNow u => decide (u < 4)
  | .fgcalStart u => decide (u < 4)
  | .fgcalEnd u _ => decide (u < 4)
  | .requalify u mask => decide (u < 4) && decide (mask < 512)
  | .excCompliance j _ => decide (j < 8)
  | .calsetWrite r b set => okReq r && decide (b.unit < 4) && decide (b.bank < 2) && okBytes set
  | .seqEnable u => decide (u < 4)
  | .seqDisable u => decide (u < 4)
  | .seqStart u => decide (u < 4)
  | .resultDelivery u x _ _ t => decide (u < 4) &&
      x.raw.all (fun x => decide (-32768 ≤ x ∧ x ≤ 32767)) && decide (t < 2 ^ 64)
  | .cvuInjWrite u w => decide (u < 4) && decide (w < 2 ^ 32)
  | .streamEnable u s => decide (u < 4) && decide (s < 16)
  | .ringRdWrite u s v => decide (u < 4) && decide (s < 16) && decide (v < 2 ^ 32)
  | .nopI n d s t imm => decide (n < 32) && decide (d < 16) && decide (s < 16) &&
      decide (t < 16) && decide (imm < 16384)
  | .ldi n d s t imm => decide (n < 32) && decide (d < 16) && decide (s < 16) &&
      decide (t < 16) && decide (imm < 16384)
  | .ldih n d s t imm => decide (n < 32) && decide (d < 16) && decide (s < 16) &&
      decide (t < 16) && decide (imm < 16384)
  | .mov n d s t imm => decide (n < 32) && decide (d < 16) && decide (s < 16) &&
      decide (t < 16) && decide (imm < 16384)
  | .ld n d s t imm => decide (n < 32) && decide (d < 16) && decide (s < 16) &&
      decide (t < 16) && decide (imm < 16384)
  | .st n d s t imm => decide (n < 32) && decide (d < 16) && decide (s < 16) &&
      decide (t < 16) && decide (imm < 16384)
  | .lds n d s t imm => decide (n < 32) && decide (d < 16) && decide (s < 16) &&
      decide (t < 16) && decide (imm < 16384)
  | .sts n d s t imm => decide (n < 32) && decide (d < 16) && decide (s < 16) &&
      decide (t < 16) && decide (imm < 16384)
  | .inP n d s t imm => decide (n < 32) && decide (d < 16) && decide (s < 16) &&
      decide (t < 16) && decide (imm < 16384)
  | .outP n d s t imm => decide (n < 32) && decide (d < 16) && decide (s < 16) &&
      decide (t < 16) && decide (imm < 16384)
  | .add n d s t imm => decide (n < 32) && decide (d < 16) && decide (s < 16) &&
      decide (t < 16) && decide (imm < 16384)
  | .adds n d s t imm => decide (n < 32) && decide (d < 16) && decide (s < 16) &&
      decide (t < 16) && decide (imm < 16384)
  | .sub n d s t imm => decide (n < 32) && decide (d < 16) && decide (s < 16) &&
      decide (t < 16) && decide (imm < 16384)
  | .subs n d s t imm => decide (n < 32) && decide (d < 16) && decide (s < 16) &&
      decide (t < 16) && decide (imm < 16384)
  | .neg n d s t imm => decide (n < 32) && decide (d < 16) && decide (s < 16) &&
      decide (t < 16) && decide (imm < 16384)
  | .abs n d s t imm => decide (n < 32) && decide (d < 16) && decide (s < 16) &&
      decide (t < 16) && decide (imm < 16384)
  | .min n d s t imm => decide (n < 32) && decide (d < 16) && decide (s < 16) &&
      decide (t < 16) && decide (imm < 16384)
  | .max n d s t imm => decide (n < 32) && decide (d < 16) && decide (s < 16) &&
      decide (t < 16) && decide (imm < 16384)
  | .andI n d s t imm => decide (n < 32) && decide (d < 16) && decide (s < 16) &&
      decide (t < 16) && decide (imm < 16384)
  | .orI n d s t imm => decide (n < 32) && decide (d < 16) && decide (s < 16) &&
      decide (t < 16) && decide (imm < 16384)
  | .xorI n d s t imm => decide (n < 32) && decide (d < 16) && decide (s < 16) &&
      decide (t < 16) && decide (imm < 16384)
  | .shl n d s t imm => decide (n < 32) && decide (d < 16) && decide (s < 16) &&
      decide (t < 16) && decide (imm < 16384)
  | .shr n d s t imm => decide (n < 32) && decide (d < 16) && decide (s < 16) &&
      decide (t < 16) && decide (imm < 16384)
  | .sar n d s t imm => decide (n < 32) && decide (d < 16) && decide (s < 16) &&
      decide (t < 16) && decide (imm < 16384)
  | .mpy n d s t imm => decide (n < 32) && decide (d < 16) && decide (s < 16) &&
      decide (t < 16) && decide (imm < 16384)
  | .mac n d s t imm => decide (n < 32) && decide (d < 16) && decide (s < 16) &&
      decide (t < 16) && decide (imm < 16384)
  | .msu n d s t imm => decide (n < 32) && decide (d < 16) && decide (s < 16) &&
      decide (t < 16) && decide (imm < 16384)
  | .clra n d s t imm => decide (n < 32) && decide (d < 16) && decide (s < 16) &&
      decide (t < 16) && decide (imm < 16384)
  | .lda n d s t imm => decide (n < 32) && decide (d < 16) && decide (s < 16) &&
      decide (t < 16) && decide (imm < 16384)
  | .sta n d s t imm => decide (n < 32) && decide (d < 16) && decide (s < 16) &&
      decide (t < 16) && decide (imm < 16384)
  | .sha n d s t imm => decide (n < 32) && decide (d < 16) && decide (s < 16) &&
      decide (t < 16) && decide (imm < 16384)
  | .cmp n d s t imm => decide (n < 32) && decide (d < 16) && decide (s < 16) &&
      decide (t < 16) && decide (imm < 16384)
  | .lim n d s t imm => decide (n < 32) && decide (d < 16) && decide (s < 16) &&
      decide (t < 16) && decide (imm < 16384)
  | .slew n d s t imm => decide (n < 32) && decide (d < 16) && decide (s < 16) &&
      decide (t < 16) && decide (imm < 16384)
  | .deadb n d s t imm => decide (n < 32) && decide (d < 16) && decide (s < 16) &&
      decide (t < 16) && decide (imm < 16384)
  | .lut n d s t imm => decide (n < 32) && decide (d < 16) && decide (s < 16) &&
      decide (t < 16) && decide (imm < 16384)
  | .sincos n d s t imm => decide (n < 32) && decide (d < 16) && decide (s < 16) &&
      decide (t < 16) && decide (imm < 16384)
  | .div n d s t imm => decide (n < 32) && decide (d < 16) && decide (s < 16) &&
      decide (t < 16) && decide (imm < 16384)
  | .sqrt n d s t imm => decide (n < 32) && decide (d < 16) && decide (s < 16) &&
      decide (t < 16) && decide (imm < 16384)
  | .bra n d s t imm => decide (n < 32) && decide (d < 16) && decide (s < 16) &&
      decide (t < 16) && decide (imm < 16384)
  | .bcc n d s t imm => decide (n < 32) && decide (d < 16) && decide (s < 16) &&
      decide (t < 16) && decide (imm < 16384)
  | .loopI n d s t imm => decide (n < 32) && decide (d < 16) && decide (s < 16) &&
      decide (t < 16) && decide (imm < 16384)
  | .trig n d s t imm => decide (n < 32) && decide (d < 16) && decide (s < 16) &&
      decide (t < 16) && decide (imm < 16384)
  | .endI n => decide (n < 32)
  | .runFault n => decide (n < 32)
  | .runLimit n => decide (n < 32)
  | .faultClr n => decide (n < 32)
  | .engineImageLoad n image => decide (n < 32) && okBytes image
  | .libBind n pid sbase dbase last => decide (n < 32) && decide (pid < 65536) && decide (sbase < 65536) &&
      decide (dbase < 65536) && decide (last < 65536)
  | .removeProg n pid => decide (n < 32) && decide (pid < 65536)
  | .slotEnable n s => decide (n < 32) && decide (s < 16)
  | .slotDisable n s => decide (n < 32) && decide (s < 16)
  | .slotStartWrite n s => decide (n < 32) && decide (s < 16)
  | .slotTrigger n s => decide (n < 32) && decide (s < 16)
  | .runStart n => decide (n < 32)
  | .specStartTime n s => decide (n < 32) && decide (s < 16)
  | .sampleInstant n s => decide (n < 32) && decide (s < 16)
  | .specNoTrigger n s => decide (n < 32) && decide (s < 16)
  | .slotArm n s => decide (n < 32) && decide (s < 16)
  | .routeWrite n _ p v => decide (n < 32) && decide (p < 256) && decide (v < 2 ^ 32)
  | .swapBoundary n => decide (n < 32)
  | .traceEnable n => decide (n < 32)
  | .lightRestage g => decide (g < 15)
  | .lightSwitched g => decide (g < 15)
  | .hostHeartbeat r value => okReq r && decide (value < 2 ^ 32)
  | .tmrEnable m => decide (m < 8)
  | .pwmValley m => decide (m < 8)
  | .centreTrigger m => decide (m < 8)
  | .mfltFault m _ => decide (m < 8)
  | .runWrite m _ => decide (m < 8)
  | .motorRun m => decide (m < 8)
  | .startWindow m => decide (m < 8)
  | .retryPause m => decide (m < 8)
  | .motorStall m => decide (m < 8)
  | .motorStopped m => decide (m < 8)
  | .motorClear m => decide (m < 8)
  | .attemptReset drive => decide (drive < 24)
  | .fanPeriodStart f => decide (f < 16)
  | .tachUpdate f phases => decide (f < 16) && decide (phases ≠ [])
  | .tachTimeout f => decide (f < 16)
  | .fanTargetWrite f v => decide (f < 16) && decide (v < 65536)
  | .kickEnd f => decide (f < 16)
  | .fanPauseEnd f => decide (f < 16)
  | .tachLostTimeout f => decide (f < 16)
  | .fanClear f => decide (f < 16)
  | .bandLearn f => decide (f < 16)
  | .ageingSample drive => decide (drive < 24)
  | .ageingLearn drive _ => decide (drive < 24)
  | .coastElapsed m => decide (m < 8)
  | .actOvercurrent n => decide (n < 32)
  | .actocClear mask => decide (mask < 2 ^ 32)
  | .actPulseEnd n => decide (n < 32)
  | .pairGapEnd p => decide (p < 16)
  | .latchApply mask => decide (mask < 32768)
  | .gpioInput n _ raw => decide (n < 64) && decide (raw < 2 ^ 64)
  | .gcapRead ini sess n => okIni ini sess && decide (n < 64)
  | .i2cEnable c => decide (c < 8)
  | .i2cDisable c => decide (c < 8)
  | .i2cRound c _ => decide (c < 8)
  | .i2cWait x => decide (x.ctl < 8)
  | .i2cEntryDone c _ data _ => decide (c < 8) && okBytes data
  | .i2cStretchTimeout c _ => decide (c < 8)
  | .canModeWrite n mode => decide (n < 8) && decide (mode < 8)
  | .adrDwell n => decide (n < 8)
  | .canTxreq n mask => decide (n < 8) && decide (mask < 2 ^ 32)
  | .canTxcan n mask => decide (n < 8) && decide (mask < 2 ^ 32)
  | .canSof n => decide (n < 8)
  | .canFrameSent n _ _ => decide (n < 8)
  | .canError n _ => decide (n < 8)
  | .busoffRecovery n => decide (n < 8)
  | .clearBo n => decide (n < 8)
  | .canFrameReceived n f => decide (n < 8) && decide (f.dlc < 16) &&
      decide (f.id < (if f.xtd then 2 ^ 29 else 2 ^ 11)) && okBytes f.data
  | .rxhRead ini sess n q w => okIni ini sess && decide (n < 8) && decide (q < 2) &&
      decide (w < 18)
  | .rxUnlock n q => decide (n < 8) && decide (q < 2)
  | .rxDrop n q => decide (n < 8) && decide (q < 2)
  | .hushReq n p => decide (n < 8) &&
      (match p with | none => true | some x => decide (x.1 < 128))
  | .hushAck n node => decide (n < 8) && decide (node < 64)
  | .hushDeadline n => decide (n < 8)
  | .busloadWindow n load => decide (n < 8) && decide (load ≤ 100)
  | .nodeAnnounce n node ident => decide (n < 8) && decide (node < 256) && decide (ident < 2 ^ 48)
  | .beacon n => decide (n < 8)
  | .cutTime n => decide (n < 8)
  | .canSegRestored n => decide (n < 8)
  | .segClear n => decide (n < 8)
  | .segOff n _ => decide (n < 8)
  | .hegusSingle n node data => decide (n < 8) && decide (node < 64) && okBytes data
  | .hegusFirst n node data => decide (n < 8) && decide (node < 64) && okBytes data
  | .hegusConsecutive n node data => decide (n < 8) && decide (node < 64) && okBytes data
  | .hegusFlow n node data => decide (n < 8) && decide (node < 64) && okBytes data
  | .hegusCanTimeout n node _ => decide (n < 8) && decide (node < 64)
  | .fnsFrameReceived p f => decide (p < 7) &&
      (match f with | none => true | some x => decide (x.dst < 2 ^ 48 ∧ x.src < 2 ^ 48 ∧ x.etype < 65536))
  | .fnsFrameTransmit p => decide (p < 7)
  | .macAge addr => decide (addr < 2 ^ 48)
  | .portEnable p _ => decide (p < 7)
  | .linkUp p _ => decide (p < 7)
  | .linkDown p => decide (p < 7)
  | .plcaBeacon t => decide (t < 4)
  | .sqiUpdate p sqi => decide (p < 7) && decide (sqi < 8)
  | .cableTest p => decide (p < 7)
  | .cableTestDone p result _ => decide (p < 7) && decide (1 ≤ result) && decide (result ≤ 3)
  | .addrConflict x => decide (x.kind < 3) && decide (x.addr < 2 ^ 128)
  | .duplicateAddressDetection kind addr => decide (kind < 3) && decide (addr < 2 ^ 128)
  | .read r idx sub => okReq r && decide (idx < 65536) && decide (sub < 256)
  | .write r idx sub value => okReq r && decide (idx < 65536) && decide (sub < 256) &&
      okOct value
  | .readMulti r items => okReq r && items.all (fun x => decide (x.1 < 65536 ∧ x.2 < 256))
  | .writeMulti r timed items => okReq r && optLt timed (2 ^ 64) && items.all okItem
  | .timedWrite id => decide (id < 65536)
  | .timedCancel r id => okReq r && decide (id < 65536)
  | .subscribe r idx sub mode period deadband => okReq r && decide (idx < 65536) && decide (sub < 256) &&
      decide (mode < 256) && decide (period < 2 ^ 32) && decide (deadband < 2 ^ 64)
  | .unsubscribe r id => okReq r && decide (id < 256)
  | .notify _ id => decide (id < 256)
  | .describe r idx sub => okReq r && decide (idx < 65536) && decide (sub < 256)
  | .blockStart r idx sub dir total => okReq r && decide (idx < 65536) && decide (sub < 256) &&
      decide (dir < 256) && decide (total < 2 ^ 32)
  | .blockData r id offset data => okReq r && decide (id < 256) && decide (offset < 2 ^ 32) &&
      okOct data
  | .blockEnd r id crc => okReq r && decide (id < 256) && decide (crc < 2 ^ 32)
  | .blockAbort r id => okReq r && decide (id < 256)
  | .blockTimeout _ id => decide (id < 256)
  | .sessionOpen r role => okReq r && decide (role < 256)
  | .sessionClose r => okReq r
  | .authBegin r role key cert => okReq r && decide (role < 256) && okOct key && okOct cert
  | .authProof r _ => okReq r
  | .clientHello _ port _ kind role cred => decide (port.src < 65536) && decide (port.dst < 65536) && decide (kind < 3) && decide (role < 4) &&
      okOct cred
  | .spiTransfer frame _ _ => okOct frame
  | .appSchemaWrite r value => okReq r && okOct value
  | .nvWindowRead ini off size => decide (ini < 16) && okSize size && decide (off < 0x100000)
  | .claim ini => decide (ini < 16)
  | .release ini => decide (ini < 16)
  | .nvWrite ini _ => decide (ini < 16)
  | .txnBegin ini => decide (ini < 16)
  | .txnAdd ini _ => decide (ini < 16)
  | .txnCommit ini => decide (ini < 16)
  | .txnAbort ini => decide (ini < 16)
  | .nvsTxnComplete x => x.lost.all (fun k => decide (k < 4096))
  | .unlock ini region kind => decide (ini < 16) && decide (region < 16) && decide (kind < 2)
  | .relock ini region kind => decide (ini < 16) && decide (region < 16) && decide (kind < 2)
  | .setPwd ini region kind => decide (ini < 16) && decide (region < 16) && decide (kind < 2)
  | .setRegion ini region => decide (ini < 16) && decide (region < 16)
  | .tallyInc ini k => decide (ini < 16) && decide (k < 16)
  | .checkpoint cmd => optLt cmd 16
  | .unlockExpiry _ region kind => decide (region < 8) && decide (kind < 2)
  | .sealAdvance k v => decide (k < 16) && decide (v < 2 ^ 32)
  | .nvLockoutEnd region => decide (region < 8)
  | .trngFault rct apt => (rct || apt)
  | .secTamper source => decide (source < 32)
  | .lcRequest r target eui => okReq r && decide (target < 256) && decide (eui < 2 ^ 64)
  | .debugToken token => decide (token.len = 176) && okOct token
  | .updateContainer r c => okReq r && okOct c
  | .flashBlockFill half _ _ => decide (half < 2)
  | .recoveryImage r c => okReq r && okOct c
  | .attestNonce r nonce => okReq r && decide (nonce < 2 ^ 256)
  | .certifiedMode r _ => okReq r
  | .activateAt r idx t => okReq r && decide (idx < 65536) && decide (t < 2 ^ 64)
  | .healthFail r idx => okReq r && decide (idx < 65536)
  | .swapActivateAt r n t => okReq r && decide (n < 32) && decide (t < 2 ^ 64)
  | .hkcConversion ch value => decide (ch < 48) && decide (value < 65536)
  | .convPaceEnd u => decide (u < 4)
  | .fselWrite ini sess j value => okIni ini sess && decide (j < 16) && decide (value < 2 ^ 32)
  | .counterLoRead ini sess k => okIni ini sess && decide (k < 400)
  | .counterLoWrite ini sess k value => okIni ini sess && decide (k < 400) && decide (value < 2 ^ 32)
  | .counterHiWrite ini sess k value => okIni ini sess && decide (k < 400) && decide (value < 2 ^ 32)
  | .freeze ini sess _ => okIni ini sess
  | .snap ini sess => okIni ini sess
  | .unprivRead ini sess _ => okIni ini sess
  | .powerOnReset | .inrushEnd | .reverseCurrent | .aonReady _ | .shadowRestore _ _ | .configCheck | .timeAcquireTimeout
  | .ledgerArm | .enterNap | .enterDeep | .refLost | .refBack | .clk32Lost | .pinReset | .pinResetRelease
  | .fullRestartLine _ | .rccWatchdog | .lineFail _ | .saveComplete | .holdupExhausted | .vaonFail | .lineReturn
  | .sccpClassification _ | .clk32Stable | .slewEnd | .ppsinPulse _ | .ppsMissing | .holdoverLearn _ | .holdoverLimit
  | .holdoverClear | .leapApplied | .ppsoutEdge _ | .tsyncCapture _ | .sunEventsUpdated | .sunPosition | .deferredPosting
  | .zoneEvaluation | .dayBookCompile | .dayBookRecompile | .hostLost | .loopCheck | .dhcpv4AttemptTimeout
  | .sessionIdle _ | .hegusLockoutEnd _ | .checkpointComplete | .trngRecovered | .activationSwitchover _
  | .healthWindowEnd _ | .actRolledBack _ | .runtimeHandoverStage _ | .tellerRestart _ | .trngWaitTimeout _ _
  | .timeFloorUpdate | .debugPortReset | .thermalHoldEnd | .thermalTrip | .thermalRestart | .snapshotWritten => true

end Sys2Proof
end

