-- ==== Sys2Proof/Certificates/Slice0/Obligations.lean ====
section
/-! DEFINITION. The statements about the device. Each says for the commands that it names what next state they answer; the
words in which they are said come first. -/

open Sys2Proof Sys2Proof.Machine

namespace Sys2Proof.Claims

/-- The command answers a next state with the same queue, whose device is `f e` with `e` as `P` says. -/
def DoesBy (c : Instr) (s : State) (f : Dev → Dev) (P : Dev → Prop) : Prop :=
  ∃ e : Dev, exec c s = .next { s with dev := f e } ∧ P e

/-- The command answers a next state with the same queue, whose device is as `P` says. -/
def Does (c : Instr) (s : State) (P : Dev → Prop) : Prop := DoesBy c s id P

/-- The device is in RUN and no core waits, so that no wake source changes anything (R55, R57, R507). -/
def Awake (s : State) : Prop := s.dev.get PMC_PSTATE_STATE = 0 ∧ s.dev.pwr.coreWait = 0

/-- The device takes commands (VAON is good and no reset holds it: R47, R62) and every domain of the list reports ready (R31). -/
def On (s : State) (l : List Nat) : Prop := s.dev.live = true ∧ ∀ n ∈ l, s.dev.ready n = true

/-- Every register but those of the list reads as before. -/
def RegsBut (l : List Nat) (d e : Dev) : Prop := ∀ a, a ∉ l → e.rd a = d.rd a

/-- Only registers of the list change, and marks of the present cycle. -/
def Changes (l : List Nat) (d e : Dev) : Prop := RegsBut l d e ∧ e = { d with regs := e.regs, cyc := e.cyc }

/-- Only counters and the event log change, and what a save copies from it. -/
def Noted (d e : Dev) : Prop :=
  e = { d with obs := e.obs, evLog := e.evLog, evSeq := e.evSeq, cyc.hwSet := e.cyc.hwSet, pwr.nvEvents := e.pwr.nvEvents }

/-- Every byte of SRAM, of the peripheral memory windows, of the flash and of the NV array reads as before. -/
def MemSame (d e : Dev) : Prop :=
  ∀ a, memByte e.sram a = memByte d.sram a ∧ memByte e.win a = memByte d.win a ∧ memByte e.flash a = memByte d.flash a ∧
    memByte e.nvs.arr a = memByte d.nvs.arr a

/-- Every dictionary value reads as before. -/
def DictSame (d e : Dev) : Prop := ∀ i k, e.ent i k = d.ent i k

/-- A core's word write of `v` to the peripheral register at `a` finds no violation and reaches the bits of `m`: the device takes
commands, the register's domain is ready, and no reserved, locked, bound or restricted bit stands in the way. -/
def Takes (s : State) (ini sess a v : Nat) (m : Word) : Prop :=
  s.dev.live = true ∧ ini < 8 ∧ s.dev.readyAt a = true ∧
    ∃ r ix, findReg a = some (r, ix) ∧ writeCheck ini sess a (word v) false r s.dev = ([], m)

end Sys2Proof.Claims

open Sys2Proof.Claims

namespace Sys2Proof.Claims

/-- A request of session `x` is taken (R382, R384, R395, R399): its transport carries it, the rate admits it, it is neither a repeat
nor malformed, and the device is neither in recovery nor busy; `d` is the device on which it runs. -/
def Admitted (s : State) (r : Req) (write : Bool) (x : Sess) (d : Dev) : Prop :=
  s.dev.live = true ∧ r.sess < 512 ∧ carries s.dev r.sess = true ∧ s.dev.session r.sess = some x ∧
    rateTake (srcOf x) (s.dev.setSession { x with last := s.dev.now }) = (0, d) ∧ (∀ y ∈ x.cache, y.req ≠ r.id) ∧ r.id ∉ x.open_ ∧
    x.open_.length < 8 ∧ r.bad = false ∧ d.sec.recovery = none ∧ hegBusy d write = false

/-- The command is a request that writes the entry `idx`:`sub`: where it is taken and R379 accepts the value, it is answered with OK
on a device that `P` holds of, from the session and the device before. -/
def Writes (c : Instr) (s : State) (r : Req) (block : Bool) (idx sub : Nat) (v : Octets) (P : Sess → Dev → Dev → Prop) : Prop :=
  ∀ (x : Sess) (d e : Dev), Admitted s r true x d → entWrite x.role x.num block idx sub v d = (0, 0, e) →
    tellerWaits idx sub d = false → leftHeld x.num idx sub d e = false → v.len ≠ 0 →
    exec c s = .next { s with dev := respond x.num ⟨if block then 0x0B else 0x02, r.id, 0, 0, ⟨0, 0⟩⟩ true e } ∧ P x d e

end Sys2Proof.Claims

/-! ### The bus, the mirror and the core halves (chapter 1) -/

namespace Sys2Proof.Claims

/-- The command does nothing but record a violation of kind `k` (R35). -/
def Barred (c : Instr) (s : State) (k addr ini sess : Nat) (write unpriv : Bool) (size : Nat) : Prop :=
  exec c s = .next { s with dev := violation k addr ini sess write unpriv size s.dev }

/-- The command is a read that answers `v` and does nothing else. -/
def Answers (c : Instr) (s : State) (v : Nat) : Prop := exec c s = .next { s with dev := { s.dev with bus := v } }

end Sys2Proof.Claims

/-- Memory on the bus (R3, R22, R27, R28): a core reads and writes the runtime and ring areas of SRAM byte by byte, little-endian;
it reads the boot ROM and the fitted flash. -/
def Sys2Proof.Claims.BusMemory : Prop :=
  ∀ (s : State) (ini sess addr size v : Nat), s.dev.live = true → ini < 8 → 0 < size → size ≤ 4 →
    (0x20000000 ≤ addr → addr < 0x203F0000 → Does (.registerWrite ini sess addr size v) s (fun e =>
      memRead e.sram addr size = v % 256 ^ size ∧
      (∀ x, x < addr ∨ addr + size ≤ x → memByte e.sram x = memByte s.dev.sram x) ∧
      e = { s.dev with sram := e.sram, badWords := e.badWords })) ∧
    (0x20000000 ≤ addr → addr < 0x20400000 → Answers (.registerRead ini sess addr size) s (memRead s.dev.sram addr size)) ∧
    (addr < 0x40000 → Answers (.registerRead ini sess addr size) s (romRead addr size)) ∧
    (0x10000000 ≤ addr → addr - 0x10000000 + size ≤ s.dev.flashSize → addr < 0x20000000 →
      Answers (.registerRead ini sess addr size) s (flashRead s.dev (addr - 0x10000000) size))

/-- What the bus turns away: writes to the boot ROM, the flash window and the NV window, unmapped addresses, accesses outside an
initiator's reach, registers whose domain is not ready, part writes to registers and alias writes to privileged registers. -/
def Sys2Proof.Claims.BusFaults : Prop :=
  ∀ (s : State) (ini sess addr size v : Nat), s.dev.live = true →
    (ini < 8 → addr < 0x40000 ∨ (0x10000000 ≤ addr ∧ addr < 0x20000000) ∨ (0x30000000 ≤ addr ∧ addr < 0x30100000) →
      Barred (.registerWrite ini sess addr size v) s 4 addr ini sess true false size) ∧
    (ini < 8 → 0x42000000 ≤ addr → addr < 0x60000000 →
      Barred (.registerWrite ini sess addr size v) s 5 addr ini sess true false size ∧
      exec (.registerRead ini sess addr size) s =
        .next { s with dev := { violation 5 addr ini sess false false size s.dev with bus := 0 } }) ∧
    (ini = 9 ∨ ini = 10 ∨ ini = 11 → 0x40000000 ≤ addr → addr < 0x42000000 →
      Barred (.registerWrite ini sess addr size v) s 10 addr ini sess true false size ∧
      exec (.registerRead ini sess addr size) s =
        .next { s with dev := { violation 10 addr ini sess false false size s.dev with bus := 0 } }) ∧
    (∀ r ix, ini < 8 → 0x40000000 ≤ addr → addr < 0x41000000 → addr % 4 = 0 → findReg addr = some (r, ix) →
      (s.dev.readyAt addr = false →
        Barred (.registerWrite ini sess addr 4 v) s 6 addr ini sess true false 4 ∧
        exec (.registerRead ini sess addr 4) s =
          .next { s with dev := { violation 6 addr ini sess false false 4 s.dev with bus := 0 } }) ∧
      (s.dev.readyAt addr = true → size < 4 → 0 < size → Barred (.registerWrite ini sess addr size v) s 1 addr ini sess true false size) ∧
      (r.priv = true → Barred (.registerWrite ini sess (addr + 0x20000000) 4 v) s 9 (addr + 0x20000000) ini sess true true 4))

/-- A bus access: what memory answers (R3, R22, R27, R28) and what the bus turns away. -/
def Obligations.BusAccess : Prop := Claims.BusMemory ∧ Claims.BusFaults

/-- A violation changes nothing but the log, the counts and the list of this cycle's violations, which it joins (R35): with fewer
than 16 entries it is stored, otherwise one is lost. -/
def Sys2Proof.Claims.ViolationLog : Prop :=
  ∀ (d : Dev) (k addr ini sess : Nat) (w u : Bool) (size : Nat),
    Noted { d with av := (violation k addr ini sess w u size d).av, cyc.viols := (violation k addr ini sess w u size d).cyc.viols }
      (violation k addr ini sess w u size d) ∧
    (∀ x, x ∈ (violation k addr ini sess w u size d).cyc.viols ↔ x ∈ d.cyc.viols ∨
      x = ⟨addr, k, ini, w, u, if size = 4 then 2 else if size = 2 then 1 else 0, sess, d.time64, d.now⟩) ∧
    (d.av.entries.length < 16 →
      (violation k addr ini sess w u size d).av.lost = d.av.lost ∧
      (violation k addr ini sess w u size d).av.entries.length = d.av.entries.length + 1 ∧
      (∀ e ∈ d.av.entries, e ∈ (violation k addr ini sess w u size d).av.entries) ∧
      ⟨addr, k, ini, w, u, if size = 4 then 2 else if size = 2 then 1 else 0, sess, d.time64, d.now⟩ ∈
        (violation k addr ini sess w u size d).av.entries) ∧
    (d.av.entries.length = 16 →
      (violation k addr ini sess w u size d).av.entries.length = 16 ∧
      (violation k addr ini sess w u size d).av.lost = min (d.av.lost + 1) 65535)

/-- A core's word write to a register of the thermal management or the host interface: every RW bit it reaches takes the written
value, every other bit but those of W1S and W1C fields keeps its value, and so does every other register (R8). -/
def Obligations.RegisterWriteBits : Prop :=
  ∀ (s : State) (ini sess a v : Nat) (m : Word) (r : RegRow) (ix : List Nat),
    a / 0x10000 = 0x4001 ∨ a / 0x10000 = 0x4038 → a % 4 = 0 → s.dev.live = true → ini < 8 → s.dev.readyAt a = true →
    findReg a = some (r, ix) → writeCheck ini sess a (word v) false r s.dev = ([], m) →
    Does (.registerWrite ini sess a 4 v) s (fun e => Changes [a] s.dev e ∧
      (∀ i < 32, (∀ f ∈ r.fields, f.lo ≤ i → i < f.lo + f.width → f.acc = .rw) → (∃ f ∈ r.fields, f.lo ≤ i ∧ i < f.lo + f.width) →
        m.getLsbD i = true → (e.rd a).getLsbD i = v.testBit i) ∧
      (∀ i < 32, m.getLsbD i = false ∨ (∀ f ∈ r.fields, f.lo ≤ i → i < f.lo + f.width → f.acc = .ro ∨ f.acc = .rc ∨ f.acc = .rsvd) →
        (e.rd a).getLsbD i = (s.dev.rd a).getLsbD i))

/-- The rows that name one register's access are that access: of SCU_AVLOG_CTRL, PMC_DOMREQ, PMC_RSTCTRL, the time latches,
the fall-back selections and the counter words; a mirror session below ENGINEER reads a latch or a counter in the alias (R39). -/
def Sys2Proof.Claims.RegisterRows : Prop :=
  ∀ (s : State) (ini sess j k mask v a : Nat), a = (if ini = 14 ∧ s.dev.sessRole sess < 2 then 0x20000000 else 0) →
    exec (.avlogClear ini sess) s = exec (.registerWrite ini sess SCU_AVLOG_CTRL 4 1) s ∧
    exec (.domreqWrite ini sess mask) s = exec (.registerWrite ini sess PMC_DOMREQ 4 mask) s ∧
    exec (.softReset ini sess) s = exec (.registerWrite ini sess PMC_RSTCTRL 4 1) s ∧
    exec (.domainReset ini sess mask) s = exec (.registerWrite ini sess PMC_RSTCTRL 4 (mask % 4096 * 65536)) s ∧
    exec (.timeLoRead ini sess) s = exec (.registerRead ini sess (XTF_TIME_LO + a) 4) s ∧
    exec (.tsyncHiRead ini sess) s = exec (.registerRead ini sess (XTF_TSYNC_HI + a) 4) s ∧
    exec (.fselWrite ini sess j v) s = exec (.registerWrite ini sess (OBS_FSEL j) 4 v) s ∧
    exec (.counterLoRead ini sess k) s = exec (.registerRead ini sess (OBS_CNT_LO k + a) 4) s ∧
    exec (.counterLoWrite ini sess k v) s = exec (.registerWrite ini sess (OBS_CNT_LO k) 4 v) s ∧
    exec (.counterHiWrite ini sess k v) s = exec (.registerWrite ini sess (OBS_CNT_HI k) 4 v) s

/-- Clearing the violation log (R35): it then holds the first 16 violations of the same cycle in their order and counts the others as
lost; nothing else changes. -/
def Sys2Proof.Claims.LogCleared : Prop :=
  ∀ (s : State) (ini sess : Nat) (m : Word), Takes s ini sess SCU_AVLOG_CTRL 1 m → m.getLsbD 0 = true →
    Does (.avlogClear ini sess) s (fun e => e.av.entries = s.dev.cyc.viols.take 16 ∧
      e.av.lost = min (s.dev.cyc.viols.length - 16) 65535 ∧ e = { s.dev with av := e.av, cyc := e.cyc })

/-- The violation log (R35): what a violation and what clearing leave. -/
def Obligations.ViolationLog : Prop := Claims.ViolationLog ∧ Claims.LogCleared

/-- Mirror accesses (R38, R39): a session of role ENGINEER or OWNER reaches the privileged view, where its write stores every RW bit
that it reaches in a register of the thermal management or the host interface; a lower one reads the alias and writes nothing. DATA_INC makes
the same access and moves ADDR on by 4, stopping at 0xFFFC. -/
def Sys2Proof.Claims.MirrorAccess : Prop :=
  ∀ (s : State) (sess b v : Nat), s.dev.live = true → ∀ p, p = 0x40000000 + b * 0x10000 + sessVal s.dev sess (0xF000 + b) 1 →
    (∀ a, a = (if 2 ≤ s.dev.sessRole sess then p else p + 0x20000000) → exec (.mirrorData sess b none) s =
      .next { s with dev := { (busReadV 14 sess a 4 s.dev).2 with bus := (busReadV 14 sess a 4 s.dev).1 } }) ∧
    (2 ≤ s.dev.sessRole sess → exec (.mirrorData sess b (some v)) s = .next { s with dev := busWrite 14 sess p 4 v s.dev }) ∧
    (∀ r ix m, 2 ≤ s.dev.sessRole sess → b = 1 ∨ b = 0x38 → p % 4 = 0 → p < 0x40000000 + (b + 1) * 0x10000 → s.dev.readyAt p = true →
      findReg p = some (r, ix) → writeCheck 14 sess p (word v) false r s.dev = ([], m) →
      ∀ P : Dev → Prop, P = (fun e => ∀ i < 32, (∀ f ∈ r.fields, f.lo ≤ i → i < f.lo + f.width → f.acc = .rw) →
        (∃ f ∈ r.fields, f.lo ≤ i ∧ i < f.lo + f.width) → m.getLsbD i = true → (e.rd p).getLsbD i = v.testBit i) →
      Does (.mirrorData sess b (some v)) s (fun e => Changes [p] s.dev e ∧ P e) ∧
      (∀ x, s.dev.session sess = some x → Does (.mirrorDataInc sess b (some v)) s (fun e =>
        Changes [p] { s.dev with heg.sessions := e.heg.sessions, heg.tctx := e.heg.tctx } e ∧ P e ∧
        sessVal e sess (0xF000 + b) 1 = min (sessVal s.dev sess (0xF000 + b) 1 + 4) 0xFFFC))) ∧
    (∀ x a, s.dev.session sess = some x → a = (if 2 ≤ s.dev.sessRole sess then p else p + 0x20000000) →
      Does (.mirrorDataInc sess b none) s (fun e => e.bus = (busReadV 14 sess a 4 s.dev).1 ∧
        sessVal e sess (0xF000 + b) 1 = min (sessVal s.dev sess (0xF000 + b) 1 + 4) 0xFFFC ∧
        e = { (busReadV 14 sess a 4 s.dev).2 with bus := e.bus, heg.sessions := e.heg.sessions, heg.tctx := e.heg.tctx })) ∧
    (s.dev.sessRole sess < 2 →
      exec (.mirrorData sess b (some v)) s = .next s ∧ exec (.mirrorDataInc sess b (some v)) s = .next s) ∧
    (∀ w f, (w = none ∨ 2 ≤ s.dev.sessRole sess) → exec (.mirrorData sess b w) s = .next { s with dev := f } →
      (f.session sess).isSome = true → Does (.mirrorDataInc sess b w) s (fun e =>
        sessVal e sess (0xF000 + b) 1 = min (sessVal s.dev sess (0xF000 + b) 1 + 4) 0xFFFC ∧
        e = { f with heg.sessions := e.heg.sessions, heg.tctx := e.heg.tctx })) ∧
    (∀ x, s.dev.session sess = some x → p < 0x41000000 → findReg (p / 4 * 4) = none →
      Does (.mirrorDataInc sess b none) s (fun e => e.bus = 0 ∧ sessVal e sess (0xF000 + b) 1 = min (sessVal s.dev sess (0xF000 + b) 1 + 4) 0xFFFC ∧
        RegsBut [] s.dev e ∧ MemSame s.dev e))

/-- The rows that name one register and the mirror rows (R38, R39) are bus accesses. -/
def Obligations.RegisterAccessRows : Prop := Claims.RegisterRows ∧ Claims.MirrorAccess

/-- A core half stops (R21, R412): the other half takes over at most 50 ms later and the take-over is counted; it gives up the NV
command interface where one of its cores owned it. -/
def Sys2Proof.Claims.HalfStops : Prop :=
  ∀ (s : State) (h : Nat), s.dev.live = true → h < 2 → s.dev.pwr.halves.testBit h = true → Does (.halfStop h) s (fun e =>
    e.pwr.halves.testBit h = false ∧ (∀ k, k ≠ h → e.pwr.halves.testBit k = s.dev.pwr.halves.testBit k) ∧
    (s.dev.pwr.halves.testBit (1 - h) = true →
      e.pwr.takeover = some (s.dev.now + 50000000) ∧ ∀ x, s.dev.tally 0 = some x → e.tally 0 = some (min (x + 1) 0xFFFFFFFF)) ∧
    (s.dev.get NVS_STAT_OWNER < 8 → s.dev.get NVS_STAT_OWNER / 4 = h → e.get NVS_STAT_OWNER = 0xF) ∧
    (∀ a, domainOf a ≠ some 10 → e.rd a = s.dev.rd a) ∧ e.sram = s.dev.sram ∧ e.win = s.dev.win ∧ e.flash = s.dev.flash)

/-- A stopped half that may run again is restarted, or its failed start is kept; after two failed starts within 10 min it is left
off, its hold is withdrawn and RCC_HALF_FAILED is raised (R21). -/
def Sys2Proof.Claims.HalfRestarts : Prop :=
  ∀ (s : State) (h : Nat), s.dev.live = true → h < 2 → s.dev.pwr.halves.testBit h = false → halfAvailable s.dev h = true →
    Does (.halfRestart h true) s (fun e => e.pwr.halves.testBit h = true ∧
      (∀ k, k ≠ h → e.pwr.halves.testBit k = s.dev.pwr.halves.testBit k) ∧ e = { s.dev with pwr.halves := e.pwr.halves }) ∧
    ((∀ t ∈ s.dev.pwr.failTimes, t % 2 = h → t / 2 + 600000000000 ≤ s.dev.now) →
      exec (.halfRestart h false) s = .next { s with dev := { s.dev with pwr.failTimes := (2 * s.dev.now + h) :: s.dev.pwr.failTimes } }) ∧
    ((∃ t ∈ s.dev.pwr.failTimes, t % 2 = h ∧ s.dev.now < t / 2 + 600000000000) →
      DoesBy (.halfRestart h false) s (domainOff h) (fun f => ∃ e, f = raise .RCC_HALF_FAILED [h] e ∧
        e.pwr.halfOff.testBit h = true ∧ e.bitN PMC_DOMREQ_HOLD h = false ∧ Changes [PMC_DOMREQ] { s.dev with pwr := e.pwr } e))

/-- The core halves (R21, R412): what a stop and a restart leave. -/
def Obligations.CoreHalves : Prop := Claims.HalfStops ∧ Claims.HalfRestarts

/-- Errors of SRAM on a read (R33): a single-bit error is corrected and counted; an uncorrectable one answers 0 and raises
SRAM_UNCORRECTABLE, and stops the reading half, marks the ring word or restores the shadow entry. -/
def Obligations.SramErrors : Prop :=
  ∀ (s : State) (ini addr entry : Nat), s.dev.live = true →
    exec (.sramUncorrectable ini addr entry true) s =
      .next { s with dev := count 0x00B { s.dev with bus := memRead s.dev.sram (addr / 4 * 4) 4 } } ∧
    (∀ f, f = raise .SRAM_UNCORRECTABLE [addr / 4 * 4] { s.dev with bus := 0 } →
      (0x20000000 ≤ addr → addr < 0x20300000 → ini < 8 → exec (.sramUncorrectable ini addr entry false) s =
        exec (.halfStop (ini / 4)) { s with dev := f }) ∧
      (0x20000000 ≤ addr → addr < 0x20300000 → 8 ≤ ini → exec (.sramUncorrectable ini addr entry false) s = .next { s with dev := f }) ∧
      (0x20300000 ≤ addr → addr < 0x203F0000 → ringWordAt f (addr / 4 * 4) = none →
        Does (.sramUncorrectable ini addr entry false) s (fun e => memRead e.sram (addr / 4 * 4) 4 = 0 ∧
          addr / 4 * 4 ∈ e.badWords ∧ e = { f with sram := e.sram, badWords := e.badWords })) ∧
      (∀ w fmt, 0x20300000 ≤ addr → addr < 0x203F0000 → ringWordAt f (addr / 4 * 4) = some (w, fmt) →
        Does (.sramUncorrectable ini addr entry false) s (fun e => w ∈ e.badWords ∧
          memRead e.sram w (ringSize fmt) = (if fmt = 0 then 0x8000 + 2 ^ 22 else 0x800000 + 2 ^ 25) % 256 ^ ringSize fmt ∧
          e = { f with sram := e.sram, badWords := e.badWords })) ∧
      (0x203F0000 ≤ addr → addr < 0x20400000 → entry < 65536 * 256 →
        DoesBy (.sramUncorrectable ini addr entry false) s (raise .SHADOW_RESTORED [entry / 256, entry % 256]) (fun e =>
          (∀ k, k ≠ entry → e.ent (k / 256) (k % 256) = f.ent (k / 256) (k % 256)) ∧
          e.ent (entry / 256) (entry % 256) =
            (match shadowBest f with | none => entDflt entry | some (_, x) => tabGet (entDflt entry) entry x.img.dict) ∧
          memRead e.sram (addr / 4 * 4) 4 = (match shadowBest f with
            | none => 0
            | some (slot, _) => memRead f.nvs.arr (imageBase slot + (addr / 4 * 4 - 0x203F0000)) 4) ∧
          (∀ x, x < addr / 4 * 4 ∨ addr / 4 * 4 + 4 ≤ x → memByte e.sram x = memByte f.sram x) ∧
          e = { f with dict := e.dict, sram := e.sram })))

/-! ### Power, clocks and resets (chapter 2) -/

namespace Sys2Proof.Claims

/-- What a full restart leaves (R62): every register outside the PMC and the converter units at its reset value, step 1 done, the
ledger off, no session, nothing released, and SRAM, the block memories and the flash as they were. -/
def Restarted (d e : Dev) : Prop :=
  (∀ a, a / 0x10000 ≠ 0x4000 → a / 0x10000 ≠ 0x4030 → e.rd a = resetOf a) ∧ e.pwr.step = 1 ∧ e.ldg.st = 0 ∧
    e.heg.sessions = [] ∧ e.pwr.released = false ∧ e.pwr.save = .none ∧ e.held = [] ∧
    e.sram = d.sram ∧ e.win = d.win ∧ e.flash = d.flash

/-- Everything of the power-up order that a step needs (R67): power, no pin reset, no save, no recovery. -/
def MayStep (s : State) (k : Nat) : Prop :=
  s.dev.live = true ∧ s.dev.pwr.step = k ∧ s.dev.pwr.buck = true ∧ s.dev.pwr.pinHeld = false ∧ s.dev.pwr.save = .none ∧
    s.dev.sec.recovery = none

/-- The Teller's slot is `n`, kept and shown. -/
def TellerSlot (n : Nat) (e : Dev) : Prop := e.sec.slotT = n ∧ e.get SCU_BOOTSTAT_TELLER_SLOT = n

/-- The register field that shows the slot of half `h`. -/
def slotShown (h : Nat) : Fld := if h = 0 then SCU_BOOTSTAT_RT_SLOT_A else SCU_BOOTSTAT_RT_SLOT_B

/-- The slot of half `h` is `n`, kept and shown. -/
def HalfSlot (h n : Nat) (e : Dev) : Prop := (if h = 0 then e.sec.slotA else e.sec.slotB) = n ∧ e.get (slotShown h) = n

end Sys2Proof.Claims

/-- A write of PMC_DOMREQ.HOLD (R54): HOLD takes the mask and a newly held domain is powered, unless the buck is off, a save runs,
the device is thermally shut down or the domain is a core half that is left off; no other register changes. -/
def Sys2Proof.Claims.HoldRequests : Prop :=
  ∀ (s : State) (ini sess mask : Nat) (m : Word), Takes s ini sess PMC_DOMREQ mask m → (∀ i < 12, m.getLsbD i = true) → mask < 4096 →
    Does (.domreqWrite ini sess mask) s (fun e => e.get PMC_DOMREQ_HOLD = mask ∧
      (∀ n < 12, e.bitN PMC_DOMSTAT_ON n = (s.dev.bitN PMC_DOMSTAT_ON n || (mask.testBit n && !s.dev.bitN PMC_DOMREQ_HOLD n &&
        (s.dev.pwr.buck && decide (s.dev.pwr.save = .none) && !s.dev.pwr.thermalOff && (decide (2 ≤ n) || halfAvailable s.dev n))))) ∧
      (∀ n < 12, e.ready n = s.dev.ready n) ∧ Changes [PMC_DOMREQ, PMC_DOMSTAT] s.dev e)

/-- A domain goes off once nothing keeps it on (R31, R44, R51, R54): it reports off and not ready, its registers take their reset
values but for those with bits held outside it, and the readiness of every other domain, the context record and the memories stay.
Until then it stays as it is. -/
def Sys2Proof.Claims.DomainOff : Prop :=
  ∀ (s : State) (n : Nat), s.dev.live = true →
    (mayRelease s.dev n = true → Does (.domainRelease n) s (fun e =>
      e.bitN PMC_DOMSTAT_ON n = false ∧ e.ready n = false ∧ (∀ k, k ≠ n → e.ready k = s.dev.ready k) ∧
      (∀ a, domainOf a = some n → heldMask a = 0 → e.rd a = resetOf a) ∧
      e.dict = s.dev.dict ∧ e.pwr.ctx = s.dev.pwr.ctx ∧ e.sram = s.dev.sram ∧ e.win = s.dev.win ∧ e.flash = s.dev.flash)) ∧
    (mayRelease s.dev n = false → exec (.domainRelease n) s = .next s)

/-- A domain that has ramped reports ready with its recorded bits replayed and nothing else changed; then what it runs begins, and
what was held for it applies (R17, R50, R52). -/
def Sys2Proof.Claims.DomainReady : Prop :=
  ∀ (s : State) (n : Nat), s.dev.live = true → n < 12 → s.dev.bitN PMC_DOMSTAT_ON n = true → s.dev.ready n = false →
    s.dev.pwr.buck = true → DoesBy (.domainReady n) s
      (fun r => heldFor n { domainStart n r with
        pwr.fresh := (domainStart n r).pwr.fresh.filter (fun a => decide (domainOf a ≠ some n)) }) (fun r =>
      r.ready n = true ∧ (∀ k < 12, k ≠ n → r.ready k = s.dev.ready k) ∧
      (∀ a, domainOf a ≠ some n → a ≠ PMC_DOMSTAT → r.rd a = s.dev.rd a) ∧
      (∀ a, ctxFind a s.dev.pwr.ctx = none → a ≠ PMC_DOMSTAT → r.rd a = s.dev.rd a) ∧
      (∀ a v, s.dev.pwr.ctx = [(a, v)] → domainOf a = some n → r.rd a = (s.dev.rd a &&& ~~~(recMask a)) ||| (v &&& recMask a)) ∧
      r = { s.dev with regs := r.regs })

/-- A domain reset by PMC_RSTCTRL (R51, R62): each domain of the mask reports not ready, its context record is emptied and its pin
released. -/
def Sys2Proof.Claims.DomainResets : Prop :=
  ∀ (s : State) (ini sess mask : Nat) (m : Word), mask < 4096 → Takes s ini sess PMC_RSTCTRL (mask * 65536) m →
    (∀ i, 16 ≤ i → i < 28 → m.getLsbD i = true) →
    Does (.domainReset ini sess mask) s (fun e => ∀ n < 12, mask.testBit n = true → s.dev.bitN PMC_DOMSTAT_ON n = true →
      e.ready n = false ∧ e.bitN PMC_PINNED_PINNED n = false ∧ ∀ x ∈ e.pwr.ctx, domainOf x.1 ≠ some n)

/-- Domains of power (R31, R44, R50 to R52, R54, R62): what a hold, a release, a ready domain and a domain reset leave. -/
def Obligations.Domains : Prop := Claims.HoldRequests ∧ Claims.DomainOff ∧ Claims.DomainReady ∧ Claims.DomainResets

/-- The full restarts (R62, R63): by PMC_RSTCTRL.SOFT, by a chapter's line, by the pin and by the line's return, each with its cause
bit; during a save and in THERMAL_OFF the pin reset is only recorded. Releasing the pin lets the order go on. -/
def Sys2Proof.Claims.FullRestarts : Prop :=
  ∀ (s : State), s.dev.pwr.aon = true →
    (∀ ini sess m, Takes s ini sess PMC_RSTCTRL 1 m → m.getLsbD 0 = true →
      Does (.softReset ini sess) s (fun e => Restarted s.dev e ∧ e.bit PMC_RSTCAUSE_SOFT = true)) ∧
    (∀ sec, s.dev.live = true → s.dev.ready 11 = true → s.dev.pwr.save = .none → Does (.fullRestartLine sec) s (fun e => Restarted s.dev e ∧
      e.bit (if sec then PMC_RSTCAUSE_SEC else PMC_RSTCAUSE_SOFT) = true)) ∧
    (s.dev.pwr.thermalOff = false → s.dev.pwr.save = .none → s.dev.pwr.step ≠ 0 → Does .pinReset s (fun e => Restarted s.dev e ∧
      e.bit PMC_RSTCAUSE_PIN = true ∧ e.pwr.pinHeld = true)) ∧
    (s.dev.pwr.thermalOff = false → s.dev.pwr.save ≠ .none → Does .pinReset s (fun e => e.bit PMC_RSTCAUSE_PIN = true ∧
      e.pwr.pinHeld = true ∧ Changes [PMC_RSTCAUSE] { s.dev with pwr.pinHeld := true } e)) ∧
    exec .pinResetRelease s = .next { s with dev := { s.dev with pwr.pinHeld := false } }

/-- Supply (R45, R46, R62): a power-on reset brings VAON up with every register at its reset value outside the converter units;
VAON's failure takes power away; the end of the inrush phase starts the buck; a reverse current opens the switch; on TL0 the device
shows a PSE that has read its class code, and a device on a local supply shows none. -/
def Sys2Proof.Claims.Supply : Prop :=
  ∀ (s : State),
    Does .powerOnReset s (fun e => e.pwr.aon = true ∧ (s.dev.pwr.aon = true →
      (∀ a, a / 0x10000 ≠ 0x4030 → e.rd a = resetOf a) ∧ e.pwr.step = 0 ∧ e.pwr.buck = false ∧ e.sram = [] ∧ e.heg.sessions = []) ∧
      (s.dev.pwr.aon = false → e = { s.dev with pwr.aon := true }) ∧ e.flash = s.dev.flash ∧ e.now = s.dev.now) ∧
    (s.dev.pwr.aon = true →
      Does .vaonFail s (fun e => e.pwr.aon = false ∧ e.sram = [] ∧ e.heg.sessions = [] ∧ e.flash = s.dev.flash ∧ e.now = s.dev.now) ∧
      (s.dev.bit PMC_LINE_INRUSH = true → s.dev.pwr.step = 0 → s.dev.pwr.capPhase = .idle → Does .inrushEnd s (fun e =>
        e.bit PMC_LINE_INRUSH = false ∧ e.pwr.buck = true ∧ e.pwr.capPhase = .first ∧ e.pwr.swOpen = true ∧
        Changes [PMC_LINE] { s.dev with pwr := e.pwr } e)) ∧
      (s.dev.bit PMC_LINE_INRUSH = true → s.dev.pwr.step ≠ 0 → Does .inrushEnd s (fun e =>
        e.bit PMC_LINE_INRUSH = false ∧ e.pwr.buck = true ∧ e.pwr.swOpen = false ∧
        Changes [PMC_LINE, PMC_DOMSTAT] { s.dev with pwr := e.pwr } e)) ∧
      (s.dev.bit PMC_LINE_INRUSH = false →
        exec .reverseCurrent s = .next { s with dev := { s.dev with pwr.swOpen := true } } ∧ exec .inrushEnd s = .next s) ∧
      (s.dev.bit PMC_LINE_INRUSH = true → exec .reverseCurrent s = .next s) ∧
      (∀ ok, s.dev.pwr.localLine = false → Does (.sccpClassification ok) s (fun e =>
        e.bit PMC_LINE_PD = (ok && decide (s.dev.ent 0xA001 7 ≠ 0xFF)) ∧ Changes [PMC_LINE] s.dev e)) ∧
      (∀ ok, s.dev.pwr.localLine = true → exec (.sccpClassification ok) s = .next s))

/-- The capacitance measurement (R72, R158): each interval's last reading stands in the result of VHOLD; the first interval is kept;
the second gives the capacitance from the difference of the two drops, 200,000,000 nF·mV divided by it and rounded, and closes the
switch again unless the line has failed. -/
def Sys2Proof.Claims.CapacitanceMeasured : Prop :=
  ∀ (s : State) (start mv : Nat), s.dev.live = true →
    (s.dev.pwr.capPhase = .first → exec (.capMeasureInterval start mv) s =
      .next { s with dev := { capReading mv s.dev with pwr.capPhase := .second, pwr.capReads := [mv, start] } }) ∧
    (∀ d : Dev, (capReading mv d).get (HKC_RESULT_VALUE 37) = mv % 65536 ∧ (capReading mv d).bit (HKC_RESULT_VALID 37) = true ∧
      (capReading mv d).get HKC_STATUS_CHAN = 37 ∧ RegsBut [HKC_RESULT 37, HKC_STATUS] d (capReading mv d)) ∧
    (∀ mv0 start0, s.dev.pwr.capPhase = .second → s.dev.pwr.capReads = [mv0, start0] → Does (.capMeasureInterval start mv) s (fun e =>
      e.pwr.capPhase = .ended ∧ e.pwr.swOpen = s.dev.bit PMC_LINE_FAIL ∧
      (∀ x : Nat, (x : Int) = ((start : Int) - mv) - ((start0 : Int) - mv0) → 0 < x → e.pwr.capNF = some ((400000000 + x) / (2 * x))) ∧
      ((start : Int) - mv ≤ (start0 : Int) - mv0 → e.pwr.capNF = none) ∧ e = { capReading mv s.dev with pwr := e.pwr })) ∧
    (s.dev.pwr.capPhase = .idle ∨ s.dev.pwr.capPhase = .ended → exec (.capMeasureInterval start mv) s = .next s)

/-- The supply (R45 to R47, R62, R72): power-on, VAON, the inrush phase, the switch and the capacitance measurement. -/
def Obligations.SupplyAndCapacitance : Prop := Claims.Supply ∧ Claims.CapacitanceMeasured

/-- The power-up order (R67): what each of steps 1 to 5, 8 and 9 leaves, with power, no pin reset, no save and no recovery. None of them runs
unless the step before it is the last that has completed, none during a save, and from step 2 none in recovery. -/
def Sys2Proof.Claims.PowerUpOrder : Prop :=
  ∀ (s : State),
    (∀ c k, (∃ b, c = Instr.aonReady b ∧ k = 0) ∨ (∃ b, c = Instr.bootChainVerify b ∧ k = 1) ∨
      (∃ b l m, c = Instr.journalRecovery b l m ∧ k = 2) ∨ (∃ m, c = Instr.runtimeUp m ∧ k = 3) ∨
      (∃ a b, c = Instr.shadowRestore a b ∧ k = 4) ∨ (c = Instr.configCheck ∧ k = 5) ∨ (c = Instr.timeAcquireTimeout ∧ k = 7) ∨
      (c = Instr.ledgerArm ∧ k = 8) →
      (s.dev.pwr.step ≠ k → exec c s = .next s) ∧ (s.dev.pwr.save ≠ .none → exec c s = .next s) ∧
      (k ≠ 0 → s.dev.sec.recovery ≠ none → exec c s = .next s)) ∧
    (∀ refOk, MayStep s 0 → s.dev.pwr.capPhase = .ended → Does (.aonReady refOk) s (fun e => e.pwr.step = 1 ∧
      e.get PMC_CLKSTAT_PLL_LOCK = 7 ∧ e.bit PMC_CLKSTAT_REF_OK = refOk ∧ e.bit PMC_CLKSTAT_ON_RC = !refOk ∧
      RegsBut [PMC_CLKSTAT, PMC_DOMSTAT] s.dev e ∧ (s.dev.pwr.thermalOff = false → e.bitN PMC_DOMSTAT_ON 11 = true))) ∧
    (∀ boot, MayStep s 1 → s.dev.ready 11 = true → boot % 4 = 1 ∨ boot % 4 = 2 → Does (.bootChainVerify boot) s (fun e =>
      e.sec.recovery ≠ none ∧ e.pwr.step = 1 ∧ e.pwr.halves = 0 ∧ e.heg.sessions.length = 0)) ∧
    (∀ boot, MayStep s 1 → s.dev.ready 11 = true → boot % 4 = 0 → DoesBy (.bootChainVerify boot) s bootChain (fun e =>
      e.bit SCU_TRNG_OK = true ∧ Changes [SCU_TRNG_OK.addr] { s.dev with pwr.bootSel := 0 } e)) ∧
    (∀ boot t a b d, MayStep s 1 → s.dev.ready 11 = true → boot % 4 = 0 → (bootDir s.dev).trial % 8 = 0 → t = (bootDir s.dev).teller % 2 →
      a = (bootDir s.dev).rtA % 2 → b = (bootDir s.dev).rtB % 2 → d = { s.dev with pwr.bootSel := 0 }.set SCU_TRNG_OK 1 →
      slotVerify d true t = 0 → slotVerify (tellerSlotPut t d) false a = 0 → slotVerify (tellerSlotPut t d) false b = 0 →
      Does (.bootChainVerify boot) s (fun e => e.pwr.step = 2 ∧ e.bit SCU_TRNG_OK = true ∧ TellerSlot t e ∧ HalfSlot 0 a e ∧
        HalfSlot 1 b e ∧ (s.dev.pwr.thermalOff = false → e.bitN PMC_DOMSTAT_ON 10 = true) ∧
        RegsBut [SCU_TRNG, SCU_BOOTSTAT, PMC_DOMSTAT] s.dev e ∧ MemSame s.dev e)) ∧
    (∀ hdrBad bad recs, MayStep s 2 → s.dev.ready 10 = true → Does (.journalRecovery hdrBad bad recs) s (fun e =>
      e.pwr.step = 3 ∧ e.bit NVS_STAT_RECOVERED = true ∧ e.nvs.marker = none)) ∧
    (MayStep s 3 → s.dev.pwr.halfOff = 0 → s.dev.pwr.rccDown = false → s.dev.ready 0 = true → s.dev.ready 1 = true →
      Does (.runtimeUp 3) s (fun e => e.pwr.step = 4 ∧ e.pwr.halves = 3 ∧ e.pwr.hrdy = true ∧ e.pwr.nvEvents = [] ∧
        RegsBut [PMC_DOMSTAT] s.dev e)) ∧
    (∀ badA badB, MayStep s 4 → DoesBy (.shadowRestore badA badB) s (fun e => timedRebuild (bookClear 14 e)) (fun e =>
      e = { shadowLoad badA badB s.dev with pwr.step := 5 })) ∧
    (∀ slot x, MayStep s 4 → shadowBest s.dev = some (slot, x) → (∀ t ∈ x.img.timed, t.state ≠ 1) →
      Does (.shadowRestore false false) s (fun e => e.pwr.step = 5 ∧ e.get NVS_SHADOW_SLOT = slot ∧ e.bit NVS_SHADOW_VALID = true ∧
        (∀ i < 0x10000, memByte e.sram (0x203F0000 + i) =
          memByte s.dev.nvs.arr ((if slot = 0 then 0x2000 else 0x12000) + i)) ∧
        (∀ a < 0x203F0000, memByte e.sram a = memByte s.dev.sram a) ∧
        e.heg.timed = x.img.timed.map (fun (t : TimedReq) => { t with sid := 0 }))) ∧
    (MayStep s 6 → autoRelease s.dev = false → exec (.outputsReleaseGrant none) s = .next s) ∧
    (s.dev.live = true → s.dev.pwr.step = 6 → autoRelease s.dev = true →
      exec (.outputsReleaseGrant none) s = .next { s with dev := releaseGrant s.dev }) ∧
    (MayStep s 7 → exec .timeAcquireTimeout s = .next { s with dev := { s.dev with pwr.step := 8 } }) ∧
    (MayStep s 8 → Does .ledgerArm s (fun e => e.pwr.step = 9 ∧ e.ldg.st ≠ 0))

/-- The configuration check of step 6 (R68, R69, R73): restored values out of range take their defaults, the load and the hold-up are
checked, and the outputs are released where the release is automatic. -/
def Sys2Proof.Claims.ConfigurationCheck : Prop :=
  ∀ (s : State), MayStep s 5 → DoesBy .configCheck s (fun b => if autoRelease b then releaseGrant b else b) (fun b =>
    b.pwr.step = 6 ∧ (holdupShort b = true → b.pwr.shortfall = true) ∧ (s.dev.pwr.shortfall = true → b.pwr.shortfall = true) ∧
    ((∃ x ∈ s.dev.dict, restorable s.dev x.1 = true ∧ rangeBad s.dev x = true) → b.pwr.cfgFailed = true) ∧
    (b.ent 0x1F01 0 = 0 → b.ent 0x5500 1 = 0) ∧ b.pwr.released = s.dev.pwr.released)

/-- The outputs are granted and withdrawn (R65, R69, R70): a grant at step 6 completes step 7, and step 8 with it on a locked time base; a
session of role ENGINEER or OWNER writes 1 to grant and 0 to withdraw. Granted and withdrawn outputs stay so. While they are withdrawn no actuator
conducts, every DAC ball is at 0, every CSEG is on and nFAULT is low; once granted nFAULT is released unless RCC_DOWN, a save or a thermal level of 2 holds it. -/
def Sys2Proof.Claims.OutputsReleased : Prop :=
  ∀ (d : Dev), (d.pwr.released = true → releaseGrant d = d) ∧
    (d.pwr.released = false → d.ready 6 = false → d.ready 7 = false → d.pwr.step = 6 →
      releaseGrant d = { d with pwr.released := true, pwr.step := if d.xtf.st = .locked then 8 else 7 }) ∧
    (d.ready 6 = false → d.ready 7 = false → d.ready 9 = false → releaseWithdraw d =
      { d with pwr.released := false, pwr.ballsHeld := false, pwr.csegHeld := 0 }) ∧
    (d.pwr.released = false → (∀ n, actOn d n = false ∧ dacBall d n = 0 ∧ csegOn d n = true) ∧ (d.pwr.aon = true → nFaultLow d = true)) ∧
    (d.pwr.released = true → d.pwr.rccDown = false → d.pwr.save = .none → d.get THM_STATUS_LEVEL < 2 → nFaultLow d = false) ∧
    (∀ (s : State) (r : Req), exec (.outputsReleaseWithdraw r) s = exec (.write r 0xA010 0 ⟨1, 0⟩) s ∧
      exec (.outputsReleaseGrant (some r)) s = exec (.write r 0xA010 0 ⟨1, 1⟩) s ∧
      Writes (.outputsReleaseWithdraw r) s r false 0xA010 0 ⟨1, 0⟩ (fun x _ e => 2 ≤ x.role ∧ e.pwr.released = false) ∧
      Writes (.outputsReleaseGrant (some r)) s r false 0xA010 0 ⟨1, 1⟩ (fun x _ e => 2 ≤ x.role ∧ e.pwr.released = true))

/-- The power-up order (R65, R67 to R70, R73): each step in its turn, the configuration check and the release of the outputs. -/
def Obligations.PowerUp : Prop := Claims.PowerUpOrder ∧ Claims.ConfigurationCheck ∧ Claims.OutputsReleased

/-- Power states (R55 to R58, R507): a waiting core of a powered half is noted and the last one takes the device to IDLE, while one with a pending event goes on; NAP and DEEP
turn domains off and stop the PLLs; a wake source brings back RUN, the PLLs and, from DEEP, a reference that is not lost. -/
def Sys2Proof.Claims.PowerStates : Prop :=
  ∀ (s : State), s.dev.live = true →
    (∀ c far, c < 8 → c = eventCore s.dev → s.dev.ldg.events ≠ [] → exec (.coreWait c far) s = .next s) ∧
    (∀ c, c < 8 → s.dev.ready (c / 4) = true → s.dev.pwr.halves.testBit (c / 4) = true → c ≠ eventCore s.dev ∨ s.dev.ldg.events = [] →
      Does (.coreWait c false) s (fun e =>
      e.pwr.coreWait.testBit c = true ∧ (∀ k, k ≠ c → e.pwr.coreWait.testBit k = s.dev.pwr.coreWait.testBit k) ∧
      (s.dev.get PMC_PSTATE_STATE = 0 → 1 ≤ s.dev.get PMC_PSTATE_LOWEST →
        (∀ k < 8, k ≠ c → s.dev.pwr.halves.testBit (k / 4) = true → s.dev.pwr.coreWait.testBit k = true) → e.get PMC_PSTATE_STATE = 1) ∧
      Changes [PMC_PSTATE] { s.dev with pwr.coreWait := e.pwr.coreWait } e)) ∧
    (s.dev.get PMC_PSTATE_STATE = 1 → 2 ≤ s.dev.get PMC_PSTATE_LOWEST → s.dev.pwr.save = .none → napQuiet s.dev 1000000 = true →
      Does .enterNap s (fun e => e.get PMC_PSTATE_STATE = 2 ∧ e.get PMC_CLKSTAT_PLL_LOCK = 0)) ∧
    (s.dev.get PMC_PSTATE_STATE ≠ 1 → exec .enterNap s = .next s) ∧
    (s.dev.get PMC_PSTATE_STATE = 2 → s.dev.get PMC_PSTATE_LOWEST = 3 → s.dev.ent 0x2001 1 = 0 → s.dev.bit PMC_CLKSTAT_CLK32_OK = true →
      s.dev.pwr.save = .none → (∀ n < 12, heldOn s.dev n = false ∧ keepOn s.dev n = false ∧ wanted s.dev n = false) →
      (∀ p < 6, s.dev.get (FNS_PORTSTAT_LINK p) ≠ 2) → wakeWithin s.dev 10000000 = false →
      Does .enterDeep s (fun e => e.get PMC_PSTATE_STATE = 3 ∧ e.get PMC_CLKSTAT_PLL_LOCK = 0 ∧ e.bit PMC_CLKSTAT_REF_OK = false ∧
        e.xtf.on32 = true ∧ ∀ n < 12, e.ready n = false)) ∧
    (s.dev.get PMC_PSTATE_STATE ≠ 2 → exec .enterDeep s = .next s) ∧
    (∀ src, wakeArmed s.dev src = true → s.dev.pwr.save = .none → 4 ≤ s.dev.pwr.step → s.dev.get PMC_PSTATE_STATE ≠ 0 →
      Does (.wakeEvent src) s (fun e => e.get PMC_PSTATE_STATE = 0 ∧ e.get PMC_CLKSTAT_PLL_LOCK = 7 ∧ e.pwr.coreWait = 0 ∧
        (s.dev.get PMC_PSTATE_STATE = 3 → s.dev.bit PMC_CLKSTAT_ON_RC = false → e.bit PMC_CLKSTAT_REF_OK = true) ∧
        RegsBut [PMC_PSTATE, PMC_CLKSTAT, PMC_DOMREQ, PMC_DOMSTAT] s.dev e)) ∧
    (∀ src, wakeArmed s.dev src = false → exec (.wakeEvent src) s = .next s)

/-- A forced DEEP (R55, R56): refused with code 1 while PTP_MODE is 3 and with code 2 without the 32.768 kHz clock; otherwise kept. At
the end of a cycle in IDLE or NAP the device quiets down, and, once no CAN channel is in use, every domain goes off and the reference
stops. -/
def Sys2Proof.Claims.ForcedDeep : Prop :=
  ∀ (s : State) (ini sess : Nat) (m : Word), Takes s ini sess PMC_PSTATE (16 + 4 * s.dev.get PMC_PSTATE_LOWEST) m → m.getLsbD 4 = true →
    DoesBy (.forceDeep ini sess) s forceDeepOp (fun e => Changes [PMC_PSTATE] s.dev e) ∧
    (∀ d : Dev, (d.ent 0x2001 1 = 3 → forceDeepOp d = d.set PMC_PSTATE_REFUSAL 1) ∧
      (d.ent 0x2001 1 ≠ 3 → d.bit PMC_CLKSTAT_CLK32_OK = false → forceDeepOp d = d.set PMC_PSTATE_REFUSAL 2) ∧
      (d.ent 0x2001 1 ≠ 3 → d.bit PMC_CLKSTAT_CLK32_OK = true → d.get PMC_PSTATE_STATE ≠ 3 → d.pwr.save = .none → d.pwr.deepReq = 0 →
        forceDeepOp d = { d with pwr.deepReq := 1 }) ∧
      (d.pwr.deepReq = 0 ∨ d.get PMC_PSTATE_STATE = 0 → deepDue d = d) ∧
      (d.pwr.deepReq = 1 → d.get PMC_PSTATE_STATE = 1 ∨ d.get PMC_PSTATE_STATE = 2 → d.bit PMC_CLKSTAT_CLK32_OK = true → d.pwr.save = .none →
        ((∃ n < 8, (forcedQuiet d).get (CAN_STAT_MODE n) ≠ 0) → deepDue d = forcedQuiet d) ∧
        ((∀ n < 8, (forcedQuiet d).get (CAN_STAT_MODE n) = 0) → (deepDue d).get PMC_PSTATE_STATE = 3 ∧
          (deepDue d).bit PMC_CLKSTAT_REF_OK = false ∧ (deepDue d).pwr.forced = true ∧ (deepDue d).pwr.deepReq = 0 ∧
          ∀ n < 12, (deepDue d).ready n = false)))

/-- The clocks (R60, R61): loss of the reference moves the device to the RC oscillator and the counter to 32.768 kHz with
CLK_REF_LOST, and its return moves it back with CLK_REF_BACK; the 32.768 kHz clock has its own flag. -/
def Sys2Proof.Claims.Clocks : Prop :=
  ∀ (s : State), s.dev.live = true →
    (s.dev.bit PMC_CLKSTAT_REF_OK = true → s.dev.ready 8 = false → Does .refLost s (fun e =>
      e.bit PMC_CLKSTAT_REF_OK = false ∧ e.bit PMC_CLKSTAT_ON_RC = true ∧ e.xtf.on32 = true ∧
      RegsBut [PMC_CLKSTAT] s.dev e)) ∧
    (s.dev.bit PMC_CLKSTAT_REF_OK = false → exec .refLost s = .next s) ∧
    (s.dev.bit PMC_CLKSTAT_REF_OK = false → s.dev.get PMC_PSTATE_STATE ≠ 3 → s.dev.pwr.step ≠ 0 → s.dev.ready 8 = false →
      DoesBy .refBack s (fun e => sourceRefresh (raise .CLK_REF_BACK [] e)) (fun e =>
        e.bit PMC_CLKSTAT_REF_OK = true ∧ e.bit PMC_CLKSTAT_ON_RC = false ∧ e.xtf.leave32 = s.dev.xtf.on32 ∧
        Changes [PMC_CLKSTAT] { s.dev with xtf.leave32 := s.dev.xtf.on32 } e)) ∧
    DoesBy .clk32Lost s (raise .CLK32_LOST []) (fun e => e.bit PMC_CLKSTAT_CLK32_OK = false ∧ Changes [PMC_CLKSTAT] s.dev e) ∧
    Does .clk32Stable s (fun e => e.bit PMC_CLKSTAT_CLK32_OK = true ∧ Changes [PMC_CLKSTAT] s.dev e)

/-- Power states and clocks (R55 to R58, R60, R61, R507). -/
def Obligations.PowerStatesAndClocks : Prop := Claims.PowerStates ∧ Claims.ForcedDeep ∧ Claims.Clocks

/-- The RCC watchdog (R62, R63): it records its cause, stops both halves and resets both core domains; the third time within 10 min
they stay off with RCC_DOWN. -/
def Sys2Proof.Claims.WatchdogResets : Prop :=
  ∀ (s : State), s.dev.live = true → 4 ≤ s.dev.pwr.step → s.dev.pwr.save = .none → s.dev.pwr.rccDown = false →
    Does .rccWatchdog s (fun e => e.bit PMC_RSTCAUSE_WDOG = true ∧ e.pwr.halves = 0 ∧ e.ready 0 = false ∧ e.ready 1 = false ∧
      (2 ≤ (s.dev.pwr.wdogTimes.filter (fun t => decide (s.dev.now < t + 600000000000))).length →
        e.pwr.rccDown = true ∧ e.bit PMC_RSTCAUSE_RCC_DOWN = true ∧ e.bitN PMC_DOMSTAT_ON 0 = false ∧ e.bitN PMC_DOMSTAT_ON 1 = false))

/-- A line failure and what follows (R48, R74 to R77): the switch opens, LINE_FAIL is raised, and, once step 5 is done, the save
starts; its completion turns every domain off and stops the buck, its exhaustion leaves it incomplete; the line's return during the
save waits for its end, later it restarts the device. -/
def Sys2Proof.Claims.LineFailure : Prop :=
  ∀ (s : State) (high : Bool), s.dev.live = true →
    (s.dev.bit PMC_LINE_FAIL = true → exec (.lineFail high) s = .next s) ∧
    (s.dev.bit PMC_LINE_FAIL = false → s.dev.pwr.save = .none → Does (.lineFail high) s (fun e =>
      e.bit PMC_LINE_FAIL = true ∧ e.pwr.swOpen = true ∧ e.pwr.save = .running ∧ e.pwr.lineBack = false ∧ e.pwr.eArmed = false ∧
      (∀ n ∈ [2, 3, 4, 5, 6, 8, 9, 11], e.ready n = false) ∧ (5 ≤ s.dev.pwr.step → e.nvs.saving ≠ none ∧ e.nvs.marker ≠ none))) ∧
    (s.dev.pwr.save = .running → s.dev.pwr.lineBack = false → Does .saveComplete s (fun e =>
      e.pwr.save = .complete ∧ e.pwr.halves = 0 ∧ (∀ n < 12, e.ready n = false ∧ e.bitN PMC_DOMSTAT_ON n = false) ∧
      e.nvs.saving = none ∧ (s.dev.bit PMC_LINE_FAIL = true → e.pwr.buck = false))) ∧
    (s.dev.pwr.save = .running → s.dev.pwr.lineBack = false → Does .holdupExhausted s (fun e =>
      e.pwr.save = .exhausted ∧ e.pwr.halves = 0 ∧ e.pwr.buck = false ∧ (∀ n < 12, e.ready n = false ∧ e.bitN PMC_DOMSTAT_ON n = false))) ∧
    (s.dev.pwr.save ≠ .running → exec .saveComplete s = .next s ∧ exec .holdupExhausted s = .next s) ∧
    (s.dev.bit PMC_LINE_FAIL = true → s.dev.pwr.lineBack = false → s.dev.pwr.save = .running →
      exec .lineReturn s = .next { s with dev := raise .LINE_RETURN [s.dev.pwr.vlineMV] { s.dev with pwr.lineBack := true } }) ∧
    (s.dev.bit PMC_LINE_FAIL = true → s.dev.pwr.lineBack = false → s.dev.pwr.save ≠ .running →
      DoesBy .lineReturn s (raise .LINE_RETURN [s.dev.pwr.vlineMV]) (fun e => Restarted s.dev e ∧ e.pwr.buck = false ∧
        e.bit PMC_LINE_INRUSH = true ∧ e.bit PMC_RSTCAUSE_LINE_RETURN = true))

/-- Restarts (R62, R63) and line failures (R48, R74 to R77). -/
def Obligations.RestartsAndLineFailure : Prop := Claims.FullRestarts ∧ Claims.WatchdogResets ∧ Claims.LineFailure

/-! ### The time base (chapter 3) -/

namespace Sys2Proof.Claims

/-- PTP runs and takes the message (R85, R86): the device is awake, NET is ready, the port takes part, and the header fits. -/
def PtpTakes (s : State) (h : PtpHdr) : Prop := On s [8] ∧ Awake s ∧ ptpOn s.dev h.port = true ∧ ptpSupported s.dev h = true

/-- Only port `n` of PTP changes, and the registers of `l`. -/
def PortOnly (n : Nat) (l : List Nat) (d e : Dev) : Prop :=
  (∀ k, k ≠ n → e.ptp k = d.ptp k) ∧ RegsBut l d e ∧ e = { d with xtf.ports := e.xtf.ports, regs := e.regs }

/-- A message of type `k` is formed for port `n` in class 6 (R367): with the port UP it enters that queue, where there is space; a port
that is not UP sends none. -/
def Sends (k n : Nat) (d e : Dev) : Prop :=
  (portUp d n = true → e.heg.sent.head?.map (fun m => (m.kind, m.dest, m.cls)) = some (k, n, some 6) ∧
    ∃ f, f.msg.map (·.1) = some k ∧ (sharedUsed d + f.frame.len ≤ 67584 → e.queue n 6 = d.queue n 6 ++ [f])) ∧
  (portUp d n = false → e.heg.sent = d.heg.sent ∧ e.net.queues = d.net.queues) ∧ RegsBut [FNS_DROP n] d e ∧
  e = { d with heg.sent := e.heg.sent, xtf.ports := e.xtf.ports, net.queues := e.net.queues, regs := e.regs, cyc.rcOld := e.cyc.rcOld }

end Sys2Proof.Claims

/-- Setting the time (R80, R82, R83, R93, R509): by XTF_SET and SET, by the Teller's line and by the SET_TIME entry the counter takes
the value at once, a slew ends as SERVO_EN lets it, and the state becomes FREE, or LOCKING where a source was followed or is there;
while PTP is the source the counter is not set. SLEW_END stops the slew, or marks it as over while SERVO_EN is 0. -/
def Obligations.TimeSet : Prop :=
  ∀ (s : State) (ini sess t : Nat), s.dev.live = true →
    (∀ d, d = setTime t s.dev → t < 2 ^ 64 → s.dev.ldg.st = 0 → d.time64 = t ∧
      (s.dev.bit XTF_CTRL_SERVO_EN = true → d.xtf.s = 0) ∧ (s.dev.bit XTF_CTRL_SERVO_EN = false → d.xtf.s = s.dev.xtf.s ∧ d.xtf.slewOver = true) ∧
      RegsBut [] s.dev d ∧ MemSame s.dev d ∧
      (s.dev.xtf.st = .unset ∨ s.dev.xtf.st = .free ∨ s.dev.xtf.st = .holdover → ∀ k, k = sourceNow { s.dev with xtf.st := .free } →
        (k = 0 → d.xtf.st = .free) ∧ (k ≠ 0 → k ≠ s.dev.xtf.src → d.xtf.st = .locking ∧ d.xtf.src = k)) ∧
      (s.dev.xtf.st = .locking ∨ s.dev.xtf.st = .locked → d.xtf.st = .locking)) ∧
    (s.dev.xtf.src = 1 → Does (.timeSetLine t) s (fun e => RegsBut [XTF_SET_LO, XTF_SET_HI] s.dev e ∧ e = { s.dev with regs := e.regs }) ∧
      exec (.timeSet ini sess (some t)) s = .next s) ∧
    (s.dev.xtf.src ≠ 1 → DoesBy (.timeSetLine t) s (setTime t) (fun e => (t < 2 ^ 64 → e.get XTF_SET_LO_SET_LO = t % 2 ^ 32 ∧ e.get XTF_SET_HI_SET_HI = t / 2 ^ 32) ∧
      RegsBut [XTF_SET_LO, XTF_SET_HI] s.dev e ∧ e = { s.dev with regs := e.regs })) ∧
    (∀ m, s.dev.xtf.src ≠ 1 → Takes s ini sess XTF_CTRL ((s.dev.set XTF_CTRL_SET 1).rd XTF_CTRL).toNat m → m.getLsbD 0 = true →
      DoesBy (.timeSet ini sess none) s (fun e => servoFollow (setTime (s.dev.get XTF_SET_LO_SET_LO + 2 ^ 32 * s.dev.get XTF_SET_HI_SET_HI) e))
        (fun e => Changes [XTF_CTRL] s.dev e)) ∧
    (s.dev.xtf.src ≠ 1 → ini < 8 → t < 2 ^ 64 → s.dev.ldg.st = 0 → Does (.timeSet ini sess (some t)) s (fun e => e.time64 = t ∧
      (s.dev.bit XTF_CTRL_SERVO_EN = true → e.xtf.s = 0) ∧ MemSame s.dev e)) ∧
    (s.dev.bit XTF_CTRL_SERVO_EN = true → exec .slewEnd s = .next { s with dev := { s.dev with xtf.s := 0, xtf.slewOver := false } }) ∧
    (s.dev.bit XTF_CTRL_SERVO_EN = false → exec .slewEnd s = .next { s with dev := { s.dev with xtf.slewOver := true } }) ∧
    (ini < 8 → Does (.timeLoRead ini sess) s (fun e => e.bus = s.dev.time64 % 2 ^ 32 ∧
        e.latchOf (readerKey ini sess) XTF_TIME_HI = s.dev.time64 / 2 ^ 32 ∧ e = { s.dev with bus := e.bus, tlatch := e.tlatch }) ∧
      Answers (.registerRead ini sess XTF_TIME_HI 4) s (s.dev.latchOf (readerKey ini sess) XTF_TIME_HI % 2 ^ 32))

/-- PTP messages (R57, R82, R85 to R87): on a port that takes no part nothing happens; a message outside the supported options, or of the
delay mechanism that the port does not use, is discarded and counted; a frame on a powered port wakes the device first. A Sync of the parent measures the offset and calibrates the
port; delay messages give the mean path delay; a MASTER port answers, and requests of a P2P port are answered; GET is answered, SET and
COMMAND are refused. -/
def Sys2Proof.Claims.PtpMessages : Prop :=
  ∀ (s : State) (h : PtpHdr) (two : Bool) (org rx req t4 act id : Nat) (corr turn : Int),
    (∀ c ∈ [Instr.ptpSync h two org corr rx, .ptpFollowUp h org corr,
        .ptpDelayReq h rx, .ptpDelayResp h req t4 corr, .ptpPdelayReq h rx, .ptpPdelayResp h req turn rx, .ptpManagement h act id],
      (Awake s → ptpOn s.dev h.port = false → exec c s = .next s) ∧
      (s.dev.live = true → ¬Awake s → h.port < 6 → s.dev.bit (FNS_PORTCFG_EN h.port) = true →
        exec c s = exec c { s with dev := wakeEvent 1 s.dev }) ∧
      (On s [8] → Awake s → ptpOn s.dev h.port = true → ptpSupported s.dev h = false → exec c s = .next { s with dev := count 0x02C s.dev })) ∧
    (∀ d : Dev, (d.get (PTP_PORTSTAT_STATE h.port) ≠ 8 → ptpCalibrated h.port d = d) ∧
      (d.get (PTP_PORTSTAT_STATE h.port) = 8 → (ptpCalibrated h.port d).get (PTP_PORTSTAT_STATE h.port) = 9)) ∧
    (PtpTakes s h →
      (fromParent s.dev h = true → DoesBy (.ptpSync h false org corr rx) s (fun e => measure ((rx : Int) - (org + corr) -
          (s.dev.ptp h.port).delay - sx 32 ((ptpCalibrated h.port e).ent 0x2002 (h.port + 1))) 1 (ptpCalibrated h.port e))
        (fun e => (e.ptp h.port).last = some ((org + corr).toNat, rx) ∧ (e.ptp h.port).sync = none ∧ PortOnly h.port [] s.dev e)) ∧
      (fromParent s.dev h = true → Does (.ptpSync h true org corr rx) s (fun e =>
        (e.ptp h.port).sync = some (h.src, h.seq, rx, corr) ∧ PortOnly h.port [] s.dev e)) ∧
      (fromParent s.dev h = false → exec (.ptpSync h two org corr rx) s = .next s ∧ exec (.ptpFollowUp h org corr) s = .next s) ∧
      (∀ c, fromParent s.dev h = true → (s.dev.ptp h.port).sync = some (h.src, h.seq, rx, c) → DoesBy (.ptpFollowUp h org corr) s
        (fun e => measure ((rx : Int) - (org + (corr + c)) - (s.dev.ptp h.port).delay -
          sx 32 ((ptpCalibrated h.port e).ent 0x2002 (h.port + 1))) 1 (ptpCalibrated h.port e))
        (fun e => (e.ptp h.port).last = some ((org + (corr + c)).toNat, rx) ∧ PortOnly h.port [] s.dev e)) ∧
      (s.dev.get (PTP_PORTSTAT_STATE h.port) = 6 → isP2p s.dev h.port = false → Does (.ptpDelayReq h rx) s (Sends 0x109 h.port s.dev)) ∧
      (s.dev.get (PTP_PORTSTAT_STATE h.port) ≠ 6 → isP2p s.dev h.port = false → exec (.ptpDelayReq h rx) s = .next s) ∧
      (isP2p s.dev h.port = true → ∀ c ∈ [Instr.ptpDelayReq h rx, .ptpDelayResp h req t4 corr],
        exec c s = .next { s with dev := count 0x02C s.dev }) ∧
      (isP2p s.dev h.port = false → ∀ c ∈ [Instr.ptpPdelayReq h rx, .ptpPdelayResp h req turn rx],
        exec c s = .next { s with dev := count 0x02C s.dev }) ∧
      (∀ t3 t1 t2, fromParent s.dev h = true → req = ownClock → isP2p s.dev h.port = false → (s.dev.ptp h.port).dreq = some (h.seq, t3) →
        (s.dev.ptp h.port).last = some (t1, t2) → Does (.ptpDelayResp h req t4 corr) s (fun e => (e.ptp h.port).dreq = none ∧
          (e.ptp h.port).delay = rdiv (((t2 : Int) - t1) + (t4 - corr - t3)) 2 ∧ PortOnly h.port [PTP_PORTSTAT h.port] s.dev e)) ∧
      (isP2p s.dev h.port = true → s.dev.get (PTP_PORTSTAT_STATE h.port) ≠ 3 → Does (.ptpPdelayReq h rx) s (fun e =>
        Sends 0x103 h.port s.dev e)) ∧
      (∀ t1, (s.dev.ptp h.port).dreq = some (h.seq, t1) → req = ownClock → isP2p s.dev h.port = true →
        Does (.ptpPdelayResp h req turn rx) s (fun e => (e.ptp h.port).dreq = none ∧
          (e.ptp h.port).delay = rdiv ((rx : Int) - t1 - turn) 2 ∧ PortOnly h.port [PTP_PORTSTAT h.port] s.dev e)) ∧
      (0x2000 ≤ id → id ≤ 0x2004 → Does (.ptpManagement h 0 id) s (Sends 0x10D h.port s.dev)) ∧
      (act = 1 ∨ act = 3 → Does (.ptpManagement h act id) s (fun e => Sends 0x10E h.port s.dev e ∧
        (portUp s.dev h.port = true → e.heg.sent.head?.map (·.body) = some [h.seq, id, 6]))))

/-- Masters and intervals (R82, R85, R86, R91): an Announce on a T1L port is kept and the states are decided; on a T1S port it is
ignored; a node number that clashes is reported. A MASTER port sends Sync and Announce, a SLAVE port Delay_Req, a P2P port Pdelay_Req, a
PRE_MASTER port whose time has passed is MASTER, other ports send neither, and a timeout forgets the masters of a port. A Sync is
timestamped as it leaves, which its Follow_Up carries; a delay request as well (R87). -/
def Sys2Proof.Claims.PtpMasters : Prop :=
  ∀ (s : State) (h : PtpHdr) (a : Announce) (n : Nat),
    (PtpTakes s h → 2 ≤ h.port ∨ h.src = ownClock → exec (.ptpAnnounce h a) s = .next s) ∧
    (PtpTakes s h → h.port < 2 → h.src ≠ ownClock → a.tlv = none → a.steps < 16 → ownClock ∉ a.path →
      DoesBy (.ptpAnnounce h a) s ptpDecide (fun e => PortOnly h.port [] s.dev e ∧
        ∃ f l, (e.ptp h.port).foreign = f :: l ∧ f.ds.gm = a.gm ∧ f.ds.steps = a.steps ∧ f.ds.sender = h.src ∧ f.ds.port = h.srcPort ∧
          s.dev.now ∈ f.seen)) ∧
    (PtpTakes s h → h.port < 2 → h.src ≠ ownClock → 16 ≤ a.steps → ∀ node x, a.tlv = some (node, x) →
      (node = s.dev.ent 0x2001 15 → node < 1024 →
        exec (.ptpAnnounce h a) s = .next { s with dev := raise .NODE_CLASH [h.src] s.dev }) ∧
      (node ≠ s.dev.ent 0x2001 15 ∨ 1024 ≤ node → exec (.ptpAnnounce h a) s = .next s)) ∧
    (On s [8] → n < 6 → ptpOn s.dev n = true →
      (s.dev.get (PTP_PORTSTAT_STATE n) = 6 → Does (.ptpMessageTimer n 0) s (fun e => Sends 0x100 n s.dev e ∧
        (e.ptp n).seqSync = ((s.dev.ptp n).seqSync + 1) % 65536)) ∧
      (s.dev.get (PTP_PORTSTAT_STATE n) = 6 → Does (.ptpMessageTimer n 1) s (fun e => Sends 0x10B n s.dev e ∧
        (e.ptp n).seqAnn = ((s.dev.ptp n).seqAnn + 1) % 65536)) ∧
      (s.dev.get (PTP_PORTSTAT_STATE n) = 9 → isP2p s.dev n = false → Does (.ptpMessageTimer n 2) s (fun e => Sends 0x101 n s.dev e ∧
        (e.ptp n).seqDel = ((s.dev.ptp n).seqDel + 1) % 65536)) ∧
      (s.dev.get (PTP_PORTSTAT_STATE n) ≠ 3 → isP2p s.dev n = true → Does (.ptpMessageTimer n 2) s (Sends 0x102 n s.dev)) ∧
      (s.dev.get (PTP_PORTSTAT_STATE n) = 5 → (s.dev.ptp n).preEnd ≤ s.dev.now → Does (.ptpMessageTimer n 1) s (fun e =>
        e.get (PTP_PORTSTAT_STATE n) = 6 ∧ RegsBut [PTP_PORTSTAT n, FNS_DROP n] s.dev e ∧
        (portUp s.dev n = true → e.heg.sent.head?.map (fun m => (m.kind, m.dest)) = some (0x10B, n)))) ∧
      (s.dev.get (PTP_PORTSTAT_STATE n) ≠ 6 → s.dev.get (PTP_PORTSTAT_STATE n) ≠ 5 ∨ s.dev.now < (s.dev.ptp n).preEnd →
        exec (.ptpMessageTimer n 0) s = .next s ∧ exec (.ptpMessageTimer n 1) s = .next s)) ∧
    (On s [8] → portUp s.dev n = true → s.dev.queue n 7 = [] → ∀ x l seq, s.dev.queue n 6 = x :: l →
      (x.msg = some (0x100, [seq]) → Does (.fnsFrameTransmit n) s (fun e =>
        e.heg.sent.head?.map (fun m => (m.kind, m.dest, m.body)) = some (0x108, n, [seq, s.dev.time64]))) ∧
      (x.msg = some (0x101, [seq]) ∨ x.msg = some (0x102, [seq]) → Does (.fnsFrameTransmit n) s (fun e =>
        (e.ptp n).dreq = some (seq, s.dev.time64) ∧ e.queue n 6 = l))) ∧
    (On s [8] → ptpRole s.dev ≠ 0 →
      (n < 2 → Does (.announceTimeout n) s (fun e => (e.ptp n).foreign = [] ∧ (e.ptp n).sync = none ∧ (e.ptp n).last = none ∧
        MemSame s.dev e)) ∧
      (2 ≤ n → exec (.announceTimeout n) s = .next s))

/-- PTP (R82, R85 to R87, R91): messages, masters and intervals. -/
def Obligations.PtpProtocol : Prop := Claims.PtpMessages ∧ Claims.PtpMasters

/-- The servo (R82, R83, R509): an offset counts only from the followed source while the servo runs. Past the step threshold the
counter is stepped; below it the slew runs against the offset. Sixteen small offsets lock, four large ones unlock. -/
def Sys2Proof.Claims.ServoLocks : Prop :=
  ∀ (d : Dev) (o : Int) (src : Nat),
    (d.bit XTF_CTRL_SERVO_EN = false ∨ d.xtf.src ≠ src ∨ (d.xtf.st ≠ .locking ∧ d.xtf.st ≠ .locked) → measure o src d = d) ∧
    (d.bit XTF_CTRL_SERVO_EN = true → d.xtf.src = src → d.xtf.st = .locking ∨ d.xtf.st = .locked →
      (measure o src d).xtf.lastOff = max (-2147483648) (min 2147483647 o) ∧
      (d.xtf.fromUnset = false → o.natAbs ≤ stepThr d →
        (measure o src d).time64 = d.time64 ∧
        (0 < o → (measure o src d).xtf.s = -slewMax d) ∧ (o < 0 → (measure o src d).xtf.s = slewMax d) ∧
        (o = 0 → (measure o src d).xtf.s = 0) ∧ RegsBut [] d (measure o src d) ∧ DictSame d (measure o src d)) ∧
      (stepThr d < o.natAbs → d.ldg.st = 0 → (measure o src d).time64 = (d.time64 - o).toNat % 2 ^ 64 ∧ (measure o src d).xtf.s = 0) ∧
      (d.xtf.st = .locking → d.xtf.fromUnset = false → o.natAbs ≤ stepThr d → o.natAbs < lockThr d →
        (15 ≤ d.xtf.good → (measure o src d).xtf.st = .locked) ∧
        (d.xtf.good < 15 → (measure o src d).xtf.st = .locking ∧ (measure o src d).xtf.good = d.xtf.good + 1)) ∧
      (d.xtf.st = .locked → d.xtf.fromUnset = false → o.natAbs ≤ stepThr d → 4 * lockThr d < o.natAbs →
        (3 ≤ d.xtf.bad → (measure o src d).xtf.st = .locking) ∧ (d.xtf.bad < 3 → (measure o src d).xtf.st = .locked ∧ (measure o src d).xtf.bad = d.xtf.bad + 1)))

/-- Pulses (R57, R92 to R94): a PPSIN pulse counts on its edge and in its window, otherwise it is rejected, and its edge is a wake
source; three missing ones lose the source. PPSOUT is low in modes 0 and 3; it rises at a multiple of its period (a second, or
PPSOUT_PERIOD), and falls PPSOUT_WIDTH later, in mode 2 after half the period where that is less. -/
def Sys2Proof.Claims.Pulses : Prop :=
  ∀ (s : State) (b : Bool), s.dev.live = true →
    (s.dev.bit XTF_PPS_PPSIN_EDGE = b → exec (.ppsinPulse b) s = .next s) ∧
    (s.dev.bit XTF_PPS_PPSIN_EDGE ≠ b → Awake s → s.dev.bit XTF_PPS_PPSIN_EN = false → exec (.ppsinPulse b) s = .next s) ∧
    (s.dev.bit XTF_PPS_PPSIN_EDGE ≠ b → ¬Awake s → s.dev.bit XTF_PPS_PPSIN_EN = false →
      exec (.ppsinPulse b) s = .next { s with dev := wakeEvent 5 s.dev }) ∧
    (s.dev.bit XTF_PPS_PPSIN_EN = true → s.dev.bit XTF_PPS_PPSIN_EDGE ≠ b → Awake s →
      (∀ l, s.dev.xtf.ppsLast = some l → ppsWindow l s.dev.xtf.el = false →
        exec (.ppsinPulse b) s = .next { s with dev := raise .PPS_REJECTED [] s.dev }) ∧
      (s.dev.xtf.ppsLast = none → DoesBy (.ppsinPulse b) s
        (fun e => measure (((s.dev.time64 - sx 32 (s.dev.ent 0x2004 3)) + 500000000) % 1000000000 - 500000000) 2 (sourceRefresh e)) (fun e =>
          e.xtf.ppsLast = some s.dev.xtf.el ∧ e.xtf.ppsMiss = 0 ∧ e.xtf.ppsCap = (s.dev.time64 - sx 32 (s.dev.ent 0x2004 3)).toNat ∧
          e = { s.dev with xtf.ppsLast := e.xtf.ppsLast, xtf.ppsMiss := 0, xtf.ppsCap := e.xtf.ppsCap }))) ∧
    (s.dev.bit XTF_PPS_PPSIN_EN = true → s.dev.xtf.ppsLast ≠ none →
      (s.dev.xtf.ppsMiss < 2 → exec .ppsMissing s = .next { s with dev := { s.dev with xtf.ppsMiss := s.dev.xtf.ppsMiss + 1 } }) ∧
      (2 ≤ s.dev.xtf.ppsMiss → DoesBy .ppsMissing s (fun e => sourceRefresh (raise .PPS_LOST [] e)) (fun e =>
        e = { s.dev with xtf.ppsLast := none, xtf.ppsMiss := 0 }))) ∧
    (s.dev.get XTF_PPS_PPSOUT_MODE = 0 ∨ s.dev.get XTF_PPS_PPSOUT_MODE = 3 →
      exec (.ppsoutEdge b) s = .next { s with dev := { s.dev with xtf.ppsOut := false } }) ∧
    (∀ p w, w = 1000000 * max 1 (s.dev.get XTF_PPS_PPSOUT_WIDTH) →
      (s.dev.get XTF_PPS_PPSOUT_MODE = 1 ∧ p = (1000000000, w)) ∨
        (s.dev.get XTF_PPS_PPSOUT_MODE = 2 ∧ p = (s.dev.get XTF_PPSOUT_PER_PERIOD, min w (s.dev.get XTF_PPSOUT_PER_PERIOD / 2))) →
      ((s.dev.xtf.ns + 10) % p.1 ≤ 20 → s.dev.xtf.ppsOut = false → exec (.ppsoutEdge true) s =
        .next { s with dev := { s.dev with xtf.ppsOut := true, xtf.ppsEnd := s.dev.now + p.2 } }) ∧
      (20 < (s.dev.xtf.ns + 10) % p.1 → exec (.ppsoutEdge true) s = .next s) ∧
      (s.dev.xtf.ppsEnd ≤ s.dev.now → exec (.ppsoutEdge false) s = .next { s with dev := { s.dev with xtf.ppsOut := false } }) ∧
      (s.dev.now < s.dev.xtf.ppsEnd → exec (.ppsoutEdge false) s = .next s))

/-- The servo (R82, R83, R509) and the pulses (R92 to R94). -/
def Obligations.ServoAndPulses : Prop := Claims.ServoLocks ∧ Claims.Pulses

/-- Captures of TSYNC (R80, R95): a configured edge stores TIME64 in a free capture; one that meets a full capture is lost and sets
OVR; a read of LO returns the low word and latches the high word for the reader, whose read of HI returns the latch and frees the
capture. An edge that is not configured does nothing. -/
def Obligations.TsyncCaptures : Prop :=
  ∀ (s : State) (ini sess : Nat) (b : Bool), s.dev.live = true →
    (s.dev.bit XTF_TSYNC_EN = true → s.dev.get XTF_TSYNC_EDGE = (if b then 0 else 1) ∨ s.dev.get XTF_TSYNC_EDGE = 2 →
      (s.dev.xtf.tsFull = false → exec (.tsyncCapture b) s =
        .next { s with dev := { s.dev with xtf.tsCap := s.dev.time64, xtf.tsFull := true } }) ∧
      (s.dev.xtf.tsFull = true → Does (.tsyncCapture b) s (fun e => e.bit XTF_TSYNC_OVR = true ∧
        (∀ f, f = XTF_TSYNC_EN ∨ f = XTF_TSYNC_EDGE → e.get f = s.dev.get f) ∧ Changes [XTF_TSYNC] s.dev e))) ∧
    (s.dev.bit XTF_TSYNC_EN = false ∨ s.dev.get XTF_TSYNC_EDGE = (if b then 1 else 0) → exec (.tsyncCapture b) s = .next s) ∧
    (ini < 8 → Does (.registerRead ini sess XTF_TSYNC_LO 4) s (fun e => e.bus = s.dev.xtf.tsCap % 2 ^ 32 ∧
        e.latchOf (readerKey ini sess) XTF_TSYNC_HI = s.dev.xtf.tsCap / 2 ^ 32 ∧
        (∀ k, k ≠ readerKey ini sess → e.latchOf k XTF_TSYNC_HI = s.dev.latchOf k XTF_TSYNC_HI) ∧
        e = { s.dev with bus := e.bus, tlatch := e.tlatch }) ∧
      Does (.tsyncHiRead ini sess) s (fun e => e.bus = s.dev.latchOf (readerKey ini sess) XTF_TSYNC_HI % 2 ^ 32 ∧
        e = { s.dev with bus := e.bus, xtf.tsFull := false }))

/-- The holdover table and the calendar (R96 to R99, R101 to R103, R283): learning fills the bin of the mean temperature of its span,
only while LOCKED; the limit is reported once, CLEAR empties the table; a leap second, a rule set, which the day book follows, and the
sun entries take their values. -/
def Obligations.HoldoverAndCalendar : Prop :=
  ∀ (s : State), s.dev.live = true →
    (∀ l, s.dev.xtf.st ≠ .locked → exec (.holdoverLearn l) s = .next s) ∧
    (∀ l, s.dev.xtf.st = .locked → Does (.holdoverLearn l) s (fun e =>
      (tabGet {} (hoBin (spanTemp s.dev)) e.xtf.bins).n = (tabGet {} (hoBin (spanTemp s.dev)) s.dev.xtf.bins).n + 1 ∧
      (∀ k, k ≠ hoBin (spanTemp s.dev) → (tabGet {} k e.xtf.bins).n = (tabGet {} k s.dev.xtf.bins).n ∧
        (tabGet {} k e.xtf.bins).f = (tabGet {} k s.dev.xtf.bins).f) ∧ rateFloor s.dev ≤ e.ent 0x2030 2 ∧
      e = { s.dev with xtf.bins := e.xtf.bins, xtf.rbSum := e.xtf.rbSum, xtf.rbN := e.xtf.rbN, xtf.learnAt := s.dev.now,
                       xtf.tBase := s.dev.xtf.tInt, xtf.tMarks := [], dict := e.dict })) ∧
    (errKnown s.dev = false → exec .holdoverLimit s = .next s) ∧
    (errKnown s.dev = true → (s.dev.xtf.limitHit = true → exec .holdoverLimit s = .next s) ∧
      (s.dev.xtf.limitHit = false → exec .holdoverLimit s =
        .next { s with dev := raise .HOLDOVER_LIMIT [] { s.dev with xtf.limitHit := true } })) ∧
    Does .holdoverClear s (fun e => e.xtf.bins = [] ∧ e.ent 0x2030 1 = 0 ∧ e.ent 0x2030 2 = rateFloor s.dev ∧
      (∀ i k, i ≠ 0x2030 → e.ent i k = s.dev.ent i k) ∧
      e = { s.dev with xtf.bins := e.xtf.bins, xtf.rbSum := e.xtf.rbSum, xtf.rbN := e.xtf.rbN, xtf.f := e.xtf.f, dict := e.dict } ∧
      (s.dev.xtf.st ≠ .holdover → e.xtf.f = s.dev.xtf.f)) ∧
    (s.dev.ent 0x2005 2 ≠ 1 → s.dev.ent 0x2005 2 ≠ 2 → exec .leapApplied s = .next s) ∧
    (∀ m k, leapDue s.dev = some (m, k) → DoesBy .leapApplied s (raise .LEAP_APPLIED [ux 16 (utcOffset s.dev + k)]) (fun e =>
      e.ent 0x2005 1 = ux 16 (utcOffset s.dev + k) ∧ e.ent 0x2005 2 = 0 ∧ e.xtf.leapAt = some (m, k) ∧
      e = { s.dev with xtf.leapAt := e.xtf.leapAt, xtf.leapIn := none, dict := e.dict })) ∧
    (∀ k v, k < 4 → v ≤ 120 → rulePairOk (s.dev.ent (0x2010 + k) 3) (s.dev.ent (0x2010 + k) 4) = true → s.dev.ldg.st = 0 →
      dayBookFull (s.dev.setEnt (0x2010 + k) 2 v) = false → DoesBy (.localtimeChanged k [(2, v)]) s (raise .LOCALTIME_CHANGED [k]) (fun e => e.ent (0x2010 + k) 2 = v ∧
        (∀ i j, (i, j) ≠ (0x2010 + k, 2) → i < 65536 → j < 256 → e.ent i j = s.dev.ent i j) ∧ e = { s.dev with dict := e.dict, floor.dirty := true })) ∧
    (∀ k v, 120 < v ∨ dayBookFull (s.dev.setEnt (0x2010 + k) 2 v) = true → exec (.localtimeChanged k [(2, v)]) s = .next s) ∧
    (s.dev.ldg.st = 0 → DoesBy .sunEventsUpdated s (raise .SUN_EVENTS_UPDATED []) (fun e =>
      e.xtf.sun.map (·.1) = [0, 1, 2].map (fun (n : Int) => today s.dev (s.dev.ent 0x2020 3) + n) ∧ e = { s.dev with xtf.sun := e.xtf.sun })) ∧
    Does .sunPosition s (fun e => e.ent 0x2022 3 = s.dev.time64 ∧ e.ent 0x2022 1 = (sunPosition s.dev s.dev.time64).1 ∧
      (∀ i k, i ≠ 0x2022 → e.ent i k = s.dev.ent i k) ∧ e = { s.dev with dict := e.dict })

/-! ### The action ledger (chapter 4) -/

namespace Sys2Proof.Claims

/-- The next occurrence `i` of entry `n` may post as a command gives it (R111, R116, R121, R124): the ledger is ON, the time base
set, the book armed, and the guard allows it. -/
def MayPost (s : State) (n i : Nat) : Prop :=
  s.dev.live = true ∧ s.dev.ldg.st = 1 ∧ tbUnset s.dev = false ∧ (∀ x ∈ s.dev.ldg.due, x.entry ≠ n) ∧
    bookArmed s.dev (n / 256) = true ∧ nextIdx s.dev n = some i ∧ isConsumed (s.dev.lent n) i = false ∧
    entryAllowed s.dev (ldgEntry s.dev n) = true

/-- Occurrence `i` of entry `n` has posted (R116, R134): consumed, stamped and counted; no other entry, register or byte of memory
changes. -/
def Posted (n i : Nat) (late : Bool) (d e : Dev) : Prop :=
  isConsumed (e.lent n) i = true ∧ (e.lent n).posted = d.time64 ∧ (e.lent n).lateLast = late ∧ (e.lent n).guardedLast = false ∧
    e.ldg.posts = d.ldg.posts + 1 ∧ e.ldg.late = d.ldg.late + late.toNat ∧ (∀ k, k ≠ n → e.lent k = d.lent k) ∧
    e = { d with ldg.ents := e.ldg.ents, ldg.posts := e.ldg.posts, ldg.late := e.ldg.late, obs := e.obs, evLog := e.evLog,
                 evSeq := e.evSeq, cyc := e.cyc, pwr.nvEvents := e.pwr.nvEvents }

/-- Flag `k` is `on`; every other flag, register and byte of memory is as before. -/
def FlagIs (k : Nat) (on : Bool) (d e : Dev) : Prop :=
  (∀ j < 64, (e.get LDG_FLAGS_LO_FLAGS + 2 ^ 32 * e.get LDG_FLAGS_HI_FLAGS).testBit j =
    if j = k then on else (d.get LDG_FLAGS_LO_FLAGS + 2 ^ 32 * d.get LDG_FLAGS_HI_FLAGS).testBit j) ∧
    RegsBut [LDG_FLAGS_LO, LDG_FLAGS_HI] d e ∧ MemSame d e

/-- The eighteen actions with codes, entry, TARGET and VALUE (R112). -/
def actions (n t v : Nat) (late : Bool) : List (Nat × Instr) :=
  [(0x00, .nop n t v late), (0x01, .cvuStart n t v late), (0x02, .cvuInject n t v late), (0x03, .slotStart n t v late),
   (0x04, .escrowPost n t v late), (0x05, .outLatch n t v late), (0x06, .regWrite n t v late), (0x07, .regSet n t v late),
   (0x08, .regClr n t v late), (0x09, .canQueue n t v late), (0x0A, .netPublish n t v late), (0x0B, .obsSnapshot n t v late),
   (0x0C, .flagSet n t v late), (0x0D, .flagClr n t v late), (0x0E, .bookArm n t v late), (0x0F, .bookDisarm n t v late),
   (0x10, .bookSwap n t v late), (0x11, .runtimeEvent n t v late)]

end Sys2Proof.Claims

/-- Actions of the ledger (R111, R112, R114, R116): an occurrence that may post is consumed and counted, and its action then has its
effect at the target: converters, engines, latches, registers, CAN, network, counters, flags, books and the runtime. -/
def Sys2Proof.Claims.LedgerActions : Prop :=
  ∀ (s : State) (n i t v : Nat) (late : Bool), MayPost s n i →
    (∀ a b, t = a + 4 * b → a < 4 → b < 4 → (a ≠ 0 → s.dev.ready 4 = true) → (b ≠ 0 → s.dev.ready 5 = true) → ∀ f : Dev → Dev,
      f = (fun e => if a = 0 then e else domainUsed 4 (cvuStart a false e)) → DoesBy (.cvuStart n t v late) s
        (fun e => if b = 0 then f e else domainUsed 5 (cvuStart (b * 4) false (f e))) (Posted n i late s.dev)) ∧
    (s.dev.ready (cvuDom (t % 4)) = true →
      DoesBy (.cvuInject n t v late) s (fun e => domainUsed (cvuDom (t % 4)) (cvuInjectPost (t % 4) v e)) (Posted n i late s.dev)) ∧
    (s.dev.ready (ceaDom (t % 32)) = true →
      DoesBy (.slotStart n t v late) s (fun e => domainUsed (ceaDom (t % 32)) (trigMask (t % 32) v e)) (Posted n i late s.dev) ∧
      DoesBy (.escrowPost n t v late) s (fun e => domainUsed (ceaDom (t % 32)) (escrowPost (t % 32) v e)) (Posted n i late s.dev)) ∧
    (s.dev.ready 6 = true → DoesBy (.outLatch n 0 v late) s (fun e => domainUsed 6 { e with mdu.latch := e.mdu.latch ||| v })
      (Posted n i late s.dev)) ∧
    (s.dev.ready 7 = true → DoesBy (.outLatch n 1 v late) s (fun e => domainUsed 7 { e with
        aio.latch := e.aio.latch ||| v
        cyc.ioBack := e.cyc.ioBack.map (fun x => { x with aio0.latch := x.aio0.latch ||| v, aio1.latch := x.aio1.latch ||| v }) }) (Posted n i late s.dev)) ∧
    (∀ k, k = (if t < 0x40320000 then 6 else 7) → s.dev.ready k = true →
      DoesBy (.regWrite n t v late) s (fun e => domainUsed k (postReg 6 t v e)) (Posted n i late s.dev) ∧
      DoesBy (.regSet n t v late) s (fun e => domainUsed k (postReg 7 t v e)) (Posted n i late s.dev) ∧
      DoesBy (.regClr n t v late) s (fun e => domainUsed k (postReg 8 t v e)) (Posted n i late s.dev)) ∧
    (s.dev.ready 9 = true → DoesBy (.canQueue n t v late) s (fun e => domainUsed 9 (txRequest (t % 8) v e)) (Posted n i late s.dev)) ∧
    (s.dev.ready 8 = true →
      DoesBy (.netPublish n t v late) s (fun e => domainUsed 8 (publish (t % 64) s.dev.time64 e)) (Posted n i late s.dev)) ∧
    DoesBy (.obsSnapshot n t v late) s snapRequest (Posted n i late s.dev) ∧
    DoesBy (.bookArm n t v late) s (fun e => { e with ldg.ctl := e.ldg.ctl ++ [(0x0E, t)] }) (Posted n i late s.dev) ∧
    DoesBy (.bookDisarm n t v late) s (fun e => { e with ldg.ctl := e.ldg.ctl ++ [(0x0F, t)] }) (Posted n i late s.dev) ∧
    DoesBy (.bookSwap n t v late) s (fun e => { e with ldg.ctl := e.ldg.ctl ++ [(0x10, t)] }) (Posted n i late s.dev) ∧
    Does (.nop n t v late) s (Posted n i late s.dev) ∧
    (s.dev.ready 0 = true ∨ s.dev.ready 1 = true → DoesBy (.runtimeEvent n t v late) s (runtimeEvent v) (Posted n i late s.dev))

/-- Flags and registers of postings (R112, R113, R114): a flag posting sets or clears its flag alone; a register posting writes, sets or
clears the bits of an actuator register without bound bits that no bus write of the cycle has met; book control arms and disarms its books, and a
swap whose incoming book is already armed only disarms. -/
def Sys2Proof.Claims.PostingEffects : Prop :=
  (∀ (s : State) (n i k v : Nat) (late : Bool), MayPost s n i → s.dev.cyc.wrote = [] → s.dev.cyc.before = [] → s.dev.cyc.ioBack = [] →
    (k < 64 → Does (.flagSet n k v late) s (FlagIs k true s.dev) ∧ Does (.flagClr n k v late) s (FlagIs k false s.dev)) ∧
    (k < 32 → s.dev.ready 7 = true → boundMask s.dev (AIO_ACTCFG k) = 0 → word v &&& reservedMask (AIO_ACTCFG k) = 0 →
      Does (.regWrite n (AIO_ACTCFG k) v late) s (fun e => e.rd (AIO_ACTCFG k) = word v ∧ RegsBut [AIO_ACTCFG k] s.dev e ∧ MemSame s.dev e) ∧
      Does (.regSet n (AIO_ACTCFG k) v late) s (fun e => e.rd (AIO_ACTCFG k) = s.dev.rd (AIO_ACTCFG k) ||| word v ∧
        RegsBut [AIO_ACTCFG k] s.dev e ∧ MemSame s.dev e) ∧
      Does (.regClr n (AIO_ACTCFG k) v late) s (fun e => e.rd (AIO_ACTCFG k) = s.dev.rd (AIO_ACTCFG k) &&& ~~~(word v) ∧
        RegsBut [AIO_ACTCFG k] s.dev e ∧ MemSame s.dev e))) ∧
    (∀ d : Dev, (∀ t, t < 16 → bookControl 0x0F t d = (disarmRequest t d).2) ∧ (∀ t, t < 16 → bookControl 0x0E t d = (armRequest t d).2.2) ∧
      (∀ a b, a < 16 → b < 16 → (bookArmed d b = false → bookControl 0x10 (a + 16 * b) d = (armRequest b (disarmRequest a d).2).2.2) ∧
        (bookArmed d b = true → bookControl 0x10 (a + 16 * b) d = (disarmRequest a d).2)))

/-- Postings of the ledger (R19, R111 to R114, R116): the actions and what they do at flags, registers and books. -/
def Obligations.LedgerPostings : Prop := Claims.LedgerActions ∧ Claims.PostingEffects

/-- Occurrences that do not post at once (R17, R111, R116 to R119, R125): without a set time base or an armed book nothing happens; a
guard consumes the occurrence unposted; one whose domain is off is held, missed or left by its late policy; due and deferred
occurrences, held parts and wakes follow. -/
def Obligations.LedgerOccurrences : Prop :=
  ∀ (s : State) (n t v : Nat) (late : Bool), s.dev.live = true →
    (s.dev.ldg.st ≠ 1 ∨ tbUnset s.dev = true ∨ (bookArmed s.dev (n / 256) = false ∧ s.dev.ldg.due = []) →
      ∀ c ∈ actions n t v late, exec c.2 s = .next s) ∧
    (∀ i, s.dev.ldg.st = 1 → tbUnset s.dev = false → s.dev.ldg.due = [] → bookArmed s.dev (n / 256) = true → nextIdx s.dev n = some i →
      isConsumed (s.dev.lent n) i = false → entryAllowed s.dev (ldgEntry s.dev n) = false → ∀ c ∈ actions n t v late,
      Does c.2 s (fun e => isConsumed (e.lent n) i = true ∧ (e.lent n).guardedLast = true ∧ e.ldg.guarded = s.dev.ldg.guarded + 1 ∧
        e.ldg.posts = s.dev.ldg.posts ∧ (∀ k, k ≠ n → e.lent k = s.dev.lent k) ∧ RegsBut [] s.dev e ∧ MemSame s.dev e)) ∧
    (∀ i, MayPost s n i → s.dev.ready 9 = false →
      ((ldgEntry s.dev n).late = 0 → s.dev.held = [] → s.dev.pwr.buck = true → s.dev.pwr.save = .none → s.dev.pwr.thermalOff = false →
        Does (.canQueue n t v late) s (fun e => e.held = [(9, .action 9 t v n i true)] ∧ isConsumed (e.lent n) i = true ∧
          e.bitN PMC_DOMSTAT_ON 9 = true ∧ e.ldg.posts = s.dev.ldg.posts ∧ RegsBut [PMC_DOMSTAT] s.dev e)) ∧
      ((ldgEntry s.dev n).late = 1 → Does (.canQueue n t v late) s (fun e => e.held = s.dev.held ∧ isConsumed (e.lent n) i = true ∧
        e.ldg.missed = s.dev.ldg.missed + 1 ∧ e.ldg.posts = s.dev.ldg.posts ∧ RegsBut [] s.dev e))) ∧
    (dueIdx s.dev n = none → exec (.occurrenceDue n) s = .next s) ∧
    (∀ i, dueIdx s.dev n = some i → s.dev.ldg.due = [] →
      exec (.occurrenceDue n) s = .next { s with dev := { s.dev with ldg.due := [⟨n, i, false⟩] } }) ∧
    (s.dev.ldg.st ≠ 1 → exec .deferredPosting s = .next s) ∧
    (s.dev.ldg.st = 1 → s.dev.ldg.due.length ≤ 64 → s.dev.ldg.old = 0 → DoesBy .deferredPosting s
      (fun e => (dueOrder s.dev).foldl (fun d x => ldgOccur (ldgEntry d x.entry).action x.entry x.idx x.late (ldgEntry d x.entry).target
        (ldgEntry d x.entry).value d) e) (fun e => e = { s.dev with ldg.due := [], ldg.old := 0 })) ∧
    (s.dev.ready t = false → exec (.heldPostingApply t) s = .next s) ∧
    (s.dev.ready t = true → DoesBy (.heldPostingApply t) s
      (fun e => (s.dev.held.filter (fun h => h.1 = t && heldAllowed s.dev h.2)).foldl (fun d h => domainUsed t (heldApply h.2 d)) e)
      (fun e => e = { s.dev with held := s.dev.held.filter (fun h => h.1 ≠ t) })) ∧
    (∀ i, MayPost s n i → s.dev.pwr.buck = true → s.dev.pwr.save = .none → s.dev.pwr.thermalOff = false →
      ∀ l, l = actionDomains s.dev (ldgEntry s.dev n).action (ldgEntry s.dev n).target (ldgEntry s.dev n).value → l ≠ [] →
      Does (.ledgerWake n) s (fun e => (∃ x ∈ e.ldg.wakes, x.entry = n ∧ x.idx = i ∧ x.doms = l) ∧
        (∀ k ∈ l, k < 12 → (k < 2 → halfAvailable s.dev k = true) → e.bitN PMC_DOMSTAT_ON k = true) ∧
        (2 ≤ s.dev.get PMC_PSTATE_STATE → e.get PMC_PSTATE_STATE = 0) ∧ e.ldg = { s.dev.ldg with wakes := e.ldg.wakes } ∧ MemSame s.dev e))

/-- Arming, disarming and committing (R106, R115, R121, R122, R130, R132): before step 9 requests are recorded; an armed book has
passed the check of every entry; a committed entry holds the staged words; a book's image is kept. -/
def Obligations.LedgerBooks : Prop :=
  ∀ (s : State) (ini sess b : Nat) (m : Word), b < 16 → (∀ i < 6, m.getLsbD i = true) →
    (Takes s ini sess LDG_BOOKCMD (b + 16) m →
      (s.dev.ldg.st = 0 → Does (.ldgArm ini sess b) s (fun e => e.get LDG_BOOKCMD_RESULT = 0 ∧ e.ldg.reqArm.testBit b = true ∧
        e.ldg.reqDis.testBit b = false ∧ e.ldg.armed = s.dev.ldg.armed ∧ RegsBut [LDG_BOOKCMD] s.dev e)) ∧
      (s.dev.ldg.st = 2 → Does (.ldgArm ini sess b) s (fun e => e.get LDG_BOOKCMD_RESULT = 5 ∧ Changes [LDG_BOOKCMD] s.dev e)) ∧
      (s.dev.ldg.st = 1 → bookArmed s.dev b = false → ∀ i c, bookCheck s.dev b = some (i, c) → c < 8 → Does (.ldgArm ini sess b) s (fun e =>
        e.get LDG_BOOKCMD_RESULT = c ∧ e.get LDG_BOOKCMD_FAIL_ENTRY = i % 256 ∧ Changes [LDG_BOOKCMD] s.dev e)) ∧
      (s.dev.ldg.st = 1 → bookArmed s.dev b = false → bookCheck s.dev b = none → Does (.ldgArm ini sess b) s (fun e =>
        e.get LDG_BOOKCMD_RESULT = 0 ∧ bookArmed e b = true ∧ (∀ k, k ≠ b → bookArmed e k = bookArmed s.dev k) ∧
        (tbUnset s.dev = false → ∀ i < 256, (ldgEntry s.dev (b * 256 + i)).en = true → (e.lent (b * 256 + i)).start = s.dev.time64) ∧
        RegsBut [LDG_BOOKCMD] s.dev e ∧ MemSame s.dev e))) ∧
    (Takes s ini sess LDG_BOOKCMD (b + 32) m →
      (s.dev.ldg.st = 0 → Does (.ldgDisarm ini sess b) s (fun e => e.get LDG_BOOKCMD_RESULT = 0 ∧ e.ldg.reqArm.testBit b = false ∧
        e.ldg.reqDis.testBit b = true ∧ RegsBut [LDG_BOOKCMD] s.dev e)) ∧
      (s.dev.ldg.st = 1 → Does (.ldgDisarm ini sess b) s (fun e => e.get LDG_BOOKCMD_RESULT = 0 ∧ bookArmed e b = false ∧
        (∀ k, k ≠ b → bookArmed e k = bookArmed s.dev k) ∧ e.ldg.ents = s.dev.ldg.ents ∧ RegsBut [LDG_BOOKCMD] s.dev e ∧ MemSame s.dev e))) ∧
    (∀ i nv, s.dev.live = true → ini < 8 → i < 256 → ∀ c, c = entryCheck b (LWords.ofNat (stagedEntry s.dev)) →
      (c ≠ 0 → c < 8 → Does (.ldgCommit ini sess (b * 256 + i) nv) s (fun e => e.get LDG_COMMIT_RESULT = c ∧ Changes [LDG_COMMIT] s.dev e)) ∧
      (c = 0 → b ≤ 11 ∨ b = 15 → Does (.ldgCommit ini sess (b * 256 + i) false) s (fun e =>
        e.get LDG_COMMIT_RESULT = 6 ∧ e.ldg = s.dev.ldg ∧ (∀ k, e.ent (0x2110 + k) 4 = s.dev.ent (0x2110 + k) 4) ∧
        (∀ a, domainOf a ≠ some 10 → a ≠ LDG_COMMIT → e.rd a = s.dev.rd a) ∧ MemSame s.dev e)) ∧
      (c = 0 → b = 12 ∨ b = 13 ∨ b = 14 ∨ nv = true → (∀ x ∈ s.dev.ldg.due, x.entry ≠ b * 256 + i) → dueIdx s.dev (b * 256 + i) = none →
        Does (.ldgCommit ini sess (b * 256 + i) nv) s (fun e => e.get LDG_COMMIT_RESULT = 0 ∧
          ldgEntry e (b * 256 + i) = LWords.ofNat (stagedEntry s.dev) ∧ (e.lent (b * 256 + i)).start = s.dev.time64 ∧
          (∀ j, j < 4096 → j ≠ b * 256 + i → ldgEntry e j = ldgEntry s.dev j ∧ e.lent j = s.dev.lent j)))) ∧
    (∀ r image, Writes (.bookImageWrite r b image) s r true (0x2110 + b) 4 image (fun _ d e =>
      e.ent (0x2110 + b) 4 = image.val % 256 ^ image.len ∧ (∀ k, k ≠ b → e.ent (0x2110 + k) 4 = d.ent (0x2110 + k) 4)))

/-! ### Converter units (chapters 5 and 6) -/

namespace Sys2Proof.Claims

/-- Of the device only the store of unit `u` differs, which is `x`. -/
def UnitIs (u : Nat) (x : CvuS) (d e : Dev) : Prop :=
  e.cvuS u = x ∧ (∀ v, v ≠ u → e.cvuS v = d.cvuS v) ∧ e = { d with cvu := e.cvu }

/-- Slice `k` of unit `u` is `x`, every other slice and the rest of the unit are as before. -/
def SliceIs (u k : Nat) (x : SliceS) (d e : Dev) : Prop :=
  sliceAt e u k = x ∧ (∀ j, j < 9 → j ≠ k → sliceAt e u j = sliceAt d u j) ∧
    e.cvuS u = { d.cvuS u with slices := (e.cvuS u).slices }

/-- The nine slices of a unit are there, and its rate is that of its good count (R142, R147). -/
def UnitWf (d : Dev) (u : Nat) : Prop := (d.cvuS u).slices.length = 9 ∧ (d.cvuS u).rate = rateOf (goodCount (d.cvuS u))

end Sys2Proof.Claims

/-- Calibration windows (R142, R145, R146, R152): a window of a TRIAL slice that passes stores its corrections and counts, one that fails
retires it again; a window of the reserve that passes stores its corrections and hands the reserve on to the next slice where that is ACTIVE,
and a first failure marks it suspect and keeps the corrections; requalification puts retired slices on trial. -/
def Sys2Proof.Claims.CalibrationWindows : Prop :=
  ∀ (s : State) (u k : Nat) (off gain : Int), u < 4 → k < 9 → On s [cvuDom u] → UnitWf s.dev u →
    (∀ l, (sliceAt s.dev u k).st = 3 → measOk off gain = true → DoesBy (.calWindowEnd u k off gain l) s (cvuShow u) (fun e =>
      SliceIs u k { sliceAt s.dev u k with off := off, gain := gain, cOff := off, cGain := gain, win := 0,
                                           passes := Nat.min ((sliceAt s.dev u k).passes + 1) 3, temp := s.dev.sget THM_MEAN_MEAN } s.dev e ∧
        e = { s.dev with cvu := e.cvu })) ∧
    (∀ l, (sliceAt s.dev u k).st = 3 → measOk off gain = false → DoesBy (.calWindowEnd u k off gain l) s (cvuShow u) (fun e =>
      SliceIs u k { sliceAt s.dev u k with off := clampI (-2048) 2047 off, gain := clampI (-2048) 2047 gain, win := 0, st := 2, pos := 15,
                                           passes := 0 } s.dev e ∧ e.bit (CVU_EVT_REQUAL_FAIL u) = true ∧
        RegsBut [(CVU_EVT_REQUAL_FAIL u).addr] s.dev e ∧ MemSame s.dev e)) ∧
    ((sliceAt s.dev u k).st = 1 → (s.dev.cvuS u).mode = 0 → measOk off gain = true → (sliceAt s.dev u ((k + 1) % 9)).st = 0 →
      DoesBy (.calWindowEnd u k off gain []) s (cvuShow u) (fun e =>
        sliceAt e u k = { sliceAt s.dev u k with off := off, gain := gain, cOff := off, cGain := gain, win := 0, suspect := false,
                                                 temp := s.dev.sget THM_MEAN_MEAN, st := 0, pos := (sliceAt s.dev u ((k + 1) % 9)).pos } ∧
        sliceAt e u ((k + 1) % 9) = { sliceAt s.dev u ((k + 1) % 9) with st := 1, pos := 15, win := 0 } ∧
        (∀ j, j < 9 → j ≠ k → j ≠ (k + 1) % 9 → sliceAt e u j = sliceAt s.dev u j) ∧
        (e.cvuS u).rounds = (s.dev.cvuS u).rounds + (if k = 8 then 1 else 0) ∧ e = { s.dev with cvu := e.cvu })) ∧
    (∀ l, (sliceAt s.dev u k).st = 1 → (s.dev.cvuS u).mode = 0 → measOk off gain = false → (sliceAt s.dev u k).suspect = false →
      (sliceAt s.dev u k).trial = false → DoesBy (.calWindowEnd u k off gain l) s (cvuShow u) (fun e =>
        SliceIs u k { sliceAt s.dev u k with off := clampI (-2048) 2047 off, gain := clampI (-2048) 2047 gain, win := 0,
                                             suspect := true } s.dev e ∧
        e = { s.dev with cvu := e.cvu })) ∧
    (∀ l, (sliceAt s.dev u k).st = 0 ∨ (sliceAt s.dev u k).st = 2 → exec (.calWindowEnd u k off gain l) s =
      .next { s with dev := cvuShow u s.dev }) ∧
    (∀ mask, mask < 512 → DoesBy (.requalify u mask) s (cvuShow u) (fun e =>
      (∀ j, j < 9 → sliceAt e u j = if mask.testBit j ∧ (sliceAt s.dev u j).st = 2 then { sliceAt s.dev u j with st := 3, passes := 0, win := 0 }
        else sliceAt s.dev u j) ∧ (e.cvuS u) = { s.dev.cvuS u with slices := (e.cvuS u).slices } ∧ e = { s.dev with cvu := e.cvu }))

/-- Foreground windows (R149, R150): a window becomes pending in FOREGROUND mode or on request and asks for its domain; it starts with the
queue empty at an entry boundary; at the end of one that measured nothing, with no pass in progress, the requests that waited are served
and nothing else changes. -/
def Sys2Proof.Claims.ForegroundWindows : Prop :=
  ∀ (s : State) (u : Nat), u < 4 → On s [cvuDom u] → UnitWf s.dev u →
    ((s.dev.cvuS u).mode ≠ 1 → exec (.fgcalPending u) s = .next s) ∧
    ((s.dev.cvuS u).fgPend = none →
      ((s.dev.cvuS u).mode = 1 → DoesBy (.fgcalPending u) s (fun e => cvuShow u (wakeDomain (cvuDom u) e))
        (UnitIs u { s.dev.cvuS u with fgPend := some s.dev.now } s.dev)) ∧
      ((s.dev.cvuS u).mode ≠ 2 → DoesBy (.fgcalNow u) s (fun e => cvuShow u (wakeDomain (cvuDom u) e))
        (UnitIs u { s.dev.cvuS u with fgPend := some s.dev.now } s.dev))) ∧
    ((s.dev.cvuS u).mode = 2 ∨ (s.dev.cvuS u).fgPend ≠ none → exec (.fgcalNow u) s = .next { s with dev := cvuShow u s.dev }) ∧
    (((s.dev.cvuS u).conv = none → (s.dev.cvuS u).queue = [] → (s.dev.cvuS u).fgBusy = false → (s.dev.cvuS u).fgPend ≠ none →
      DoesBy (.fgcalStart u) s (cvuShow u)
        (UnitIs u { s.dev.cvuS u with fgBusy := true, fgPend := none, fgLast := s.dev.time64, chain := [], gap := true } s.dev))) ∧
    ((s.dev.cvuS u).conv ≠ none ∨ (s.dev.cvuS u).queue ≠ [] ∨ (s.dev.cvuS u).fgPend = none ∨ (s.dev.cvuS u).fgBusy = true →
      exec (.fgcalStart u) s = .next { s with dev := cvuShow u s.dev }) ∧
    ((s.dev.cvuS u).fgBusy = false → ∀ l, exec (.fgcalEnd u l) s = .next { s with dev := cvuShow u s.dev }) ∧
    ((s.dev.cvuS u).fgBusy = true → (s.dev.cvuS u).conv = none → (s.dev.cvuS u).on = false → (s.dev.cvuS u).mode ≠ 2 →
      seqOn s.dev u = true →
      ((s.dev.cvuS u).queue = [] → (s.dev.cvuS u).heldQ = [] → (s.dev.cvuS u).fgPend = none → DoesBy (.fgcalEnd u []) s (cvuShow u)
        (UnitIs u { s.dev.cvuS u with fgBusy := false } s.dev)) ∧
      (∀ w l, (s.dev.cvuS u).heldQ ++ (s.dev.cvuS u).queue = w :: l → DoesBy (.fgcalEnd u []) s (cvuShow u)
        (UnitIs u { s.dev.cvuS u with fgBusy := false, heldQ := [], queue := l, conv := some (.inj w), chain := [], gap := true } s.dev)))

/-- Excitation sources and calibration sets (R140, R155): a source at compliance reads OPEN until it is below again; a set that passes its
checks is stored in the inactive bank; one that fails them and one for the active bank are answered with an error. -/
def Sys2Proof.Claims.ExcitationAndSets : Prop :=
  ∀ (s : State), s.dev.live = true →
    (∀ j, j < 8 → s.dev.ready 5 = true →
      DoesBy (.excCompliance j false) s (cvuShow 3) (fun e => e.bit (CVU_EXC_OPEN j) = false ∧ Changes [(CVU_EXC_OPEN j).addr] s.dev e) ∧
      DoesBy (.excCompliance j true) s (cvuShow 3) (fun e => e.bit (CVU_EXC_OPEN j) = true ∧
        (s.dev.bit (CVU_EXC_OPEN j) = true → Changes [] s.dev e) ∧
        (s.dev.bit (CVU_EXC_OPEN j) = false → e.bit (CVU_EVT_EXC_OPEN 3) = true ∧
          RegsBut [(CVU_EXC_OPEN j).addr, (CVU_EVT_EXC_OPEN 3).addr] s.dev e ∧ MemSame s.dev e))) ∧
    (∀ r u bank l, u < 4 → bank < 2 →
      Writes (.calsetWrite r ⟨u, bank⟩ l) s r false (0x3020 + u) (2 + bank) ⟨l.length, (Blob.ofBytes l).val⟩ (fun _ d e =>
        bank ≠ (d.cvuS u).bank ∧ calsetOk (Blob.ofBytes l).val = true ∧ e.ent (0x3020 + u) (2 + bank) = (Blob.ofBytes l).val) ∧
      (∀ role x d, l ≠ [] → bank = (d.cvuS u).bank ∨ calsetOk (Blob.ofBytes l).val = false →
        (entWrite role x false (0x3020 + u) (2 + bank) ⟨l.length, (Blob.ofBytes l).val⟩ d).1 ≠ 0))

/-- Calibration (R140, R143 to R146, R149, R150, R152, R155): slices, foreground windows, excitation sources and sets. -/
def Obligations.CalibrationAndExcitation : Prop := Claims.CalibrationWindows ∧ Claims.ForegroundWindows ∧ Claims.ExcitationAndSets

/-- The sequence (R164, R166 to R169): enabling checks the configuration and names what fails; disabling ends the pass and misses a trigger
of its cycle, whose pass is then not counted; a trigger of an idle unit starts a pass at its first entry; one of a disabled unit is missed; one that meets a running pass is
settled at the end of the cycle, where POLICY counts it as missed, latches it, or abandons the pass for a new one. -/
def Obligations.ConverterSequence : Prop :=
  ∀ (s : State) (u : Nat), u < 4 → On s [cvuDom u] →
    (seqOn s.dev u = true → exec (.seqEnable u) s = .next { s with dev := cvuShow u s.dev }) ∧
    (seqOn s.dev u = false → (seqCheck s.dev u).1 ≠ 0 → (seqCheck s.dev u).1 < 8 → DoesBy (.seqEnable u) s
      (fun e => cvuShow u (ctxPut (CVU_SEQ_CTRL u) 1 1 e)) (fun e => seqOn e u = false ∧ e.get (CVU_CFGERR_CODE u) = (seqCheck s.dev u).1 ∧
        e.get (CVU_CFGERR_ENTRY u) = (seqCheck s.dev u).2.1 % 32 ∧ e.get (CVU_CFGERR_PROFILE u) = (seqCheck s.dev u).2.2 % 4 ∧
        RegsBut [CVU_CFGERR u, CVU_SEQ_CTRL u] s.dev e ∧ e.cvu = s.dev.cvu ∧ MemSame s.dev e)) ∧
    (seqOn s.dev u = false → (seqCheck s.dev u).1 = 0 → DoesBy (.seqEnable u) s
      (fun e => cvuShow u (ctxPut (CVU_SEQ_CTRL u) 1 1 (cvuShow u (cvuNext u (profShow u e))))) (fun e => seqOn e u = true ∧
        e.get (CVU_CFGERR_CODE u) = 0 ∧ Changes [CVU_CFGERR u, CVU_SEQ_CTRL u] s.dev e)) ∧
    DoesBy (.seqDisable u) s (fun e => cvuShow u (ctxPut (CVU_SEQ_CTRL u) 0 1 (cvuShow u e))) (fun e => seqOn e u = false ∧
      (e.cvuS u).on = false ∧ (e.cvuS u).latched = false ∧ (e.cvuS u).conv ≠ some .reg ∧ (e.cvuS u).queue = (s.dev.cvuS u).queue ∧
      (e.cvuS u).missed = (s.dev.cvuS u).missed + (if u ∈ s.dev.cyc.cvuTrig ∧ u + 12 ∉ s.dev.cyc.cvuTrig then 1 else 0) ∧
      (e.cvuS u).slices = (s.dev.cvuS u).slices ∧ RegsBut [CVU_SEQ_CTRL u, CVU_TRIGCNT u, CVU_PASS u] s.dev e ∧ MemSame s.dev e ∧
      (u ∉ s.dev.cyc.cvuTrig ∨ u + 12 ∈ s.dev.cyc.cvuTrig ∨ u + 4 ∉ s.dev.cyc.cvuTrig → e.rd (CVU_PASS u) = s.dev.rd (CVU_PASS u)) ∧
      (∀ t l, u ∈ s.dev.cyc.cvuTrig → u + 12 ∉ s.dev.cyc.cvuTrig → u + 4 ∈ s.dev.cyc.cvuTrig → s.dev.cyc.passNew = (u, t) :: l →
        e.get (CVU_PASS_PASS u) = (s.dev.get (CVU_PASS_PASS u) + (2 ^ 32 - 1)) % 2 ^ 32 ∧ (e.cvuS u).passAt = t)) ∧
    (u ∈ s.dev.cyc.cvuTrig → exec (.seqStart u) s = .next s) ∧
    (u ∉ s.dev.cyc.cvuTrig →
      (seqOn s.dev u = false → DoesBy (.seqStart u) s (cvuShow u) (fun e =>
        (e.cvuS u).missed = (s.dev.cvuS u).missed + 1 ∧ e.cvuS u = { s.dev.cvuS u with missed := (e.cvuS u).missed } ∧
        e.get (CVU_TRIGCNT_MISSED u) = Nat.min (s.dev.get (CVU_TRIGCNT_MISSED u) + 1) 65535 ∧
        RegsBut [CVU_TRIGCNT u] s.dev e ∧ MemSame s.dev e)) ∧
      (seqOn s.dev u = true → (s.dev.cvuS u).mode ≠ 2 → (s.dev.cvuS u).fgBusy = false → (s.dev.cvuS u).on = false →
        (s.dev.cvuS u).conv = none → (s.dev.cvuS u).queue = [] → (s.dev.cvuS u).latched = false → pacedNow s.dev u = false → DoesBy (.seqStart u) s (cvuShow u) (fun e =>
          e.get (CVU_PASS_PASS u) = (s.dev.get (CVU_PASS_PASS u) + 1) % 2 ^ 32 ∧ (e.cvuS u).passAt = some s.dev.now ∧
          (∀ x, nextEntry s.dev u 0 = some x → (e.cvuS u).on = true ∧ (e.cvuS u).entry = x ∧ (e.cvuS u).conv = some .reg ∧
            (e.cvuS u).late = false) ∧
          (nextEntry s.dev u 0 = none → (e.cvuS u).on = false ∧ (e.cvuS u).conv = none) ∧ RegsBut [CVU_PASS u] s.dev e ∧
          MemSame s.dev e)) ∧
      (seqOn s.dev u = true → s.dev.bit (CVU_SEQ_CTRL_MODE u) = false → (s.dev.cvuS u).mode ≠ 2 → (s.dev.cvuS u).fgBusy = false →
        (s.dev.cvuS u).on = true → u ∉ s.dev.cyc.passEnd → DoesBy (.seqStart u) s (cvuShow u) (fun e =>
          e = { s.dev with cyc.cvuTrig := u :: s.dev.cyc.cvuTrig, cyc.trigRun := (u, false) :: s.dev.cyc.trigRun }))) ∧
    (∀ held, s.dev.cyc.trigRun = [(u, held)] → trigEnd s.dev = cvuShow u (trigPolicy u held { s.dev with cyc.trigRun := [] })) ∧
    (∀ held e, e = trigPolicy u held s.dev →
      (s.dev.get (CVU_SEQ_CTRL_POLICY u) = 1 ∨ (s.dev.get (CVU_SEQ_CTRL_POLICY u) = 0 ∧ (s.dev.cvuS u).latched = true) →
        e.cvuS u = { s.dev.cvuS u with missed := (s.dev.cvuS u).missed + 1 } ∧ RegsBut [CVU_TRIGCNT u] s.dev e ∧ MemSame s.dev e) ∧
      (s.dev.get (CVU_SEQ_CTRL_POLICY u) = 0 → (s.dev.cvuS u).latched = false →
        UnitIs u { s.dev.cvuS u with latched := true } s.dev e) ∧
      (s.dev.get (CVU_SEQ_CTRL_POLICY u) = 2 → (s.dev.cvuS u).conv = some .reg → pacedNow s.dev u = false →
        (e.cvuS u).restarted = (s.dev.cvuS u).restarted + 1 ∧ (e.cvuS u).passAt = some s.dev.now ∧
          (∀ x, nextEntry s.dev u 0 = some x → (e.cvuS u).on = true ∧ (e.cvuS u).entry = x ∧ (e.cvuS u).conv = some .reg ∧
            (e.cvuS u).done = 0 ∧ (e.cvuS u).late = held)))

/-- A bus write has put a request in the queue of unit `u`, `first` where its conversion has begun: the cycle notes it (R171). -/
def Sys2Proof.Claims.noted (u : Nat) (first : Bool) (d e : Dev) : Dev :=
  { e with cyc.injBus := tabIns u ((tabGet (0, false) u d.cyc.injBus).1 + 1, (tabGet (0, false) u d.cyc.injBus).2 || first) d.cyc.injBus }

/-- Injected requests (R171, R172): one that is refused is counted as lost; one that is taken joins the queue, and an idle unit
converts it at once. -/
def Sys2Proof.Claims.InjectedRequests : Prop :=
  ∀ (s : State) (u w : Nat), u < 4 → On s [cvuDom u] →
    (injRefusal s.dev u w ≠ 0 → DoesBy (.cvuInjWrite u w) s (cvuShow u) (fun e =>
      e.cvuS u = { s.dev.cvuS u with lost := (s.dev.cvuS u).lost + 1 } ∧
      e.get (CVU_INJSTAT_LOST u) = Nat.min (s.dev.get (CVU_INJSTAT_LOST u) + 1) 255 ∧ RegsBut [CVU_INJSTAT u] s.dev e ∧ MemSame s.dev e)) ∧
    (injRefusal s.dev u w = 0 → (s.dev.cvuS u).mode ≠ 2 → (s.dev.cvuS u).fgPend = none → (s.dev.cvuS u).fgBusy = false →
      ((s.dev.cvuS u).on = false → (s.dev.cvuS u).conv = none → (s.dev.cvuS u).queue = [] → DoesBy (.cvuInjWrite u w) s (fun e => noted u true s.dev (cvuShow u e))
        (UnitIs u { s.dev.cvuS u with conv := some (.inj w), chain := [], gap := true } { s.dev with cyc.cvuTrig := (u + 8) :: s.dev.cyc.cvuTrig })) ∧
      (∀ x, (s.dev.cvuS u).conv = some (.inj x) → DoesBy (.cvuInjWrite u w) s (fun e => noted u false s.dev (cvuShow u e))
        (UnitIs u { s.dev.cvuS u with queue := (s.dev.cvuS u).queue ++ [w] } s.dev)) ∧
      ((s.dev.cvuS u).conv = some .reg → s.dev.bit (CVU_SEQ_CTRL_INJ_MODE u) = true → DoesBy (.cvuInjWrite u w) s
        (fun e => noted u false s.dev (cvuShow u e))
        (UnitIs u { s.dev.cvuS u with queue := (s.dev.cvuS u).queue ++ [w] } s.dev)))

/-- Results (R165, R178, R181, R183): without a conversion nothing is delivered, nor from samples that do not fill the span of the result or do not follow those before; the
result that is due stands in the latest-value entry and at its port, as 24 and 16 bits, and the sequence then goes on. -/
def Sys2Proof.Claims.ResultsDelivered : Prop :=
  ∀ (s : State) (u k : Nat) (l : List Int) (high aged : Bool) (t : Nat), u < 4 → On s [cvuDom u] →
    (∀ x, x = s.dev.cvuS u → x.conv = none ∨ x.fgBusy = true ∨ x.mode = 2 ∨ dueSpan s.dev u k l high = none ∨
        (x.conv = some .reg ∧ sampOk x k = false) →
      exec (.resultDelivery u ⟨k, l⟩ high aged t) s = .next { s with dev := cvuShow u s.dev }) ∧
    (∀ x p r, dueSpan s.dev u k l high = some p → x = s.dev.cvuS u → x.fgBusy = false → x.mode ≠ 2 → x.conv = some .reg → sampOk x k = true → x.entry < 32 →
      s.dev.bit (CVU_SEQE_EVT u x.entry) = false → (∀ j < 16, s.dev.bit (CVU_SCFG_EN u j) = false) →
      r = makeRes s.dev u (s.dev.get (CVU_SEQE_INPUT u x.entry)) (s.dev.get (CVU_SEQE_PROFILE u x.entry)) x.entry false x.late p high aged t →
      DoesBy (.resultDelivery u ⟨k, l⟩ high aged t) s (fun e => cvuShow u (afterReg u (calSat u r.2 e))) (fun e =>
        e.ent (0x3130 + u) (x.entry + 1) = (if r.1.invalid then 0x80000000 else ux 32 r.1.value) ∧
        tabGet (0, false) (u * 32 + x.entry) e.cea.conv = (r.1.v16, r.1.invalid) ∧
        (∀ i j, j < 256 → (i, j) ≠ (0x3130 + u, x.entry + 1) → e.ent i j = s.dev.ent i j) ∧ e.cvuS u = { x with chain := p, samp := k + l.length, gap := false } ∧
        (∀ v, v ≠ u → e.cvuS v = s.dev.cvuS v) ∧ RegsBut [] s.dev e ∧
        MemSame s.dev e)) ∧
    (∀ x w p r, dueSpan s.dev u k l high = some p → x = s.dev.cvuS u → x.fgBusy = false → x.mode ≠ 2 → x.conv = some (.inj w) → w < 65536 →
      (∀ j < 16, s.dev.bit (CVU_SCFG_EN u j) = false) →
      r = makeRes s.dev u (w % 32) (w / 32 % 4) (w / 256 % 256) true false p high aged t → r.2 = false →
      DoesBy (.resultDelivery u ⟨k, l⟩ high aged t) s (fun e => cvuShow u (cvuNext u (e.setCvu u { e.cvuS u with conv := none })))
        (fun e => e.ent (0x3130 + u) 33 = (if r.1.invalid then 0x80000000 else ux 32 r.1.value)))

/-- Injected requests (R171, R172) and results (R165, R178, R181, R183). -/
def Obligations.RequestsAndResults : Prop := Claims.InjectedRequests ∧ Claims.ResultsDelivered

/-- Streams (R180, R182 to R184): enabling checks the ring and starts it empty; a consumer moves RD to a whole position inside the ring
and any other value is refused; a result enters a ring that has room at WR, which moves on by one word. -/
def Obligations.StreamsAndRings : Prop :=
  ∀ (s : State) (u k : Nat), u < 4 → k < 16 → On s [cvuDom u] →
    (s.dev.bit (CVU_SCFG_EN u k) = true → exec (.streamEnable u k) s = .next { s with dev := cvuShow u s.dev }) ∧
    (s.dev.bit (CVU_SCFG_EN u k) = false →
      (streamCheck s.dev u k = 0 → DoesBy (.streamEnable u k) s (fun e => cvuShow u (ctxPut (CVU_SCFG u k) 1 1 e)) (fun e =>
        e.bit (CVU_SCFG_EN u k) = true ∧ e.get (CVU_SCFG_CFG_ERR u k) = 0 ∧ e.get (CVU_SWR_WR u k) = 0 ∧ e.get (CVU_SRD_RD u k) = 0 ∧
        e.get (CVU_SCNT_WCOUNT u k) = 0 ∧ e.get (CVU_SSTAT_LOST u k) = 0 ∧
        Changes [CVU_SCFG u k, CVU_SWR u k, CVU_SRD u k, CVU_SCNT u k, CVU_SSTAT u k] s.dev e)) ∧
      (streamCheck s.dev u k ≠ 0 → DoesBy (.streamEnable u k) s (fun e => cvuShow u (ctxPut (CVU_SCFG u k) 1 1 e)) (fun e =>
        e.bit (CVU_SCFG_EN u k) = false ∧ e.get (CVU_SCFG_CFG_ERR u k) = streamCheck s.dev u k ∧ RegsBut [CVU_SCFG u k] s.dev e ∧
        MemSame s.dev e))) ∧
    (∀ v, v < 2 ^ 20 → ∀ z, z = ringSize (s.dev.get (CVU_SCFG_FMT u k)) →
      (v % z ≠ 0 ∨ s.dev.get (CVU_SLEN_LEN u k) ≤ v → s.dev.get (CVU_SRD_RD u k) ≠ v → DoesBy (.ringRdWrite u k v) s (cvuShow u) (fun e =>
        e.bit (CVU_SSTAT_RD_BAD u k) = true ∧ e.get (CVU_SRD_RD u k) = s.dev.get (CVU_SRD_RD u k) ∧ Changes [CVU_SSTAT u k] s.dev e)) ∧
      (v % z = 0 → v < s.dev.get (CVU_SLEN_LEN u k) → 16 * u + k ∉ s.dev.cyc.ringAdv → DoesBy (.ringRdWrite u k v) s
        (fun e => cvuShow u (ctxPut (CVU_SRD u k) (BitVec.ofNat 32 v) (wMask 0 20) e)) (fun e =>
        e.get (CVU_SRD_RD u k) = v ∧ Changes [CVU_SRD u k] s.dev e))) ∧
    (∀ r z wr len, z = ringSize (s.dev.get (CVU_SCFG_FMT u k)) → wr = s.dev.get (CVU_SWR_WR u k) → len = s.dev.get (CVU_SLEN_LEN u k) →
      (wr + z) % len ≠ s.dev.get (CVU_SRD_RD u k) → s.dev.get (CVU_SCFG_THRESH u k) = 0 → 0 < len →
      (∀ x ∈ s.dev.cyc.ringRd, x.1 ≠ 16 * u + k) → ∀ e, e = ringPut u k r s.dev →
        memRead e.sram (s.dev.get (CVU_SBASE_BASE u k) + wr) z =
          ringWord (s.dev.get (CVU_SCFG_FMT u k)) (s.dev.get (CVU_PASS_PASS u)) r % 256 ^ z ∧
        e.get (CVU_SWR_WR u k) = (wr + z) % len ∧
        (∀ a, a < s.dev.get (CVU_SBASE_BASE u k) + wr ∨ s.dev.get (CVU_SBASE_BASE u k) + wr + z ≤ a → memByte e.sram a = memByte s.dev.sram a) ∧
        RegsBut [CVU_SWR u k, CVU_SCNT u k] s.dev e)
/-! ### The instructions of the control engines (chapter 7) -/

namespace Sys2Proof.Claims

/-- Engine `n` of a live device may execute the word `i`: its domain is ready, it has run `r` of program words in progress below the
cycle limit and within program memory, and the word that it has reached has the fields of `i` and passes the word check. -/
def At (n : Nat) (r : Run) (s : State) (i : CeWord) : Prop :=
  On s [ceaDom n] ∧ (s.dev.eng n).run = some r ∧ r.lib = 0 ∧ r.cycles < 65536 ∧ r.pc < 2048 ∧
    i.d < 16 ∧ i.s < 16 ∧ i.t < 16 ∧ i.imm < 16384 ∧ ceFields (progWord s.dev n r.pc) = i ∧ ceWordOk i r.pc = true

/-- The device once the probes of kind REG that tap the run of engine `n` where it is have taken their samples (R255, R256). -/
def traced (n : Nat) (d : Dev) : Dev :=
  match (d.eng n).run with
  | none => d
  | some r => (capture n 2 (fun k => if d.get (CE_TPROBE_TAP n k) = r.pc then some (r.wr (d.get (CE_TPROBE_SEL n k))) else none) r d).2

/-- The command answers the same device, its trace aside, with only the run of engine `n` changed, as `P` says. -/
def Runs (c : Instr) (n : Nat) (s : State) (P : Run → Prop) : Prop :=
  ∃ r', exec c s = .next { s with dev := (traced n s.dev).setRun n (some r') } ∧ P r'

/-- What no instruction but the named one changes: the slot's kind of run, its inputs, working copy, escrow and events. -/
def RunFrame (r r' : Run) : Prop :=
  r'.slot = r.slot ∧ r'.kind = r.kind ∧ r'.ins = r.ins ∧ r'.work = r.work ∧ r'.out = r.out ∧ r'.trigs = r.trigs

/-- The run goes on after the instruction, `cyc` cycles later (R189, R216). -/
def Onward (r r' : Run) (cyc : Nat) : Prop :=
  r'.pc = (loopNext r.pc r.loops).1 ∧ r'.loops = (loopNext r.pc r.loops).2 ∧ r'.cycles = r.cycles + cyc

/-- Every W register but `k` is unchanged. -/
def WBut (r r' : Run) (k : Nat) : Prop := ∀ j < 16, j ≠ k → r'.wr j = r.wr j

/-- Every accumulator but `k` is unchanged. -/
def AcBut (r r' : Run) (k : Nat) : Prop := ∀ j < 4, j ≠ k → r'.ac j = r.ac j

/-- Every pointer but `k` is unchanged. -/
def PtBut (r r' : Run) (k : Nat) : Prop := ∀ j < 4, j ≠ k → r'.ptr j = r.ptr j

/-- W register `k` takes `x`, Z and N follow it, V is `v`; nothing else but the position changes, SAT aside. -/
def ToW (r r' : Run) (cyc k : Nat) (x : W16) (v : Bool) : Prop :=
  r'.wr k = x ∧ r'.z = decide (x = 0) ∧ r'.n = x.msb ∧ r'.v = v ∧ WBut r r' k ∧ r'.acc = r.acc ∧ r'.pt = r.pt ∧
    RunFrame r r' ∧ Onward r r' cyc

/-- Accumulator `k` takes `x`, Z and N follow it, V is `v`; nothing else but the position changes, SAT aside. -/
def ToA (r r' : Run) (k : Nat) (x : W40) (v : Bool) : Prop :=
  r'.ac k = x ∧ r'.z = decide (x = 0) ∧ r'.n = x.msb ∧ r'.v = v ∧ AcBut r r' k ∧ r'.w = r.w ∧ r'.pt = r.pt ∧
    RunFrame r r' ∧ Onward r r' 1

/-- The flags Z, N, V and SAT are unchanged. -/
def FlagsSame (r r' : Run) : Prop := r'.z = r.z ∧ r'.n = r.n ∧ r'.v = r.v ∧ r'.sat = r.sat

/-- The value lies outside −32,768 to 32,767. -/
def Over16 (x : Int) : Bool := decide (x < -32768 ∨ 32767 < x)

/-- The value lies outside the signed range of 40 bits. -/
def Over40 (x : Int) : Bool := decide (x < -549755813888 ∨ 549755813887 < x)

/-- The nearest value of −32,768 to 32,767. -/
def clamp16 (x : Int) : Int := if x < -32768 then -32768 else if 32767 < x then 32767 else x

/-- The nearest value of the signed range of 40 bits. -/
def clamp40 (x : Int) : Int := if x < -549755813888 then -549755813888 else if 549755813887 < x then 549755813887 else x

/-- The second operand of a register-or-immediate form: with imm[13] the sign-extended imm[12:0], else W register `b`. -/
def second (r : Run) (b imm : Nat) : Int :=
  if imm.testBit 13 then (if imm % 8192 < 4096 then ((imm % 8192 : Nat) : Int) else ((imm % 8192 : Nat) : Int) - 8192) else r.wi b

/-- The shift amount: with imm[13] the number imm[3:0], else the low four bits of W register `b`. -/
def amount (r : Run) (b imm : Nat) : Nat := if imm.testBit 13 then imm % 16 else (r.wr b).toNat % 16

end Sys2Proof.Claims

/-- ADD, SUB, ADDS, SUBS, NEG, ABS, MIN and MAX (R198, R199, R205). -/
def Obligations.EngineSumsAndDifferences : Prop :=
  ∀ (n : Nat) (r : Run) (s : State) (d a b imm : Nat),
    (At n r s ⟨0x0A, d, a, b, imm⟩ → Runs (.add n d a b imm) n s (fun r' =>
      ToW r r' 1 d (BitVec.ofInt 16 (r.wi a + second r b imm)) (Over16 (r.wi a + second r b imm)) ∧ r'.sat = r.sat)) ∧
    (At n r s ⟨0x0B, d, a, b, imm⟩ → Runs (.adds n d a b imm) n s (fun r' =>
      ToW r r' 1 d (BitVec.ofInt 16 (clamp16 (r.wi a + second r b imm))) (Over16 (r.wi a + second r b imm)) ∧
        r'.sat = (r.sat || Over16 (r.wi a + second r b imm)))) ∧
    (At n r s ⟨0x0C, d, a, b, imm⟩ → Runs (.sub n d a b imm) n s (fun r' =>
      ToW r r' 1 d (BitVec.ofInt 16 (r.wi a - second r b imm)) (Over16 (r.wi a - second r b imm)) ∧ r'.sat = r.sat)) ∧
    (At n r s ⟨0x0D, d, a, b, imm⟩ → Runs (.subs n d a b imm) n s (fun r' =>
      ToW r r' 1 d (BitVec.ofInt 16 (clamp16 (r.wi a - second r b imm))) (Over16 (r.wi a - second r b imm)) ∧
        r'.sat = (r.sat || Over16 (r.wi a - second r b imm)))) ∧
    (At n r s ⟨0x0E, d, a, b, imm⟩ → Runs (.neg n d a b imm) n s (fun r' =>
      ToW r r' 1 d (BitVec.ofInt 16 (clamp16 (-(r.wi a)))) (decide (r.wi a = -32768)) ∧
        r'.sat = (r.sat || decide (r.wi a = -32768)))) ∧
    (At n r s ⟨0x0F, d, a, b, imm⟩ → Runs (.abs n d a b imm) n s (fun r' =>
      ToW r r' 1 d (BitVec.ofInt 16 (clamp16 (if r.wi a < 0 then -(r.wi a) else r.wi a))) (decide (r.wi a = -32768)) ∧
        r'.sat = (r.sat || decide (r.wi a = -32768)))) ∧
    (At n r s ⟨0x10, d, a, b, imm⟩ → Runs (.min n d a b imm) n s (fun r' =>
      ToW r r' 1 d (BitVec.ofInt 16 (if second r b imm < r.wi a then second r b imm else r.wi a)) false ∧ r'.sat = r.sat)) ∧
    (At n r s ⟨0x11, d, a, b, imm⟩ → Runs (.max n d a b imm) n s (fun r' =>
      ToW r r' 1 d (BitVec.ofInt 16 (if r.wi a < second r b imm then second r b imm else r.wi a)) false ∧ r'.sat = r.sat))

/-- AND, OR, XOR, SHL, SHR and SAR (R199, R206). -/
def Sys2Proof.Claims.EngineLogicAndShifts : Prop :=
  ∀ (n : Nat) (r : Run) (s : State) (d a b imm : Nat),
    (At n r s ⟨0x12, d, a, b, imm⟩ → Runs (.andI n d a b imm) n s (fun r' =>
      ToW r r' 1 d (r.wr a &&& BitVec.ofInt 16 (second r b imm)) false ∧ r'.sat = r.sat)) ∧
    (At n r s ⟨0x13, d, a, b, imm⟩ → Runs (.orI n d a b imm) n s (fun r' =>
      ToW r r' 1 d (r.wr a ||| BitVec.ofInt 16 (second r b imm)) false ∧ r'.sat = r.sat)) ∧
    (At n r s ⟨0x14, d, a, b, imm⟩ → Runs (.xorI n d a b imm) n s (fun r' =>
      ToW r r' 1 d (r.wr a ^^^ BitVec.ofInt 16 (second r b imm)) false ∧ r'.sat = r.sat)) ∧
    (At n r s ⟨0x15, d, a, b, imm⟩ → Runs (.shl n d a b imm) n s (fun r' =>
      ToW r r' 1 d (r.wr a <<< amount r b imm) (Over16 (r.wi a * 2 ^ amount r b imm)) ∧ r'.sat = r.sat)) ∧
    (At n r s ⟨0x16, d, a, b, imm⟩ → Runs (.shr n d a b imm) n s (fun r' =>
      ToW r r' 1 d (r.wr a >>> amount r b imm) false ∧ r'.sat = r.sat)) ∧
    (At n r s ⟨0x17, d, a, b, imm⟩ → Runs (.sar n d a b imm) n s (fun r' =>
      ToW r r' 1 d (BitVec.ofInt 16 (r.wi a / 2 ^ amount r b imm)) false ∧ r'.sat = r.sat))

/-- MPY, MAC, MSU, CLRA and SHA (R198, R199, R208, R209). -/
def Sys2Proof.Claims.EngineAccumulators : Prop :=
  ∀ (n : Nat) (r : Run) (s : State) (d a b imm : Nat),
    (At n r s ⟨0x18, d, a, b, imm⟩ → Runs (.mpy n d a b imm) n s (fun r' =>
      ToA r r' d (BitVec.ofInt 40 (r.wi a * r.wi b * 2)) false ∧ r'.sat = r.sat)) ∧
    (At n r s ⟨0x19, d, a, b, imm⟩ → Runs (.mac n d a b imm) n s (fun r' =>
      ToA r r' d (BitVec.ofInt 40 (clamp40 ((r.ac d).toInt + r.wi a * r.wi b * 2))) (Over40 ((r.ac d).toInt + r.wi a * r.wi b * 2)) ∧
        r'.sat = (r.sat || Over40 ((r.ac d).toInt + r.wi a * r.wi b * 2)))) ∧
    (At n r s ⟨0x1A, d, a, b, imm⟩ → Runs (.msu n d a b imm) n s (fun r' =>
      ToA r r' d (BitVec.ofInt 40 (clamp40 ((r.ac d).toInt - r.wi a * r.wi b * 2))) (Over40 ((r.ac d).toInt - r.wi a * r.wi b * 2)) ∧
        r'.sat = (r.sat || Over40 ((r.ac d).toInt - r.wi a * r.wi b * 2)))) ∧
    (At n r s ⟨0x1B, d, a, b, imm⟩ → Runs (.clra n d a b imm) n s (fun r' => ToA r r' d 0 false ∧ r'.sat = r.sat)) ∧
    (At n r s ⟨0x1E, d, a, b, imm⟩ → Runs (.sha n d a b imm) n s (fun r' =>
      (0 < imm ∧ imm < 32 →
        ToA r r' d (BitVec.ofInt 40 (clamp40 ((r.ac d).toInt * 2 ^ imm))) (Over40 ((r.ac d).toInt * 2 ^ imm)) ∧
          r'.sat = (r.sat || Over40 ((r.ac d).toInt * 2 ^ imm))) ∧
      (imm = 0 ∨ 32 ≤ imm →
        ToA r r' d (BitVec.ofInt 40 ((r.ac d).toInt / 2 ^ ((64 - imm) % 64))) false ∧ r'.sat = r.sat)))

/-- Logic, shifts and accumulators (R198, R199, R206, R208, R209). -/
def Obligations.EngineLogicAndAccumulators : Prop := Claims.EngineLogicAndShifts ∧ Claims.EngineAccumulators

/-- The effective address of LD and ST in its three modes (R193): absolute, pointer with offset, and pointer with post-modify,
whose pointer moves after the access; no other pointer and nothing else moves. The same for the state offset (R194). -/
def Sys2Proof.Claims.EngineAddressing : Prop :=
  ∀ (r : Run) (op d p imm : Nat), p < 4 → imm < 1024 →
    (p = 0 → dataEa r ⟨op, d, p, 0, imm⟩ = ((r.dbase + imm) % 1024, r)) ∧
    dataEa r ⟨op, d, 4 + p, 0, imm⟩ = (((r.ptr p).toNat + imm) % 1024, r) ∧
    (dataEa r ⟨op, d, 8 + p, 0, imm⟩).1 = (r.ptr p).toNat ∧
    (dataEa r ⟨op, d, 8 + p, 0, imm⟩).2 = r.setP p (BitVec.ofNat 10 ((r.ptr p).toNat + imm)) ∧
    (imm < 256 →
      (p = 0 → stateOff r ⟨op, d, p, 0, imm⟩ = (imm, r)) ∧
      stateOff r ⟨op, d, 4 + p, 0, imm⟩ = (((r.ptr p).toNat + imm) % 256, r) ∧
      (stateOff r ⟨op, d, 8 + p, 0, imm⟩).1 = (r.ptr p).toNat % 256 ∧
      (stateOff r ⟨op, d, 8 + p, 0, imm⟩).2 =
        r.setP p (BitVec.ofNat 10 ((r.ptr p).toNat + (if imm < 128 then imm else 1024 + imm - 256))))

namespace Sys2Proof.Claims

/-- The run goes on with every register, accumulator, pointer and flag but those that `P` speaks of as they were. -/
def Calm (r r' : Run) : Prop := FlagsSame r r' ∧ RunFrame r r' ∧ Onward r r' 1

/-- The number that a field of `w` bits stands for as a signed number. -/
def signed (w x : Nat) : Int := if x < 2 ^ (w - 1) then (x : Int) else (x : Int) - (2 ^ w : Nat)

end Sys2Proof.Claims

/-- NOP, LDI, LDIH and the seven forms of MOV (R199, R201, R202). -/
def Obligations.EngineMoves : Prop :=
  ∀ (n : Nat) (r : Run) (s : State) (d a b imm : Nat),
    (At n r s ⟨0x00, d, a, b, imm⟩ → Runs (.nopI n d a b imm) n s (fun r' =>
      r'.w = r.w ∧ r'.acc = r.acc ∧ r'.pt = r.pt ∧ Calm r r')) ∧
    (At n r s ⟨0x01, d, a, b, imm⟩ → Runs (.ldi n d a b imm) n s (fun r' => Calm r r' ∧ r'.acc = r.acc ∧
      (a = 0 → r'.wr d = BitVec.ofInt 16 (signed 14 imm) ∧ WBut r r' d ∧ r'.pt = r.pt) ∧
      (a ≠ 0 → r'.ptr d = BitVec.ofNat 10 (r.dbase + imm) ∧ PtBut r r' d ∧ r'.w = r.w))) ∧
    (At n r s ⟨0x02, d, a, b, imm⟩ → Runs (.ldih n d a b imm) n s (fun r' => Calm r r' ∧ r'.acc = r.acc ∧ r'.pt = r.pt ∧
      (r'.wr d).toNat = imm * 256 + (r.wr d).toNat % 256 ∧ WBut r r' d)) ∧
    (At n r s ⟨0x03, d, a, b, 0⟩ → Runs (.mov n d a b 0) n s (fun r' => Calm r r' ∧ r'.acc = r.acc ∧ r'.pt = r.pt ∧
      r'.wr d = r.wr a ∧ WBut r r' d)) ∧
    (At n r s ⟨0x03, d, a, b, 1⟩ → Runs (.mov n d a b 1) n s (fun r' =>
      ToW r r' 1 d (BitVec.ofInt 16 (clamp16 (((r.ac a).toInt + 32768) / 65536))) (Over16 (((r.ac a).toInt + 32768) / 65536)) ∧
        r'.sat = (r.sat || Over16 (((r.ac a).toInt + 32768) / 65536)))) ∧
    (At n r s ⟨0x03, d, a, b, 2⟩ → Runs (.mov n d a b 2) n s (fun r' => Calm r r' ∧ r'.w = r.w ∧ r'.pt = r.pt ∧
      (r'.ac d).toInt = r.wi a * 65536 ∧ AcBut r r' d)) ∧
    (At n r s ⟨0x03, d, a, b, 3⟩ → Runs (.mov n d a b 3) n s (fun r' => Calm r r' ∧ r'.w = r.w ∧ r'.acc = r.acc ∧
      (r'.ptr d).toNat = (r.wr a).toNat % 1024 ∧ PtBut r r' d)) ∧
    (At n r s ⟨0x03, d, a, b, 4⟩ → Runs (.mov n d a b 4) n s (fun r' => Calm r r' ∧ r'.acc = r.acc ∧ r'.pt = r.pt ∧
      (r'.wr d).toNat = (r.ptr a).toNat ∧ WBut r r' d)) ∧
    (At n r s ⟨0x03, d, a, b, 5⟩ → Runs (.mov n d a b 5) n s (fun r' => Calm r r' ∧ r'.w = r.w ∧ r'.pt = r.pt ∧
      r'.ac d = r.ac a ∧ AcBut r r' d)) ∧
    (At n r s ⟨0x03, d, a, b, 6⟩ → Runs (.mov n d a b 6) n s (fun r' => Calm r r' ∧ r'.w = r.w ∧ r'.acc = r.acc ∧
      r'.ptr d = r.ptr a ∧ PtBut r r' d))

/-- LD, LDS, LDA and IN (R193, R194, R199, R203, R204). A pointer moves only by the post-modify mode. -/
def Sys2Proof.Claims.EngineLoads : Prop :=
  ∀ (n : Nat) (r : Run) (s : State) (d a b imm : Nat),
    (At n r s ⟨0x04, d, a, b, imm⟩ → Runs (.ld n d a b imm) n s (fun r' => Calm r r' ∧ r'.acc = r.acc ∧
      r'.wr d = dataWord s.dev n (dataEa r ⟨0x04, d, a, b, imm⟩).1 ∧ WBut r r' d ∧
      r'.pt = (dataEa r ⟨0x04, d, a, b, imm⟩).2.pt)) ∧
    (At n r s ⟨0x06, d, a, b, imm⟩ → (stateOff r ⟨0x06, d, a, b, imm⟩).1 < r.slen →
      Runs (.lds n d a b imm) n s (fun r' => Calm r r' ∧ r'.acc = r.acc ∧
        (r'.wr d).toNat = (r.work.getD (stateOff r ⟨0x06, d, a, b, imm⟩).1 0).toNat / 65536 ∧ WBut r r' d ∧
        r'.pt = (stateOff r ⟨0x06, d, a, b, imm⟩).2.pt)) ∧
    (At n r s ⟨0x1C, d, a, b, imm⟩ → (stateOff r ⟨0x1C, d, a, b, imm⟩).1 < r.slen →
      Runs (.lda n d a b imm) n s (fun r' => Calm r r' ∧ r'.w = r.w ∧
        (r'.ac d).toInt = (r.work.getD (stateOff r ⟨0x1C, d, a, b, imm⟩).1 0).toInt ∧ AcBut r r' d ∧
        r'.pt = (stateOff r ⟨0x1C, d, a, b, imm⟩).2.pt)) ∧
    (At n r s ⟨0x08, d, a, b, imm⟩ → Runs (.inP n d a b imm) n s (fun r' => r'.sat = r.sat ∧
      (s.dev.get (CE_SWIN_IN_BASE n r.slot) ≤ imm → ∀ v m,
        r.ins[imm - s.dev.get (CE_SWIN_IN_BASE n r.slot)]? = some (v, m) → ToW r r' 1 d v m) ∧
      ((imm < s.dev.get (CE_SWIN_IN_BASE n r.slot) ∨ s.dev.get (CE_SWIN_IN_BASE n r.slot) + r.ins.length ≤ imm) →
        ToW r r' 1 d 0 true)))

/-- Effective addresses and the loads over them (R193, R194, R199, R203, R204). -/
def Obligations.EngineDataLoads : Prop := Claims.EngineAddressing ∧ Claims.EngineLoads

namespace Sys2Proof.Claims

/-- Everything but what the instruction stores to is as before: registers, accumulators and flags Z, N and V. -/
def RegsSame (r r' : Run) : Prop :=
  r'.w = r.w ∧ r'.acc = r.acc ∧ r'.z = r.z ∧ r'.n = r.n ∧ r'.v = r.v ∧ r'.slot = r.slot ∧ r'.kind = r.kind ∧ r'.ins = r.ins ∧
    Onward r r' 1

/-- State word `k` of the working copy takes `x`; every other one is as before. -/
def WorkSet (r r' : Run) (k : Nat) (x : Word) : Prop :=
  r'.work.length = r.work.length ∧ ∀ j, r'.work.getD j 0 = if j = k ∧ k < r.work.length then x else r.work.getD j 0

/-- The nearest value of the signed range of 32 bits. -/
def clamp32 (x : Int) : Int := if x < -2147483648 then -2147483648 else if 2147483647 < x then 2147483647 else x

end Sys2Proof.Claims

/-- ST stores to data memory at once, or in a speculative run stores nothing and marks the run (R193, R195); STS and STA store
to the run's working copy (R194, R203); OUT and TRIG go to the run's escrow (R204, R217). -/
def Obligations.EngineStores : Prop :=
  ∀ (n : Nat) (r : Run) (s : State) (d a b imm : Nat),
    (At n r s ⟨0x05, d, a, b, imm⟩ → r.kind ≠ .spec → ∃ (m : List Host.Cell) (r' : Run),
      exec (.st n d a b imm) s = .next { s with dev := ({ traced n s.dev with win := m } : Dev).setRun n (some r') } ∧
      RegsSame r r' ∧ r'.work = r.work ∧ r'.out = r.out ∧ r'.trigs = r.trigs ∧ r'.sat = r.sat ∧
      r'.pt = (dataEa r ⟨0x05, d, a, b, imm⟩).2.pt ∧ r'.stRefused = r.stRefused ∧
      (∀ x, x ≠ ceWin n (0x2000 + 2 * (dataEa r ⟨0x05, d, a, b, imm⟩).1) →
        x ≠ ceWin n (0x2000 + 2 * (dataEa r ⟨0x05, d, a, b, imm⟩).1) + 1 → memByte m x = memByte (traced n s.dev).win x) ∧
      (s.dev.cyc.data0 = [] →
        memRead m (ceWin n (0x2000 + 2 * (dataEa r ⟨0x05, d, a, b, imm⟩).1)) 2 = (r.wr d).toNat)) ∧
    (At n r s ⟨0x05, d, a, b, imm⟩ → r.kind = .spec → ∃ r' : Run,
      exec (.st n d a b imm) s = .next { s with dev := ((traced n s.dev).bump (CE_FAULTCNT_SPEC_ST n)).setRun n (some r') } ∧
      RegsSame r r' ∧ r'.work = r.work ∧ r'.out = r.out ∧ r'.trigs = r.trigs ∧ r'.sat = r.sat ∧ r'.stRefused = true ∧
      r'.pt = (dataEa r ⟨0x05, d, a, b, imm⟩).2.pt) ∧
    (At n r s ⟨0x07, d, a, b, imm⟩ → (stateOff r ⟨0x07, d, a, b, imm⟩).1 < r.slen →
      Runs (.sts n d a b imm) n s (fun r' => RegsSame r r' ∧ r'.out = r.out ∧ r'.trigs = r.trigs ∧ r'.sat = r.sat ∧
        r'.pt = (stateOff r ⟨0x07, d, a, b, imm⟩).2.pt ∧
        WorkSet r r' (stateOff r ⟨0x07, d, a, b, imm⟩).1 (BitVec.ofNat 32 ((r.wr d).toNat * 65536)))) ∧
    (At n r s ⟨0x1D, d, a, b, imm⟩ → (stateOff r ⟨0x1D, d, a, b, imm⟩).1 < r.slen →
      Runs (.sta n d a b imm) n s (fun r' => RegsSame r r' ∧ r'.out = r.out ∧ r'.trigs = r.trigs ∧
        r'.sat = (r.sat || decide ((r.ac d).toInt ≠ clamp32 (r.ac d).toInt)) ∧
        r'.pt = (stateOff r ⟨0x1D, d, a, b, imm⟩).2.pt ∧
        WorkSet r r' (stateOff r ⟨0x1D, d, a, b, imm⟩).1 (BitVec.ofInt 32 (clamp32 (r.ac d).toInt)))) ∧
    (At n r s ⟨0x09, d, a, b, imm⟩ → Runs (.outP n d a b imm) n s (fun r' => RegsSame r r' ∧ r'.pt = r.pt ∧
      r'.work = r.work ∧ r'.trigs = r.trigs ∧ r'.sat = r.sat ∧
      ∀ x p, tabGet x p r'.out = if p = imm then r.wr d else tabGet x p r.out)) ∧
    (At n r s ⟨0x2A, d, a, b, imm⟩ → Runs (.trig n d a b imm) n s (fun r' => RegsSame r r' ∧ r'.pt = r.pt ∧
      r'.work = r.work ∧ r'.out = r.out ∧ r'.sat = r.sat ∧ r'.trigs = r.trigs ++ [imm]))

namespace Sys2Proof.Claims

/-- |x|, with −32,768 taken as 32,767. -/
def step16 (x : Int) : Int := if x = -32768 then 32767 else if x < 0 then -x else x

/-- Entry `j` of the table at pointer `k`. -/
def table (d : Dev) (n : Nat) (r : Run) (k j : Nat) : Int := (dataWord d n (((r.ptr k).toNat + j) % 1024)).toInt

/-- The interpolation between entries `u / 2^h` and the next. -/
def between (t : Nat → Int) (u h : Nat) : Int :=
  t (u / 2 ^ h) + ((t (u / 2 ^ h + 1) - t (u / 2 ^ h)) * ((u % 2 ^ h : Nat) : Int) + 2 ^ (h - 1)) / 2 ^ h

end Sys2Proof.Claims

/-- CMP, LIM, SLEW, DEADB and LUT (R207, R210, R211). -/
def Sys2Proof.Claims.EngineShaping : Prop :=
  ∀ (n : Nat) (r : Run) (s : State) (d a b imm : Nat),
    (At n r s ⟨0x1F, d, a, b, imm⟩ → Runs (.cmp n d a b imm) n s (fun r' => r'.w = r.w ∧ r'.acc = r.acc ∧ r'.pt = r.pt ∧
      RunFrame r r' ∧ Onward r r' 1 ∧ r'.sat = r.sat ∧ r'.v = false ∧ r'.z = decide (r.wi a = second r b imm) ∧
      r'.n = decide (r.wi a < second r b imm))) ∧
    (At n r s ⟨0x20, d, a, b, imm⟩ → Runs (.lim n d a b imm) n s (fun r' => r'.sat = r.sat ∧ ∃ x v, ToW r r' 1 d x v ∧
      x.toInt = max (min (r.wi d) (r.wi b)) (r.wi a) ∧ v = decide (x ≠ r.wr d))) ∧
    (At n r s ⟨0x21, d, a, b, imm⟩ → Runs (.slew n d a b imm) n s (fun r' => r'.sat = r.sat ∧ ∃ x v, ToW r r' 1 d x v ∧
      (step16 (r.wi b) < r.wi a - r.wi d → x.toInt = r.wi d + step16 (r.wi b) ∧ v = true) ∧
      (r.wi a - r.wi d < -step16 (r.wi b) → x.toInt = r.wi d - step16 (r.wi b) ∧ v = true) ∧
      (r.wi a - r.wi d ≤ step16 (r.wi b) → -step16 (r.wi b) ≤ r.wi a - r.wi d → x = r.wr a ∧ v = false))) ∧
    (At n r s ⟨0x22, d, a, b, imm⟩ → Runs (.deadb n d a b imm) n s (fun r' => r'.sat = r.sat ∧ ∃ x v, ToW r r' 1 d x v ∧
      (step16 (r.wi b) < r.wi a → x.toInt = r.wi a - step16 (r.wi b) ∧ v = false) ∧
      (r.wi a < -step16 (r.wi b) → x.toInt = r.wi a + step16 (r.wi b) ∧ v = false) ∧
      (r.wi a ≤ step16 (r.wi b) → -step16 (r.wi b) ≤ r.wi a → x = 0 ∧ v = true))) ∧
    (At n r s ⟨0x23, d, a, b, imm⟩ → Runs (.lut n d a b imm) n s (fun r' => r'.sat = r.sat ∧ ∃ x, ToW r r' 3 d x false ∧
      (imm < 16 → x.toInt = between (table s.dev n r b) (r.wi a + 32768).toNat (16 - imm)) ∧
      (16 ≤ imm → x.toInt = between (table s.dev n r b) (r.wi a).toNat (31 - imm))))

/-- SINCOS, DIV and SQRT (R212 to R214). -/
def Sys2Proof.Claims.EngineFunctions : Prop :=
  ∀ (n : Nat) (r : Run) (s : State) (d a b imm : Nat),
    (At n r s ⟨0x24, d, a, b, imm⟩ → Runs (.sincos n d a b imm) n s (fun r' => r'.sat = r.sat ∧ r'.acc = r.acc ∧ r'.pt = r.pt ∧
      RunFrame r r' ∧ Onward r r' 4 ∧ r'.v = false ∧
      (r'.wr d).toInt = sinOf (r.wr a).toNat ∧ (r'.wr (d + 1)).toInt = sinOf ((r.wr a).toNat + 16384) ∧
      (∀ j < 16, j ≠ d → j ≠ (d + 1) % 16 → r'.wr j = r.wr j) ∧
      r'.z = decide (sinOf (r.wr a).toNat = 0) ∧ r'.n = decide (sinOf (r.wr a).toNat < 0))) ∧
    (At n r s ⟨0x25, d, a, b, imm⟩ → Runs (.div n d a b imm) n s (fun r' =>
      (r.wi b = 0 → ToW r r' 17 d (if r.wi a > 0 then 0x7FFF else if r.wi a < 0 then 0x8000 else 0) true ∧ r'.sat = true) ∧
      (r.wi b ≠ 0 →
        ToW r r' 17 d (BitVec.ofInt 16 (clamp16 (Int.tdiv (r.wi a * 32768) (r.wi b)))) (Over16 (Int.tdiv (r.wi a * 32768) (r.wi b))) ∧
        r'.sat = (r.sat || Over16 (Int.tdiv (r.wi a * 32768) (r.wi b)))))) ∧
    (At n r s ⟨0x26, d, a, b, imm⟩ → Runs (.sqrt n d a b imm) n s (fun r' =>
      (r.wi a < 0 → ToW r r' 18 d 0 true ∧ r'.sat = true) ∧
      (0 ≤ r.wi a → ∃ x, ToW r r' 18 d x false ∧ r'.sat = r.sat ∧
        ((x.toNat * x.toNat : Nat) : Int) ≤ r.wi a * 32768 ∧ r.wi a * 32768 < (((x.toNat + 1) * (x.toNat + 1) : Nat) : Int))))

/-- Shaping and functions (R207, R210 to R214). -/
def Obligations.EngineShapingAndFunctions : Prop := Claims.EngineShaping ∧ Claims.EngineFunctions

namespace Sys2Proof.Claims

/-- The run goes to `a` after one cycle; the loops whose body holds `a` stay, and nothing else changes. -/
def Jumps (r r' : Run) (a : Nat) : Prop :=
  r'.pc = a ∧ (∀ l, l ∈ r'.loops ↔ l ∈ r.loops ∧ l.first ≤ a ∧ a ≤ l.last) ∧ r'.cycles = r.cycles + 1 ∧
    r'.w = r.w ∧ r'.acc = r.acc ∧ r'.pt = r.pt ∧ FlagsSame r r' ∧ RunFrame r r'

/-- The run goes on after one cycle and nothing else changes. -/
def Falls (r r' : Run) : Prop :=
  r'.w = r.w ∧ r'.acc = r.acc ∧ r'.pt = r.pt ∧ FlagsSame r r' ∧ RunFrame r r' ∧ Onward r r' 1

/-- The condition that the number `c` names. -/
def holds (r : Run) (c : Nat) : Prop :=
  (c = 0 ∧ r.z = true) ∨ (c = 1 ∧ r.z = false) ∨ (c = 2 ∧ r.n = true) ∨ (c = 3 ∧ r.n = false) ∨
    (c = 4 ∧ r.z = false ∧ r.n = false) ∨ (c = 5 ∧ (r.z = true ∨ r.n = true)) ∨ (c = 6 ∧ r.v = true) ∨ (c = 7 ∧ r.v = false) ∨
    (c = 8 ∧ r.sat = true) ∨ (c = 9 ∧ r.sat = false)

/-- The count of LOOP. -/
def loopCount (r : Run) (d a imm : Nat) : Nat := if imm.testBit 13 then d * 16 + a else (r.wr a).toNat

end Sys2Proof.Claims

/-- BRA, BCC and LOOP with room on its stack (R215, R216). -/
def Sys2Proof.Claims.EngineControlFlow : Prop :=
  ∀ (n : Nat) (r : Run) (s : State) (d a b imm : Nat),
    (At n r s ⟨0x27, d, a, b, imm⟩ → Runs (.bra n d a b imm) n s (fun r' => Jumps r r' imm)) ∧
    (At n r s ⟨0x28, d, a, b, imm⟩ → Runs (.bcc n d a b imm) n s (fun r' =>
      (holds r d → Jumps r r' imm) ∧ (¬ holds r d → Falls r r'))) ∧
    (At n r s ⟨0x29, d, a, b, imm⟩ → (∀ l ∈ r.loops, imm % 2048 ≤ l.last) → 0 < loopCount r d a imm → r.loops.length < 2 →
      Runs (.loopI n d a b imm) n s (fun r' =>
        r'.pc = r.pc + 1 ∧ r'.loops = ⟨r.pc + 1, imm % 2048, loopCount r d a imm⟩ :: r.loops ∧ r'.cycles = r.cycles + 1 ∧
        r'.w = r.w ∧ r'.acc = r.acc ∧ r'.pt = r.pt ∧ FlagsSame r r' ∧ RunFrame r r')) ∧
    (At n r s ⟨0x29, d, a, b, imm⟩ → (∀ l ∈ r.loops, imm % 2048 ≤ l.last) → loopCount r d a imm = 0 →
      Runs (.loopI n d a b imm) n s (fun r' =>
        r'.pc = imm % 2048 + 1 ∧ r'.loops = r.loops ∧ r'.cycles = r.cycles + 1 ∧
        r'.w = r.w ∧ r'.acc = r.acc ∧ r'.pt = r.pt ∧ FlagsSame r r' ∧ RunFrame r r'))

/-- After the last instruction of a loop body with passes left the next instruction is the first of the body; after its last
pass the loop leaves the stack and the loop around it decides; elsewhere the next instruction follows (R216). -/
def Sys2Proof.Claims.EngineLoopPasses : Prop :=
  (∀ pc, loopNext pc [] = (pc + 1, [])) ∧
  (∀ pc l rest, pc ≠ l.last → loopNext pc (l :: rest) = (pc + 1, l :: rest)) ∧
  (∀ l rest k, l.left = k + 2 → loopNext l.last (l :: rest) = (l.first, ⟨l.first, l.last, k + 1⟩ :: rest)) ∧
  (∀ l rest, l.left ≤ 1 → loopNext l.last (l :: rest) = loopNext l.last rest)

/-- What tracing adds to an instruction (R255 to R257): without a probe of kind REG on the slot nothing, and in any case only words of the
engine's trace ring, CE_TCTRL and the start of the trace; a speculative run keeps its samples to itself. -/
def Sys2Proof.Claims.EngineTraced : Prop :=
  ∀ (n : Nat) (r : Run) (d : Dev), (d.eng n).run = some r →
    (probesOf d n r.slot 2 = [] ∨ r.kind = .spec ∨ r.kind = .confirmed → traced n d = d) ∧
    RegsBut [CE_TCTRL n] d (traced n d) ∧
    (∀ a, a < ceWin n 0x4000 ∨ ceWin n 0x8000 ≤ a → memByte (traced n d).win a = memByte d.win a) ∧
    (∀ m, m ≠ n → (traced n d).eng m = d.eng m) ∧ ((traced n d).eng n).run = some r ∧
    traced n d = { d with regs := (traced n d).regs, win := (traced n d).win, cea.eng := (traced n d).cea.eng,
                           cyc.trace := (traced n d).cyc.trace }

/-- Control flow, the passes of a loop and tracing (R215, R216, R255 to R257). -/
def Obligations.EngineFlow : Prop := Claims.EngineControlFlow ∧ Claims.EngineLoopPasses ∧ Claims.EngineTraced

/-! ### Motor and fan drive (chapter 10) -/

namespace Sys2Proof.Claims

/-- Beside registers, counters, the log and marks of the cycle, only the drive unit's own store changes. -/
def DriveOnly (d e : Dev) : Prop :=
  e = { d with regs := e.regs, mdu := e.mdu, obs := e.obs, evLog := e.evLog, evSeq := e.evSeq, cyc := e.cyc,
               pwr.nvEvents := e.pwr.nvEvents }

/-- Bridge `m` is off (R295, R298): state `st` with its cause, MEN low, SPDCMD 0, and COAST begins where it is not 0. -/
def BridgeOff (m st cause : Nat) (d e : Dev) : Prop :=
  e.get (MDU_MSTAT_STATE m) = st ∧ e.get (MDU_MSTAT_CAUSE m) = cause ∧ e.bit (MDU_MSTAT_MEN m) = false ∧
    e.get (MDU_MSPD_SPDCMD m) = 0 ∧ (e.motor m).coast = decide (d.get (MDU_MSTART_COAST m) ≠ 0) ∧ (e.motor m).wdogOn = false ∧
    (∀ k, k ≠ m → e.motor k = d.motor k) ∧ RegsBut [MDU_MSTAT m, MDU_MSPD m] d e ∧ DriveOnly d e

/-- Motor `m` has entered START with one more attempt (R298). -/
def MotorStarted (m : Nat) (d e : Dev) : Prop :=
  e.get (MDU_MSTAT_STATE m) = 1 ∧ e.get (MDU_MSTAT_ATTEMPT m) = (d.get (MDU_MSTAT_ATTEMPT m) + 1) % 16 ∧
    e.get (MDU_MSPD_SPDCMD m) = 1 ∧ (e.motor m).coast = false ∧ (e.motor m).valleys = 0 ∧
    (∀ k, k ≠ m → e.motor k = d.motor k) ∧ RegsBut [MDU_MSTAT m, MDU_MSPD m] d e ∧ DriveOnly d e

/-- Fan `f` is in state `st` and asks for `duty` from the next period on; no other fan and no register outside `l` changes. -/
def FanIs (f st duty : Nat) (l : List Nat) (d e : Dev) : Prop :=
  e.get (MDU_FSTAT_STATE f) = st ∧ (e.fan f).next = duty ∧ (∀ k, k ≠ f → e.fan k = d.fan k) ∧ RegsBut l d e ∧ DriveOnly d e

end Sys2Proof.Claims

/-- Motor timers and valleys (R290, R293, R297, R299): enabling the timer applies PER, DT, filter, trigger offset and duties at once; each
valley applies them again, steps the ramp in RUN and counts the loop watchdog, whose expiry turns the bridge off into FAULT. The centre
trigger's tick is PER + TRIG_OFS modulo the period. -/
def Sys2Proof.Claims.MotorTimers : Prop :=
  ∀ (s : State) (m : Nat), m < 8 → On s [6] →
    (s.dev.cyc.duty0 = [] → dutyTaken m s.dev = (upto 3).map (fun x => s.dev.get (MDU_MDUTY_DUTY m x))) ∧
    (s.dev.bit (MDU_MCFG_TMR_EN m) = true → exec (.tmrEnable m) s = .next s) ∧
    (s.dev.bit (MDU_MCFG_TMR_EN m) = false → DoesBy (.tmrEnable m) s (fun e => ctxPut (MDU_MCFG m) 0x20000000 0x20000000 e) (fun e =>
      e.bit (MDU_MCFG_TMR_EN m) = true ∧ e.get (MDU_MCFG_PER m) = s.dev.get (MDU_MCFG_PER m) ∧ e.mdu.starts.testBit m = true ∧
      (e.motor m).per = s.dev.get (MDU_MCFG_PER m) ∧ (e.motor m).dt = s.dev.get (MDU_MCFG_DT m) ∧
      (e.motor m).duty = dutyTaken m s.dev ∧ (∀ k, k ≠ m → e.motor k = s.dev.motor k) ∧
      RegsBut [MDU_MCFG m] s.dev e ∧ DriveOnly s.dev e)) ∧
    (s.dev.bit (MDU_MCFG_TMR_EN m) = false → exec (.pwmValley m) s = .next s ∧ exec (.centreTrigger m) s = .next s) ∧
    (s.dev.bit (MDU_MCFG_TMR_EN m) = true → DoesBy (.pwmValley m) s (fire [0x358 + m]) (fun e =>
      (e.motor m).per = s.dev.get (MDU_MCFG_PER m) ∧ (e.motor m).dt = s.dev.get (MDU_MCFG_DT m) ∧
      (e.motor m).filt = s.dev.get (MDU_MCFG_FLT_FILT m) ∧ (e.motor m).trigOfs = s.dev.get (MDU_MTRIG_TRIG_OFS m) ∧
      (e.motor m).duty = dutyTaken m s.dev ∧ (e.motor m).written = false ∧
      (∀ k, k ≠ m → e.motor k = s.dev.motor k) ∧ RegsBut [MDU_MSTAT m, MDU_MSPD m] s.dev e ∧ DriveOnly s.dev e ∧
      (s.dev.get (MDU_MSTAT_STATE m) = 2 → (s.dev.motor m).wdogOn = false → e.get (MDU_MSTAT_STATE m) = 2 ∧
        ∀ r, r = rampStep (s.dev.sget (MDU_MSPD_SPDCMD m)) (spdGoal s.dev m) (s.dev.get (MDU_MRAMP_ACCEL m))
          (s.dev.get (MDU_MRAMP_DECEL m)) (s.dev.motor m).per (s.dev.motor m).frac →
        e.get (MDU_MSPD_SPDCMD m) = ux 16 r.1 ∧ (e.motor m).frac = r.2) ∧
      (1 ≤ s.dev.get (MDU_MSTAT_STATE m) → s.dev.get (MDU_MSTAT_STATE m) ≤ 3 → (s.dev.motor m).wdogOn = true →
        ((s.dev.motor m).written = true → e.get (MDU_MSTAT_STATE m) = s.dev.get (MDU_MSTAT_STATE m) ∧ (e.motor m).wdogCnt = 0) ∧
        ((s.dev.motor m).written = false → s.dev.get (MDU_MTRIG_WDOG m) ≤ (s.dev.motor m).wdogCnt + 1 →
          e.get (MDU_MSTAT_STATE m) = 6 ∧ e.get (MDU_MSTAT_CAUSE m) = 5 ∧ e.bit (MDU_MSTAT_MEN m) = false)))) ∧
    (s.dev.bit (MDU_MCFG_TMR_EN m) = true → (∀ u < 4, s.dev.get (CVU_SEQ_CTRL_TRIG_SRC u) ≠ m + 1) →
      exec (.centreTrigger m) s = .next s) ∧
    (0 < (s.dev.motor m).per → centreTick s.dev m < 2 * (s.dev.motor m).per ∧ ∃ k : Int,
      (centreTick s.dev m : Int) = (s.dev.motor m).per + sx 16 (s.dev.motor m).trigOfs + 2 * (s.dev.motor m).per * k) ∧
    (∀ v, v < 4 → s.dev.bit (MDU_MCFG_TMR_EN m) = true →
      (∀ u < 4, s.dev.get (CVU_SEQ_CTRL_TRIG_SRC u) = m + 1 ↔ u = v) → s.dev.ready (cvuDom v) = true → v ∉ s.dev.cyc.cvuTrig →
      seqOn s.dev v = false → DoesBy (.centreTrigger m) s (cvuShow v) (fun e => (e.cvuS v).missed = (s.dev.cvuS v).missed + 1 ∧
        e.mdu = s.dev.mdu ∧ RegsBut [CVU_TRIGCNT v] s.dev e))

/-- Motor decisions (R295, R296, R298): FAULT, RUN, failed starts and stalls with their retries and BLOCKED, STOPPING, CLEAR, the end of
COAST and the reset of ATTEMPT; in every other state the command changes nothing. -/
def Sys2Proof.Claims.MotorDecisions : Prop :=
  ∀ (s : State) (m : Nat), m < 8 → On s [6] → ∀ st, st = s.dev.get (MDU_MSTAT_STATE m) →
    (∀ v, (v != s.dev.bit (MDU_MCFG_FLT_POL m)) = true →
      (st = 6 → Does (.mfltFault m v) s (fun e => e.bit (MDU_MSTAT_MFLT m) = true ∧ e.get (MDU_MSTAT_STATE m) = 6 ∧
        e.mdu.mflt.testBit m = v ∧ Changes [MDU_MSTAT m] { s.dev with mdu.mflt := e.mdu.mflt } e)) ∧
      (st ≠ 6 → Does (.mfltFault m v) s (fun e => e.bit (MDU_MSTAT_MFLT m) = true ∧ e.mdu.mflt.testBit m = v ∧ BridgeOff m 6 4 s.dev e))) ∧
    (∀ v, (v != s.dev.bit (MDU_MCFG_FLT_POL m)) = false → Does (.mfltFault m v) s (fun e => e.bit (MDU_MSTAT_MFLT m) = false ∧
      e.mdu.mflt.testBit m = v ∧ e.get (MDU_MSTAT_STATE m) = st ∧ Changes [MDU_MSTAT m] { s.dev with mdu.mflt := e.mdu.mflt } e)) ∧
    (st = 1 → 64 ≤ (s.dev.motor m).valleys → Does (.motorRun m) s (fun e => e.get (MDU_MSTAT_STATE m) = 2 ∧
      e.get (MDU_MSPD_SPDCMD m) = s.dev.get (MDU_MSPD_SPDEST m) ∧ (e.motor m).valleys = 0 ∧ (∀ k, k ≠ m → e.motor k = s.dev.motor k) ∧
      RegsBut [MDU_MSTAT m, MDU_MSPD m] s.dev e ∧ DriveOnly s.dev e)) ∧
    (st ≠ 1 ∨ (s.dev.motor m).valleys < 64 → exec (.motorRun m) s = .next s) ∧
    (st = 1 → Does (.startWindow m) s (BridgeOff m (if motorTries s.dev m ≤ s.dev.get (MDU_MSTART_RETRIES m) then 4 else 5) 2 s.dev)) ∧
    (st = 3 → (s.dev.motor m).atZero = true → Does (.startWindow m) s (fun e => BridgeOff m 0 1 s.dev e ∧ e.get (MDU_MSTAT_ATTEMPT m) = 0)) ∧
    (st ≠ 1 ∧ st ≠ 3 → exec (.startWindow m) s = .next s) ∧
    (st = 4 → Does (.retryPause m) s (MotorStarted m s.dev)) ∧ (st ≠ 4 → exec (.retryPause m) s = .next s) ∧
    (st = 2 → 64 ≤ (s.dev.motor m).valleys →
      Does (.motorStall m) s (BridgeOff m (if motorTries s.dev m ≤ s.dev.get (MDU_MSTART_RETRIES m) then 4 else 5) 3 s.dev)) ∧
    (st ≠ 2 ∨ (s.dev.motor m).valleys < 64 → exec (.motorStall m) s = .next s) ∧
    (st = 3 → (∀ v, spdMag s.dev m = some v → v < minSpeed s.dev m) →
      Does (.motorStopped m) s (fun e => BridgeOff m 0 1 s.dev e ∧ e.get (MDU_MSTAT_ATTEMPT m) = 0)) ∧
    (st ≠ 3 → exec (.motorStopped m) s = .next s) ∧
    (st ≠ 5 ∧ st ≠ 6 ∨ s.dev.bit (MDU_MSTAT_MFLT m) = true → exec (.motorClear m) s = .next s) ∧
    (st = 5 ∨ st = 6 → s.dev.bit (MDU_MSTAT_MFLT m) = false →
      ((s.dev.bit (MDU_MCMD_RUN m) && s.dev.pwr.released && !(s.dev.motor m).coast) = false → Does (.motorClear m) s (fun e =>
        e.get (MDU_MSTAT_STATE m) = 0 ∧ motorTries e m = 0 ∧ (∀ k, k ≠ m → e.motor k = s.dev.motor k) ∧
        Changes [MDU_MSTAT m] { s.dev with mdu.motors := e.mdu.motors } e)) ∧
      ((s.dev.bit (MDU_MCMD_RUN m) && s.dev.pwr.released && !(s.dev.motor m).coast) = true → Does (.motorClear m) s (fun e =>
        e.get (MDU_MSTAT_STATE m) = 1 ∧ e.get (MDU_MSTAT_ATTEMPT m) = 1 ∧ RegsBut [MDU_MSTAT m, MDU_MSPD m] s.dev e))) ∧
    (st = 2 → Does (.attemptReset m) s (fun e => motorTries e m = 0 ∧ e.get (MDU_MSTAT_STATE m) = 2 ∧
      (∀ k, k ≠ m → e.motor k = s.dev.motor k) ∧ Changes [MDU_MSTAT m] { s.dev with mdu.motors := e.mdu.motors } e)) ∧ (st ≠ 2 → exec (.attemptReset m) s = .next s) ∧
    (st = 0 → s.dev.bit (MDU_MCMD_RUN m) = true → s.dev.pwr.released = true → Does (.coastElapsed m) s (MotorStarted m s.dev)) ∧
    (st ≠ 0 ∨ s.dev.bit (MDU_MCMD_RUN m) = false ∨ s.dev.pwr.released = false → Does (.coastElapsed m) s (fun e =>
      (e.motor m) = { s.dev.motor m with coast := false } ∧ (∀ k, k ≠ m → e.motor k = s.dev.motor k) ∧ e = { s.dev with mdu := e.mdu }))

/-- While the drive unit is off (R52, R296, R298) its channels do nothing, but the level of MFLT is kept and COAST passes. -/
def Sys2Proof.Claims.MotorsWhileOff : Prop :=
  ∀ (s : State) (m : Nat) (v : Bool), s.dev.live = true → s.dev.ready 6 = false →
    Does (.mfltFault m v) s (fun e => (∀ k, e.mdu.mflt.testBit k = if k = m then v else s.dev.mdu.mflt.testBit k) ∧
      e = { s.dev with mdu.mflt := e.mdu.mflt }) ∧
    Does (.coastElapsed m) s (fun e => e.motor m = { s.dev.motor m with coast := false } ∧
      (∀ k, k ≠ m → e.motor k = s.dev.motor k) ∧ e = { s.dev with mdu.motors := e.mdu.motors }) ∧
    (∀ c ∈ [Instr.tmrEnable m, .pwmValley m, .motorRun m, .startWindow m, .retryPause m, .motorStall m, .motorStopped m, .motorClear m,
        .attemptReset m, .fanPeriodStart m, .tachTimeout m, .kickEnd m, .fanPauseEnd m, .tachLostTimeout m, .fanClear m, .bandLearn m],
      exec c s = .next s)

/-- Motor channels (R290, R293, R295 to R299): timers, valleys, decisions, and the unit while it is off. -/
def Obligations.MotorChannels : Prop := Claims.MotorTimers ∧ Claims.MotorDecisions ∧ Claims.MotorsWhileOff

/-- Writes of RUN and TARGET (R298, R304, R305, R309): without a latch group RUN starts, resumes or stops the motor and a fan follows its
target; with one, the pending copy alone changes. -/
def Sys2Proof.Claims.DriveTargets : Prop :=
  ∀ (s : State), On s [6] → s.dev.cyc.posted = [] →
    (∀ m b, m < 8 →
      (s.dev.get (MDU_MTRIG_LATCH m) ≠ 15 → DoesBy (.runWrite m b) s (fun e => ctxPut (MDU_MCMD m) (if b then 1 else 0) 1 e) (fun e =>
        e.motor m = { s.dev.motor m with pendRun := b.toNat } ∧ (∀ k, k ≠ m → e.motor k = s.dev.motor k) ∧ e = { s.dev with mdu := e.mdu })) ∧
      (s.dev.get (MDU_MTRIG_LATCH m) = 15 → DoesBy (.runWrite m b) s (fun e => ctxPut (MDU_MCMD m) (if b then 1 else 0) 1 e) (fun e =>
        e.bit (MDU_MCMD_RUN m) = b ∧ (∀ k, k ≠ m → e.motor k = s.dev.motor k) ∧ RegsBut [MDU_MCMD m, MDU_MSTAT m, MDU_MSPD m] s.dev e ∧
        DriveOnly s.dev e ∧ ∀ st t, st = s.dev.get (MDU_MSTAT_STATE m) → t = e.get (MDU_MSTAT_STATE m) →
          (b = true → (st = 0 → t = if s.dev.pwr.released && !(s.dev.motor m).coast then 1 else 0) ∧ (st = 3 → t = 2) ∧
            (st ≠ 0 → st ≠ 3 → t = st)) ∧
          (b = false → (st = 2 → t = 3) ∧ (st = 1 ∨ st = 4 → t = 0 ∧ e.get (MDU_MSTAT_ATTEMPT m) = 0 ∧ e.bit (MDU_MSTAT_MEN m) = false) ∧
            (st = 0 ∨ st = 3 ∨ 5 ≤ st → t = st))))) ∧
    (∀ f v, f < 16 →
      (s.dev.get (MDU_FCFG_LATCH f) ≠ 15 → DoesBy (.fanTargetWrite f v) s (fun e => ctxPut (MDU_FTGT f) (BitVec.ofNat 32 (v % 65536)) 0xFFFF e)
        (fun e => e.fan f = { s.dev.fan f with pendTgt := v % 65536 } ∧ (∀ k, k ≠ f → e.fan k = s.dev.fan k) ∧ e = { s.dev with mdu := e.mdu })) ∧
      (s.dev.get (MDU_FCFG_LATCH f) = 15 → DoesBy (.fanTargetWrite f v) s
        (fun e => ctxPut (MDU_FTGT f) (BitVec.ofNat 32 (v % 65536)) 0xFFFF e) (fun e => e.get (MDU_FTGT_TARGET f) = v % 65536 ∧
          (∀ k, k ≠ f → e.fan k = s.dev.fan k) ∧ RegsBut [MDU_FTGT f, MDU_FSTAT f] s.dev e ∧ DriveOnly s.dev e ∧
          (s.dev.get (MDU_FSTAT_STATE f) = 0 → 0 < v % 65536 → v % 65536 < 32768 → s.dev.pwr.released = true →
            e.get (MDU_FSTAT_STATE f) = (if s.dev.get (MDU_FCFG_KICK f) = 0 then 2 else 1) ∧
            e.get (MDU_FSTAT_ATTEMPT f) = (s.dev.get (MDU_FSTAT_ATTEMPT f) + 1) % 16 ∧
            (s.dev.get (MDU_FCFG_KICK f) ≠ 0 → (e.fan f).next = 32767)) ∧
          (s.dev.get (MDU_FSTAT_STATE f) ≠ 5 → v % 65536 = 0 ∨ 32768 ≤ v % 65536 → e.get (MDU_FSTAT_STATE f) = 0 ∧
            (s.dev.get (MDU_FSTAT_STATE f) ≠ 0 → (e.fan f).next = 0 ∧ e.get (MDU_FSTAT_ATTEMPT f) = 0)))))

/-- Fans (R302 to R305): a new duty applies at a period start; PPR falling edges complete a revolution, which sets RPM and ends TACH_LOST; two seconds without an edge
invalidate RPM and lead to TACH_LOST or STALL_WAIT; then restarts, FAILED and CLEAR follow. -/
def Sys2Proof.Claims.FanStates : Prop :=
  ∀ (s : State) (f : Nat), f < 16 → On s [6] → ∀ st, st = s.dev.get (MDU_FSTAT_STATE f) →
    ((s.dev.fan f).next < 65536 → Does (.fanPeriodStart f) s (fun e => e.get (MDU_FSTAT_DUTY f) = (s.dev.fan f).next ∧
      e.get (MDU_FSTAT_STATE f) = st ∧ Changes [MDU_FSTAT f] s.dev e)) ∧
    (∀ l, tachTicks (s.dev.get (MDU_FCFG_PPR_M1 f) + 1) l = none → exec (.tachUpdate f l) s = .next s) ∧
    (∀ l t, tachTicks (s.dev.get (MDU_FCFG_PPR_M1 f) + 1) l = some t → 183106 < t → DoesBy (.tachUpdate f l) s (fire [0x340 + f]) (fun e => e.get (MDU_FTACH_RPM f) = 12000000000 / t ∧
      e.get (MDU_FTACH_UPDATES f) = (s.dev.get (MDU_FTACH_UPDATES f) + 1) % 256 ∧ e.bit (MDU_FTACH_VALID f) = decide (1 ≤ (s.dev.fan f).revs) ∧
      (e.fan f).revs = Nat.min ((s.dev.fan f).revs + 1) 2 ∧
      (st = 3 → 1 ≤ (s.dev.fan f).revs → e.get (MDU_FSTAT_STATE f) = 2 ∧ (e.fan f).trim = 0) ∧
      (st ≠ 3 → e.get (MDU_FSTAT_STATE f) = st ∧ RegsBut [MDU_FTACH f] s.dev e) ∧
      (st = 2 → s.dev.bit (MDU_FCFG_MODE f) = false → (e.fan f).trim.natAbs ≤ s.dev.get (MDU_FTRIM_LIMIT f) ∨ (s.dev.fan f).revs = 0) ∧
      (∀ k, k ≠ f → e.fan k = s.dev.fan k) ∧ RegsBut [MDU_FTACH f, MDU_FSTAT f] s.dev e ∧ DriveOnly s.dev e)) ∧
    Does (.tachTimeout f) s (fun e => e.get (MDU_FTACH_RPM f) = 0 ∧ e.bit (MDU_FTACH_VALID f) = false ∧ (e.fan f).revs = 0 ∧
      (st = 1 ∨ st = 2 → 0 < s.dev.get (MDU_FSTAT_DUTY f) → e.get (MDU_FSTAT_STATE f) = (if inBand s.dev f then 3 else 4) ∧
        (inBand s.dev f = false → (e.fan f).next = 0)) ∧
      (st ≠ 1 → st ≠ 2 → e.get (MDU_FSTAT_STATE f) = st) ∧ (∀ k, k ≠ f → e.fan k = s.dev.fan k) ∧
      RegsBut [MDU_FTACH f, MDU_FSTAT f] s.dev e ∧ DriveOnly s.dev e) ∧
    (st = 1 → Does (.kickEnd f) s (fun e => e.get (MDU_FSTAT_STATE f) = 2 ∧ (∀ k, k ≠ f → e.fan k = s.dev.fan k) ∧
      (s.dev.bit (MDU_FCFG_MODE f) = true → (e.fan f).next = (clampI 0 32767 (s.dev.sget (MDU_FTGT_TARGET f))).toNat) ∧
      RegsBut [MDU_FSTAT f] s.dev e ∧ DriveOnly s.dev e)) ∧ (st ≠ 1 → exec (.kickEnd f) s = .next s) ∧
    (st = 4 → fanTries s.dev f ≤ s.dev.get (MDU_FCFG_RESTARTS f) → s.dev.get (MDU_FCFG_KICK f) ≠ 0 →
      Does (.fanPauseEnd f) s (fun e => FanIs f 1 32767 [MDU_FSTAT f] s.dev e ∧
        e.get (MDU_FSTAT_ATTEMPT f) = (s.dev.get (MDU_FSTAT_ATTEMPT f) + 1) % 16)) ∧
    (st = 4 → s.dev.get (MDU_FCFG_RESTARTS f) < fanTries s.dev f →
      Does (.fanPauseEnd f) s (FanIs f 5 0 [MDU_FSTAT f] s.dev)) ∧ (st ≠ 4 → exec (.fanPauseEnd f) s = .next s) ∧
    (st = 3 → inBand s.dev f = false → Does (.tachLostTimeout f) s (FanIs f 4 0 [MDU_FSTAT f] s.dev)) ∧
    (st ≠ 3 ∨ inBand s.dev f = true → exec (.tachLostTimeout f) s = .next s) ∧
    (st = 5 → s.dev.sget (MDU_FTGT_TARGET f) ≤ 0 → Does (.fanClear f) s (fun e => FanIs f 0 0 [MDU_FSTAT f] s.dev e ∧
      e.get (MDU_FSTAT_ATTEMPT f) = 0)) ∧
    (st = 5 → 0 < s.dev.sget (MDU_FTGT_TARGET f) → s.dev.pwr.released = true → s.dev.get (MDU_FCFG_KICK f) ≠ 0 →
      Does (.fanClear f) s (fun e => FanIs f 1 32767 [MDU_FSTAT f] s.dev e ∧ e.get (MDU_FSTAT_ATTEMPT f) = 1)) ∧
    (st ≠ 5 → exec (.fanClear f) s = .next s) ∧
    (st = 2 → Does (.attemptReset (8 + f)) s (fun e => fanTries e f = 0 ∧ e.get (MDU_FSTAT_STATE f) = 2 ∧
      (∀ k, k ≠ f → e.fan k = s.dev.fan k) ∧ Changes [MDU_FSTAT f] { s.dev with mdu.fans := e.mdu.fans } e)) ∧ (st ≠ 2 → exec (.attemptReset (8 + f)) s = .next s)

/-- Targets and fans (R298, R302 to R305, R309). -/
def Obligations.FansAndTargets : Prop := Claims.DriveTargets ∧ Claims.FanStates

/-- Learning (R306, R311 to R313): a band averages the current of a steady second; the ageing sample keeps the last ten speeds and moves A
by 1/86,400 of its distance; LEARN starts with empty bins and its end stores their means. -/
def Obligations.DriveLearning : Prop :=
  ∀ (s : State), s.dev.live = true →
    (∀ f b, f < 16 → s.dev.ready 6 = true → b = s.dev.get (MDU_FSTAT_DUTY f) / 4096 → b < 8 → ∀ n x, x = s.dev.fan f → n = (tabGet 0 b x.bandN) →
      (fanCurrent s.dev f = none ∨ s.dev.get (MDU_FSTAT_STATE f) ≠ 2 ∨ s.dev.bit (MDU_FTACH_VALID f) = false ∨ x.band ≠ b ∨ x.bandSecs < 9 →
        Does (.bandLearn f) s (fun e => e.fan f = { x with band := b, bandSecs := if x.band = b then Nat.min (x.bandSecs + 1) 10 else 0 } ∧
          (∀ k, k ≠ f → e.fan k = s.dev.fan k) ∧ e = { s.dev with mdu := e.mdu })) ∧
      (∀ i, fanCurrent s.dev f = some i → s.dev.get (MDU_FSTAT_STATE f) = 2 → s.dev.bit (MDU_FTACH_VALID f) = true → x.band = b →
        9 ≤ x.bandSecs → s.dev.pwr.ctx.length < 2048 → Does (.bandLearn f) s (fun e => ∀ a, a = s.dev.sget (MDU_FBAND_MEAN f b) →
          e.get (MDU_FBAND_MEAN f b) = ux 16 (a + rdiv (i - a) (if s.dev.bit (MDU_FBAND_LEARNED f b) then 64 else (n + 1 : Nat))) ∧
          e.bit (MDU_FBAND_LEARNED f b) = (s.dev.bit (MDU_FBAND_LEARNED f b) || decide (63 ≤ n)) ∧
          tabGet 0 b (e.fan f).bandN = Nat.min (n + 1) 64 ∧ (∀ k, k ≠ f → e.fan k = s.dev.fan k) ∧ RegsBut [MDU_FBAND f b] s.dev e ∧
          DriveOnly { s.dev with pwr.ctx := e.pwr.ctx } e))) ∧
    (∀ n, n < 24 → ∀ x, x = s.dev.drive n → (∀ p, p = driveSpeed s.dev n →
      (p = none ∨ x.speeds.getD 9 none = none ∨ driveRuns s.dev n = false → driveEffort s.dev n ≠ none → Does (.ageingSample n) s (fun e =>
        e.drive n = { x with speeds := (p :: x.speeds).take 10 } ∧ (∀ k, k ≠ n → e.drive k = s.dev.drive k) ∧ e = { s.dev with mdu := e.mdu })) ∧
      (∀ v o f q, p = some v → x.speeds.getD 9 none = some o → driveEffort s.dev n = some f → driveRuns s.dev n = true →
        ((v : Int) - o).natAbs ≤ 328 → x.learning = false → ageRef s.dev n v = some q → 0 < q → x.warn = false → x.alarm = false →
        x.warnCnt < 59 → x.alarmCnt < 59 → Does (.ageingSample n) s (fun e =>
          (e.drive n).a = x.a + ((f : Int) * 2048 * ageOne / q - x.a) / 86400 ∧
          e.ent (0x6400 + n) 4 = (clampI 0 65535 (rdiv ((e.drive n).a * 1000) ageOne)).toNat ∧
          (∀ i k, k < 256 → (i, k) ≠ (0x6400 + n, 4) → e.ent i k = s.dev.ent i k) ∧ (∀ k, k ≠ n → e.drive k = s.dev.drive k) ∧
          RegsBut [] s.dev e ∧ MemSame s.dev e))) ∧
      Does (.ageingLearn n true) s (fun e => e.ent (0x6400 + n) 1 = 1 ∧ e.drive n = { x with learning := true, sums := [], cnts := [] } ∧
        (∀ i k, k < 256 → (i, k) ≠ (0x6400 + n, 1) → e.ent i k = s.dev.ent i k) ∧ e = { s.dev with mdu := e.mdu, dict := e.dict }) ∧
      (x.learning = false → Does (.ageingLearn n false) s (fun e => e.ent (0x6400 + n) 1 = 0 ∧ e = { s.dev with dict := e.dict })) ∧
      (x.learning = true → Does (.ageingLearn n false) s (fun e => e.ent (0x6400 + n) 1 = 0 ∧ e.ent (0x6400 + n) 4 = 1000 ∧
        e.drive n = { x with learning := false, a := ageOne } ∧
        (∀ k < 16, e.entHalf (0x6400 + n) 2 k = if tabGet 0 k x.cnts = 0 then 0
          else (rdiv (tabGet 0 k x.sums : Nat) (tabGet 0 k x.cnts : Nat)).toNat % 65536) ∧
        (∀ k < 16, (e.ent (0x6400 + n) 3).testBit k = decide (60 ≤ tabGet 0 k x.cnts)) ∧ e = { s.dev with mdu := e.mdu, dict := e.dict }))) 

/-! ### Actuators and I/O (chapter 11) -/

/-- Outputs (R317 to R319, R322): an overcurrent flags a conducting output alone; CLEAR (which leaves
a trip of the same cycle), the end of a pulse and the end of a gap act on their own output or pair; an APPLY marks its groups for the end of the cycle. -/
def Sys2Proof.Claims.ActuatorOutputs : Prop :=
  ∀ (s : State), On s [7] →
    (∀ n, n < 32 → actOn s.dev n = true → Does (.actOvercurrent n) s (fun e => e.bitN AIO_ACTOC_OC n = true ∧ actOn e n = false ∧
      (∀ k < 32, k ≠ n → e.bitN AIO_ACTOC_OC k = s.dev.bitN AIO_ACTOC_OC k) ∧ RegsBut [AIO_ACTOC] s.dev e ∧ MemSame s.dev e ∧
      e.aio = s.dev.aio)) ∧
    (∀ n, n < 32 → actOn s.dev n = false → exec (.actOvercurrent n) s = .next s) ∧
    (∀ mask, Does (.actocClear mask) s (fun e => (∀ n < 32, e.bitN AIO_ACTOC_OC n = (s.dev.bitN AIO_ACTOC_OC n && (!mask.testBit n || (hwMask s.dev AIO_ACTOC).getLsbD n))) ∧
      Changes [AIO_ACTOC] s.dev e)) ∧
    (∀ n, n < 32 → s.dev.aio.pulse.testBit n = true → Does (.actPulseEnd n) s (fun e => e.bitN AIO_ACTOUT_LEVEL n = false ∧
      (∀ k < 32, k ≠ n → e.bitN AIO_ACTOUT_LEVEL k = s.dev.bitN AIO_ACTOUT_LEVEL k ∧ e.aio.pulse.testBit k = s.dev.aio.pulse.testBit k) ∧
      e.aio.pulse.testBit n = false ∧ e.aio.pendAct.testBit n = false ∧ RegsBut [AIO_ACTOUT] s.dev e ∧ MemSame s.dev e)) ∧
    (∀ n, n < 32 → s.dev.aio.pulse.testBit n = false → exec (.actPulseEnd n) s = .next s) ∧
    (∀ p, p < 16 → s.dev.get (AIO_PAIR_STATE p) = 3 → Does (.pairGapEnd p) s (fun e =>
      e.get (AIO_PAIR_STATE p) = (if s.dev.bit (AIO_PAIRCFG_EN p) && s.dev.pwr.released then
        (if s.dev.get (AIO_PAIR_DRV p) = 1 then 1 else if s.dev.get (AIO_PAIR_DRV p) = 3 then 2 else 0) else 0) ∧
      e.get (AIO_PAIR_DRV p) = s.dev.get (AIO_PAIR_DRV p) ∧ Changes [AIO_PAIR p] s.dev e)) ∧
    (∀ p, p < 16 → s.dev.get (AIO_PAIR_STATE p) ≠ 3 → exec (.pairGapEnd p) s = .next s) ∧
    (∀ mask, mask < 32768 → Does (.latchApply mask) s (fun e => (∀ g < 15, e.aio.latch.testBit g = (s.dev.aio.latch.testBit g || mask.testBit g)) ∧
      e = { s.dev with aio.latch := e.aio.latch }))

/-- GPIO inputs (R325 to R327): an accepted level that does not change the input does nothing; one that does is active or not by POL, a
configured edge is captured with its time, and a wake input wakes the device; reading a capture, as it stood at the start of the cycle,
latches its time for the reader. -/
def Sys2Proof.Claims.GpioInputs : Prop :=
  ∀ (s : State) (n : Nat) (level : Bool) (raw : Nat), s.dev.live = true → n < 64 → ∀ act, act = (level != decide (s.dev.cget (AIO_GPIOCFG_POL n) = 1)) →
    (s.dev.aio.gpio.testBit n = level → exec (.gpioInput n level raw) s = .next s) ∧
    (s.dev.aio.gpio.testBit n ≠ level → s.dev.cget (AIO_GPIOCFG_WAKE n) = 0 →
      ((s.dev.cget (AIO_GPIOCFG_EDGE n)).testBit (if act then 0 else 1) = false → Does (.gpioInput n level raw) s (fun e =>
        (∀ k < 64, e.aio.gpio.testBit k = if k = n then level else s.dev.aio.gpio.testBit k) ∧
        e = { s.dev with aio.gpio := e.aio.gpio, cyc.gpio0 := e.cyc.gpio0 })) ∧
      ((s.dev.cget (AIO_GPIOCFG_EDGE n)).testBit (if act then 0 else 1) = true → DoesBy (.gpioInput n level raw) s (fire [0x300 + n]) (fun e =>
        (∀ k < 64, e.aio.gpio.testBit k = if k = n then level else s.dev.aio.gpio.testBit k) ∧
        tabGet 0 n e.aio.capN = (tabGet 0 n s.dev.aio.capN + 1) % 65536 ∧ tabGet 0 n e.aio.capT = raw ∧
        capBefore e n = capBefore s.dev n ∧
        (∀ k, k ≠ n → tabGet 0 k e.aio.capN = tabGet 0 k s.dev.aio.capN ∧ tabGet 0 k e.aio.capT = tabGet 0 k s.dev.aio.capT) ∧
        RegsBut [] s.dev e ∧ MemSame s.dev e))) ∧
    (s.dev.aio.gpio.testBit n ≠ level → s.dev.cget (AIO_GPIOCFG_WAKE n) = 1 →
      (s.dev.cget (AIO_GPIOCFG_EDGE n)).testBit (if act then 0 else 1) = false →
      DoesBy (.gpioInput n level raw) s wakeUp (fun e => (∀ k < 64, e.aio.gpio.testBit k = if k = n then level else s.dev.aio.gpio.testBit k) ∧
        e = { s.dev with aio.gpio := e.aio.gpio, cyc.gpio0 := e.cyc.gpio0 })) ∧
    (∀ k, gpioIn s.dev k = (s.dev.aio.gpio.testBit k != decide (s.dev.cget (AIO_GPIOCFG_POL k) = 1))) ∧
    (s.dev.cyc.cap0 = [] → capBefore s.dev n = (tabGet 0 n s.dev.aio.capN, tabGet 0 n s.dev.aio.capT)) ∧
    (∀ ini sess, ini < 8 → s.dev.ready 7 = true → Does (.gcapRead ini sess n) s (fun e => e.bus = (capBefore s.dev n).1 % 65536 ∧
      e.latchOf (readerKey ini sess) AIO_GCAPT_LO = (capBefore s.dev n).2 ∧
      (∀ k, k ≠ readerKey ini sess → e.latchOf k AIO_GCAPT_LO = s.dev.latchOf k AIO_GCAPT_LO) ∧
      e = { s.dev with bus := e.bus, tlatch := e.tlatch }))

/-- Outputs (R317 to R319, R322) and GPIO inputs (R325 to R327). -/
def Obligations.OutputsAndInputs : Prop := Claims.ActuatorOutputs ∧ Claims.GpioInputs

/-- I²C controllers (R330 to R334): EN starts with a check of the entries; a round polls its entries in order, none after a line failure; the
START of a read phase meets the bus again; a done entry updates its readings, or fails them where it is not acknowledged or a CRC byte
does not match, and the next one starts, meets a freed bus, or ends the round on a stuck one. -/
def Obligations.I2cControllers : Prop :=
  ∀ (s : State) (c : Nat), c < 8 → On s [7] → ∀ x, x = s.dev.i2c c →
    (s.dev.bit (AIO_I2CCFG_EN c) = false →
      (i2cCheck s.dev c = none → DoesBy (.i2cEnable c) s (fun e => ctxPut (AIO_I2CCFG c) 1 1 e) (fun e =>
        e.bit (AIO_I2CCFG_EN c) = true ∧ e.get (AIO_I2CSTAT_STATE c) = 1 ∧ e.get (AIO_I2CSTAT_CFGERR c) = 0 ∧
        e.i2c c = { round := x.round } ∧ (∀ k, k ≠ c → e.i2c k = s.dev.i2c k) ∧ RegsBut [AIO_I2CCFG c, AIO_I2CSTAT c] s.dev e ∧
        MemSame s.dev e)) ∧
      (∀ p code, i2cCheck s.dev c = some (p, code) → DoesBy (.i2cEnable c) s (fun e => ctxPut (AIO_I2CCFG c) 1 1 e) (fun e =>
        e.bit (AIO_I2CCFG_EN c) = false ∧ e.get (AIO_I2CSTAT_CFGERR c) = code ∧ e.get (AIO_I2CSTAT_BADENTRY c) = p ∧ e.aio = s.dev.aio ∧
        RegsBut [AIO_I2CCFG c, AIO_I2CSTAT c] s.dev e ∧ MemSame s.dev e))) ∧
    (s.dev.bit (AIO_I2CCFG_EN c) = true → DoesBy (.i2cDisable c) s (fun e => ctxPut (AIO_I2CCFG c) 0 1 e) (fun e =>
      e.bit (AIO_I2CCFG_EN c) = false ∧ e.get (AIO_I2CSTAT_STATE c) = 0 ∧ (∀ k < 32, e.bit (AIO_I2CRD_VALID (32 * c + k)) = false) ∧
      e.i2c c = { round := x.round } ∧ (∀ k, k ≠ c → e.i2c k = s.dev.i2c k) ∧
      RegsBut ([AIO_I2CCFG c, AIO_I2CSTAT c] ++ (upto 32).map (fun k => AIO_I2CRD (32 * c + k))) s.dev e ∧ MemSame s.dev e)) ∧
    (∀ b, s.dev.bit (AIO_I2CCFG_EN c) = false ∨ s.dev.get (AIO_I2CCFG_PERIOD c) = 0 ∨ s.dev.bit PMC_LINE_FAIL = true →
      exec (.i2cRound c b) s = .next s) ∧
    (∀ b, s.dev.bit (AIO_I2CCFG_EN c) = true → s.dev.get (AIO_I2CCFG_PERIOD c) ≠ 0 → s.dev.bit PMC_LINE_FAIL = false →
      (x.cur ≠ none ∨ x.left ≠ [] → Does (.i2cRound c b) s (fun e =>
        e.get (AIO_I2CSTAT_SKIPPED c) = Nat.min (s.dev.get (AIO_I2CSTAT_SKIPPED c) + 1) 255 ∧ e.aio = s.dev.aio ∧
        RegsBut [AIO_I2CSTAT c] s.dev e ∧ MemSame s.dev e)) ∧
      (∀ p l, x.cur = none → x.left = [] → i2cPolled s.dev c = p :: l → b = .free → s.dev.bit (AIO_I2CSTAT_STUCK c) = false →
        Does (.i2cRound c b) s (fun e => e.get (AIO_I2CSTAT_STATE c) = 2 ∧ e.get (AIO_I2CSTAT_ENTRY c) = p ∧ (e.i2c c).cur = some p ∧
          (e.i2c c).left = l ∧ (e.i2c c).round = x.round + 1 ∧ (∀ k, k ≠ c → e.i2c k = s.dev.i2c k) ∧ Changes [AIO_I2CSTAT c] { s.dev with aio := e.aio } e)) ∧
      (x.cur = none → x.left = [] → i2cPolled s.dev c = [] → DoesBy (.i2cRound c b) s (fire [0x350 + c]) (fun e =>
        e.get (AIO_I2CSTAT_STATE c) = 1 ∧ (e.i2c c).round = x.round + 1 ∧ (e.i2c c).cur = none ∧
        Changes [AIO_I2CSTAT c] { s.dev with aio := e.aio } e))) ∧
    (∀ b, x.cur = none ∨ x.waiting = false → exec (.i2cWait ⟨c, b⟩) s = .next s) ∧
    (∀ b p, x.cur = some p → x.waiting = true →
      (b = .free → s.dev.bit (AIO_I2CSTAT_STUCK c) = false → Does (.i2cWait ⟨c, b⟩) s (fun e => e.i2c c = { x with waiting := false } ∧
        (∀ k, k ≠ c → e.i2c k = s.dev.i2c k) ∧ e = { s.dev with aio := e.aio })) ∧
      (b = .recovered → Does (.i2cWait ⟨c, b⟩) s (fun e => e.i2c c = { x with waiting := false } ∧ e.bit (AIO_I2CSTAT_STUCK c) = false ∧
        e.get (AIO_I2CSTAT_ERRORS c) = Nat.min (s.dev.get (AIO_I2CSTAT_ERRORS c) + 1) 255 ∧ RegsBut [AIO_I2CSTAT c] s.dev e)) ∧
      (b = .stuck → p < 16 → DoesBy (.i2cWait ⟨c, b⟩) s (fire [0x350 + c]) (fun e => e.bit (AIO_I2CSTAT_STUCK c) = true ∧
        e.get (AIO_I2CSTAT_STATE c) = 1 ∧ (e.i2c c).cur = none ∧ (e.i2c c).left = [] ∧ MemSame s.dev e))) ∧
    (∀ ok l b, x.cur = none ∨ (ok = true ∧ x.waiting = true) → exec (.i2cEntryDone c ok l b) s = .next s) ∧
    (∀ b, x.cur = none → exec (.i2cStretchTimeout c b) s = .next s) ∧
    (∀ p o l b, x.cur = some p → p < 16 → x.waiting = false → i2cData s.dev c p o = some l → DoesBy (.i2cEntryDone c true o b) s (i2cNext c b) (fun e =>
      (e.i2c c).cur = none ∧ tabGet 0 p (e.i2c c).fails = 0 ∧ p ∉ (e.i2c c).lost ∧ (e.i2c c).left = x.left ∧
      (∀ r ∈ i2cReadings s.dev c p, e.get (AIO_I2CRD_VALUE r.1) = i2cExtract s.dev c p r.2 l % 65536 ∧
        e.bit (AIO_I2CRD_VALID r.1) = true ∧ e.get (AIO_I2CRD_ROUND r.1) = x.round % 256) ∧
      RegsBut ((i2cReadings s.dev c p).map (fun r => AIO_I2CRD r.1)) s.dev e ∧ MemSame s.dev e)) ∧
    (∀ p ok l b, x.cur = some p → p < 16 → ok = false ∨ (x.waiting = false ∧ i2cData s.dev c p l = none) →
      (tabGet 0 p x.fails + 1 < Nat.max (s.dev.get (AIO_I2CCFG_FAIL_N c)) 1 →
        DoesBy (.i2cEntryDone c ok l b) s (i2cNext c b) (fun e =>
          e.get (AIO_I2CSTAT_ERRORS c) = Nat.min (s.dev.get (AIO_I2CSTAT_ERRORS c) + 1) 255 ∧ tabGet 0 p (e.i2c c).fails = tabGet 0 p x.fails + 1 ∧
          (e.i2c c).cur = none ∧ RegsBut [AIO_I2CSTAT c] s.dev e ∧ MemSame s.dev e) ∧
        DoesBy (.i2cStretchTimeout c b) s (i2cNext c b) (fun e =>
          e.get (AIO_I2CSTAT_ERRORS c) = Nat.min (s.dev.get (AIO_I2CSTAT_ERRORS c) + 1) 255 ∧ tabGet 0 p (e.i2c c).fails = tabGet 0 p x.fails + 1 ∧
          (e.i2c c).cur = none ∧ RegsBut [AIO_I2CSTAT c] s.dev e ∧ MemSame s.dev e)) ∧
      (Nat.max (s.dev.get (AIO_I2CCFG_FAIL_N c)) 1 ≤ tabGet 0 p x.fails + 1 → p ∉ x.lost →
        DoesBy (.i2cEntryDone c ok l b) s (i2cNext c b) (fun e => p ∈ (e.i2c c).lost ∧
          (∀ r ∈ i2cReadings s.dev c p, e.bit (AIO_I2CRD_VALID r.1) = false) ∧
          RegsBut (AIO_I2CSTAT c :: (i2cReadings s.dev c p).map (fun r => AIO_I2CRD r.1)) s.dev e ∧ MemSame s.dev e)))

/-! ### CAN FD (chapter 12) -/

namespace Sys2Proof.Claims

/-- No channel but `n` and no register outside `l` changes, no memory and no dictionary value; counters, log and cycle marks may. -/
def ChanOnly (n : Nat) (l : List Nat) (d e : Dev) : Prop :=
  (∀ k, k ≠ n → e.canS k = d.canS k) ∧ RegsBut l d e ∧
    e = { d with regs := e.regs, can := e.can, obs := e.obs, evLog := e.evLog, evSeq := e.evSeq, cyc := e.cyc,
                 pwr.nvEvents := e.pwr.nvEvents }

/-- The status registers of the transmit buffers of channel `n`. -/
def txRegs (n : Nat) : List Nat := CAN_TXPEND n :: (upto 32).map (CAN_TXSTAT n)

end Sys2Proof.Claims

/-- Modes of a channel (R340, R342, R344): a mode is entered from OFF after the channel check, refused with its code, or left at once where
no frame is in progress, with its buffers dropped; the rate search moves to the next candidate. -/
def Sys2Proof.Claims.CanModes : Prop :=
  ∀ (s : State) (n mode : Nat), n < 8 → mode < 8 → On s [9] → s.dev.pwr.ctx.length < 2048 →
    (mode ≠ 0 → s.dev.get (CAN_STAT_MODE n) ≠ 0 → exec (.canModeWrite n mode) s = .next s) ∧
    (mode ≠ 0 → s.dev.get (CAN_STAT_MODE n) = 0 → channelCheck s.dev n mode ≠ 0 → Does (.canModeWrite n mode) s (fun e =>
      e.get (CAN_STAT_CFGERR n) = channelCheck s.dev n mode ∧ e.get (CAN_STAT_MODE n) = 0 ∧ e.can = s.dev.can ∧ ChanOnly n [CAN_STAT n] s.dev e)) ∧
    (mode ≠ 0 → s.dev.get (CAN_STAT_MODE n) = 0 → channelCheck s.dev n mode = 0 → Does (.canModeWrite n mode) s (fun e =>
      e.get (CAN_STAT_MODE n) = mode ∧ e.get (CAN_CFG_MODE n) = mode ∧ e.get (CAN_STAT_CFGERR n) = 0 ∧
      (e.canS n).cand = (candidates s.dev n).headD 0 ∧ (e.canS n).good = 0 ∧
      ChanOnly n [CAN_STAT n, CAN_CFG n] { s.dev with pwr.ctx := e.pwr.ctx } e)) ∧
    (s.dev.get (CAN_STAT_MODE n) ≠ 0 → (s.dev.canS n).act = none → Does (.canModeWrite n 0) s (fun e =>
      e.get (CAN_STAT_MODE n) = 0 ∧ e.get (CAN_CFG_MODE n) = 0 ∧ (e.canS n).tx = [] ∧ (e.canS n).good = 0 ∧
      (∀ b < 32, txStatus e n b = if txStatus s.dev n b = 1 ∨ txStatus s.dev n b = 2 then 8 else txStatus s.dev n b) ∧
      ChanOnly n ([CAN_STAT n, CAN_CFG n] ++ txRegs n) { s.dev with pwr.ctx := e.pwr.ctx } e)) ∧
    ((s.dev.canS n).act ≠ none → s.dev.get (CAN_STAT_MODE n) ≠ 0 → Does (.canModeWrite n 0) s (fun e =>
      e.canS n = { s.dev.canS n with stop := true } ∧ e.get (CAN_CFG_MODE n) = 0 ∧ ChanOnly n [CAN_CFG n] { s.dev with pwr.ctx := e.pwr.ctx } e)) ∧
    (s.dev.get (CAN_STAT_MODE n) ≠ 4 → exec (.adrDwell n) s = .next s) ∧
    (s.dev.get (CAN_STAT_MODE n) = 4 →
      (∀ k, (candidates s.dev n).find? (fun k => decide ((s.dev.canS n).cand < k)) = some k → Does (.adrDwell n) s (fun e =>
        e.canS n = { s.dev.canS n with cand := k, good := 0 } ∧ ChanOnly n [] s.dev e)) ∧
      ((candidates s.dev n).find? (fun k => decide ((s.dev.canS n).cand < k)) = none → Does (.adrDwell n) s (fun e =>
        e.canS n = { s.dev.canS n with cand := (candidates s.dev n).headD 0, good := 0 } ∧
        e.get (CAN_ADR_CYCLES n) = Nat.min (s.dev.get (CAN_ADR_CYCLES n) + 1) 65535 ∧ ChanOnly n [CAN_ADR n] s.dev e)))

/-- Transmit buffers (R346 to R348): a request is checked and becomes PENDING or is refused; a cancellation empties a waiting buffer; at an
opportunity the best waiting buffer becomes ACTIVE; a frame that is sent, loses or is cancelled gives its buffer its status. -/
def Sys2Proof.Claims.CanTransmission : Prop :=
  ∀ (s : State) (n b : Nat), n < 8 → b < 30 → On s [9] → s.dev.cyc.canCan = [] → s.dev.cyc.canLate = [] →
    (txStatus s.dev n b = 1 ∨ txStatus s.dev n b = 2 → Does (.canTxreq n (2 ^ b)) s (fun e => ChanOnly n [] s.dev e ∧ e.can = s.dev.can)) ∧
    (txStatus s.dev n b ≠ 1 → txStatus s.dev n b ≠ 2 →
      (txCheck s.dev n b = 0 → Does (.canTxreq n (2 ^ b)) s (fun e => txStatus e n b = 1 ∧ e.bitN (CAN_TXPEND_PEND n) b = true ∧
        e.get (CAN_TXSTAT_CLASHES n b) = 0 ∧ (∀ k < 32, k ≠ b → e.bitN (CAN_TXPEND_PEND n) k = s.dev.bitN (CAN_TXPEND_PEND n) k) ∧
        e.can = s.dev.can ∧ ChanOnly n [CAN_TXPEND n, CAN_TXSTAT n b] s.dev e)) ∧
      (txCheck s.dev n b ≠ 0 → Does (.canTxreq n (2 ^ b)) s (fun e => txStatus e n b = 9 ∧ e.bitN (CAN_TXPEND_PEND n) b = false ∧
        e.can = s.dev.can ∧ ChanOnly n [CAN_TXPEND n, CAN_TXSTAT n b] s.dev e)) ∧
      Does (.canTxcan n (2 ^ b)) s (fun e => ChanOnly n [] s.dev e ∧ e.can = s.dev.can)) ∧
    (txStatus s.dev n b = 1 → Does (.canTxcan n (2 ^ b)) s (fun e => txStatus e n b = 5 ∧ e.bitN (CAN_TXPEND_PEND n) b = false ∧
      ChanOnly n [CAN_TXPEND n, CAN_TXSTAT n b] s.dev e)) ∧
    (txStatus s.dev n b = 2 → Does (.canTxcan n (2 ^ b)) s (fun e => e.canS n = { s.dev.canS n with cancel := true } ∧ ChanOnly n [] s.dev e)) ∧
    (canMaySend s.dev n = false ∨ txChoose s.dev n = none → exec (.canSof n) s = .next s) ∧
    (canMaySend s.dev n = true → (s.dev.canS n).chq = [] → txChoose s.dev n = some b →
      txStatus s.dev n b = 1 ∧ (∀ k < 32, txStatus s.dev n k = 1 → arbKey (txFrame s.dev n b) ≤ arbKey (txFrame s.dev n k)) ∧
      Does (.canSof n) s (fun e => txStatus e n b = 2 ∧ (e.canS n).act = some b ∧ (e.canS n).cancel = false ∧
        ChanOnly n [CAN_TXPEND n, CAN_TXSTAT n b] s.dev e)) ∧
    (canMaySend s.dev n = true → (s.dev.canS n).chq ≠ [] → Does (.canSof n) s (fun e =>
      e.canS n = { s.dev.canS n with act := some 32, cancel := false } ∧ ChanOnly n [] s.dev e)) ∧
    (∀ won dly, (s.dev.canS n).act = none → exec (.canFrameSent n won dly) s = .next s) ∧
    ((s.dev.canS n).act = some b → (s.dev.canS n).stop = false →
      (s.dev.bit (CAN_CFG_HEGUS_EN n) = false → Does (.canFrameSent n true none) s (fun e =>
        txStatus e n b = (if (s.dev.canS n).cancel then 4 else 3) ∧ e.get (CAN_TXSTAT_CLASHES n b) = 0 ∧
        (e.canS n).act = none ∧ (e.canS n).tec = (s.dev.canS n).tec - 1 ∧ ChanOnly n [CAN_TXPEND n, CAN_TXSTAT n b, CAN_STAT n] s.dev e)) ∧
      Does (.canFrameSent n false none) s (fun e =>
        txStatus e n b = (if (s.dev.canS n).cancel then 5 else if (txWord s.dev n b 1).getLsbD 7 then 7 else 1) ∧
        (e.canS n).act = none ∧ (e.canS n).tec = (s.dev.canS n).tec ∧ ChanOnly n [CAN_TXPEND n, CAN_TXSTAT n b] s.dev e))

/-- A cancellation in the cycle of the SOF is a late one (R348): the buffer that it took is still chosen and becomes ACTIVE, its frame goes on and
ends its buffer SENT_LATE or CANCELLED; a request in the cycle of a cancellation is cancelled. -/
def Sys2Proof.Claims.CanCancelledAtSof : Prop :=
  ∀ (s : State) (n b : Nat), n < 8 → b < 30 → On s [9] →
    (txStatus s.dev n b = 1 → 32 * n + b ∉ s.dev.cyc.canReq → Does (.canTxcan n (2 ^ b)) s (fun e => txStatus e n b = 5 ∧ txLate e n b = true ∧
      ChanOnly n [CAN_TXPEND n, CAN_TXSTAT n b] s.dev e)) ∧
    (txLate s.dev n b = true → canMaySend s.dev n = true → (s.dev.canS n).chq = [] → (∀ k < 32, k ≠ b → txStatus s.dev n k ≠ 1 ∧ txLate s.dev n k = false) →
      Does (.canSof n) s (fun e => txStatus e n b = 2 ∧ (e.canS n).act = some b ∧ (e.canS n).cancel = true ∧
        ChanOnly n [CAN_TXPEND n, CAN_TXSTAT n b] s.dev e)) ∧
    (32 * n + b ∈ s.dev.cyc.canCan → txStatus s.dev n b ≠ 1 → txStatus s.dev n b ≠ 2 → txLate s.dev n b = false → txCheck s.dev n b = 0 →
      Does (.canTxreq n (2 ^ b)) s (fun e => txStatus e n b = 5 ∧ e.bitN (CAN_TXPEND_PEND n) b = false ∧
        ChanOnly n [CAN_TXPEND n, CAN_TXSTAT n b] s.dev e))

/-- Modes (R340, R342, R344) and transmit buffers (R346 to R348) of a CAN channel. -/
def Obligations.CanModesAndTransmission : Prop := Claims.CanModes ∧ Claims.CanTransmission ∧ Claims.CanCancelledAtSof

/-- Errors and bus-off (R349, R354): a receiver's error counts in REC, a transmitter's in TEC and fails its buffer, a second clash in a row
ends it; 256 leads to bus-off, which recovery or CLEAR_BO leaves. -/
def Obligations.CanErrors : Prop :=
  ∀ (s : State) (n : Nat), n < 8 → On s [9] → ∀ c, c = s.dev.canS n →
    (∀ e, s.dev.get (CAN_STAT_MODE n) = 0 → exec (.canError n e) s = .next s) ∧
    (s.dev.get (CAN_STAT_MODE n) = 1 → s.dev.pwr.released = true → s.dev.get (CAN_STAT_FAULT n) < 2 →
      (c.rec_ < 127 → c.tec < 128 → Does (.canError n { tx := false }) s (fun e => (e.canS n) = { c with rec_ := c.rec_ + 1 } ∧
        e.get (CAN_STAT_REC n) = c.rec_ + 1 ∧ e.get (CAN_STAT_TEC n) = c.tec ∧ e.get (CAN_STAT_FAULT n) = 0 ∧ ChanOnly n [CAN_STAT n] s.dev e)) ∧
      (c.rec_ = 127 → Does (.canError n { tx := false }) s (fun e => e.get (CAN_STAT_REC n) = 128 ∧ e.get (CAN_STAT_FAULT n) = 1 ∧
        (e.canS n) = { c with rec_ := 128 } ∧ ChanOnly n [CAN_STAT n] s.dev e)) ∧
      (∀ b, b < 30 → c.act = some b → c.stop = false → c.cancel = false → (txWord s.dev n b 1).getLsbD 7 = false → c.tec < 120 → c.rec_ < 128 →
        Does (.canError n { tx := true, clash := true }) s (fun e => (e.canS n).tec = c.tec + 8 ∧ (e.canS n).act = none ∧
          txStatus e n b = (if s.dev.get (CAN_TXSTAT_CLASHES n b) = 0 then 1 else 6) ∧
          ChanOnly n [CAN_STAT n, CAN_TXPEND n, CAN_TXSTAT n b] s.dev e)) ∧
      (∀ b, b < 30 → c.act = some b → c.stop = false → 248 ≤ c.tec → (s.dev.get (CAN_BOCFG_BO_LIMIT n) = 0) →
        Does (.canError n { tx := true }) s (fun e => e.get (CAN_STAT_FAULT n) = 2 ∧ e.get (CAN_STAT_TEC n) = 255 ∧
          e.get (CAN_ERRCNT_BUSOFF n) = Nat.min (s.dev.get (CAN_ERRCNT_BUSOFF n) + 1) 255 ∧
          e.ent (0x1210 + n) 3 = (s.dev.ent (0x1210 + n) 3 + 1) % 2 ^ 32 ∧ (∀ k, k ≠ n → e.canS k = s.dev.canS k) ∧ MemSame s.dev e))) ∧
    (s.dev.get (CAN_STAT_FAULT n) ≠ 2 → exec (.busoffRecovery n) s = .next s) ∧
    (s.dev.get (CAN_STAT_FAULT n) = 2 → Does (.busoffRecovery n) s (fun e => e.canS n = { c with tec := 0, rec_ := 0 } ∧
      e.get (CAN_STAT_FAULT n) = 0 ∧ e.get (CAN_STAT_TEC n) = 0 ∧ e.get (CAN_STAT_REC n) = 0 ∧ ChanOnly n [CAN_STAT n] s.dev e)) ∧
    (s.dev.get (CAN_STAT_FAULT n) ≠ 3 → exec (.clearBo n) s = .next s) ∧
    (s.dev.get (CAN_STAT_FAULT n) = 3 → Does (.clearBo n) s (fun e => e.get (CAN_STAT_FAULT n) = 2 ∧ Changes [CAN_STAT n] s.dev e))

/-- Reception (R351 to R353, R355): a channel that is OFF ignores frames; a received frame wakes the device and is counted down in REC; a
frame that no filter wants goes where NOMATCH says, with its words and its place at the tail; reading the head locks it and the read of
its last word, like DROP, removes it; UNLOCK keeps it. -/
def Obligations.CanReception : Prop :=
  ∀ (s : State) (n : Nat) (f : CanFrame), n < 8 → s.dev.live = true →
    (s.dev.cget (CAN_CFG_MODE n) = 0 ∨ Awake s → s.dev.ready 9 = false ∨ s.dev.get (CAN_STAT_MODE n) = 0 ∨ 2 ≤ s.dev.get (CAN_STAT_FAULT n) →
      s.dev.ready 9 = true ∨ s.dev.cget (CAN_CFG_MODE n) = 0 → exec (.canFrameReceived n f) s = .next s) ∧
    (s.dev.cget (CAN_CFG_MODE n) ≠ 0 → ∀ d, d = crxEdge s.dev → (d.ready 9 = false → exec (.canFrameReceived n f) s = .next { s with dev := d }) ∧
      (s.dev.pwr.save = .none → 4 ≤ s.dev.pwr.step → wakeArmed s.dev 2 = true → d.get PMC_PSTATE_STATE = 0 ∧ d.pwr.coreWait = 0)) ∧
    (Awake s → s.dev.ready 9 = true → ∀ d, d = s.dev →
      (∀ q slot, d.get (CAN_STAT_MODE n) = 2 → d.get (CAN_STAT_FAULT n) < 2 → f.fdf = false → f.xtd = false → f.rtr = false → 8 ≤ f.id → f.id < 2048 →
        (upto 64).find? (filterHit d n f) = none → q < 2 → d.get (CAN_CFG_NOMATCH n) = q + 1 → (d.canS n).hush = none →
        ((d.canS n).q q).length < 64 → (upto 64).find? (fun k => !((d.canS n).q q).contains k) = some slot → Does (.canFrameReceived n f) s (fun e =>
          (e.canS n).q q = (d.canS n).q q ++ [slot] ∧ (e.canS n).seq = ((d.canS n).seq + 1) % 65536 ∧
          e.get (CAN_RXSTAT_LEVEL n q) = ((d.canS n).q q).length + 1 ∧ memRead e.win (rxAddr n q slot) 4 = f.id * 2 ^ 18 ∧
          (∀ i, i < canLen f → i < f.data.length → (memByte e.win (rxAddr n q slot + 8 + i)).toNat = f.data.getD i 0 % 256) ∧
          (∀ a, a < rxAddr n q slot ∨ rxAddr n q slot + 8 + canLen f ≤ a → memByte e.win a = memByte d.win a) ∧
          RegsBut [CAN_RXSTAT n q] d e))) ∧
    (s.dev.ready 9 = true → ∀ q c, q < 2 → c = s.dev.canS n →
      Does (.rxUnlock n q) s (fun e => (e.canS n).lock q = none ∧ (e.canS n).q q = c.q q ∧ (e.canS n).q (1 - q) = c.q (1 - q) ∧
        e.bit (CAN_RXSTAT_LOCKED n q) = false ∧ ChanOnly n [CAN_RXSTAT n q] s.dev e) ∧
      Does (.rxDrop n q) s (fun e => (e.canS n).lock q = none ∧ (e.canS n).q q = (c.q q).drop 1 ∧ (e.canS n).q (1 - q) = c.q (1 - q) ∧
        ((c.q q).length ≤ 64 → e.get (CAN_RXSTAT_LEVEL n q) = ((c.q q).drop 1).length) ∧ ChanOnly n [CAN_RXSTAT n q] s.dev e) ∧
      (∀ ini sess w, ini < 8 → w < 18 → c.q q = [] → Does (.rxhRead ini sess n q w) s (fun e => e.bus = 0 ∧ e = { s.dev with bus := 0 })) ∧
      (∀ ini sess k l, ini < 8 → c.q q = k :: l → c.lock q = none → Does (.rxhRead ini sess n q 0) s (fun e =>
        e.bus = memRead s.dev.win (rxAddr n q k) 4 ∧ (e.canS n).lock q = some (readerKey ini sess) ∧ (e.canS n).q q = c.q q ∧
        ChanOnly n [CAN_RXSTAT n q] { s.dev with bus := e.bus } e)) ∧
      (∀ ini sess k l w, ini < 8 → c.q q = k :: l → c.lock q = some (readerKey ini sess) → w = 1 + ((if (memRead s.dev.win (rxAddr n q k) 4).testBit 30 then 0
          else dlcLen ((memRead s.dev.win (rxAddr n q k + 4) 4).testBit 5) (memRead s.dev.win (rxAddr n q k + 4) 4 % 16)) + 3) / 4 →
        Does (.rxhRead ini sess n q w) s (fun e => e.bus = memRead s.dev.win (rxAddr n q k + 4 * w) 4 ∧ (e.canS n).q q = l ∧
          (e.canS n).lock q = none ∧ ChanOnly n [CAN_RXSTAT n q] { s.dev with bus := e.bus } e)))

/-- The clearing house and segments (R355 to R358): HUSH requests and their deadline, acknowledgements, the bus-load window, the beacon,
cuts and their end, SEG_CLEAR and SEG_OFF. -/
def Sys2Proof.Claims.CanSegments : Prop :=
  ∀ (s : State) (n : Nat), n < 8 → On s [9] → s.dev.pwr.ctx.length < 2048 → ∀ c, c = s.dev.canS n →
    (∀ p, c.hush ≠ none → exec (.hushReq n p) s = .next s) ∧
    (∀ t dur rel, c.hush = none → DoesBy (.hushReq n (some (t, dur, rel))) s (chSend n 0 [t, rel.toNat, (if rel then 0 else dur) % 256, (if rel then 0 else dur) / 256 % 256])
      (fun e => e.canS n = { c with hush := some { target := t, dur := if rel then 0 else dur, release := rel, req := s.dev.now } } ∧ ChanOnly n [] s.dev e)) ∧
    (c.hush = none → DoesBy (.hushReq n none) s (chSend n 0 [s.dev.get (CAN_SEGCTL_TARGET n), 0, s.dev.get (CAN_SEGCTL_DURATION n) % 256,
        s.dev.get (CAN_SEGCTL_DURATION n) / 256 % 256]) (fun e => (e.canS n).hush.isSome = true ∧ ChanOnly n [] s.dev e)) ∧
    (c.hush = none → exec (.hushDeadline n) s = .next s) ∧
    (∀ h, c.hush = some h → (∃ t, h.sent = some t ∧ t ≤ h.req + 49000000) → (if h.target = 0x7F then h.noisy = false else h.acked = true) →
      Does (.hushDeadline n) s (fun e => e.canS n = { c with hush := none } ∧ ChanOnly n [] s.dev e)) ∧
    (∀ h, c.hush = some h → h.sent = none → s.dev.get (CAN_STAT_SEG n) = 0 → c.act = none → c.stop = false → Does (.hushDeadline n) s (fun e =>
      e.get (CAN_STAT_SEG n) = 1 ∧ (e.canS n).hush = none ∧ (e.canS n).chq = [] ∧ s.dev.now ∈ (e.canS n).cuts ∧ (e.canS n).segCause = 1 ∧
      e.get (CAN_ERRCNT_CUTS n) = Nat.min (s.dev.get (CAN_ERRCNT_CUTS n) + 1) 255 ∧ ChanOnly n [CAN_STAT n, CAN_ERRCNT n] s.dev e)) ∧
    (∀ h node, c.hush = some h → node < 64 → h.target = node → h.sent ≠ none → s.dev.now ≤ h.req + 50000000 → s.dev.get (CAN_STAT_MODE n) = 2 → Awake s →
      s.dev.get (CAN_STAT_FAULT n) < 2 → s.dev.bit (CAN_CFG_CH_COPY n) = false → Does (.hushAck n node) s (fun e =>
        e.canS n = { c with hush := some { h with acked := true } } ∧ ChanOnly n [] s.dev e)) ∧
    (∀ load, s.dev.get (CAN_SEGCFG_BABBLE_LOAD n) = 0 → Does (.busloadWindow n load) s (fun e =>
      e.get (CAN_BUSLOAD_LOAD n) = Nat.min load 100 ∧ e.canS n = { c with intrSeen := false, babble := 0 } ∧ ChanOnly n [CAN_BUSLOAD n] s.dev e)) ∧
    (∀ load b, b < 32 → txStatus s.dev n b = 1 → s.dev.get (CAN_SEGCFG_BABBLE_LOAD n) ≠ 0 → Nat.min (s.dev.get (CAN_SEGCFG_BABBLE_LOAD n)) 100 < load →
      c.babble < 2 → Does (.busloadWindow n load) s (fun e => e.canS n = { c with intrSeen := false, babble := c.babble + 1 } ∧ ChanOnly n [CAN_BUSLOAD n] s.dev e)) ∧
    (s.dev.get (CAN_STAT_MODE n) ≠ 1 ∨ s.dev.get (CAN_SEGCFG_BEACON_PERIOD n) = 0 → exec (.beacon n) s = .next s) ∧
    (s.dev.get (CAN_STAT_MODE n) = 1 → s.dev.get (CAN_SEGCFG_BEACON_PERIOD n) ≠ 0 → c.chq = [] →
      DoesBy (.beacon n) s (chSend n 4 [s.dev.ent 0x2001 15 % 256, s.dev.ent 0x2001 15 / 256 % 256, c.beaconSeq]) (fun e =>
        e.canS n = { c with beaconSeq := (c.beaconSeq + 1) % 256 } ∧ ChanOnly n [] s.dev e)) ∧
    (s.dev.get (CAN_STAT_SEG n) ≠ 1 → exec (.cutTime n) s = .next s) ∧
    (s.dev.get (CAN_STAT_SEG n) = 1 → ∀ k, k = (c.cuts.filter (fun t => decide (s.dev.now < t + 600000000000))).length →
      Does (.cutTime n) s (fun e => e.get (CAN_STAT_SEG n) = (if s.dev.get (CAN_SEGCFG_QUAR_LIMIT n) ≠ 0 ∧ s.dev.get (CAN_SEGCFG_QUAR_LIMIT n) ≤ k then 3 else 2) ∧
        e.can = s.dev.can ∧ ChanOnly n [CAN_STAT n] s.dev e)) ∧
    (s.dev.get (CAN_STAT_SEG n) ≠ 2 → exec (.canSegRestored n) s = .next s) ∧
    (s.dev.get (CAN_STAT_SEG n) = 2 → Does (.canSegRestored n) s (fun e => e.get (CAN_STAT_SEG n) = 0 ∧ e.can = s.dev.can ∧ ChanOnly n [CAN_STAT n] s.dev e)) ∧
    (s.dev.get (CAN_STAT_SEG n) ≠ 3 → exec (.segClear n) s = .next s) ∧
    (s.dev.get (CAN_STAT_SEG n) = 3 → Does (.segClear n) s (fun e => e.get (CAN_STAT_SEG n) = 2 ∧ e.canS n = { c with cuts := [] } ∧ ChanOnly n [CAN_STAT n] s.dev e)) ∧
    (c.act = none → c.stop = false → s.dev.get (CAN_STAT_SEG n) = 0 ∨ s.dev.get (CAN_STAT_SEG n) = 2 → Does (.segOff n true) s (fun e => e.get (CAN_STAT_SEG n) = 4 ∧ (e.canS n).segCause = 3 ∧
      e.bit (CAN_SEGCTL_SEG_OFF n) = true ∧ ChanOnly n [CAN_STAT n, CAN_SEGCTL n] { s.dev with pwr.ctx := e.pwr.ctx } e)) ∧
    Does (.segOff n false) s (fun e => e.get (CAN_STAT_SEG n) = (if s.dev.get (CAN_STAT_SEG n) = 4 then 2 else s.dev.get (CAN_STAT_SEG n)) ∧
      e.bit (CAN_SEGCTL_SEG_OFF n) = false ∧ ChanOnly n [CAN_STAT n, CAN_SEGCTL n] { s.dev with pwr.ctx := e.pwr.ctx } e)

/-- Nodes and the Hegus transport (R356, R359, R360): an announced identity binds a free node and an unexpected one is reported; a single
frame delivers its message, a first frame starts a reception that consecutive frames complete, a FLOW frame lets a transfer go on, and
a time limit drops the reception. -/
def Sys2Proof.Claims.CanNodesAndTransport : Prop :=
  ∀ (s : State) (n node : Nat), n < 8 → node < 64 → On s [9] → Awake s → s.dev.get (CAN_STAT_MODE n) = 2 → s.dev.get (CAN_STAT_FAULT n) < 2 →
    s.dev.bit (CAN_CFG_CH_COPY n) = false → ∀ c, c = s.dev.canS n → c.hush = none →
    (∀ ident, ident < 2 ^ 48 → (tabGet {} (0x800 + n) s.dev.sec.acts : ActS).st ≠ 2 →
      (nodeBound s.dev n node = false → Does (.nodeAnnounce n node ident) s (fun e => nodeBound e n node = true ∧ nodeIdent e n node = ident ∧
        (∀ k < 64, k ≠ node → nodeBound e n k = nodeBound s.dev n k ∧ nodeIdent e n k = nodeIdent s.dev n k) ∧ e = { s.dev with dict := e.dict })) ∧
      (nodeBound s.dev n node = true → nodeIdent s.dev n node = ident → exec (.nodeAnnounce n node ident) s = .next s) ∧
      (nodeBound s.dev n node = true → nodeIdent s.dev n node ≠ ident → exec (.nodeAnnounce n node ident) s =
        .next { s with dev := raise .CAN_NODE_MISMATCH [n, node, nodeIdent s.dev n node, ident] s.dev })) ∧
    (s.dev.bit (CAN_CFG_HEGUS_EN n) = true → s.dev.bit (CAN_CFG_FD_EN n) = false → (∀ k < 63, s.dev.bit (CAN_FMATCH_EN n k) = false) →
      (c.q 1).length < 64 → ∀ Took : Dev → Prop,
      (Took = fun e => (e.canS n).seq = (c.seq + 1) % 65536 ∧ (e.canS n).q 1 = c.q 1 ∧
        (∀ a, a < rxAddr n 1 0 ∨ rxAddr n 1 64 ≤ a → memByte e.win a = memByte s.dev.win a) ∧ ChanOnly n [CAN_RXSTAT n 1] { s.dev with win := e.win } e) →
      (∀ a b c3 l, l = [0x00, 3, a, b, c3] → Does (.hegusSingle n node l) s (fun e =>
        (e.canS n).inbox = ((node, [a, b, c3]) :: c.inbox).take 16 ∧ (e.canS n).rx = c.rx.filter (fun r => decide (r.node ≠ node)) ∧ Took e)) ∧
      (∀ l, l = [0x40, 9, 0, 1, 2, 3, 4, 5] → DoesBy (.hegusFirst n node l) s (heFlow n node 0) (fun e =>
        (e.canS n).rx = c.rx.filter (fun r => decide (r.node ≠ node)) ++ [{ node := node, total := 9, data := [1, 2, 3, 4, 5] }] ∧ Took e)) ∧
      (∀ r, c.rx = [r] → r.node = node → r.s = 1 → r.total = 9 → r.data = [1, 2, 3, 4, 5] →
        Does (.hegusConsecutive n node [0x81, 6, 7, 8, 9]) s (fun e => (e.canS n).rx = [] ∧
          (e.canS n).inbox = ((node, [1, 2, 3, 4, 5, 6, 7, 8, 9]) :: c.inbox).take 16 ∧ Took e) ∧
        Does (.hegusConsecutive n node [0x82, 6, 7, 8, 9]) s (fun e => (e.canS n).rx = [] ∧ (e.canS n).inbox = c.inbox ∧ Took e)) ∧
      (∀ blk, blk < 256 → DoesBy (.hegusFlow n node [0xC0, blk, 0]) s (heKick n) (fun e => (e.canS n).tx = c.tx.map (fun t =>
        if t.node = node ∧ t.st = 2 then { t with st := 0, blk := if blk = 0 then none else some blk } else t) ∧ Took e))) ∧
    Does (.hegusCanTimeout n node false) s (fun e => e.canS n = { c with rx := c.rx.filter (fun r => decide (r.node ≠ node)) } ∧ ChanOnly n [] s.dev e) ∧
    ((∀ t ∈ c.tx, t.node ≠ node ∨ t.st ≠ 1) → DoesBy (.hegusCanTimeout n node true) s (heKick n) (fun e =>
      e.canS n = { c with tx := heTxEnd node c.tx } ∧ ChanOnly n [] s.dev e))

/-- Segments (R355 to R358), nodes and the Hegus transport (R356, R359, R360). -/
def Obligations.CanSegmentsAndNodes : Prop := Claims.CanSegments ∧ Claims.CanNodesAndTransport

/-! ### Field network (chapter 13) -/

namespace Sys2Proof.Claims

/-- No register outside `l`, no memory and no dictionary value changes; beside registers only the switch's own store, counters, the log
and marks of the cycle do. -/
def NetOnly (l : List Nat) (d e : Dev) : Prop :=
  RegsBut l d e ∧
    e = { d with regs := e.regs, net := e.net, obs := e.obs, evLog := e.evLog, evSeq := e.evSeq, cyc := e.cyc,
                 pwr.nvEvents := e.pwr.nvEvents }

end Sys2Proof.Claims

/-- Frames (R364, R366 to R368, R371, R374, R375): a malformed frame is counted, a PTP frame ends at the port, one of no VLAN is discarded;
an admitted frame is queued at the ports of its VLAN and a policed one counted; the head of the highest queue leaves first; ageing
forgets an address; the BEACON of another coordinator is a conflict. -/
def Obligations.NetFrames : Prop :=
  ∀ (s : State) (p : Nat), p < 7 → On s [8] → (∀ f, ¬Awake s → p < 6 → portUp s.dev p = true →
      exec (.fnsFrameReceived p (some f)) s = exec (.fnsFrameReceived p (some f)) { s with dev := wakeEvent 1 s.dev }) ∧ (Awake s → ∀ d, d = s.dev →
    (∀ f, portUp s.dev p = false → exec (.fnsFrameReceived p (some f)) s = .next s) ∧
    (2 ≤ p → p < 6 → portUp s.dev p = true → Does (.fnsFrameReceived p none) s (fun e => e.get (FNS_PORTSTAT_PLCA p) = 2 ∧
      NetOnly [FNS_PORTSTAT p] s.dev e ∧ e.net = s.dev.net)) ∧
    (p < 2 ∨ 6 ≤ p ∨ portUp s.dev p = false → exec (.fnsFrameReceived p none) s = .next s) ∧
    (∀ f, portUp s.dev p = true → f.len < 64 ∨ 1522 < f.len ∨ f.fcsOk = false → Does (.fnsFrameReceived p (some f)) s (fun e => Noted d e)) ∧
    (∀ f, portUp s.dev p = true → 64 ≤ f.len → f.len ≤ 1522 → f.fcsOk = true → passesBlock f = false → d.bit (FNS_PORTSTAT_LOOP_BLOCKED p) = true →
      Does (.fnsFrameReceived p (some f)) s (fun e => Noted d e)) ∧
    (∀ f, portUp s.dev p = true → 64 ≤ f.len → f.len ≤ 1522 → f.fcsOk = true → f.etype ≠ 0x88B5 →
      d.bit FNS_CFG_LEARN = false → d.bit (FNS_PORTSTAT_LOOP_BLOCKED p) = false →
      (isPtp f = true → ptpRole d ≠ 0 → p < 6 → Does (.fnsFrameReceived p (some f)) s (fun e => Noted d e)) ∧
      (isPtp f = false → reservedGroup f.dst = false → classify p f d = none → Does (.fnsFrameReceived p (some f)) s (fun e => Noted d e)) ∧
      (∀ vid w, isPtp f = false → reservedGroup f.dst = false → f.dst ≠ broadcast → classify p f d = some (vid, w) → ∀ c, c = classOf p f d → c < 7 →
        (d.get (FNS_POLICE_RATE p c) = 0 → Does (.fnsFrameReceived p (some f)) s (fun e =>
          e.get (FNS_DROP_POLICED p) = Nat.min (d.get (FNS_DROP_POLICED p) + 1) 65535 ∧ e.net.queues = d.net.queues ∧ NetOnly [FNS_DROP p] d e)) ∧
        (∀ q, q < 7 → netTargets p w f d = [q] → d.get (FNS_POLICE_RATE p c) ≠ 0 → tabGet (0, 0) (8 * p + c) d.net.buckets = (f.len * 8000000000, d.now) →
          f.len * 8 ≤ d.get (FNS_POLICE_BURST p c) * 512 → d.net.queues = [] → q ∉ d.cyc.netDown → portUp d q = true →
          d.bit (FNS_PORTSTAT_LOOP_BLOCKED q) = false → Does (.fnsFrameReceived p (some f)) s (fun e =>
            (e.queue q c).map (·.frame) = [egress ((wGet w 19 7).testBit q) c vid f] ∧
            (∀ k j, j < 8 → (k, j) ≠ (q, c) → e.queue k j = []) ∧ NetOnly [] d e)))) ∧
    (portUp s.dev p = false → exec (.fnsFrameTransmit p) s = .next s) ∧
    (∀ c x l, portUp s.dev p = true → c < 8 → s.dev.queue p c = x :: l → (∀ k, c < k → k < 8 → s.dev.queue p k = []) → x.msg = none →
      DoesBy (.fnsFrameTransmit p) s (fun e => if p = 6 ∧ x.vid = mgmtVid s.dev then cpuTake x.frame e else e) (fun e =>
        e.queue p c = l ∧ (∀ k j, j < 8 → (k, j) ≠ (p, c) → e.queue k j = s.dev.queue k j) ∧
        e.heg.sent.head? = some ⟨0x181, p, [x.frame.dst, x.frame.src, x.frame.etype, x.frame.len, c], some c⟩ ∧
        NetOnly [] { s.dev with heg.sent := e.heg.sent } e)) ∧
    (∀ a, Does (.macAge a) s (fun e => (∀ m, m ∈ e.net.macs ↔ m ∈ s.dev.net.macs ∧ m.addr ≠ a) ∧ e = { s.dev with net.macs := e.net.macs })))

/-- Links, cable tests and the loop check (R370 to R372, R375): EN starts and stops a port; training ends in a link, whose loss trains
again; a cable test takes its port down and reports; a BEACON gives the device its transmit opportunity. -/
def Sys2Proof.Claims.NetLinks : Prop :=
  ∀ (s : State) (p : Nat), p < 6 → On s [8] → s.dev.pwr.ctx.length < 2048 → s.dev.bit PMC_CLKSTAT_REF_OK = true → s.dev.cyc.posted = [] →
    (s.dev.get (FNS_PORTSTAT_LINK p) = 0 → s.dev.bit (FNS_DIAG_BUSY p) = false → Does (.portEnable p true) s (fun e =>
      e.bit (FNS_PORTCFG_EN p) = true ∧ e.get (FNS_PORTSTAT_LINK p) = (if p < 2 then 1 else 2) ∧
      (2 ≤ p → e.get (FNS_PORTSTAT_PLCA p) = 1) ∧ NetOnly [FNS_PORTCFG p, FNS_PORTSTAT p] { s.dev with pwr.ctx := e.pwr.ctx } e)) ∧
    (s.dev.get (FNS_PORTSTAT_LINK p) = 0 → Does (.portEnable p false) s (fun e => e.bit (FNS_PORTCFG_EN p) = false ∧
      e.get (FNS_PORTSTAT_LINK p) = 0 ∧ NetOnly [FNS_PORTCFG p] { s.dev with pwr.ctx := e.pwr.ctx } e)) ∧
    (s.dev.get (FNS_PORTSTAT_LINK p) ≠ 0 → Does (.portEnable p false) s (fun e => e.bit (FNS_PORTCFG_EN p) = false ∧
      e.get (FNS_PORTSTAT_LINK p) = 0 ∧ (∀ c < 8, e.queue p c = []) ∧ (∀ m ∈ e.net.macs, m.port ≠ p) ∧ MemSame s.dev e ∧
      ∀ q, q < 7 → q ≠ p → e.get (FNS_PORTSTAT_LINK q) = s.dev.get (FNS_PORTSTAT_LINK q))) ∧
    (∀ low, p < 2 → s.dev.get (FNS_PORTSTAT_LINK p) = 1 → Does (.linkUp p low) s (fun e => e.get (FNS_PORTSTAT_LINK p) = 2 ∧
      e.bit (FNS_PORTSTAT_AMP_ACT p) = (low && s.dev.bit (FNS_PORTCFG_AMP p)) ∧ e.net = s.dev.net ∧ NetOnly [FNS_PORTSTAT p] s.dev e)) ∧
    (∀ low, 2 ≤ p ∨ s.dev.get (FNS_PORTSTAT_LINK p) ≠ 1 → exec (.linkUp p low) s = .next s) ∧
    (2 ≤ p ∨ s.dev.get (FNS_PORTSTAT_LINK p) ≠ 2 → exec (.linkDown p) s = .next s) ∧
    (p < 2 → s.dev.get (FNS_PORTSTAT_LINK p) = 2 → s.dev.bit (FNS_PORTCFG_EN p) = true → s.dev.bit (FNS_DIAG_BUSY p) = false →
      Does (.linkDown p) s (fun e => e.get (FNS_PORTSTAT_LINK p) = 1 ∧ e.get (FNS_PORTSTAT_SQI p) = 0 ∧ (∀ c < 8, e.queue p c = []) ∧
        (∀ m ∈ e.net.macs, m.port ≠ p) ∧ p ∈ e.cyc.netDown ∧ MemSame s.dev e)) ∧
    (∀ t, t < 4 → portUp s.dev (t + 2) = false → exec (.plcaBeacon t) s = .next s) ∧
    (∀ t, t < 4 → portUp s.dev (t + 2) = true → DoesBy (.plcaBeacon t) s (netTransmitN (t + 2) (1 + s.dev.get (FNS_PLCA_BURST_CNT t))) (fun e =>
      e.heg.sent.head? = some ⟨0x183, t + 2, [], none⟩ ∧ e = { s.dev with heg.sent := e.heg.sent })) ∧
    (∀ q, p < 2 → Does (.sqiUpdate p q) s (fun e => e.get (FNS_PORTSTAT_SQI p) = Nat.min q 7 ∧ Changes [FNS_PORTSTAT p] s.dev e)) ∧
    (∀ q, 2 ≤ p → exec (.sqiUpdate p q) s = .next s) ∧
    (s.dev.bit (FNS_DIAG_BUSY p) = true → exec (.cableTest p) s = .next s) ∧
    (s.dev.bit (FNS_DIAG_BUSY p) = false → Does (.cableTest p) s (fun e => e.bit (FNS_DIAG_BUSY p) = true ∧ e.get (FNS_DIAG_RESULT p) = 0 ∧
      e.get (FNS_DIAG_DIST p) = 0 ∧ e.get (FNS_PORTSTAT_LINK p) = 0 ∧
      (s.dev.get (FNS_PORTSTAT_LINK p) = 0 → NetOnly [FNS_DIAG p] s.dev e ∧ e.net = s.dev.net))) ∧
    (∀ r x, s.dev.bit (FNS_DIAG_BUSY p) = false → exec (.cableTestDone p r x) s = .next s) ∧
    (∀ r x, r < 4 → s.dev.bit (FNS_DIAG_BUSY p) = true → s.dev.bit (FNS_PORTCFG_EN p) = false → Does (.cableTestDone p r x) s (fun e =>
      e.bit (FNS_DIAG_BUSY p) = false ∧ e.get (FNS_DIAG_RESULT p) = r ∧
      e.get (FNS_DIAG_DIST p) = (if 2 ≤ r then Nat.min x 4095 else s.dev.get (FNS_DIAG_DIST p)) ∧ e.net = s.dev.net ∧ NetOnly [FNS_DIAG p] s.dev e)) ∧
    ((∀ q, q < 6 → q ≠ p → portUp s.dev q = false ∧ s.dev.bit (FNS_PORTSTAT_LOOP_BLOCKED q) = false) →
      Does .loopCheck s (fun e => e.net.loopHit = 0 ∧
        (s.dev.bit FNS_CFG_LOOP_EN = true → portUp s.dev p = true → e.heg.sent.head? = some ⟨0x182, p, [Config.eui48, 0x88B5, p], none⟩) ∧
        (s.dev.bit FNS_CFG_LOOP_EN = false → e.heg = s.dev.heg) ∧
        (s.dev.bit (FNS_PORTSTAT_LOOP_BLOCKED p) = true → s.dev.net.loopHit.testBit p = false →
          e.bit (FNS_PORTSTAT_LOOP_BLOCKED p) = decide (tabGet 0 p s.dev.net.loopMiss < 2)) ∧
        (s.dev.bit (FNS_PORTSTAT_LOOP_BLOCKED p) = false ∨ s.dev.net.loopHit.testBit p = true → RegsBut [] s.dev e) ∧
        RegsBut [FNS_PORTSTAT p] s.dev e ∧ MemSame s.dev e))

/-- Addresses (R376): a valid address appears in its entry and its ADDR_STATE bit; a conflict clears them, sets bit 3 and is reported, and an IPv6
address is then not tried again; three unanswered DHCPv4 attempts lead to a link-local candidate. -/
def Sys2Proof.Claims.NetAddresses : Prop :=
  ∀ (s : State) (a : Nat), On s [8] →
    (Does (.addrConflict ⟨0, a⟩) s (fun e => e.ent 0x1101 1 = 0 ∧ e.net.v6Stop.testBit 0 = true ∧ (e.ent 0x1101 4).testBit 3 = true ∧ RegsBut [] s.dev e ∧ MemSame s.dev e ∧
      (∀ i k, k < 256 → i ≠ 0x1101 → e.ent i k = s.dev.ent i k))) ∧
    (s.dev.ent 0x1100 3 = 0 → exec (.addrConflict ⟨1, a⟩) s = .next s) ∧ (s.dev.ent 0x1100 6 = 0 → exec (.addrConflict ⟨2, a⟩) s = .next s) ∧
    (s.dev.ent 0x1100 3 ≠ 0 → Does (.addrConflict ⟨1, a⟩) s (fun e => e.ent 0x1101 2 = 0 ∧ e.net.v6Stop.testBit 1 = true ∧ (e.ent 0x1101 4).testBit 3 = true ∧ (e.ent 0x1101 4).testBit 0 = false ∧
      e.ent 0x1101 3 = s.dev.ent 0x1101 3 ∧ RegsBut [] s.dev e ∧ MemSame s.dev e)) ∧
    (s.dev.ent 0x1100 6 ≠ 0 → s.dev.net.llCand = 0 → Does (.addrConflict ⟨2, a⟩) s (fun e => e.ent 0x1101 3 = 0 ∧ (e.ent 0x1101 4).testBit 3 = true ∧
      (e.ent 0x1101 4).testBit 1 = false ∧ (e.ent 0x1101 4).testBit 2 = false ∧ e.free = s.dev.free ∧ RegsBut [] s.dev e ∧ MemSame s.dev e)) ∧
    (s.dev.ent 0x1100 6 ≠ 0 → s.dev.net.llCand ≠ 0 → Does (.addrConflict ⟨2, a⟩) s (fun e => e.ent 0x1101 3 = 0 ∧ (e.ent 0x1101 4).testBit 1 = false ∧
      (e.net.llCand % 65536 = 169 + 254 * 256 ∧ 1 ≤ e.net.llCand / 65536 % 256 ∧ e.net.llCand / 65536 % 256 ≤ 254))) ∧
    (s.dev.ent 0x1100 6 ≠ 2 ∨ (s.dev.ent 0x1101 4).testBit 1 = true → exec .dhcpv4AttemptTimeout s = .next s) ∧
    (s.dev.ent 0x1100 6 = 2 → (s.dev.ent 0x1101 4).testBit 1 = false →
      (s.dev.net.dhcp < 2 ∨ s.dev.net.llCand ≠ 0 → exec .dhcpv4AttemptTimeout s =
        .next { s with dev := { s.dev with net.dhcp := s.dev.net.dhcp + 1 } }) ∧
      (2 ≤ s.dev.net.dhcp → s.dev.net.llCand = 0 → Does .dhcpv4AttemptTimeout s (fun e => e.net.dhcp = s.dev.net.dhcp + 1 ∧
        e.net.llCand % 65536 = 169 + 254 * 256 ∧ 1 ≤ e.net.llCand / 65536 % 256 ∧ e.net.llCand / 65536 % 256 ≤ 254 ∧
        e = { s.dev with net.dhcp := e.net.dhcp, net.llCand := e.net.llCand, free := s.dev.free + 1 }))) ∧
    (∀ a k, k < 2 → s.dev.net.v6Stop.testBit k = true → exec (.duplicateAddressDetection k a) s = .next s) ∧
    (∀ a, s.dev.net.v6Stop.testBit 0 = false → DoesBy (.duplicateAddressDetection 0 a) s mldSend (fun e => e.ent 0x1101 1 = ll6 ∧
      e = { s.dev with dict := e.dict })) ∧
    (∀ a, s.dev.ent 0x1100 3 = 0 → exec (.duplicateAddressDetection 1 a) s = .next s) ∧
    (∀ a, s.dev.ent 0x1100 3 ≠ 0 → s.dev.net.v6Stop.testBit 1 = false → Does (.duplicateAddressDetection 1 a) s (fun e => (e.ent 0x1101 4).testBit 0 = true ∧
      e.ent 0x1101 2 = (if s.dev.ent 0x1100 3 = 2 then s.dev.ent 0x1100 4 % 2 ^ 128 else a % 2 ^ 128) ∧ e = { s.dev with dict := e.dict })) ∧
    (∀ a, s.dev.ent 0x1100 6 = 0 → exec (.duplicateAddressDetection 2 a) s = .next s) ∧
    (∀ a, s.dev.ent 0x1100 6 ≠ 0 → s.dev.net.llCand = 0 → Does (.duplicateAddressDetection 2 a) s (fun e => (e.ent 0x1101 4).testBit 1 = true ∧
      (e.ent 0x1101 4).testBit 2 = false ∧ e.ent 0x1101 3 = (if s.dev.ent 0x1100 6 = 1 then s.dev.ent 0x1100 7 % 2 ^ 32 else a % 2 ^ 32) ∧
      e = { s.dev with dict := e.dict })) ∧
    (∀ a, s.dev.ent 0x1100 6 = 2 → s.dev.net.llCand ≠ 0 → Does (.duplicateAddressDetection 2 a) s (fun e => (e.ent 0x1101 4).testBit 1 = true ∧
      (e.ent 0x1101 4).testBit 2 = true ∧ e.ent 0x1101 3 = s.dev.net.llCand ∧ e = { s.dev with dict := e.dict }))

/-- Links (R370 to R372, R375) and addresses (R376). -/
def Obligations.NetLinksAndAddresses : Prop := Claims.NetLinks ∧ Claims.NetAddresses

/-! ### Hegus (chapter 14) -/

namespace Sys2Proof.Claims

/-- The request is answered with opcode, status, detail and body, on a device that `P` holds of. -/
def Replies (c : Instr) (s : State) (r : Req) (x : Sess) (op st det : Nat) (body : Octets) (P : Dev → Prop) : Prop :=
  DoesBy c s (respond x.num ⟨op, r.id, st, det, body⟩ true) P

/-- The session `x` as a request finds it: its last message is this one. -/
def atNow (x : Sess) (d : Dev) : Sess := { x with last := d.now }

/-- Session `y` replaces the one of its number; nothing else changes. -/
def SessIs (y : Sess) (d e : Dev) : Prop :=
  (d.session y.num ≠ none → e.session y.num = some y) ∧ (∀ n, n ≠ y.num → e.session n = d.session n) ∧
    e = { d with heg.sessions := e.heg.sessions }

end Sys2Proof.Claims

/-- The request pipeline (R382, R384, R395, R399): a request that no transport carries, or of no session but the host's, does nothing; one
beyond the rate, repeated, malformed or during a busy phase is answered as its rule says and changes no entry. -/
def Sys2Proof.Claims.RequestPipeline : Prop :=
  ∀ (s : State) (r : Req) (i k : Nat) (c : Instr), c = .read r i k ∨ c = .describe r i k → s.dev.live = true → r.sess < 512 → s.dev.sec.recovery = none →
    (carries s.dev r.sess = false → exec c s = .next s) ∧
    (carries s.dev r.sess = true → s.dev.session r.sess = none → r.sess ≠ 1 → exec c s = .next s) ∧
    (∀ x q d, carries s.dev r.sess = true → s.dev.session r.sess = some x → rateTake (srcOf x) (s.dev.setSession (atNow x s.dev)) = (q, d) →
      (q = 2 → exec c s = .next { s with dev := d }) ∧
      (q = 1 → ∃ op, (op = 1 ∨ op = 8) ∧ exec c s = .next { s with dev := respond x.num ⟨op, r.id, 0x0B, 0, ⟨0, 0⟩⟩ false d }) ∧
      (q = 0 → (∀ y, x.cache.find? (fun y => y.req = r.id) = some y → exec c s = .next { s with dev := respond x.num y false (count 0x149 d) }) ∧
        ((∀ y ∈ x.cache, y.req ≠ r.id) →
          (r.id ∈ x.open_ → exec c s = .next { s with dev := count 0x14A d }) ∧
          (r.id ∉ x.open_ → x.open_.length < 8 → (r.bad = true → ∃ op, (op = 1 ∨ op = 8) ∧
            exec c s = .next { s with dev := respond x.num ⟨op, r.id, 0x13, 0, ⟨0, 0⟩⟩ true d }) ∧
            (r.bad = false → hegBusy d false = true → ∃ op, (op = 1 ∨ op = 8) ∧
              exec c s = .next { s with dev := respond x.num ⟨op, r.id, 6, 0, ⟨0, 0⟩⟩ true d })))))

/-- Reads and writes of entries (R378, R379, R386 to R390, R408): a read is answered with the value or the status of R379; a write with OK
or the status that refuses it, which changes nothing; several items are read together and written all or none; a timed request waits and
then runs or is cancelled. -/
def Sys2Proof.Claims.EntryRequests : Prop :=
  ∀ (s : State) (r : Req) (i k : Nat) (v : Octets),
    (∀ x d, Admitted s r false x d →
      (∀ w e, readEnt x.role x.num i k d = (0, w, e) → 10 + w.len ≤ maxMsg x.via → exec (.read r i k) s =
        .next { s with dev := respond x.num ⟨1, r.id, 0, 0, w⟩ true e }) ∧
      (∀ st w e, readEnt x.role x.num i k d = (st, w, e) → st ≠ 0 → exec (.read r i k) s =
        .next { s with dev := respond x.num ⟨1, r.id, st, 0, ⟨0, 0⟩⟩ true d }) ∧
      (entInfo i k d = none → exec (.describe r i k) s = .next { s with dev := respond x.num ⟨8, r.id, 1, 0, ⟨0, 0⟩⟩ true d }) ∧
      (∀ e, entInfo i k d = some e → exec (.describe r i k) s = .next { s with dev := respond x.num ⟨8, r.id, 0, 0, descriptor i k e d⟩ true d }) ∧
      (∀ st w e, readEnt x.role x.num i k d = (st, w, e) → 16 + w.len ≤ maxMsg x.via →
        exec (.readMulti r [(i, k)]) s = .next { s with dev := respond x.num ⟨3, r.id, 0, 0, (itemOct i k st w).cat ⟨0, 0⟩⟩ true e })) ∧
    Writes (.write r i k v) s r false i k v (fun x d _ => writeGate x.role i k false d = 0) ∧
    (∀ x d, Admitted s r true x d →
      (∀ st det e, entWrite x.role x.num false i k v d = (st, det, e) → st ≠ 0 → tellerWaits i k d = false → st ≠ 6 ∨ d.get NVS_STAT_OWNER ≠ 12 →
        exec (.write r i k v) s = .next { s with dev := respond x.num ⟨2, r.id, st, det, ⟨0, 0⟩⟩ true e }) ∧
      (tellerWaits i k d = false → storeOwned (fun d => (entWrite x.role x.num false i k v d).1) d = true → Does (.write r i k v) s (fun e =>
        (∃ w ∈ e.sec.waits, w.sess = x.num ∧ w.req = r.id ∧ w.op = 2) ∧ (∃ y, e.session x.num = some y ∧ r.id ∈ y.open_) ∧
        e = { d with heg.sessions := e.heg.sessions, sec.waits := e.sec.waits })) ∧
      (∀ t, exec (.writeMulti r t []) s = .next { s with dev := respond x.num ⟨4, r.id, 8, 0, ⟨0, 0⟩⟩ true d }) ∧
      (∀ l f e, l ≠ [] → itemsApply x.role x.num l d = (some f, e) → itemWaits l (some f) d = none → f.2.1 ≠ 6 ∨ d.get NVS_STAT_OWNER ≠ 12 →
        ∀ t, exec (.writeMulti r t l) s =
        .next { s with dev := respond x.num ⟨4, r.id, f.2.1, f.2.2, ⟨4, f.1⟩⟩ true e }) ∧
      (∀ l e, l ≠ [] → itemsApply x.role x.num l d = (none, e) → itemWaits l none d = none → exec (.writeMulti r none l) s =
        .next { s with dev := respond x.num ⟨4, r.id, 0, 0, ⟨4, 0xFF⟩⟩ true e }) ∧
      (∀ l e t, l ≠ [] → itemsApply x.role x.num l d = (none, e) → tbUnset d = true ∨ t < d.time64 + 10000000 ∨ d.time64 + days31 < t →
        exec (.writeMulti r (some t) l) s = .next { s with dev := respond x.num ⟨4, r.id, 0xC, 0, ⟨0, 0⟩⟩ true d }) ∧
      (∀ l e t, l ≠ [] → itemsApply x.role x.num l d = (none, e) → tbUnset d = false → d.time64 + 10000000 ≤ t → t ≤ d.time64 + days31 →
        d.heg.timed = [] → (∃ j < 248, (ldgEntry d (14 * 256 + 8 + j)).en = false ∨ (d.lent (14 * 256 + 8 + j)).retired = true) → ∃ id g,
        exec (.writeMulti r (some t) l) s = .next { s with dev := respond x.num ⟨4, r.id, 0, 0, ⟨4, packBytes [(2, id), (1, 0xFF), (1, 0)]⟩⟩ true g } ∧
        g.heg.timed.map (fun q => (q.id, q.time, q.role, q.sess, q.items, q.state)) = [(id, t, x.role, x.num, l, 1)])) ∧
    Writes (.timedCancel r i) s r false 0x1010 5 ⟨2, i⟩ (fun _ d e => (∃ q ∈ d.heg.timed, q.id = i % 65536 ∧ q.state = 1) ∧
      e.heg.timed = d.heg.timed.map (fun q => if q.id = i % 65536 then { q with state := 4, detail := 0 } else q)) ∧
    (s.dev.live = true → 0x14000000 + i ∉ s.dev.ldg.events → exec (.timedWrite i) s = .next s) ∧
    (s.dev.live = true → 0x14000000 + i ∈ s.dev.ldg.events → (∀ q ∈ s.dev.heg.timed, q.id ≠ i ∨ q.state ≠ 1) →
      exec (.timedWrite i) s = .next { s with dev := { s.dev with ldg.events := s.dev.ldg.events.filter (fun n => decide (n ≠ 0x14000000 + i)) } }) ∧
    (∀ q d e, s.dev.live = true → 0x14000000 + i ∈ s.dev.ldg.events → s.dev.heg.timed = [q] → q.id = i → q.state = 1 → timedEntry s.dev i = none →
      s.dev.get NVS_STAT_OWNER ≠ 12 → itemWaits q.items (timedApply q s.dev).1 s.dev = none →
      d = { s.dev with ldg.events := s.dev.ldg.events.filter (fun n => decide (n ≠ 0x14000000 + i)), heg.timed := [{ q with late := false }] } →
      (timedApply q d = (none, e) → Does (.timedWrite i) s (fun g =>
        g = raise .TIMED_WRITE_DONE [i] (timedEnd i 2 0 { e with heg.tctx := none }))) ∧
      (∀ f, timedApply q d = (some f, e) → Does (.timedWrite i) s (fun g =>
        g = raise .TIMED_WRITE_FAILED [i] (timedEnd i 3 (f.2.1 % 256 + 256 * (f.1 % 256) + 65536 * (f.2.2 % 65536)) { e with heg.tctx := none })))) ∧
    Writes (.appSchemaWrite r v) s r true 0x0C00 0 v (fun _ _ e => e.ent 0x0C00 0 % 256 ^ v.len = v.val % 256 ^ v.len) ∧
    Writes (.hostHeartbeat r k) s r false 0x1F00 0 ⟨4, k⟩ (fun _ d e => e.floor.beat = some d.now ∧
      (d.ent 0x1F01 0 = 0 → e.ent 0x5500 1 = 0))

/-- Requests (R378, R379, R382, R384, R386 to R390, R395, R399, R408): the pipeline, reads and writes. -/
def Obligations.HegusRequests : Prop := Claims.RequestPipeline ∧ Claims.EntryRequests

/-- Subscriptions (R386, R391, R392): SUBSCRIBE refuses what its rule refuses and otherwise adds one; UNSUBSCRIBE removes it; a periodic one
queues the value at each instant, one on change only a changed value, one of events every record since the last; in a full queue a value
replaces the newest of its subscription. -/
def Sys2Proof.Claims.Subscriptions : Prop :=
  ∀ (s : State) (r : Req) (i k id : Nat),
    (∀ x d mode per db, Admitted s r false x d →
      (entInfo i k d = none → exec (.subscribe r i k mode per db) s = .next { s with dev := respond x.num ⟨5, r.id, 1, 0, ⟨0, 0⟩⟩ true d }) ∧
      (∀ e, entInfo i k d = some e → e.rd ≤ x.role → 3 < mode ∨ (mode ≠ 3 ∧ (per < 100 ∨ 86400000 < per)) ∨
          (mode = 3 ∧ (i ≠ 0x0100 ∨ k ≠ 0 ∨ per ≠ 0)) → exec (.subscribe r i k mode per db) s =
        .next { s with dev := respond x.num ⟨5, r.id, 3, 0, ⟨0, 0⟩⟩ true d }) ∧
      (∀ e, entInfo 0x0100 0 d = some e → e.rd ≤ x.role → 22 + e.size ≤ maxMsg x.via → x.subs = [] → (∀ y ∈ d.heg.sessions, y.subs = []) →
        Replies (.subscribe r 0x0100 0 3 0 db) s r x 5 0 0 ⟨4, 1⟩ (SessIs { atNow x s.dev with subs :=
          [{ id := 1, idx := 0x0100, sub := 0, mode := 3, period := 0, deadband := db, next := d.evSeq }] } d)) ∧
      (∀ e, entInfo i k d = some e → e.rd ≤ x.role → mode < 2 → 100 ≤ per → per ≤ 86400000 → 22 + e.size ≤ maxMsg x.via → x.subs = [] →
        (∀ y ∈ d.heg.sessions, y.subs = []) → Replies (.subscribe r i k mode per db) s r x 5 0 0 ⟨4, 1⟩ (fun f =>
          ∃ y, f.session x.num = some y ∧ y.subs.map (fun b => (b.id, b.idx, b.sub, b.mode, b.period)) = [(1, i, k, mode, per)])) ∧
      ((∀ b ∈ x.subs, b.id ≠ id) → exec (.unsubscribe r id) s = .next { s with dev := respond x.num ⟨6, r.id, 0x14, 0, ⟨0, 0⟩⟩ true d }) ∧
      ((∃ b ∈ x.subs, b.id = id) → Replies (.unsubscribe r id) s r x 6 0 0 ⟨0, 0⟩
        (SessIs { atNow x s.dev with subs := x.subs.filter (fun b => decide (b.id ≠ id)) } d))) ∧
    (∀ n, s.dev.session n = none → exec (.notify n id) s = .next s) ∧
    (∀ n x, s.dev.session n = some x → (∀ b ∈ x.subs, b.id ≠ id) → exec (.notify n id) s = .next s) ∧
    (∀ n x b e w f, s.dev.live = true → s.dev.session n = some x → x.subs.find? (fun b => b.id = id) = some b → b.mode < 2 →
      entInfo b.idx b.sub s.dev = some e → e.rd ≤ x.role → readEnt x.role n b.idx b.sub s.dev = (0, w, f) → f = s.dev →
      (b.mode = 0 → b.last = some w → exec (.notify n id) s = .next s) ∧
      (b.mode = 1 ∨ b.last ≠ some w → x.queue.length < 64 → Does (.notify n id) s (fun g => ∃ y, g.session n = some y ∧
        y.queue = x.queue ++ [⟨id, 0, Nat.min b.carried 65535, s.dev.time64, w⟩] ∧
        (∀ z ∈ y.subs, z.id = id → z.carried = 0 ∧ z.last = some w) ∧ (∀ m, m ≠ n → g.session m = s.dev.session m) ∧
        g = { s.dev with heg.sessions := g.heg.sessions })) ∧
      (b.mode = 1 ∨ b.last ≠ some w → 64 ≤ x.queue.length → (∃ q ∈ x.queue, q.sub = id) → Does (.notify n id) s (fun g =>
        (∃ y a q c, g.session n = some y ∧ x.queue = a ++ q :: c ∧ q.sub = id ∧ (∀ z ∈ c, z.sub ≠ id) ∧
          y.queue = a ++ ⟨id, 0, Nat.min (q.coalesced + 1) 65535, s.dev.time64, w⟩ :: c) ∧
        RegsBut [] s.dev g ∧ MemSame s.dev g))) ∧
    (∀ n x b e l, s.dev.live = true → s.dev.session n = some x → x.subs = [b] → b.id = id → b.mode = 3 → b.carried = 0 → entInfo b.idx b.sub s.dev = some e →
      e.rd ≤ x.role → l = (s.dev.evLog.filter (fun v => decide (b.next ≤ v.seq))).reverse → x.queue.length + l.length ≤ 64 →
      Does (.notify n id) s (fun g => ∃ y, g.session n = some y ∧ y.queue = x.queue ++ l.map (fun v => ⟨id, 0, 0, s.dev.time64, ⟨52, evBytes v⟩⟩) ∧
        (∀ z ∈ y.subs, z.id = id ∧ z.next = s.dev.evSeq) ∧ (∀ m, m ≠ n → g.session m = s.dev.session m) ∧
        g = { s.dev with heg.sessions := g.heg.sessions }))

/-- Block transfers (R393): a transfer starts with its identifier and chunk, takes or gives data in order, ends with the CRC of a read or the
write of its value, and ends without effect by an abort or a time limit. -/
def Sys2Proof.Claims.BlockTransfers : Prop :=
  ∀ (s : State) (r : Req) (i k id : Nat),
    (∀ x d w e, Admitted s r false x d → x.xfers = [] → readEnt x.role x.num i k d = (0, w, e) → e = d →
      Replies (.blockStart r i k 0 0) s r x 9 0 0 ⟨8, packBytes [(1, 1), (1, 0), (2, maxMsg x.via - 18), (4, w.len)]⟩
        (SessIs { atNow x s.dev with xfers := [{ id := 1, idx := i, sub := k, write := false, total := w.len, data := w, last := s.dev.now }] } d)) ∧
    (∀ x d n, Admitted s r true x d →
      (writeGate x.role i k true d ≠ 0 → exec (.blockStart r i k 1 n) s =
        .next { s with dev := respond x.num ⟨9, r.id, writeGate x.role i k true d, 0, ⟨0, 0⟩⟩ true d }) ∧
      (∀ e, writeGate x.role i k true d = 0 → entInfo i k d = some e → n ≤ e.size → 0 < n → x.xfers = [] → (∀ y ∈ d.heg.sessions, y.xfers = []) →
        Replies (.blockStart r i k 1 n) s r x 9 0 0 ⟨8, packBytes [(1, 1), (1, 0), (2, maxMsg x.via - 18), (4, n)]⟩
          (SessIs { atNow x s.dev with xfers := [{ id := 1, idx := i, sub := k, write := true, total := n, last := s.dev.now }] } d))) ∧
    (∀ x d, Admitted s r false x d →
      (∀ o v, (∀ y ∈ x.xfers, y.id ≠ id) → exec (.blockData r id o v) s = .next { s with dev := respond x.num ⟨0xA, r.id, 0x14, 0, ⟨0, 0⟩⟩ true d } ∧
        (blockWaiting id x d = none → exec (.blockAbort r id) s = .next { s with dev := respond x.num ⟨0xC, r.id, 0x14, 0, ⟨0, 0⟩⟩ true d }) ∧
        (∀ w g, blockWaiting id x d = some w → g = respond x.num ⟨0x0B, w.req, 0x19, 0, ⟨0, 0⟩⟩ true { d with sec.waits := d.sec.waits.erase w } →
          exec (.blockAbort r id) s = .next { s with dev := respond x.num ⟨0xC, r.id, 0, 0, ⟨0, 0⟩⟩ true g })) ∧
      (∀ y o, x.xfers = [y] → y.id = id → y.write = false → o < y.total → Replies (.blockData r id o ⟨0, 0⟩) s r x 0xA 0 0
        (y.data.part o (Nat.min (maxMsg x.via - 18) (y.total - o))) (SessIs { atNow x s.dev with xfers := [{ y with last := s.dev.now }] } d)) ∧
      (∀ y o v, x.xfers = [y] → y.id = id → y.write = true → v.len ≤ maxMsg x.via - 18 →
        (o = y.data.len → o + v.len ≤ y.total → Replies (.blockData r id o v) s r x 0xA 0 0 ⟨4, o + v.len⟩
          (SessIs { atNow x s.dev with xfers := [{ y with data := y.data.cat v, last := s.dev.now }] } d)) ∧
        (o ≠ y.data.len → Replies (.blockData r id o v) s r x 0xA 0x17 (y.data.len % 65536) ⟨0, 0⟩
          (SessIs { atNow x s.dev with xfers := [{ y with last := s.dev.now }] } d))) ∧
      (∀ y, x.xfers = [y] → y.id = id → Replies (.blockAbort r id) s r x 0xC 0 0 ⟨0, 0⟩ (SessIs { atNow x s.dev with xfers := [] } d)) ∧
      (∀ y crc, x.xfers = [y] → y.id = id → y.write = false → Replies (.blockEnd r id crc) s r x 0xB 0 0 ⟨4, crc32 y.data.blob y.data.len⟩
        (SessIs { atNow x s.dev with xfers := [] } d))) ∧
    (∀ x d y crc, Admitted s r true x d → x.xfers = [y] → y.id = id → y.write = true →
      (y.data.len ≠ y.total → Replies (.blockEnd r id crc) s r x 0xB 0x17 (y.data.len % 65536) ⟨0, 0⟩ (SessIs { atNow x s.dev with xfers := [] } d)) ∧
      (y.data.len = y.total → crc32 y.data.blob y.data.len ≠ crc → Replies (.blockEnd r id crc) s r x 0xB 0x18 0 ⟨0, 0⟩
        (SessIs { atNow x s.dev with xfers := [] } d)) ∧
      (∀ f e, y.data.len = y.total → crc32 y.data.blob y.data.len = crc → f = d.setSession { atNow x s.dev with xfers := [] } →
        tellerWaits y.idx y.sub f = false → entWrite x.role x.num true y.idx y.sub y.data f = (0, 0, e) → leftHeld x.num y.idx y.sub f e = false →
        exec (.blockEnd r id crc) s = .next { s with dev := respond x.num ⟨0xB, r.id, 0, 0, ⟨0, 0⟩⟩ true e })) ∧
    (∀ n, s.dev.session n = none → exec (.blockTimeout n id) s = .next s) ∧
    (∀ n x, s.dev.live = true → s.dev.session n = some x → Does (.blockTimeout n id) s
      (SessIs { x with xfers := x.xfers.filter (fun y => decide (y.id ≠ id)) } s.dev))

/-- Subscriptions (R386, R391, R392) and block transfers (R393). -/
def Obligations.SubscriptionsAndBlocks : Prop := Claims.Subscriptions ∧ Claims.BlockTransfers

/-- Sessions and authentication (R396 to R401): the host's session opens with the role it may have and closes with its answer; the host
proves a role with a challenge; failures count, and five lock the source out; a UDP handshake needs its cookie. -/
def Sys2Proof.Claims.SessionsAndProofs : Prop :=
  ∀ (s : State) (r : Req), s.dev.live = true →
    (∀ role, r.sess = 1 → r.bad = false → s.dev.sec.recovery = none → carries s.dev 1 = true → s.dev.session 1 = none → hegBusy s.dev false = false →
      (rateTake 0 s.dev).1 = 0 → ∀ q, q = Nat.min role (s.dev.ent 0x1000 6) → Does (.sessionOpen r role) s (fun e =>
        (∃ x, e.session 1 = some x ∧ x.role = q ∧ x.via = .spi ∧ x.authed = false) ∧ (q < 4 → e.get HIF_STAT_ROLE = q) ∧ e.bit HIF_STAT_AUTH = false ∧
        e.heg.resp = some (1, ⟨0x10, r.id, 0, 0, ⟨8, packBytes [(2, 1), (1, q), (1, 0), (2, 4096), (2, 0)]⟩⟩) ∧ RegsBut [HIF_STAT] s.dev e ∧ MemSame s.dev e)) ∧
    (∀ x d role, Admitted s r false x d → Replies (.sessionOpen r role) s r x 0x10 0 0
      ⟨8, packBytes [(2, x.num), (1, x.role), (1, 0), (2, maxMsg x.via), (2, 0)]⟩ (fun e => e = d)) ∧
    (∀ x d, Admitted s r false x d → Does (.sessionClose r) s (fun e => e.session x.num = none ∧
      (∀ n, n ≠ x.num → e.session n = d.session n) ∧ (∀ u ∈ e.nvs.unlk, u.1 ≠ x.num) ∧ e.heg.resp = some (x.num, ⟨0x11, r.id, 0, 0, ⟨0, 0⟩⟩) ∧
      (x.via = .spi → e.heg.key = none ∧ e.heg.outq = (respond x.num ⟨0x11, r.id, 0, 0, ⟨0, 0⟩⟩ false d).heg.outq) ∧ MemSame d e)) ∧
    exec (.sessionIdle 1) s = .next s ∧ (∀ n, s.dev.session n = none → exec (.sessionIdle n) s = .next s) ∧
    (∀ n, n ≠ 1 → s.dev.session n ≠ none → Does (.sessionIdle n) s (fun e => e.session n = none ∧ (∀ m, m ≠ n → e.session m = s.dev.session m) ∧
      MemSame s.dev e)) ∧
    (∀ x d role key cert, Admitted s r false x d →
      (x.via ≠ .spi → exec (.authBegin r role key cert) s = .next { s with dev := respond x.num ⟨0x12, r.id, 0x15, 0, ⟨0, 0⟩⟩ true d } ∧
        ∀ sig, exec (.authProof r sig) s = .next { s with dev := respond x.num ⟨0x13, r.id, 0x15, 0, ⟨0, 0⟩⟩ true d }) ∧
      (x.via = .spi → key.len ≠ 65 ∨ role < 2 ∨ 3 < role → exec (.authBegin r role key cert) s =
        .next { s with dev := respond x.num ⟨0x12, r.id, 0x13, 0, ⟨0, 0⟩⟩ true d }) ∧
      (x.via = .spi → key.len = 65 → 2 ≤ role → role ≤ 3 → d.sec.lcs ≠ 3 →
        (lockedOut d (srcOf x) = true → exec (.authBegin r role key cert) s = .next { s with dev := respond x.num ⟨0x12, r.id, 0x16, 0, ⟨0, 0⟩⟩ true d }) ∧
        (lockedOut d (srcOf x) = false → trngStopped d = false → ∃ body, body.len = 164 ∧ Replies (.authBegin r role key cert) s r x 0x12 0 0 body (fun e =>
          (∃ y, e.session x.num = some y ∧ y.authing.isSome = true ∧ y.role = x.role) ∧ e.free = d.free + 1 ∧
          (∀ n, n ≠ x.num → e.session n = d.session n) ∧ e = { d with heg.sessions := e.heg.sessions, free := e.free }))) ∧
      (∀ sig, x.via = .spi → x.authing = none → (tabGet [] 0 d.heg.fails).length < 4 → Replies (.authProof r sig) s r x 0x13 0x16 0 ⟨0, 0⟩ (fun e =>
        (∀ k, d.tally 1 = some k → e.tally 1 = some (min (k + 1) 0xFFFFFFFF)) ∧ d.now ∈ tabGet [] 0 e.heg.fails ∧ e.heg.lockout = d.heg.lockout ∧
        e.heg.sessions = d.heg.sessions ∧ RegsBut [NVS_TALLY 1] d e)) ∧
      (∀ sig ro ce l, x.via = .spi → x.authing = some (ro, ce, l) → ro < 4 → spiCertOk d ro ce = true → Config.cryptoOk 1 (ce.val :: sig :: l) = true →
        Replies (.authProof r sig) s r x 0x13 0 0 ⟨0, 0⟩ (fun e => (∃ y, e.session x.num = some y ∧ y.role = ro ∧ y.authed = true ∧ y.authing = none) ∧
          e.bit HIF_STAT_AUTH = true ∧ e.get HIF_STAT_ROLE = ro ∧ e.heg.key.isSome = true ∧ e.heg.rxCtr = 0 ∧ e.heg.txCtr = 0 ∧
          RegsBut [HIF_STAT] d e ∧ MemSame d e))) ∧
    (∀ src, Does (.hegusLockoutEnd src) s (fun e => (∀ k, tabGet 0 k e.heg.lockout = if k = src then 0 else tabGet 0 k s.dev.heg.lockout) ∧
      e = { s.dev with heg.lockout := e.heg.lockout })) ∧
    (∀ ip port dport ck kind role cred, dport ≠ hegusPort s.dev ∨ s.dev.ready 8 = false ∨ s.dev.pwr.step < 4 ∨ s.dev.sec.recovery ≠ none ∨
      lockedOut s.dev (65536 + ip) = true → exec (.clientHello ip ⟨port, dport⟩ ck kind role cred) s = .next s) ∧
    (∀ ip port dport kind role cred, dport = hegusPort s.dev → s.dev.ready 8 = true → 4 ≤ s.dev.pwr.step → s.dev.sec.recovery = none → lockedOut s.dev (65536 + ip) = false →
      (tabGet [] (65536 + ip) s.dev.heg.hellos).length < 4 →
      Does (.clientHello ip ⟨port, dport⟩ false kind role cred) s (fun e => e.heg.sent.head? = some ⟨0x122, ip * 65536 + port, [], none⟩ ∧
        s.dev.now ∈ tabGet [] (65536 + ip) e.heg.hellos ∧ e.heg.sessions = s.dev.heg.sessions ∧
        (portUp s.dev 6 = false → e = { s.dev with heg.sent := e.heg.sent, heg.hellos := e.heg.hellos })) ∧
      (∀ k b, 2 ≤ kind → s.dev.ent 0x1000 5 = 1 → trngStopped s.dev = false → s.dev.heg.sessions = [] → serverCert s.dev = some (k, b) →
        Does (.clientHello ip ⟨port, dport⟩ true kind role cred) s (fun e => e.heg.sessions =
          [{ num := 2, via := .udp, role := 0, peer := ip * 65536 + port, lport := dport, sid := s.dev.heg.sids + 1, last := s.dev.now }] ∧
          e.heg.sent.head? = some ⟨0x124, ip * 65536 + port, [k, b], none⟩ ∧ RegsBut ((upto 7).map (fun q => (FNS_DROP_POLICED q).addr)) s.dev e ∧ MemSame s.dev e)) ∧
      (2 ≤ kind → s.dev.ent 0x1000 5 = 1 → trngStopped s.dev = false → serverCert s.dev = none →
        Does (.clientHello ip ⟨port, dport⟩ true kind role cred) s (fun e => e.heg.sessions = s.dev.heg.sessions ∧
          e.heg.sent.head? = some ⟨0x123, ip * 65536 + port, [40], none⟩)))

/-- The host SPI (R57, R402 to R404): the transfer wakes the device first; without EN nothing else happens; while HRDY is low a frame only counts
as busy; one of fewer bytes than a header, or of a wrong length or CRC, counts and is not executed; an empty frame only fetches what the
device holds. -/
def Sys2Proof.Claims.HostSpi : Prop :=
  ∀ (s : State) (c : Octets) (n : Nat) (up : Bool), s.dev.live = true →
    (Awake s → s.dev.bit HIF_CFG_EN = false → exec (.spiTransfer c n up) s = .next s) ∧
    (¬Awake s → exec (.spiTransfer c n up) s =
      exec (.spiTransfer c n (up && decide (s.dev.get PMC_PSTATE_STATE ≠ 3))) { s with dev := wakeEvent 4 s.dev }) ∧
    (s.dev.bit HIF_CFG_EN = true → Awake s → s.dev.heg.outq = [] → (∀ x, s.dev.session 1 = some x → x.queue = []) →
      (up = false ∨ hrdyHigh s.dev = false → Does (.spiTransfer c n up) s (fun e =>
        e.get HIF_ERRCNT_BUSY = Nat.min (s.dev.get HIF_ERRCNT_BUSY + 1) (2 ^ HIF_ERRCNT_BUSY.width - 1) ∧
        Changes [HIF_ERRCNT_BUSY.addr] { s.dev with heg.lastOut := e.heg.lastOut } e)) ∧
      (up = true → hrdyHigh s.dev = true → n < 8 ∨ c.len < 8 → Does (.spiTransfer c n up) s (fun e =>
          e.get HIF_ERRCNT_PCRC = Nat.min (s.dev.get HIF_ERRCNT_PCRC + 1) (2 ^ HIF_ERRCNT_PCRC.width - 1) ∧
          Changes [HIF_ERRCNT_PCRC.addr] { s.dev with heg.lastOut := e.heg.lastOut } e)) ∧
      (up = true → hrdyHigh s.dev = true → 8 ≤ n → 8 ≤ c.len → c.at 0 1 ≠ 0xA5 ∨ crc16 c 6 ≠ c.at 6 2 ∨ 4096 < c.at 2 2 →
        Does (.spiTransfer c n up) s (fun e =>
          e.get HIF_ERRCNT_HCRC = Nat.min (s.dev.get HIF_ERRCNT_HCRC + 1) (2 ^ HIF_ERRCNT_HCRC.width - 1) ∧
          Changes [HIF_ERRCNT_HCRC.addr] { s.dev with heg.lastOut := e.heg.lastOut } e)) ∧
      (up = true → hrdyHigh s.dev = true → 12 ≤ n → c.len = 12 → c.at 0 1 = 0xA5 → c.at 1 1 = 0 → c.at 2 2 = 0 → crc16 c 6 = c.at 6 2 →
        s.dev.heg.key = none →
        (crc32 (c.part 0 8).blob (c.part 0 8).len = c.at 8 4 → Does (.spiTransfer c n up) s (fun e => e.heg.tagFails = 0 ∧
          e = { s.dev with heg.lastOut := e.heg.lastOut, heg.tagFails := 0 })) ∧
        (crc32 (c.part 0 8).blob (c.part 0 8).len ≠ c.at 8 4 → Does (.spiTransfer c n up) s (fun e =>
          e.get HIF_ERRCNT_PCRC = Nat.min (s.dev.get HIF_ERRCNT_PCRC + 1) (2 ^ HIF_ERRCNT_PCRC.width - 1) ∧
          Changes [HIF_ERRCNT_PCRC.addr] { s.dev with heg.lastOut := e.heg.lastOut } e)))) ∧
    (∀ m l, Awake s → hrdyHigh s.dev = true → s.dev.heg.outq = (none, m) :: l → s.dev.heg.key = none → 12 + m.len ≤ n → n < 8 + 4096 →
      c.len = 0 → Does (.spiTransfer c n true) s (fun e => e.heg.outq = l ∧ e.heg.lastOut.len = 12 + m.len ∧ e.heg.txCtr = s.dev.heg.txCtr + 1 ∧
        RegsBut [HIF_STAT, HIF_ERRCNT_PCRC.addr] s.dev e ∧ MemSame s.dev e))

/-- Sessions (R396 to R401) and the host SPI (R402 to R404). -/
def Obligations.SessionsAndHostSpi : Prop := Claims.SessionsAndProofs ∧ Claims.HostSpi

/-! ### The operation of the control engines (chapter 8) -/

namespace Sys2Proof.Claims

/-- Beside engine `n`'s own store, its registers of `l`, counters and the log, nothing changes. -/
def EngOnly (n : Nat) (l : List Nat) (d e : Dev) : Prop :=
  RegsBut l d e ∧ MemSame d e ∧ (∀ m, m ≠ n → e.eng m = d.eng m) ∧
    e = { d with regs := e.regs, cea.eng := e.cea.eng, obs := e.obs, evLog := e.evLog, evSeq := e.evSeq, cyc := e.cyc,
                 pwr.nvEvents := e.pwr.nvEvents }

/-- Every slot of engine `n` but `k` is as before. -/
def SlotsBut (n k : Nat) (d e : Dev) : Prop := ∀ j, j ≠ k → e.slot n j = d.slot n j

/-- Run `r` of engine `n` has ended with fault `c` (R219): the fault is counted and kept where none was, the working copy and the
escrow are discarded, the slot is armed with one miss more. -/
def Faulted (n c : Nat) (r : Run) (d e : Dev) : Prop :=
  (e.eng n).run = none ∧ e.get (CE_LASTRUN_CYCLES n) = r.cycles % 2 ^ (CE_LASTRUN_CYCLES n).width ∧
    e.get (CE_FAULTCNT_COUNT n) = min (d.get (CE_FAULTCNT_COUNT n) + 1) 65535 ∧
    (d.get (CE_FAULT_CODE n) = 0 → e.get (CE_FAULT_CODE n) = c ∧ e.get (CE_FAULT_SLOT n) = r.slot ∧
      e.get (CE_FAULT_PC n) = r.pc % 2048) ∧
    (d.get (CE_FAULT_CODE n) ≠ 0 → e.rd (CE_FAULT n) = d.rd (CE_FAULT n)) ∧
    (e.slot n r.slot).st = .armed ∧ (e.slot n r.slot).miss = min ((d.slot n r.slot).miss + 1) 15 ∧
    (e.slot n r.slot).held = (d.slot n r.slot).held ∧ SlotsBut n r.slot d e ∧
    EngOnly n [CE_LASTRUN n, CE_FAULT n, CE_FAULTCNT n] d e

/-- Engine `n` of a powered device has run `r` of program words in progress, not speculative, in a slot that no swap tries and that
no miss demotes, DEMOTE_N being that of the slot's latest trigger. -/
def PlainRun (n : Nat) (r : Run) (s : State) : Prop :=
  On s [ceaDom n] ∧ n < 32 ∧ (s.dev.eng n).run = some r ∧ r.lib = 0 ∧ r.slot < 16 ∧ (r.kind = .plain ∨ r.kind = .rerun) ∧
    ((s.dev.eng n).swap.st ≠ 2 ∨ (s.dev.eng n).swap.slot ≠ r.slot) ∧ trigCfg s.dev n r.slot (CE_SCFG_DEMOTE_N n r.slot) = 0

end Sys2Proof.Claims

/-- Faults of a run (R219): RUN_FAULT ends it with the code of the fetched word, RUN_LIMIT at 65,536 cycles with code 3; without a run,
or with nothing to fault, they do nothing. FAULT_CLR clears CE_FAULT alone. -/
def Sys2Proof.Claims.EngineFaults : Prop :=
  ∀ (s : State) (n : Nat) (r : Run), n < 32 →
    (s.dev.live = true → codeRun s.dev n = none → exec (.runFault n) s = .next s ∧ exec (.runLimit n) s = .next s) ∧
    (On s [ceaDom n] → (s.dev.eng n).run = some r → r.lib = 0 →
      (fetchFault s.dev n r = none → exec (.runFault n) s = .next s) ∧ (r.cycles < 65536 → exec (.runLimit n) s = .next s)) ∧
    (PlainRun n r s →
      (65536 ≤ r.cycles → Does (.runLimit n) s (Faulted n 3 r s.dev) ∧ Does (.runFault n) s (Faulted n 3 r s.dev)) ∧
      (r.cycles < 65536 → 2047 < r.pc → Does (.runFault n) s (Faulted n 2 r s.dev)) ∧
      (r.cycles < 65536 → r.pc ≤ 2047 → ceWordOk (ceFields (progWord s.dev n r.pc)) r.pc = false →
        Does (.runFault n) s (Faulted n 4 r s.dev))) ∧
    (On s [ceaDom n] → Does (.faultClr n) s (fun e => e.rd (CE_FAULT n) = 0 ∧ Changes [CE_FAULT n] s.dev e)) ∧
    (s.dev.live = true → s.dev.ready (ceaDom n) = false → exec (.faultClr n) s = .next s)

/-- END (R217, R235, R241): a run commits its working copy and its slot is armed; an escrow with RELEASE 1 is held, an empty one releases
nothing; a speculative run only waits for its sample instant. -/
def Sys2Proof.Claims.EngineEnd : Prop :=
  ∀ (s : State) (n : Nat) (r : Run), n < 32 →
    (s.dev.live = true → s.dev.ready (ceaDom n) = false ∨ (s.dev.eng n).run = none → exec (.endI n) s = .next s) ∧
    (At n r s ⟨0x2B, 0, 0, 0, 0⟩ → r.slot < 16 → s.dev.bit (CE_TCTRL_EN n) = false →
      (r.kind = .plain → r.ended = false → r.sbase + r.slen ≤ 256 → s.dev.get (CE_SCFG_RELEASE n r.slot) = 1 ∨ (r.out = [] ∧ r.trigs = []) →
        Does (.endI n) s (fun e => (∀ k, k < r.slen → stateWord e n (r.sbase + k) = r.work.getD k 0) ∧
          (∀ a, a < ceWin n (0x3000 + 4 * r.sbase) ∨ ceWin n (0x3000 + 4 * (r.sbase + r.slen)) ≤ a →
            memByte e.win a = memByte s.dev.win a) ∧
          (e.eng n).run = none ∧ (e.eng n).lastSlot = r.slot ∧ (e.eng n).lastPc = r.pc ∧
          e.get (CE_LASTRUN_CYCLES n) = (r.cycles + 1) % 2 ^ (CE_LASTRUN_CYCLES n).width ∧ (e.slot n r.slot).st = .armed ∧
          (e.slot n r.slot).miss = (if r.overrun then (s.dev.slot n r.slot).miss else 0) ∧
          (s.dev.get (CE_SCFG_RELEASE n r.slot) = 1 → (e.slot n r.slot).held =
            if r.out = [] ∧ r.trigs = [] then none else some ⟨r.out, r.trigs, 0, (s.dev.slot n r.slot).seq⟩) ∧
          SlotsBut n r.slot s.dev e ∧ (∀ m, m ≠ n → e.eng m = s.dev.eng m) ∧ RegsBut [CE_LASTRUN n] s.dev e ∧
          e.sram = s.dev.sram ∧ e.dict = s.dev.dict ∧ e.cea.vals = s.dev.cea.vals)) ∧
      (r.kind = .spec → Does (.endI n) s (fun e => (∃ w, (e.slot n r.slot).waiting = some w ∧ w.ended = true ∧ w.kind = .spec ∧
          w.work = r.work ∧ w.out = r.out ∧ w.trigs = r.trigs ∧ w.cycles = r.cycles + 1) ∧
        (e.slot n r.slot).miss = (if r.overrun then (s.dev.slot n r.slot).miss else 0) ∧
        (e.slot n r.slot).st = (s.dev.slot n r.slot).st ∧ (e.eng n).run = none ∧
        e.get (CE_LASTRUN_CYCLES n) = (r.cycles + 1) % 2 ^ (CE_LASTRUN_CYCLES n).width ∧ SlotsBut n r.slot s.dev e ∧
        EngOnly n [CE_LASTRUN n] s.dev e)))

/-- The ends of a run: END (R217, R235, R241) and the faults (R219). -/
def Obligations.EngineRunEnds : Prop := Claims.EngineFaults ∧ Claims.EngineEnd

/-- Images (R220, R222, R223): a refused image leaves its code and DETAIL and changes no memory and no entry; the checks of magic, header and
length come first; an accepted one leaves code 0, its entry holds it, and the words of a program section stand in memory. While the engine's
domain is off, the image is checked against what the domain will find; an accepted one is kept in its entry and held for the domain, which is
asked for. -/
def Sys2Proof.Claims.EngineImages : Prop :=
  ∀ (s : State) (n : Nat) (image : List Nat) (b : Blob), n < 32 → b = Blob.ofBytes image →
    (s.dev.live = true → s.dev.ready (ceaDom n) = false →
      ((loadCheck (domView (ceaDom n) s.dev) n b).1 = (0, 0) → DoesBy (.engineImageLoad n image) s (fun e => wakeDomain (ceaDom n)
          (holdPart (ceaDom n) (.write 0 (0x4000 + n) 1 b.len b.val) e)) (fun e => e.ent (0x4000 + n) 1 = b.val ∧
        (∀ i k, entKey i k ≠ entKey (0x4000 + n) 1 → e.ent i k = s.dev.ent i k) ∧ e = { s.dev with dict := e.dict })) ∧
      ((loadCheck (domView (ceaDom n) s.dev) n b).1.1 ≠ 0 → Does (.engineImageLoad n image) s (fun e =>
        MemSame s.dev e ∧ DictSame s.dev e ∧ e.held = s.dev.held ∧ e.cea = s.dev.cea))) ∧
    (On s [ceaDom n] →
      (∀ c x, (loadCheck s.dev n b).1 = (c, x) → c ≠ 0 → Does (.engineImageLoad n image) s (fun e =>
        e.get (CE_LOADSTAT_RESULT n) = c % 16 ∧ e.get (CE_LOADSTAT_DETAIL n) = x % 65536 ∧ MemSame s.dev e ∧ DictSame s.dev e ∧
        RegsBut [CE_LOADSTAT n] s.dev e ∧ e.cea = s.dev.cea)) ∧
      (b.len < 6 ∨ b.at 0 4 ≠ 0x31504543 ∨ b.at 4 2 ≠ 1 → (loadCheck s.dev n b).1 = (1, 0)) ∧
      (6 ≤ b.len → b.at 0 4 = 0x31504543 → b.at 4 2 = 1 → b.at 6 2 ≠ 32 → (loadCheck s.dev n b).1 = (2, 6)) ∧
      (8 ≤ b.len → b.at 0 4 = 0x31504543 → b.at 4 2 = 1 → b.at 6 2 = 32 → b.at 8 4 ≠ b.len → (loadCheck s.dev n b).1 = (2, 8)) ∧
      ((loadCheck s.dev n b).1 = (0, 0) → Does (.engineImageLoad n image) s (fun e => e.get (CE_LOADSTAT_RESULT n) = 0 ∧
        e.get (CE_LOADSTAT_DETAIL n) = 0 ∧ e.ent (0x4000 + n) 1 = b.val ∧
        (∀ i k, entKey i k ≠ entKey (0x4000 + n) 1 → e.ent i k = s.dev.ent i k) ∧
        (∀ a, a / 65536 ≠ 0x4100 + n → memByte e.win a = memByte s.dev.win a) ∧ e.sram = s.dev.sram ∧ e.flash = s.dev.flash ∧
        RegsBut [CE_LOADSTAT n] s.dev e ∧ e.cea = s.dev.cea)) ∧
      (∀ x : Sec, loadCheck s.dev n b = ((0, 0), [x]) → x.ty = 1 → Does (.engineImageLoad n image) s (fun e =>
        ∀ j, j < x.cnt → progWord e n (x.start + j) = secGet b x j)))

/-- Library programs and removal (R254): a number that is no library program, or a range out of bounds, is code 7, one in use code 8; an
accepted one has its descriptor and its entry. REMOVE_PROG clears the descriptor unless an enabled slot or a pending swap names it. -/
def Sys2Proof.Claims.LibraryPrograms : Prop :=
  ∀ (s : State) (n pid sb db last : Nat), n < 32 → On s [ceaDom n] →
    (∀ c, (c = 7 ∧ (libSlen pid = none ∨ ∃ l, libSlen pid = some l ∧ (255 < sb ∨ 256 < sb + l ∨ 1023 < db ∨ last ≠ 0))) ∨
        (c = 8 ∧ (∃ l, libSlen pid = some l ∧ sb ≤ 255 ∧ sb + l ≤ 256) ∧ db ≤ 1023 ∧ last = 0 ∧ inUse s.dev n pid = true) →
      Does (.libBind n pid sb db last) s (fun e => e.get (CE_LOADSTAT_RESULT n) = c ∧ e.get (CE_LOADSTAT_DETAIL n) = 0 ∧
        MemSame s.dev e ∧ DictSame s.dev e ∧ RegsBut [CE_LOADSTAT n] s.dev e ∧ e.cea = s.dev.cea)) ∧
    (∀ l, libSlen pid = some l → sb ≤ 255 → sb + l ≤ 256 → db ≤ 1023 → last = 0 → inUse s.dev n pid = false →
      (findDescIx s.dev n pid).isSome = true ∨ (∃ i, i < 32 ∧ (descAt s.dev n i).valid = 0) →
      Does (.libBind n pid sb db last) s (fun e => findDesc e n pid = some ⟨0, 0, sb, l, db, pid, 2⟩ ∧
        e.get (CE_LOADSTAT_RESULT n) = 0 ∧ e.ent (0x4000 + n) 3 = pid + 65536 * (sb + 65536 * (db + 65536 * 0)) ∧
        (∀ i k, entKey i k ≠ entKey (0x4000 + n) 3 → e.ent i k = s.dev.ent i k) ∧
        (∀ a, a < ceWin n 0x3800 ∨ ceWin n 0x3A00 ≤ a → memByte e.win a = memByte s.dev.win a) ∧
        RegsBut [CE_LOADSTAT n] s.dev e ∧ e.cea = s.dev.cea)) ∧
    (∀ named : Prop, (named ↔ inUse s.dev n pid = true ∨ ((s.dev.eng n).swap.st = 1 ∧ ((s.dev.eng n).swap.oldProg = pid ∨
        (s.dev.eng n).swap.newProg = pid))) →
      (named → exec (.removeProg n pid) s = .next s) ∧
      (¬ named → findDescIx s.dev n pid = none → Does (.removeProg n pid) s (fun e => e.ent (0x4000 + n) 4 = pid ∧
        (∀ i k, entKey i k ≠ entKey (0x4000 + n) 4 → e.ent i k = s.dev.ent i k) ∧ e = { s.dev with dict := e.dict })) ∧
      (∀ i, ¬ named → findDescIx s.dev n pid = some i →
        Does (.removeProg n pid) s (fun e => (descAt e n i).valid = 0 ∧ e.ent (0x4000 + n) 4 = pid ∧
        (∀ i k, entKey i k ≠ entKey (0x4000 + n) 4 → e.ent i k = s.dev.ent i k) ∧ (∀ j, j ≠ i → descAt e n j = descAt s.dev n j) ∧
        (∀ a, a < ceWin n (0x3800 + 16 * i) ∨ ceWin n (0x3800 + 16 * i + 16) ≤ a → memByte e.win a = memByte s.dev.win a) ∧
        e = { s.dev with win := e.win, dict := e.dict })))

/-- Slots (R226, R227, R247): a slot whose check passes is armed with nothing kept, one that fails it stays disabled and CE_CFGERR names
code and port; disabling ends its run and drops a trigger that waits; ARM arms a demoted slot, and for another is remembered to the end of the cycle. -/
def Sys2Proof.Claims.EngineSlots : Prop :=
  ∀ (s : State) (n k : Nat), n < 32 → k < 16 → On s [ceaDom n] →
    ((s.dev.slot n k).st ≠ .disabled → exec (.slotEnable n k) s = .next s) ∧
    ((s.dev.slot n k).st = .disabled →
      ((slotCheck s.dev n k).1 = 0 → Does (.slotEnable n k) s (fun e => e.bit (CE_SCFG_EN n k) = true ∧ (e.slot n k).st = .armed ∧
        (e.slot n k).pend = .plain ∧ (e.slot n k).hist = [] ∧ (e.slot n k).miss = 0 ∧ (e.slot n k).held = none ∧
        (e.slot n k).waiting = none ∧ (∀ j, 0 < j → j < 32 → (e.rd (CE_SCFG n k)).getLsbD j = (s.dev.rd (CE_SCFG n k)).getLsbD j) ∧
        SlotsBut n k s.dev e ∧ RegsBut [CE_SCFG n k, PMC_PINNED] s.dev e ∧ MemSame s.dev e ∧ DictSame s.dev e)) ∧
      (∀ c p, slotCheck s.dev n k = (c, p) → c ≠ 0 → Does (.slotEnable n k) s (fun e => e.bit (CE_SCFG_EN n k) = false ∧
        e.get (CE_CFGERR_CODE n) = c % 16 ∧ e.get (CE_CFGERR_SLOT n) = k ∧ e.get (CE_CFGERR_PORT n) = p % 256 ∧
        (∀ m j, e.slot m j = s.dev.slot m j) ∧ RegsBut [CE_SCFG n k, CE_CFGERR n, PMC_PINNED] s.dev e ∧ MemSame s.dev e ∧
        DictSame s.dev e)) ∧
      (findDesc s.dev n (s.dev.get (CE_SCFG_PROG_ID n k)) = none → slotCheck s.dev n k = (1, 0)) ∧
      (findDesc s.dev n (s.dev.get (CE_SCFG_PROG_ID n k)) ≠ none → 64 < (inWin s.dev n k).2 →
        slotCheck s.dev n k = (2, (inWin s.dev n k).1))) ∧
    (Does (.slotDisable n k) s (fun e => e.bit (CE_SCFG_EN n k) = false ∧ (e.slot n k).st = .disabled ∧ SlotsBut n k s.dev e ∧
      ((s.dev.slot n k).st ≠ .disabled → (e.slot n k).held = none ∧ (e.slot n k).waiting = none ∧ 16 * n + k ∉ e.cyc.ceTrig ∧
        ∀ r, (s.dev.eng n).run = some r → (e.eng n).run = if r.slot = k then none else some r) ∧
      RegsBut [CE_SCFG n k, PMC_PINNED] s.dev e ∧ MemSame s.dev e ∧ DictSame s.dev e)) ∧
    ((s.dev.slot n k).st ≠ .demoted → exec (.slotArm n k) s =
      .next { s with dev := { s.dev with cyc.ceArm := (16 * n + k) :: s.dev.cyc.ceArm } }) ∧
    ((s.dev.slot n k).st = .demoted → Does (.slotArm n k) s (fun e => (e.slot n k).st = .armed ∧ (e.slot n k).miss = 0 ∧
      (e.slot n k).hist = [] ∧ (e.slot n k).held = none ∧ SlotsBut n k s.dev e ∧ e = { s.dev with cea.eng := e.cea.eng }))

namespace Sys2Proof.Claims

/-- Both ways in which a trigger reaches slot `k` of engine `n` (R228). -/
def Triggers (n k : Nat) (s : State) (P : Dev → Prop) : Prop := ∀ c ∈ [Instr.slotTrigger n k, .slotStartWrite n k], Does c s P

/-- The device as the trigger of slot `k` of engine `n` leaves its mark of the cycle. -/
def marked (n k : Nat) (d : Dev) : Dev := { d with cyc.trigged := (16 * n + k) :: d.cyc.trigged }

end Sys2Proof.Claims

/-- Triggers (R225, R228, R244, R245): the second of a cycle does nothing; a disabled or demoted slot counts it; any other takes its
configuration with it; an armed slot waits for its run; one of a pending slot is settled at the end of the cycle, where it is an overrun; one
that meets a swap boundary or a sample instant is settled there too; under restriction only essential slots take it. -/
def Sys2Proof.Claims.SlotTriggers : Prop :=
  ∀ (s : State) (n k : Nat) (x : SlotS), n < 32 → k < 16 → x = s.dev.slot n k →
    (s.dev.live = true → s.dev.ready (ceaDom n) = false ∨ 16 * n + k ∈ s.dev.cyc.trigged →
      exec (.slotTrigger n k) s = .next s ∧ exec (.slotStartWrite n k) s = .next s) ∧
    (On s [ceaDom n] → 16 * n + k ∉ s.dev.cyc.trigged → swapDue s.dev n k = false →
      (x.st = .disabled ∨ x.st = .demoted → Triggers n k s (fun e => e = count 0x07E (marked n k s.dev))) ∧
      (x.st = .armed ∨ x.st = .pending → slotsRestricted s.dev = true → essential (latchCfg n k s.dev) n k = false →
        Triggers n k s (fun e => e = trigCount n k 0x07F (latchCfg n k (marked n k s.dev)))) ∧
      (slotsRestricted s.dev = false ∨ essential (latchCfg n k s.dev) n k = true → ∀ l, l = ((latchCfg n k s.dev).slot n k).lat →
        (x.st = .armed → Triggers n k s (fun e => e.slot n k = { x with st := .pending, pend := .plain, tPrev := some s.dev.now, lat := l } ∧
          SlotsBut n k s.dev e ∧ (∀ m, m ≠ n → e.eng m = s.dev.eng m) ∧ e = { marked n k s.dev with cea.eng := e.cea.eng })) ∧
        (x.st = .pending → x.pend = .spec → Triggers n k s (fun e => (e.slot n k).st = .pending ∧ (e.slot n k).pend = .plain ∧
          (e.slot n k).tPrev = some s.dev.now ∧ SlotsBut n k s.dev e ∧ RegsBut [] s.dev e ∧ MemSame s.dev e)) ∧
        (x.st = .pending → x.pend ≠ .spec → Triggers n k s (fun e => e.slot n k = { x with tPrev := some s.dev.now, lat := l } ∧
          SlotsBut n k s.dev e ∧ (∀ m, m ≠ n → e.eng m = s.dev.eng m) ∧
          e = { marked n k s.dev with cea.eng := e.cea.eng, cyc.ceOver := (16 * n + k) :: s.dev.cyc.ceOver })))) ∧
    (On s [ceaDom n] → 16 * n + k ∉ s.dev.cyc.trigged → trigWaits s.dev n k = true →
      Triggers n k s (fun e => e = { marked n k s.dev with cyc.ceTrig := (16 * n + k) :: s.dev.cyc.ceTrig })) ∧
    (x.st = .pending → x.pend ≠ .spec → trigAct n k true s.dev = (overrun n k true s.dev, [])) ∧
    (x.st = .pending → trigCfg s.dev n k (CE_SCFG_POLICY n k) = 0 → trigCfg s.dev n k (CE_SCFG_DEMOTE_N n k) = 0 →
      (s.dev.eng n).swap.st ≠ 2 → ∀ e, e = overrun n k true s.dev →
        e.get (CE_SCNT_OVERRUNS n k) = Nat.min (s.dev.get (CE_SCNT_OVERRUNS n k) + 1) (2 ^ (CE_SCNT_OVERRUNS n k).width - 1) ∧
        (e.slot n k).st = .pending ∧ (e.slot n k).miss = Nat.min (x.miss + 1) 15 ∧
        SlotsBut n k s.dev e ∧ RegsBut [CE_SCNT n k] s.dev e ∧ MemSame s.dev e)

/-- Starting a run (R229, R239): an idle engine starts the slot that R229 picks, with its inputs latched, its state words copied and its
program at its entry; of two pending slots a rerun comes first, then the higher PRIO. -/
def Sys2Proof.Claims.RunStarts : Prop :=
  ∀ (s : State) (n : Nat), n < 32 →
    (s.dev.live = true → s.dev.ready (ceaDom n) = false ∨ (s.dev.eng n).run.isSome = true ∨ pickSlot s.dev n = none →
      exec (.runStart n) s = .next s) ∧
    (∀ k ds, On s [ceaDom n] → (s.dev.eng n).run = none → pickSlot s.dev n = some k →
      findDesc s.dev n (s.dev.get (CE_SCFG_PROG_ID n k)) = some ds → s.dev.bit (CE_TCTRL_EN n) = false →
      (s.dev.slot n k).pend = .plain → Does (.runStart n) s (fun e => (∃ r, (e.eng n).run = some r ∧ r.slot = k ∧ r.kind = .plain ∧
          r.pc = ds.entry ∧ r.cycles = 0 ∧ r.lib = (if ds.valid = 2 then ds.progId else 0) ∧ r.ins = latchWin s.dev n k ∧
          r.sbase = ds.sbase ∧ r.slen = ds.slen ∧ r.work = (List.range ds.slen).map (fun i => stateWord s.dev n (ds.sbase + i)) ∧
          r.out = [] ∧ r.trigs = [] ∧ (∀ j < 4, r.ptr j = BitVec.ofNat 10 ds.dbase) ∧ (∀ j < 16, r.wr j = 0)) ∧
        (e.slot n k).st = .running ∧ (e.slot n k).seq = (s.dev.slot n k).seq + 1 ∧
        (e.slot n k).hist = (latchWin s.dev n k :: (s.dev.slot n k).hist).take 2 ∧ SlotsBut n k s.dev e ∧
        (∀ m, m ≠ n → e.eng m = s.dev.eng m) ∧ e = { s.dev with cea.eng := e.cea.eng })) ∧
    (∀ k1 x1 k2 x2 t, (s.dev.eng n).slots = (k1, x1) :: (k2, x2) :: t → k1 < k2 → x1.st = .pending → x2.st = .pending → t = [] →
      pickSlot s.dev n = some (if x1.pend = .rerun ∧ x2.pend ≠ .rerun then k1 else if x2.pend = .rerun ∧ x1.pend ≠ .rerun then k2
        else if trigCfg s.dev n k1 (CE_SCFG_PRIO n k1) < trigCfg s.dev n k2 (CE_SCFG_PRIO n k2) then k2 else k1))

/-- Routes and the trace (R226, R234, R256): a route in a window of an enabled slot is refused with code 9 and stays; another takes its
fields. Enabling the trace starts its ring at 0. -/
def Sys2Proof.Claims.RoutesAndTrace : Prop :=
  ∀ (s : State) (n p v : Nat), n < 32 → p < 256 →
    (s.dev.live = true → s.dev.ready (ceaDom n) = false → (∀ o, exec (.routeWrite n o p v) s = .next s) ∧
      exec (.traceEnable n) s = .next s) ∧
    (On s [ceaDom n] →
      (∀ (o : Bool) a m, a = (if o then CE_OUTRT n p else CE_INRT n p) → m = (if o then (0x1FFFFFFF : Word) else 0x1FFF0F) →
        (∀ k, (enabledSlots s.dev n).find? (fun j => inRange (if o then outWin s.dev n j else inWin s.dev n j) p) = some k → k < 16 →
          Does (.routeWrite n o p v) s (fun e => e.get (CE_CFGERR_CODE n) = 9 ∧ e.get (CE_CFGERR_SLOT n) = k ∧
            e.get (CE_CFGERR_PORT n) = p ∧ e.cea = s.dev.cea ∧ RegsBut [CE_CFGERR n] s.dev e ∧ MemSame s.dev e)) ∧
        ((∀ k ∈ enabledSlots s.dev n, inRange (if o then outWin s.dev n k else inWin s.dev n k) p = false) →
          Does (.routeWrite n o p v) s (fun e =>
            e.rd a = (s.dev.rd a &&& ~~~m) ||| (BitVec.ofNat 32 v &&& m) ∧ e.cea = s.dev.cea ∧
            RegsBut [a, PMC_PINNED] s.dev e ∧ MemSame s.dev e))) ∧
      (s.dev.bit (CE_TCTRL_EN n) = true → exec (.traceEnable n) s = .next s) ∧
      (s.dev.bit (CE_TCTRL_EN n) = false → Does (.traceEnable n) s (fun e => e.bit (CE_TCTRL_EN n) = true ∧
        e.get (CE_TCTRL_WR n) = 0 ∧ e.bit (CE_TCTRL_FULL n) = false ∧ e.bit (CE_TCTRL_MODE n) = s.dev.bit (CE_TCTRL_MODE n) ∧
        (e.eng n).tstart = s.dev.time64 ∧ (e.eng n).tfirst = true ∧ (e.eng n).run = (s.dev.eng n).run ∧
        (e.eng n).slots = (s.dev.eng n).slots ∧ RegsBut [CE_TCTRL n, PMC_PINNED] s.dev e ∧ MemSame s.dev e)))

/-- Images, library programs, slots, triggers, runs and routes of the engines (R220 to R229, R234, R239, R244 to R247, R254, R256). -/
def Obligations.EngineImagesAndSlots : Prop :=
  Claims.EngineImages ∧ Claims.LibraryPrograms ∧ Claims.EngineSlots ∧ Claims.SlotTriggers ∧ Claims.RunStarts ∧ Claims.RoutesAndTrace

namespace Sys2Proof.Claims

/-- Window port `j` of slot `k` meets its prediction at the sample instant (R240): valid, and within its tolerance. -/
def PortAgrees (d : Dev) (n k : Nat) (r : Run) (j : Nat) : Prop :=
  ((latchWin d n k).getD j (0, true)).2 = false ∧
    (((latchWin d n k).getD j (0, true)).1.toInt - (r.ins.getD j (0, true)).1.toInt).natAbs ≤ tolOf d n k j

/-- A sample instant meets run `r` of slot `k` (R240): the slot runs speculatively, no swap is due, nothing has triggered it in this
cycle, no ST was refused and no trace runs. -/
def AtSample (s : State) (n k : Nat) (r : Run) : Prop :=
  On s [ceaDom n] ∧ n < 32 ∧ k < 16 ∧ 16 * n + k ∉ s.dev.cyc.trigged ∧ swapDue s.dev n k = false ∧ (s.dev.slot n k).st = .spec ∧
    openSpec s.dev n k = some r ∧ r.slot = k ∧ r.kind = .spec ∧ r.stRefused = false ∧ s.dev.bit (CE_TCTRL_EN n) = false

/-- The speculative run of slot `k` is void (R242, R243): both counts go up, the state memory is untouched, the run is gone. -/
def Voided (n k cause port : Nat) (d e : Dev) : Prop :=
  e.get (CE_SPECCNT_VOIDED n) = min (d.get (CE_SPECCNT_VOIDED n) + 1) (2 ^ (CE_SPECCNT_VOIDED n).width - 1) ∧
    e.get (CE_SCNT_VOIDS n k) = min (d.get (CE_SCNT_VOIDS n k) + 1) (2 ^ (CE_SCNT_VOIDS n k).width - 1) ∧
    (e.slot n k).cause = cause ∧ (e.slot n k).port = port ∧ (e.slot n k).waiting = none ∧
    (∀ x, (e.eng n).run = some x → x.slot ≠ k) ∧ SlotsBut n k d e ∧ EngOnly n [CE_SPECCNT n, CE_SCNT n k] d e

end Sys2Proof.Claims

/-- Run-ahead (R238, R240 to R243): a speculative run is asked for only where R238 allows it; at the sample instant a run that meets its
predictions is confirmed or commits, one that does not is void with cause and port and runs again on the values latched; without its
trigger it is void with cause 5. -/
def Sys2Proof.Claims.RunAhead : Prop :=
  ∀ (s : State) (n k : Nat),
    (s.dev.live = true →
      (s.dev.ready (ceaDom n) = false ∨ (s.dev.slot n k).st ≠ .armed ∨ s.dev.bit (CE_SCFG_SPEC_EN n k) = false ∨
          (s.dev.slot n k).tPrev = none ∨ histValid s.dev n k = false ∨
          (1 ≤ s.dev.get THM_STATUS_LEVEL ∧ essential s.dev n k = false) → exec (.specStartTime n k) s = .next s) ∧
      (openSpec s.dev n k = none → exec (.sampleInstant n k) s = .next s ∧ ((s.dev.slot n k).st ≠ .pending ∨ (s.dev.slot n k).pend ≠ .spec →
        exec (.specNoTrigger n k) s = .next s)) ∧
      (s.dev.ready (ceaDom n) = false → exec (.specNoTrigger n k) s = .next s)) ∧
    (On s [ceaDom n] → (s.dev.slot n k).st = .armed → s.dev.bit (CE_SCFG_SPEC_EN n k) = true → (s.dev.slot n k).tPrev ≠ none →
      histValid s.dev n k = true → s.dev.get THM_STATUS_LEVEL = 0 ∨ essential s.dev n k = true →
      (s.dev.eng n).swap.slot ≠ k ∨ (s.dev.eng n).swap.st ≠ 1 → Does (.specStartTime n k) s (fun e =>
        e.slot n k = { s.dev.slot n k with st := .pending, pend := .spec } ∧ SlotsBut n k s.dev e ∧
        (∀ m, m ≠ n → e.eng m = s.dev.eng m) ∧ e = { s.dev with cea.eng := e.cea.eng })) ∧
    (∀ r, AtSample s n k r →
      ((∀ j < (inWin s.dev n k).2, PortAgrees s.dev n k r j) →
        (r.ended = false → (s.dev.slot n k).waiting = none → Does (.sampleInstant n k) s (fun e =>
          (∃ x, (e.eng n).run = some x ∧ x.kind = .confirmed ∧ x.slot = k ∧ x.pc = r.pc ∧ x.w = r.w ∧ x.work = r.work ∧ x.out = r.out ∧
            x.ins = r.ins) ∧ (e.slot n k).st = .spec ∧ (e.slot n k).tPrev = some s.dev.now ∧
          (e.slot n k).hist = (latchWin s.dev n k :: (s.dev.slot n k).hist).take 2 ∧ SlotsBut n k s.dev e ∧ EngOnly n [] s.dev e)) ∧
        (r.ended = true → s.dev.get (CE_SCFG_RELEASE n k) = 1 → r.sbase + r.slen ≤ 256 → Does (.sampleInstant n k) s (fun e =>
          (∀ i, i < r.slen → stateWord e n (r.sbase + i) = r.work.getD i 0) ∧ (e.slot n k).st = .armed ∧ (e.slot n k).waiting = none ∧
          e.get (CE_SPECCNT_SETTLED n) = min (s.dev.get (CE_SPECCNT_SETTLED n) + 1) (2 ^ (CE_SPECCNT_SETTLED n).width - 1) ∧
          (e.slot n k).held = (if r.out = [] ∧ r.trigs = [] then none else some ⟨r.out, r.trigs, 1, (s.dev.slot n k).seq⟩) ∧
          SlotsBut n k s.dev e ∧ RegsBut [CE_SPECCNT n] s.dev e ∧ e.sram = s.dev.sram ∧ e.dict = s.dev.dict))) ∧
      (∀ j, j < (inWin s.dev n k).2 → (∀ i < j, PortAgrees s.dev n k r i) → ¬ PortAgrees s.dev n k r j → Does (.sampleInstant n k) s (fun e =>
        Voided n k (if ((latchWin s.dev n k).getD j (0, true)).2 then 2 else 1) j s.dev e ∧ (e.slot n k).st = .pending ∧
        (e.slot n k).pend = .rerun ∧ (e.slot n k).rerunIns = some (latchWin s.dev n k))) ∧
      Does (.specNoTrigger n k) s (fun e => Voided n k 5 0 s.dev e ∧ (e.slot n k).st = .armed ∧ (e.slot n k).hist = []))

/-- Program swaps (R250, R251, R253, R456): a write of ACTIVATE_AT that the checks pass makes the swap pending for the recorded slot and
programs; 0 cancels it. At the slot's first free trigger after the instant the new program takes over with the mapped state words. -/
def Sys2Proof.Claims.ProgramSwaps : Prop :=
  ∀ (s : State) (n : Nat), n < 32 →
    (∀ r t, t < 2 ^ 64 → Writes (.swapActivateAt r n t) s r false (0x4300 + n) 7 ⟨8, t⟩ (fun x d e => ∀ y, y = (d.eng n).swap →
      (t = 0 → y.st ≠ 2 ∧ (y.st = 1 → (e.eng n).swap.st = 0) ∧ (y.st ≠ 1 → (e.eng n).swap = y) ∧ e.ent (0x4300 + n) 7 = 0) ∧
      (t ≠ 0 → y.st ≠ 1 ∧ y.st ≠ 2 ∧ d.time64 < t ∧ t ≤ d.time64 + 2678400000000000 ∧
        (d.slot n (d.ent (0x4300 + n) 1)).st ≠ .disabled ∧
        (e.eng n).swap = ⟨1, d.ent (0x4300 + n) 1, 0, d.cget (CE_SCFG_PROG_ID n (d.ent (0x4300 + n) 1)), d.ent (0x4300 + n) 2, t, false⟩ ∧
        e.ent (0x4300 + n) 7 = t ∧ (e.act (0x300 + n)).at_ = t ∧ (e.act (0x300 + n)).role = x.role ∧ (e.act (0x300 + n)).sess = x.num ∧
        (e.act (0x300 + n)).entry.isSome = true) ∧
      (e.eng n).slots = (d.eng n).slots ∧ (e.eng n).run = (d.eng n).run)) ∧
    (∀ w, w = (s.dev.eng n).swap →
      (s.dev.live = true → s.dev.ready (ceaDom n) = false ∨ swapDue s.dev n w.slot = false ∨ boundaryFree s.dev n w.slot = false →
        exec (.swapBoundary n) s = .next s) ∧
      (On s [ceaDom n] → w.slot < 16 → 16 * n + w.slot ∉ s.dev.cyc.trigged → w.st = 1 → w.at_ ≤ s.dev.time64 →
        (s.dev.slot n w.slot).st = .armed → slotsRestricted s.dev = false →
        (s.dev.ent (0x4300 + n) 4 = 0 → Does (.swapBoundary n) s (fun e =>
          e.get (CE_SCFG_PROG_ID n w.slot) = w.newProg % 65536 ∧ (e.eng n).swap = { w with st := 2, failed := false } ∧
          (e.slot n w.slot).st = .pending ∧ SlotsBut n w.slot s.dev e ∧ RegsBut [CE_SCFG n w.slot, PMC_PINNED] s.dev e ∧ MemSame s.dev e)) ∧
        (∀ nw old ds sr op sh (kq : Int), s.dev.ent (0x4300 + n) 4 = 1 → findDesc s.dev n w.newProg = some nw →
          findDesc s.dev n w.oldProg = some old → mapEntry (s.dev.ent (0x4300 + n) 3) 0 = (ds, sr, op, sh, kq) → op ≤ 2 →
          Does (.swapBoundary n) s (fun e =>
            (op = 0 → stateWord e n (nw.sbase + ds) = stateWord s.dev n (old.sbase + sr)) ∧
            (op = 1 → stateWord e n (nw.sbase + ds) = 0) ∧
            (op = 2 → stateWord e n (nw.sbase + ds) =
              BitVec.ofInt 32 (clamp32 (((stateWord s.dev n (old.sbase + sr)).toInt * kq * (2 ^ sh : Nat) + 16384) / 32768))) ∧
            (∀ a, a < ceWin n (0x3000 + 4 * (nw.sbase + ds)) ∨ ceWin n (0x3000 + 4 * (nw.sbase + ds)) + 4 ≤ a →
              memByte e.win a = memByte s.dev.win a) ∧
            e.get (CE_SCFG_PROG_ID n w.slot) = w.newProg % 65536))))

/-- Run-ahead (R238 to R243) and program swaps (R250, R251, R253, R456). -/
def Obligations.EngineRunAheadAndSwaps : Prop := Claims.RunAhead ∧ Claims.ProgramSwaps

/-! ### Floor functions (chapter 9) -/

namespace Sys2Proof.Claims

/-- The mode that MANUAL, HOST or the program requests of zone `z`, and its source (R267): a manual mode counts until MANUAL_UNTIL. -/
def Requested (d : Dev) (z : Nat) : Nat × Nat :=
  let m := d.ent (0x5100 + z) 2
  let u := d.ent (0x5100 + z) 3
  let h := d.ent (0x5100 + z) 5
  let p := d.ent (0x5000 + z) 11
  if m ≠ 0xFF ∧ (u = 0 ∨ d.time64 < u) then (m, 3)
  else if h ≠ 0xFF ∧ d.ent 0x5500 1 = 0 then (h, 2)
  else if p < 16 then (d.ent (0x5300 + p) 9, 1)
  else (0, 0)

/-- Entry `i`:`k` is not one that the evaluation of zone `z` writes. -/
def NotOfZone (d : Dev) (z i k : Nat) : Prop :=
  k < 256 ∧ i ≠ 0x5200 + z ∧ i ≠ 0x5100 + z ∧ i ≠ 0x4800 + d.ent (0x5000 + z) 13 ∧ i ≠ 0x4801 + d.ent (0x5000 + z) 13

end Sys2Proof.Claims

/-- A zone's evaluation (R262, R263, R265 to R268, R270, R272, R273): without a valid source it has no temperature and no valid demand; one
valid source is its temperature; the mode is the requested one, PROTECT at an open window or at frost; condensation holds the
output; nothing else of the dictionary, no register and no other zone changes. -/
def Sys2Proof.Claims.ZoneEvaluated : Prop :=
  ∀ (d e : Dev) (z : Nat), z < 256 → e = zoneEval z d →
    (d.ent (0x5000 + z) 1 = 0 → e.zone z = {} ∧ (d.zone z = {} → e = d) ∧ (d.zone z ≠ {} → e.ent (0x5200 + z) 8 = 0)) ∧
    (∀ i k, NotOfZone d z i k → e.ent i k = d.ent i k) ∧ (∀ w, w ≠ z → e.zone w = d.zone w) ∧ RegsBut [] d e ∧
    e.sram = d.sram ∧ e.flash = d.flash ∧
    (d.ent (0x5000 + z) 1 ≠ 0 →
      ((∀ k < 4, d.ent (0x5000 + z) (2 + k) % 16 = 0) → e.ent (0x5200 + z) 1 = 0x8000 ∧ e.ent (0x5200 + z) 2 = 0 ∧
        e.ent (0x5200 + z) 8 = 0 ∧ (e.zone z).lost = true ∧ d.ent (0x5000 + z) 13 + 1 ∉ e.cea.hostIn) ∧
      (∀ x, d.ent (0x5000 + z) 2 % 16 ≠ 0 → (∀ k < 3, d.ent (0x5000 + z) (3 + k) % 16 = 0) →
        srcVal d z (d.ent (0x5000 + z) 2) = some x → (d.zone z).excl.testBit 0 = false →
        e.ent (0x5200 + z) 1 = ux 16 (satI 16 ((x * 100 + 256) / 512)) ∧ e.ent (0x5200 + z) 2 % 16 = 1 ∧ (e.zone z).lost = false ∧
        e.ent (0x4801 + d.ent (0x5000 + z) 13) 0 = ux 16 x ∧ d.ent (0x5000 + z) 13 + 1 ∈ e.cea.hostIn) ∧
      (64 ≤ d.ent (0x5000 + z) 7 → e.ent (0x5200 + z) 4 = (Requested d z).2 ∧ e.ent (0x5200 + z) 3 =
        if (e.zone z).frost.on then 1 else if (e.zone z).window.on ∧ (Requested d z).1 ≠ 0 then 1 else (Requested d z).1) ∧
      (d.ent (0x5100 + z) 4 ≠ 0x8000 → d.ent (0x5100 + z) 3 = 0 ∨ d.time64 < d.ent (0x5100 + z) 3 → e.ent (0x5200 + z) 5 = 3) ∧
      (d.ent (0x5100 + z) 4 = 0x8000 → d.ent (0x5100 + z) 6 ≠ 0x8000 → d.ent 0x5500 1 = 0 → e.ent (0x5200 + z) 5 = 1) ∧
      e.ent (0x5200 + z) 6 = ux 16 (zonePresent d z) ∧
      ((e.zone z).condense.on = true → (e.zone z).trk = some (max (zonePresent d z) 0) ∧ (e.zone z).hold = true))

/-- Votes and thresholds (R263, R265): two sources within DISAGREE give their mean, else the first counts and the second disagrees; a
condition is entered after N evaluations in a row beyond its threshold, and counts anew after one that is not. -/
def Sys2Proof.Claims.VotesAndThresholds : Prop :=
  ∀ (d : Dev) (i j k vote n : Nat) (x y w : Int) (c : Cond),
    voteTemp d vote [] = (none, none) ∧ voteTemp d vote [(i, x)] = (some x, none) ∧
    ((x - y).natAbs ≤ (toQ (d.ent 0x5500 2 : Int)).natAbs → voteTemp d vote [(i, x), (j, y)] = (some ((x + y + 1) / 2), none)) ∧
    ((toQ (d.ent 0x5500 2 : Int)).natAbs < (x - y).natAbs → voteTemp d vote [(i, x), (j, y)] = (some x, some j)) ∧
    (x ≤ y → y ≤ w → voteTemp d 0 [(i, y), (j, w), (k, x)] = (some y, none)) ∧
    voteTemp d 2 [(i, x), (j, y), (k, w)] = (some (min (min x y) w), none) ∧
    voteTemp d 3 [(i, x), (j, y), (k, w)] = (some (max (max x y) w), none) ∧
    (∀ other, c.on = false → condStep c false other n = ⟨false, 0⟩ ∧
      (n ≤ c.cnt + 1 → condStep c true other n = ⟨true, 0⟩) ∧ (c.cnt + 1 < n → condStep c true other n = ⟨false, c.cnt + 1⟩)) ∧
    (∀ beyond, c.on = true → condStep c beyond false n = ⟨true, 0⟩ ∧
      (n ≤ c.cnt + 1 → condStep c beyond true n = ⟨false, 0⟩) ∧ (c.cnt + 1 < n → condStep c beyond true n = ⟨true, c.cnt + 1⟩))

/-- The evaluation after a whole second (R262, R307, R308): from step 6 of the power-up order, with a half running, every zone, then every
demand map, then every drive; the captures seen stand for the next presence test; a drive's target moves by at most FAN_SLEW towards what its source asks for. -/
def Sys2Proof.Claims.FloorEvaluated : Prop :=
  ∀ (s : State), s.dev.live = true →
    (s.dev.pwr.step < 6 ∨ s.dev.pwr.halves = 0 → exec .zoneEvaluation s = .next s) ∧
    (6 ≤ s.dev.pwr.step → s.dev.pwr.halves ≠ 0 → Does .zoneEvaluation s (fun e => ∃ a b : Dev,
      a = (List.range 256).foldl (fun d z => zoneEval z d) s.dev ∧ b = (List.range 16).foldl (fun d g => mapEval g d) { a with floor.caps := a.aio.capAll } ∧
      e = (List.range 24).foldl (fun d n => driveEval n d) b)) ∧
    (∀ (d e : Dev) (g : Nat), e = mapEval g d → RegsBut [] d e ∧ (e.ent (0x6300 + g) 7 =
        let v := d.ent (0x6300 + g) 6
        if v < 1024 ∧ engValid d v = true then (tabGet 0 v d.cea.vals).toNat else 0x8000) ∧
      ((∀ i < 64, d.entByte (0x6300 + g) 1 i = 0xFF) → e = { d with dict := e.dict } ∧
        ∀ i k, entKey i k ≠ entKey (0x6300 + g) 7 → e.ent i k = d.ent i k) ∧
      (∀ i < 64, ∀ z, z = d.entByte (0x6300 + g) 1 i → z ≠ 0xFF →
        (d.ent (0x5200 + z) 8 = 1 → e.ent (0x4800 + (d.ent (0x6300 + g) 5 + i)) 0 = d.ent (0x5200 + z) 7 % 65536 ∧
          d.ent (0x6300 + g) 5 + i ∈ e.cea.hostIn) ∧
        (d.ent (0x5200 + z) 8 ≠ 1 → d.ent (0x6300 + g) 5 + i ∉ e.cea.hostIn))) ∧
    (∀ (d e : Dev) (n : Nat), e = driveEval n d → n < 24 →
      (d.ent (0x6100 + n) 1 = 0 → e = d) ∧ (∀ m, m ≠ n → e.drive m = d.drive m) ∧
      (d.ent (0x6100 + n) 1 ≠ 0 → ∀ k x, driveSelect d n = (k, x) → (e.drive n).source = k ∧
        ((e.drive n).target - (d.drive n).target).natAbs ≤ d.ent (0x6100 + n) 10 ∧
        ((x - (d.drive n).target).natAbs ≤ d.ent (0x6100 + n) 10 → (e.drive n).target = x) ∧
        (driveBound d n = true → Noted { d with mdu.drives := e.mdu.drives } e ∧
          ((d.drive n).source = k → e = { d with mdu.drives := e.mdu.drives })))) ∧
    (∀ (d : Dev) (n : Nat), (d.ent (0x6100 + n) 7 ≠ 0x8000 → d.ent (0x6100 + n) 8 = 0 ∨ d.time64 < d.ent (0x6100 + n) 8 →
        driveSelect d n = (4, sx 16 (d.ent (0x6100 + n) 7))) ∧
      (d.ent (0x6100 + n) 7 = 0x8000 → d.ent (0x6100 + n) 9 ≠ 0x8000 → d.ent 0x5500 1 = 0 →
        driveSelect d n = (3, sx 16 (d.ent (0x6100 + n) 9))))

/-- Day books (R283): the next date is compiled only once the present one is active and nothing waits; it stands in the idle book with its
swap at 23:59:59 in entry 0 of book 14. A change is compiled for the second second after the next; a late date becomes active at once. -/
def Sys2Proof.Claims.DayBooks : Prop :=
  ∀ (s : State), s.dev.live = true →
    (s.dev.ldg.st ≠ 1 ∨ tbUnset s.dev = true → exec .dayBookCompile s = .next s ∧ exec .dayBookRecompile s = .next s) ∧
    (s.dev.floor.dirty = true ∨ s.dev.floor.next.isSome = true ∨ s.dev.floor.day ≠ some (schedDay s.dev : Int) →
      exec .dayBookCompile s = .next s) ∧
    (∀ b t l, s.dev.ldg.st = 1 → tbUnset s.dev = false → s.dev.floor.dirty = false → s.dev.floor.next = none →
      s.dev.floor.day = some (schedDay s.dev : Int) → b = (if s.dev.ent 0x5320 1 = 12 then 13 else 12) →
      t = midnightSwap s.dev (schedDay s.dev + 1) → s.dev.time64 < t →
      l = ((dayBook s.dev (schedDay s.dev + 1)).filter (fun x => decide ((s.dev.time64 : Int) < x.1))).map (·.2) →
      Does .dayBookCompile s (fun e => e.floor.next = some (b, ((schedDay s.dev + 1 : Nat) : Int)) ∧ e.floor.day = s.dev.floor.day ∧
        e.ent 0x5320 3 = t ∧ e.ent 0x5320 1 = s.dev.ent 0x5320 1 ∧ bookArmed e b = false ∧
        (∀ i < 256, memRead e.win (ldgAddr (256 * b + i)) 32 = l.getD i 0 % 256 ^ 32) ∧
        memRead e.win (ldgAddr 3584) 32 =
          packW 32 [1 + 256 * 0x10, t % 2 ^ 32, t / 2 ^ 32, 0, 0, 1, (25 - b) + 16 * b, 0] % 256 ^ 32 ∧
        RegsBut [] s.dev e ∧ e.sram = s.dev.sram ∧ e.flash = s.dev.flash)) ∧
    (s.dev.floor.day = some (schedDay s.dev : Int) → s.dev.floor.dirty = false → exec .dayBookRecompile s = .next s) ∧
    (∀ b, s.dev.ldg.st = 1 → tbUnset s.dev = false → b = (if s.dev.ent 0x5320 1 = 12 then 13 else 12) →
      (s.dev.floor.day = some (schedDay s.dev : Int) → s.dev.floor.dirty = true → Does .dayBookRecompile s (fun e =>
        e.floor.dirty = false ∧ e.floor.next = some (b, ((schedDay s.dev : Nat) : Int)) ∧ bookArmed e b = false ∧
        e.ent 0x5320 3 = (s.dev.time64 / 1000000000 + 3) * 1000000000 ∧ e.ent 0x5320 1 = s.dev.ent 0x5320 1 ∧ RegsBut [] s.dev e)) ∧
      (s.dev.floor.day ≠ some (schedDay s.dev : Int) → Does .dayBookRecompile s (fun e => e.floor.dirty = false ∧
        e.floor.day = some (schedDay s.dev : Int) ∧ e.floor.next = none ∧ e.ent 0x5320 1 = b ∧ e.ent 0x5320 3 = 0)))

/-- Lighting and host supervision (R286 to R288): a restage sets the pending outputs of the group to its next scheduled state; a change of
source or state reaches the group's outputs that no pair or pulse drives, and is reported; HOST_TIMEOUT without a heartbeat ends PRESENT. -/
def Sys2Proof.Claims.LightsAndHost : Prop :=
  ∀ (s : State) (g : Nat), s.dev.live = true → ∀ mask, mask = s.dev.ent (0x5400 + g) 3 →
    Does (.lightRestage g) s (fun e => (∀ n, e.aio.pendAct.testBit n =
        if mask.testBit n then lightNext s.dev g s.dev.time64 else s.dev.aio.pendAct.testBit n) ∧ g ∉ e.floor.restage ∧
      (∀ h, h ≠ g → (h ∈ e.floor.restage ↔ h ∈ s.dev.floor.restage)) ∧
      e = { s.dev with aio.pendAct := e.aio.pendAct, floor.restage := e.floor.restage }) ∧
    (s.dev.ent (0x5400 + g) 1 = 0 ∨ ((s.dev.light g).src, (s.dev.light g).on) = lightWant s.dev g → exec (.lightSwitched g) s = .next s) ∧
    (s.dev.ent (0x5400 + g) 11 ≤ 1 → lightWant s.dev g = (2, decide (s.dev.ent (0x5400 + g) 11 = 1))) ∧
    (1 < s.dev.ent (0x5400 + g) 11 → s.dev.ent (0x5400 + g) 12 ≤ 1 → s.dev.ent 0x5500 1 = 0 →
      lightWant s.dev g = (1, decide (s.dev.ent (0x5400 + g) 12 = 1))) ∧
    (1 < s.dev.ent (0x5400 + g) 11 → s.dev.ent 0x5500 1 ≠ 0 → lightWant s.dev g = (0, (s.dev.light g).sched)) ∧
    (∀ src on, lightWant s.dev g = (src, on) → ((s.dev.light g).src, (s.dev.light g).on) ≠ (src, on) → s.dev.ent (0x5400 + g) 1 ≠ 0 →
      8 ≤ s.dev.ent (0x5400 + g) 4 → 64 ≤ s.dev.ent (0x5400 + g) 7 →
      DoesBy (.lightSwitched g) s (raise .LIGHT_SWITCHED [g, on.toNat, src]) (fun e =>
        e.light g = ⟨(s.dev.light g).sched, on, src⟩ ∧ (∀ h, h ≠ g → e.light h = s.dev.light h) ∧
        RegsBut [AIO_ACTOUT, PMC_PINNED] s.dev e ∧ MemSame s.dev e ∧ DictSame s.dev e ∧
        ((s.dev.light g).on = on → e = { s.dev with floor.lights := e.floor.lights }) ∧
        ((s.dev.light g).on ≠ on → s.dev.ready 7 = true → ∀ n < 32,
          (mask.testBit n = false → e.bitN AIO_ACTOUT_LEVEL n = s.dev.bitN AIO_ACTOUT_LEVEL n) ∧
          (mask.testBit n = true → inPair s.dev n = false → s.dev.get (AIO_ACTCFG_MODE n) ≠ 1 → e.bitN AIO_ACTOUT_LEVEL n = on)))) ∧
    (s.dev.ent 0x1F01 0 = 0 ∨ (s.dev.ent 0x5500 1 ≠ 0 ∧ s.dev.ent 0x5500 1 ≠ 2) → exec .hostLost s = .next s) ∧
    (s.dev.ent 0x1F01 0 ≠ 0 → s.dev.ent 0x5500 1 = 0 ∨ s.dev.ent 0x5500 1 = 2 →
      DoesBy .hostLost s (if s.dev.ent 0x5500 1 = 0 then raise .HOST_LOST [] else id) (fun e =>
        e.ent 0x5500 1 = 1 ∧ e.floor.beats = 0 ∧ (∀ i k, entKey i k ≠ entKey 0x5500 1 → e.ent i k = s.dev.ent i k) ∧
        e = { s.dev with floor.beats := e.floor.beats, dict := e.dict }))

/-- The floor functions (R262, R263, R265 to R268, R283, R286 to R288) with the demand maps and drive targets (R307, R308). -/
def Obligations.FloorFunctions : Prop :=
  Claims.ZoneEvaluated ∧ Claims.VotesAndThresholds ∧ Claims.FloorEvaluated ∧ Claims.DayBooks ∧ Claims.LightsAndHost

/-! ### The NV store (chapter 15) -/

namespace Sys2Proof.Claims

/-- Initiator `ini` reaches the NV command interface (R22, R24, R412). -/
def NvReach (s : State) (ini : Nat) : Prop := ini < 8 ∨ (ini = 12 ∧ debugOpen s.dev = true)

/-- Initiator `ini` owns the NV command interface and no command runs (R412, R413). -/
def NvMay (s : State) (ini : Nat) : Prop :=
  On s [10] ∧ s.dev.get NVS_STAT_OWNER = ini ∧ NvReach s ini ∧ s.dev.bit NVS_STAT_BUSY = false

/-- NVS_RESULT shows the outcome of the last command (R413), which is over. -/
def NvShows (op status pages txns : Nat) (e : Dev) : Prop :=
  e.get NVS_RESULT_OP = op ∧ e.get NVS_RESULT_STATUS = status ∧ e.get NVS_RESULT_PAGES = min pages 16 ∧
    e.get NVS_RESULT_TXNS = txns ∧ e.bit NVS_STAT_BUSY = false

/-- The command ends at once with this outcome and does nothing else. -/
def NvEnds (c : Instr) (s : State) (op status pages : Nat) : Prop :=
  Does c s (fun e => NvShows op status pages 0 e ∧ RegsBut [NVS_STAT, NVS_RESULT] s.dev e ∧
    e.get NVS_STAT_OWNER = s.dev.get NVS_STAT_OWNER ∧ e.bit NVS_STAT_TXN_OPEN = s.dev.bit NVS_STAT_TXN_OPEN ∧
    e = { s.dev with regs := e.regs })

/-- The energy that a command computes shows in PMC_HOLDUP (R71). -/
def EnergyShown (d e : Dev) : Prop := e.get PMC_HOLDUP_E_AVAIL = min (eAvail d / 10000) 65535

/-- It is refused for energy (R421): status 1, and nothing of the array changes. -/
def NvLow (c : Instr) (s : State) (op pages : Nat) : Prop :=
  Does c s (fun e => NvShows op 1 pages 0 e ∧ EnergyShown s.dev e ∧ RegsBut [NVS_STAT, NVS_RESULT, PMC_HOLDUP] s.dev e ∧ MemSame s.dev e ∧ DictSame s.dev e ∧
    e.nvs = { s.dev.nvs with lowAt := e.nvs.lowAt })

/-- `c` is a command of initiator `ini` on the NV command interface. -/
def NvCommand (ini : Nat) (c : Instr) : Prop :=
  (∃ b, c = .nvWrite ini b ∨ c = .txnAdd ini b) ∨ c = .txnBegin ini ∨ c = .txnCommit ini ∨ c = .txnAbort ini ∨
    (∃ i k, c = .unlock ini i k ∨ c = .relock ini i k ∨ c = .setPwd ini i k ∨ c = .setRegion ini i ∨ c = .tallyInc ini i) ∨
    c = .checkpoint (some ini)

/-- The writes of `ini` to the command interface are only logged, as a violation of kind `k` (R35). -/
def NvRefused (s : State) (ini k : Nat) : Prop :=
  (∀ c, c = .claim ini ∨ c = .release ini → exec c s = .next { s with dev := busViolation k NVS_CLAIM ini 0 true false 4 s.dev }) ∧
    ∀ c, NvCommand ini c → exec c s = .next { s with dev := busViolation k NVS_CMD ini 0 true false 4 s.dev }

/-- The array outside the journal reads as before. -/
def JournalOnly (d e : Dev) : Prop := ∀ a, a < 0x1000 ∨ 0x2000 ≤ a → memByte e.nvs.arr a = memByte d.nvs.arr a

end Sys2Proof.Claims

/-- The owner of the NV command interface (R412, R413, R433): CLAIM takes it where nobody owns it; RELEASE gives it back with the open
transaction and the owner's unlocks gone; a command of another initiator, or while one runs, is only counted and flagged. A closed
debug port writes nothing; a write of one that does not reach the interface, of the mirror agent, or while the domain is off is logged. -/
def Sys2Proof.Claims.NvOwner : Prop :=
  ∀ (s : State) (ini : Nat),
    (s.dev.live = true → ini = 12 → debugOpen s.dev = false → exec (.claim ini) s = .next s ∧ exec (.release ini) s = .next s ∧
      ∀ c, NvCommand ini c → exec c s = .next s) ∧
    (s.dev.live = true → 8 ≤ ini → ini ≠ 12 → ini ≠ 14 → NvRefused s ini 10) ∧
    (s.dev.live = true → NvReach s ini ∨ ini = 14 → s.dev.ready 10 = false → NvRefused s ini 6) ∧
    (On s [10] → NvRefused s 14 4) ∧
    (On s [10] → NvReach s ini →
      (s.dev.get NVS_STAT_OWNER = 15 → Does (.claim ini) s (fun e => e.get NVS_STAT_OWNER = ini ∧
        e.bit NVS_STAT_TXN_OPEN = s.dev.bit NVS_STAT_TXN_OPEN ∧ Changes [NVS_STAT] s.dev e)) ∧
      (s.dev.get NVS_STAT_OWNER ≠ 15 → exec (.claim ini) s = .next s) ∧
      (s.dev.get NVS_STAT_OWNER ≠ ini → exec (.release ini) s = .next s) ∧
      (s.dev.get NVS_STAT_OWNER = ini → Does (.release ini) s (fun e => e.get NVS_STAT_OWNER = 15 ∧
        e.bit NVS_STAT_TXN_OPEN = false ∧ e.nvs.open_ = none ∧ (∀ u, u ∈ e.nvs.unlk ↔ u ∈ s.dev.nvs.unlk ∧ u.1 ≠ 0) ∧
        (∀ r < 8, e.bit (NVS_RGN_RUNLK r) = false ∧ e.bit (NVS_RGN_WUNLK r) = false) ∧
        RegsBut (NVS_STAT :: ((List.range 8).map NVS_RGN ++ (List.range 8).map NVS_RGNFAIL)) s.dev e ∧
        e = { s.dev with regs := e.regs, nvs.open_ := e.nvs.open_, nvs.unlk := e.nvs.unlk })) ∧
      (∀ c, NvCommand ini c →
        (s.dev.get NVS_STAT_OWNER ≠ ini →
          exec c s = .next { s with dev := count 0x15C (s.dev.flagUp NVS_STAT_REJ) }) ∧
        (s.dev.get NVS_STAT_OWNER = ini → s.dev.bit NVS_STAT_BUSY = true →
          exec c s = .next { s with dev := count 0x15D (s.dev.flagUp NVS_STAT_REJ) })))

/-- WRITE (R414, R416, R421): a range outside staging, the array or the user pages is status 2, a locked page status 3, no energy status 1;
otherwise the first pages stand in the journal with the staged bytes over their content, and the transaction runs. After a line failure
the status is 1 (R422). -/
def Sys2Proof.Claims.NvWrites : Prop :=
  ∀ (s : State) (ini addr len sofs : Nat) (bad : Bool), NvMay s ini → addr = s.dev.get NVS_ADDR_ADDR → len = s.dev.get NVS_LEN_LEN →
    sofs = s.dev.get NVS_LEN_SOFS →
    (s.dev.bit PMC_LINE_FAIL = true → NvLow (.nvWrite ini bad) s 1 0) ∧
    (s.dev.bit PMC_LINE_FAIL = false → 4096 < sofs + len ∨ 0x100000 < addr + len ∨ addr < 0x22000 → NvEnds (.nvWrite ini bad) s 1 2 0) ∧
    (s.dev.bit PMC_LINE_FAIL = false → sofs + len ≤ 4096 → addr + len ≤ 0x100000 → 0x22000 ≤ addr →
      (∀ p, addr / 256 ≤ p → p ≤ (addr + len - 1) / 256 → writeLocked s.dev 0 p = true → NvEnds (.nvWrite ini bad) s 1 3 0) ∧
      ((∀ p, addr / 256 ≤ p → p ≤ (addr + len - 1) / 256 → writeLocked s.dev 0 p = false) →
        (0 < len ∨ writeLocked s.dev 0 (addr / 256) = false) →
        (len = 0 → NvEnds (.nvWrite ini bad) s 1 0 0) ∧
        (∀ p n, 0 < len → p = addr / 256 → n = min 16 ((addr + len - 1) / 256 + 1 - p) →
          (energyOk s.dev n = false → NvLow (.nvWrite ini bad) s 1 0) ∧
          (energyOk s.dev n = true → bad = true → Does (.nvWrite ini bad) s (fun e => NvShows 1 8 n 0 e ∧ JournalOnly s.dev e ∧
            e.nvs.run = s.dev.nvs.run ∧ EnergyShown s.dev e ∧ RegsBut [NVS_STAT, NVS_RESULT, PMC_HOLDUP] s.dev e)) ∧
          (energyOk s.dev n = true → bad = false → Does (.nvWrite ini bad) s (fun e =>
            e.nvs.run = some ⟨1, List.range' p n, s.dev.now + 10000 * n, s.dev.now + 10000 * n + 2000, p + n, 0, addr, len, sofs,
              journalKept s.dev⟩ ∧ e.nvs.open_ = s.dev.nvs.open_ ∧ e.bit NVS_STAT_BUSY = true ∧
            (∀ i < len, (addr + i) / 256 < p + n → memByte e.nvs.arr (0x1000 + 256 * ((addr + i) / 256 - p) + (addr + i) % 256) =
              BitVec.ofNat 8 (stageByte s.dev (sofs + i))) ∧
            (∀ k < n, ∀ o < 256, 256 * (p + k) + o < addr ∨ addr + len ≤ 256 * (p + k) + o →
              memByte e.nvs.arr (0x1000 + 256 * k + o) = memByte s.dev.nvs.arr (256 * (p + k) + o)) ∧
            JournalOnly s.dev e ∧ EnergyShown s.dev e ∧ RegsBut [NVS_STAT, PMC_HOLDUP] s.dev e ∧
            e = { s.dev with regs := e.regs, nvs.arr := e.nvs.arr, nvs.run := e.nvs.run, pwr.eArmed := true })))))

/-- Transactions (R413, R414, R417, R419): TXN_BEGIN opens one, TXN_ADD takes pages into it up to 16, TXN_ABORT drops it, TXN_COMMIT runs it;
what the state forbids is status 7, too many pages status 6, a failing line status 1. -/
def Sys2Proof.Claims.NvTransactionCommands : Prop :=
  ∀ (s : State) (ini : Nat), NvMay s ini →
    (s.dev.bit PMC_LINE_FAIL = true → NvEnds (.txnBegin ini) s 2 1 0 ∧ NvEnds (.txnAbort ini) s 5 1 0 ∧
      (∀ b, NvEnds (.txnAdd ini b) s 3 1 0) ∧ NvLow (.txnCommit ini) s 4 0) ∧
    (s.dev.bit PMC_LINE_FAIL = false →
      (s.dev.nvs.open_ = none → Does (.txnBegin ini) s (fun e => NvShows 2 0 0 0 e ∧ e.nvs.open_ = some [] ∧
        e.bit NVS_STAT_TXN_OPEN = true ∧ RegsBut [NVS_STAT, NVS_RESULT] s.dev e ∧
        e = { s.dev with regs := e.regs, nvs.open_ := e.nvs.open_ })) ∧
      (s.dev.nvs.open_ ≠ none → NvEnds (.txnBegin ini) s 2 7 0 ∧ Does (.txnAbort ini) s (fun e => NvShows 5 0 0 0 e ∧
        e.nvs.open_ = none ∧ e.bit NVS_STAT_TXN_OPEN = false ∧ RegsBut [NVS_STAT, NVS_RESULT] s.dev e ∧
        e = { s.dev with regs := e.regs, nvs.open_ := e.nvs.open_ })) ∧
      (s.dev.nvs.open_ = none → NvEnds (.txnAbort ini) s 5 7 0 ∧ ∀ b, NvEnds (.txnAdd ini b) s 3 7 0)) ∧
    (s.dev.bit PMC_LINE_FAIL = false → s.dev.nvs.open_ = none → NvEnds (.txnCommit ini) s 4 7 0) ∧
    (∀ homes addr len sofs, s.dev.bit PMC_LINE_FAIL = false → s.dev.nvs.open_ = some homes → addr = s.dev.get NVS_ADDR_ADDR →
      len = s.dev.get NVS_LEN_LEN → sofs = s.dev.get NVS_LEN_SOFS →
      (∀ k b, nvRange s.dev 0 addr len sofs = k → k ≠ 0 → NvEnds (.txnAdd ini b) s 3 k homes.length) ∧
      (nvRange s.dev 0 addr len sofs = 0 → 0 < len →
        ∀ h, h = homes ++ (List.range' (addr / 256) ((addr + len - 1) / 256 + 1 - addr / 256)).filter (fun p => !homes.contains p) →
          (16 < h.length → ∀ b, NvEnds (.txnAdd ini b) s 3 6 homes.length) ∧
          (h.length ≤ 16 → h.Nodup → Does (.txnAdd ini false) s (fun e => NvShows 3 0 h.length 0 e ∧ e.nvs.open_ = some h ∧
            (∀ i < len, memByte e.nvs.arr (0x1000 + 256 * h.idxOf ((addr + i) / 256) + (addr + i) % 256) =
              BitVec.ofNat 8 (stageByte s.dev (sofs + i))) ∧
            JournalOnly s.dev e ∧ RegsBut [NVS_STAT, NVS_RESULT] s.dev e ∧
            e = { s.dev with regs := e.regs, nvs.arr := e.nvs.arr, nvs.open_ := e.nvs.open_ })))) ∧
    (s.dev.bit PMC_LINE_FAIL = false → s.dev.nvs.open_ = some [] → Does (.txnCommit ini) s (fun e => NvShows 4 0 0 0 e ∧ e.nvs.open_ = none ∧
      e.bit NVS_STAT_TXN_OPEN = false ∧ MemSame s.dev e ∧ RegsBut [NVS_STAT, NVS_RESULT] s.dev e)) ∧
    (∀ homes, s.dev.bit PMC_LINE_FAIL = false → s.dev.nvs.open_ = some homes → homes ≠ [] →
      (energyOk s.dev homes.length = false → NvLow (.txnCommit ini) s 4 homes.length) ∧
      (energyOk s.dev homes.length = true → Does (.txnCommit ini) s (fun e => e.nvs.open_ = none ∧ e.bit NVS_STAT_TXN_OPEN = false ∧
        e.bit NVS_STAT_BUSY = true ∧ MemSame s.dev e ∧ EnergyShown s.dev e ∧ RegsBut [NVS_STAT, PMC_HOLDUP] s.dev e ∧
        e.nvs.run = some ⟨4, homes, s.dev.now, s.dev.now + 2000, 0, 0, 0, 0, 0, []⟩)))

/-- Completion (R416, R419, R425, R426): a transaction copies its journal pages home and counts in TXN_SEQ, a WRITE goes on with its next
pages, or ends with VERIFY where one of them fails its read-back; a checkpoint writes the shadow area to the older image and, complete, makes it the valid one. -/
def Sys2Proof.Claims.NvCompletion : Prop :=
  ∀ (s : State), On s [10] →
    (s.dev.nvs.run = none → ∀ l b, exec (.nvsTxnComplete ⟨l, b⟩) s = .next s) ∧
    (∀ r last, s.dev.nvs.run = some r → last = (r.addr + r.len - 1) / 256 → r.homes.length ≤ 16 →
      r.homes.Nodup → (∀ p ∈ r.homes, 0x20 ≤ p) → s.dev.nvs.ckptPend = false → r.op < 16 →
      (r.op ≠ 1 ∨ last < r.next → ∀ b, Does (.nvsTxnComplete ⟨[], b⟩) s (fun e => NvShows r.op 0 r.homes.length ((r.txns + 1) % 256) e ∧
        e.nvs.run = none ∧ e.nvs.jc.seq = (s.dev.nvs.jc.seq + 1) % 2 ^ 32 ∧ e.nvs.jc.homes = r.homes ∧
        e.get NVS_JSEQ_TXN_SEQ = (s.dev.nvs.jc.seq + 1) % 2 ^ 32 ∧
        (∀ i < r.homes.length, ∀ o < 256, memByte e.nvs.arr (256 * r.homes.getD i 0 + o) = memByte s.dev.nvs.arr (0x1000 + 256 * i + o)) ∧
        (∀ a, a / 256 ∉ r.homes → a < 0x1000 ∨ 0x2000 ≤ a ∨ r.op ≠ 1 ∨ s.dev.nvs.open_ = none →
          memByte e.nvs.arr a = memByte s.dev.nvs.arr a) ∧
        (∀ i < 4096, r.op = 1 → s.dev.nvs.open_ ≠ none → memByte e.nvs.arr (0x1000 + i) = memByte r.kept (0x1000 + i)) ∧
        e.nvs.open_ = s.dev.nvs.open_ ∧ RegsBut [NVS_STAT, NVS_RESULT, NVS_JSEQ] s.dev e)) ∧
      (∀ n, r.op = 1 → r.next ≤ last → n = min 16 (last + 1 - r.next) → energyOk s.dev n = true →
        Does (.nvsTxnComplete ⟨[], true⟩) s (fun e => NvShows 1 8 n ((r.txns + 1) % 256) e ∧ e.nvs.run = none ∧
          e.nvs.jc.seq = (s.dev.nvs.jc.seq + 1) % 2 ^ 32 ∧ EnergyShown s.dev e ∧ RegsBut [NVS_STAT, NVS_RESULT, NVS_JSEQ, PMC_HOLDUP] s.dev e) ∧
        Does (.nvsTxnComplete ⟨[], false⟩) s (fun e =>
        e.nvs.run = some ⟨1, List.range' r.next n, s.dev.now + 10000 * n, s.dev.now + 10000 * n + 2000, r.next + n, r.txns + 1,
          r.addr, r.len, r.sofs, e.nvs.run.elim [] (·.kept)⟩ ∧ (s.dev.nvs.open_ = none → e.nvs.run.elim [] (·.kept) = []) ∧
        e.nvs.jc.seq = (s.dev.nvs.jc.seq + 1) % 2 ^ 32 ∧ EnergyShown s.dev e ∧ RegsBut [NVS_JSEQ, PMC_HOLDUP] s.dev e))) ∧
    (s.dev.bit PMC_LINE_FAIL = true → exec (.checkpoint none) s = .next s ∧
      ∀ ini, NvMay s ini → NvEnds (.checkpoint (some ini)) s 11 1 0) ∧
    (s.dev.bit PMC_LINE_FAIL = false →
      (s.dev.bit NVS_STAT_BUSY = true ∨ s.dev.nvs.saving.isSome = true →
        exec (.checkpoint none) s = .next { s with dev := { s.dev with nvs.ckptPend := true } }) ∧
      (s.dev.nvs.saving = none → ∀ c, (c = .checkpoint none ∧ s.dev.bit NVS_STAT_BUSY = false) ∨ (∃ ini, c = .checkpoint (some ini) ∧ NvMay s ini) →
        ∀ base, base = (if nextSlot s.dev = 0 then 0x2000 else 0x12000) →
        Does c s (fun e => e.bit NVS_STAT_BUSY = true ∧ e.bit NVS_SHADOW_CKPT_BUSY = true ∧ e.nvs.ckptPend = false ∧
          (∃ x, e.nvs.saving = some x ∧ x.cause = 1 ∧ x.time = s.dev.time64 ∧ x.seq = nextSeq s.dev ∧ e.nvs.marker = some x.seq) ∧
          (nextSlot s.dev = 0 → e.nvs.descA = none ∧ e.nvs.descB = s.dev.nvs.descB) ∧
          (nextSlot s.dev ≠ 0 → e.nvs.descB = none ∧ e.nvs.descA = s.dev.nvs.descA) ∧
          (∀ i < 0x10000, memByte e.nvs.arr (base + i) = memByte s.dev.sram (0x203F0000 + i)) ∧
          (∀ a, a < base ∨ base + 0x10000 ≤ a → memByte e.nvs.arr a = memByte s.dev.nvs.arr a) ∧
          RegsBut [NVS_STAT, NVS_SHADOW] s.dev e ∧ e.sram = s.dev.sram))) ∧
    (s.dev.bit NVS_SHADOW_CKPT_BUSY = false → exec .checkpointComplete s = .next s) ∧
    (∀ x, s.dev.bit NVS_SHADOW_CKPT_BUSY = true → s.dev.nvs.saving = some x → s.dev.nvs.shdWait = [] → s.dev.nvs.ckptPend = false →
      (∀ y, s.dev.nvs.descA = some y ∨ s.dev.nvs.descB = some y → y.seq < x.seq) →
      Does .checkpointComplete s (fun e => NvShows 11 0 0 0 e ∧ e.bit NVS_SHADOW_CKPT_BUSY = false ∧ e.bit NVS_SHADOW_VALID = true ∧
        e.get NVS_SHADOW_SLOT = nextSlot s.dev ∧ e.get NVS_SHADOW_SEQ = x.seq % 2 ^ 24 ∧ e.nvs.saving = none ∧ e.nvs.marker = none ∧
        (nextSlot s.dev = 0 → e.nvs.descA = some x) ∧ (nextSlot s.dev ≠ 0 → e.nvs.descB = some x) ∧
        e.ent 0x8000 4 = x.time ∧ e.ent 0x8000 5 = x.cause ∧ MemSame s.dev e ∧
        RegsBut [NVS_STAT, NVS_RESULT, NVS_SHADOW] s.dev e))

/-- The NV store's commands (R412 to R414, R416, R417, R419, R421, R425, R426, R433). -/
def Obligations.NvTransactions : Prop :=
  Claims.NvOwner ∧ Claims.NvWrites ∧ Claims.NvTransactionCommands ∧ Claims.NvCompletion

namespace Sys2Proof.Claims

/-- A window read marks the NV domain as used: it stays on for NVS_HOLD from now (R53). -/
def NvUsed (s : State) (d e : Dev) (v : Nat) : Prop :=
  tabGet 0 10 e.pwr.holdEnd = s.dev.now + s.dev.ent 0xA002 11 ∧
    e = { d with bus := v, pwr.holdEnd := e.pwr.holdEnd, pwr.wakeReq := d.pwr.wakeReq.filter (· ≠ 10) }

/-- A password command ends with this status; beside region `r` in its registers nothing of the register map changes, nor does the
array. -/
def PwdEnds (op status r : Nat) (d e : Dev) : Prop :=
  NvShows op status 0 0 e ∧ RegsBut [NVS_STAT, NVS_RESULT, NVS_RGN r, NVS_RGNFAIL r] d e ∧ MemSame d e ∧ DictSame d e ∧
    (∀ q, q ≠ r → e.failCount q = d.failCount q ∧ e.region q = d.region q ∧ ∀ k < 2, e.verifier q k = d.verifier q k)

/-- A wrong password for region `r` (R434): its failure is counted; from the third on the region is locked out for twice as long each time. -/
def PwdFailed (r : Nat) (d e : Dev) : Prop :=
  e.failCount r = min (d.failCount r + 1) 255 ∧ e.nvs.unlk = d.nvs.unlk ∧ e.nvs.verif = d.nvs.verif ∧
    (d.failCount r + 1 < 3 → e.nvs.lock = d.nvs.lock) ∧
    (3 ≤ d.failCount r + 1 → e.bit (NVS_RGN_LOCKOUT r) = true ∧
      tabGet 0 r e.nvs.lock = d.now + min (2 ^ (min (d.failCount r + 1) 255 - 3)) 3600 * 1000000000)

end Sys2Proof.Claims

/-- The read window (R22, R24, R53, R410, R411, R420, R432): of an initiator without reach a read is logged and reads 0, of a closed debug port it
does nothing but read 0; other reads wake the domain, keep it on and wait for it; before recovery they read 0, and so do pages that are
hidden from the initiator or read-locked; other pages answer their bytes. -/
def Sys2Proof.Claims.NvWindow : Prop :=
  ∀ (s : State) (ini off size p : Nat), s.dev.live = true → off < 0x100000 → p = off / 256 →
    (ini = 12 → debugOpen s.dev = false → Answers (.nvWindowRead ini off size) s 0) ∧
    (8 < ini → ini ≠ 12 → ∀ e, e = busViolation 10 (0x30000000 + off) ini 0 false false size s.dev →
      exec (.nvWindowRead ini off size) s = .next { s with dev := { e with bus := 0 } }) ∧
    (NvReach s ini ∨ ini = 8 → s.dev.ready 10 = false → Does (.nvWindowRead ini off size) s (fun e => e.nvs.winWait = s.dev.nvs.winWait ++ [(ini, off, size)] ∧
      10 ∈ e.pwr.wakeReq ∧
      (s.dev.pwr.buck = true → s.dev.pwr.save = .none → s.dev.pwr.thermalOff = false → e.bitN PMC_DOMSTAT_ON 10 = true) ∧
      Changes [PMC_DOMSTAT] { s.dev with nvs.winWait := e.nvs.winWait, pwr.wakeReq := wakeAdd 10 s.dev.pwr.wakeReq } e)) ∧
    (NvReach s ini ∨ ini = 8 → s.dev.ready 10 = true →
      (s.dev.bit NVS_STAT_RECOVERED = false → Does (.nvWindowRead ini off size) s (fun e => NvUsed s (count 0x15A s.dev) e 0)) ∧
      (s.dev.bit NVS_STAT_RECOVERED = true →
        (p < 0x20 ∨ (0x20 ≤ p ∧ p < 0x220 ∧ 8 ≤ ini ∧ ini ≠ 12) ∨ (0x220 ≤ p ∧ ini < 8 ∧ readLocked s.dev 0 p = true) ∨
            (0x220 ≤ p ∧ 8 < ini ∧ readLocked s.dev 0xFFFF p = true) →
          Does (.nvWindowRead ini off size) s (fun e => NvUsed s (count 0x15B s.dev) e 0)) ∧
        ((0x20 ≤ p ∧ p < 0x220 ∧ (ini < 8 ∨ ini = 12)) ∨ (0x220 ≤ p ∧ (ini = 8 ∨ (ini < 8 ∧ readLocked s.dev 0 p = false) ∨
            (8 < ini ∧ readLocked s.dev 0xFFFF p = false))) →
          (s.dev.nvs.run = none → Does (.nvWindowRead ini off size) s (fun e => NvUsed s s.dev e (memRead s.dev.nvs.arr off size))) ∧
          (∀ r x, s.dev.nvs.run = some r → r.commitAt ≤ s.dev.now → journalAt r.homes off = some x →
            Does (.nvWindowRead ini off 1) s (fun e => NvUsed s s.dev e (memByte s.dev.nvs.arr x).toNat)))))

/-- Passwords (R433, R434): the right one unlocks and clears the failures, a wrong one counts and locks out, a locked-out region refuses; a
region without one needs none. SET_PWD stores the verifier of the new password, RELOCK takes the unlock back. While the Teller restarts, a
command that compares a password waits (R459). -/
def Sys2Proof.Claims.NvPasswords : Prop :=
  ∀ (s : State) (ini r k pwd cur : Nat), NvMay s ini → k < 2 → pwd = stageNat s.dev 0 16 → cur = stageNat s.dev 16 16 →
    (s.dev.bit PMC_LINE_FAIL = true → NvEnds (.unlock ini r k) s 6 1 0 ∧ NvEnds (.relock ini r k) s 7 1 0 ∧ NvEnds (.setPwd ini r k) s 8 1 0) ∧
    (s.dev.bit PMC_LINE_FAIL = false → s.dev.sec.tellerBusy = true → ∀ c op, (c = .unlock ini r k ∧ op = 6) ∨ (c = .setPwd ini r k ∧ op = 8) →
      Does c s (fun e => e.bit NVS_STAT_BUSY = true ∧ e.nvs.pwd = some (op, r, k, pwd, cur) ∧ RegsBut [NVS_STAT] s.dev e ∧
        e = { s.dev with regs := e.regs, nvs.pwd := e.nvs.pwd })) ∧
    (s.dev.bit PMC_LINE_FAIL = false → s.dev.sec.tellerBusy = false → 7 < r →
      NvEnds (.unlock ini r k) s 6 2 0 ∧ NvEnds (.relock ini r k) s 7 2 0 ∧ NvEnds (.setPwd ini r k) s 8 2 0) ∧
    (s.dev.bit PMC_LINE_FAIL = false → s.dev.sec.tellerBusy = false → r < 8 →
      Does (.relock ini r k) s (fun e => PwdEnds 7 0 r s.dev e ∧ unlocked e 0 r k = false ∧
        (∀ u, u ≠ (0, r, k) → (u ∈ e.nvs.unlk ↔ u ∈ s.dev.nvs.unlk)) ∧ e.nvs.verif = s.dev.nvs.verif) ∧
      ((∃ t, (r, t) ∈ s.dev.nvs.lock) → NvEnds (.unlock ini r k) s 6 5 0 ∧ NvEnds (.setPwd ini r k) s 8 5 0) ∧
      ((∀ t, (r, t) ∉ s.dev.nvs.lock) →
        (pwdSet s.dev r k = false → NvEnds (.unlock ini r k) s 6 0 0) ∧
        (pwdSet s.dev r k = true → s.dev.region r ≠ none → s.dev.verifier r k = some (verifierOf pwd r k) →
          Does (.unlock ini r k) s (fun e => PwdEnds 6 0 r s.dev e ∧ unlocked e 0 r k = true ∧ e.failCount r = 0 ∧
            e.bit (if k = 0 then NVS_RGN_RUNLK r else NVS_RGN_WUNLK r) = true ∧
            (∀ u, u ≠ (0, r, k) → (u ∈ e.nvs.unlk ↔ u ∈ s.dev.nvs.unlk)) ∧ e.nvs.verif = s.dev.nvs.verif)) ∧
        (pwdSet s.dev r k = true → s.dev.region r = none ∨ s.dev.verifier r k ≠ some (verifierOf pwd r k) →
          Does (.unlock ini r k) s (fun e => PwdEnds 6 4 r s.dev e ∧ PwdFailed r s.dev e)) ∧
        (pwdSet s.dev r k = true → s.dev.region r = none ∨ s.dev.verifier r k ≠ some (verifierOf cur r k) →
          Does (.setPwd ini r k) s (fun e => PwdEnds 8 4 r s.dev e ∧ PwdFailed r s.dev e)) ∧
        (pwdSet s.dev r k = false ∨ (s.dev.region r ≠ none ∧ s.dev.verifier r k = some (verifierOf cur r k)) →
          Does (.setPwd ini r k) s (fun e => PwdEnds 8 0 r s.dev e ∧ e.region r = s.dev.region r ∧ e.nvs.unlk = s.dev.nvs.unlk ∧
            e.verifier r k = some (if pwd = 0 then 0 else verifierOf pwd r k) ∧ e.verifier r (1 - k) = s.dev.verifier r (1 - k)))))

/-- Regions (R432): an enabled one must lie in the user pages and meet no other, a protected one must be unlocked for writing; what is
accepted stands in the table, its registers and its entries. -/
def Sys2Proof.Claims.NvRegions : Prop :=
  ∀ (s : State) (ini r base limit : Nat) (en : Bool), NvMay s ini → base = stageNat s.dev 0 2 → limit = stageNat s.dev 2 2 →
    en = (stageByte s.dev 4).testBit 0 →
    (s.dev.bit PMC_LINE_FAIL = true → NvEnds (.setRegion ini r) s 9 1 0) ∧
    (s.dev.bit PMC_LINE_FAIL = false → 7 < r ∨ (en = true ∧ (limit < base ∨ base < 0x220 ∨ 0xFFF < limit)) ∨
        (en = true ∧ ∃ q, q < 8 ∧ q ≠ r ∧ (regionOf s.dev q).2.2 = true ∧ (regionOf s.dev q).1 ≤ limit ∧ base ≤ (regionOf s.dev q).2.1) →
      NvEnds (.setRegion ini r) s 9 2 0) ∧
    (s.dev.bit PMC_LINE_FAIL = false → r < 8 → (en = true → base ≤ limit ∧ 0x220 ≤ base ∧ limit ≤ 0xFFF ∧
        ∀ q < 8, q ≠ r → (regionOf s.dev q).2.2 = true → limit < (regionOf s.dev q).1 ∨ (regionOf s.dev q).2.1 < base) →
      ((pwdSet s.dev r 0 = true ∨ pwdSet s.dev r 1 = true) → unlocked s.dev 0 r 1 = false → NvEnds (.setRegion ini r) s 9 3 0) ∧
      ((pwdSet s.dev r 0 = false ∧ pwdSet s.dev r 1 = false) ∨ unlocked s.dev 0 r 1 = true → Does (.setRegion ini r) s (fun e =>
        NvShows 9 0 0 0 e ∧ regionOf e r = (base, limit, en) ∧ (∀ q, q ≠ r → regionOf e q = regionOf s.dev q) ∧
        e.get (NVS_RGN_BASE r) = base % 4096 ∧ e.get (NVS_RGN_LIMIT r) = limit % 4096 ∧ e.bit (NVS_RGN_EN r) = en ∧
        e.ent (0x8010 + r) 1 = base ∧ e.ent (0x8010 + r) 2 = limit ∧ e.ent (0x8010 + r) 3 = en.toNat ∧
        (∀ i q, q < 256 → i ≠ 0x8010 + r → e.ent i q = s.dev.ent i q) ∧
        RegsBut [NVS_STAT, NVS_RESULT, NVS_RGN r, NVS_RGNFAIL r] s.dev e ∧
        e = { s.dev with regs := e.regs, dict := e.dict, nvs.regions := e.nvs.regions })))

/-- Counters and expiries (R421, R429, R430, R433, R434): a tally goes up by one and saturates; a seal counter only rises; each needs energy.
An unlock expires for its session; at the end of a lockout the region may be tried again. -/
def Sys2Proof.Claims.NvCounters : Prop :=
  ∀ (s : State) (ini k v : Nat), k < 16 →
    (NvMay s ini →
      (s.dev.bit PMC_LINE_FAIL = true → NvEnds (.tallyInc ini k) s 10 1 0) ∧
      (s.dev.bit PMC_LINE_FAIL = false →
        (s.dev.tally k = none → NvEnds (.tallyInc ini k) s 10 2 0) ∧
        (s.dev.tally k ≠ none → energyOk s.dev 1 = false → NvLow (.tallyInc ini k) s 10 0) ∧
        (∀ x, s.dev.tally k = some x → energyOk s.dev 1 = true → Does (.tallyInc ini k) s (fun e => NvShows 10 0 0 0 e ∧
          e.tally k = some (min (x + 1) 0xFFFFFFFF) ∧ e.get (NVS_TALLY_VALUE k) = min (x + 1) 0xFFFFFFFF ∧
          (∀ j, j ≠ k → e.tally j = s.dev.tally j) ∧ EnergyShown s.dev e ∧
          RegsBut [NVS_STAT, NVS_RESULT, NVS_TALLY k, PMC_HOLDUP] s.dev e ∧
          e = { s.dev with regs := e.regs, nvs.tallies := e.nvs.tallies, pwr.eArmed := true })))) ∧
    (s.dev.live = true →
      (s.dev.sealC k = none ∨ (∃ x, s.dev.sealC k = some x ∧ v ≤ x) ∨ 2 ^ 32 ≤ v → exec (.sealAdvance k v) s = .next s) ∧
      (∀ x, s.dev.sealC k = some x → x < v → v < 2 ^ 32 →
        (energyOk s.dev 1 = false → exec (.sealAdvance k v) s = .next { s with dev := lowPower s.dev }) ∧
        (energyOk s.dev 1 = true → Does (.sealAdvance k v) s (fun e => e.sealC k = some v ∧ e.get (NVS_SEAL_VALUE k) = v ∧
          (∀ j, j ≠ k → e.sealC j = s.dev.sealC j) ∧ EnergyShown s.dev e ∧ RegsBut [NVS_SEAL k, PMC_HOLDUP] s.dev e ∧
          e = { s.dev with regs := e.regs, nvs.seals := e.nvs.seals, pwr.eArmed := true }))) ∧
      (∀ sess r kind, (7 < r → exec (.unlockExpiry sess r kind) s = .next s) ∧
        (r < 8 → Does (.unlockExpiry sess r kind) s (fun e => unlocked e sess r kind = false ∧
          (∀ u, u ≠ (sess, r, kind) → (u ∈ e.nvs.unlk ↔ u ∈ s.dev.nvs.unlk)) ∧ RegsBut [NVS_RGN r, NVS_RGNFAIL r] s.dev e ∧
          e = { s.dev with regs := e.regs, nvs.unlk := e.nvs.unlk })) ∧
        ((∀ t, (r, t) ∉ s.dev.nvs.lock) → exec (.nvLockoutEnd r) s = .next s) ∧
        ((∃ t, (r, t) ∈ s.dev.nvs.lock) → r < 8 → Does (.nvLockoutEnd r) s (fun e => e.bit (NVS_RGN_LOCKOUT r) = false ∧
          (∀ t, (r, t) ∉ e.nvs.lock) ∧ (∀ q t, q ≠ r → ((q, t) ∈ e.nvs.lock ↔ (q, t) ∈ s.dev.nvs.lock)) ∧
          e.failCount r = s.dev.failCount r ∧ RegsBut [NVS_RGN r, NVS_RGNFAIL r] s.dev e ∧
          e = { s.dev with regs := e.regs, nvs.lock := e.nvs.lock }))))

/-- The bytes of the system pages and of the OTP (R410, R418, R424, R428, R438): their lengths, the fields of journal control, COMMIT and
DONE, the places of the descriptors and of the save-start marker, and the parts of a copy of a record. -/
def Sys2Proof.Claims.SystemPages : Prop :=
  (∀ j : Journal, j.ok = true → (journalPage j).length = 256 ∧
    (journalPage j).take 12 = [some 0x4A, some 0x52, some 0x4E, some 0x4C] ++ lowBytes j.seq 4 ++ lowBytes j.homes.length 1 ++ lowBytes 0 3 ∧
    (∀ i < 16, ((journalPage j).drop (12 + 2 * i)).take 2 = lowBytes (j.homes.getD i 0) 2) ∧
    (journalPage j).drop 116 = lowBytes (if j.done then j.seq else (j.seq + (2 ^ 32 - 1)) % 2 ^ 32) 4 ++ List.replicate 136 (some 0) ∧
    (j.commit = true → ((journalPage j).drop 112).take 4 = lowBytes (j.seq ^^^ 0xA55AC33C) 4)) ∧
  (∀ d : Dev, (shadowPage d).length = 256 ∧ ((shadowPage d).drop 64).take 8 = markerBytes d.nvs.marker ∧
    (shadowPage d).drop 72 = List.replicate 184 (some 0) ∧ (sysPages d).length = 4096 ∧ (otpBytes d).length = 4096) ∧
  (∀ base x d, (descBytes base (some x) d).length = 32 ∧ (descBytes base (some x) d).take 4 = lowBytes x.seq 4 ∧
    ((descBytes base (some x) d).drop 8).take 20 = lowBytes x.time 8 ++ lowBytes x.cause 1 ++ lowBytes 0 11) ∧
  (∀ w v q, (copyBytes w (some (v, q))).length = w + 4 ∧ ((copyBytes w (some (v, q))).drop w).take 2 = [some (q % 256), some 0])

/-- The NV window, passwords, regions and counters (R53, R410, R411, R420, R421, R429, R430, R432 to R434), and the system pages (R418, R424,
R428, R438). -/
def Obligations.NvRegionsAndCounters : Prop :=
  Claims.NvWindow ∧ Claims.NvPasswords ∧ Claims.NvRegions ∧ Claims.NvCounters ∧ Claims.SystemPages

/-! ### Security and in-service replacement (chapter 16) -/

namespace Sys2Proof.Claims

/-- A security reset for the tamper source `src` (R442): a full restart with its cause, the tamper count shown, the event kept in NV. -/
def TamperReset (d e : Dev) : Prop :=
  (∀ a, a / 0x10000 ≠ 0x4000 → a / 0x10000 ≠ 0x4030 → a ≠ SCU_TAMPER → e.rd a = resetOf a) ∧ e.bit PMC_RSTCAUSE_SEC = true ∧
    e.sec.tampers = d.now :: d.sec.tampers.filter (fun t => decide (d.now < t + 86400000000000)) ∧
    e.get SCU_TAMPER_COUNT = min e.sec.tampers.length 255 ∧ e.pwr.step = 1 ∧ e.pwr.released = false ∧ e.heg.sessions = [] ∧
    e.sec.dbgOpen = false ∧ e.sec.lcs = d.sec.lcs ∧ e.sram = d.sram ∧ e.win = d.win ∧ e.flash = d.flash ∧
    (d.sec.certified = true → e.sec.tampers.length = 8 → e.sec.erased = true ∧ e.sec.newKeys = true ∧ e.sec.opKey = none) ∧
    (d.sec.certified = false ∨ e.sec.tampers.length ≠ 8 → e.sec.erased = d.sec.erased ∧ e.sec.newKeys = d.sec.newKeys ∧
      e.sec.opKey = d.sec.opKey)

/-- A container as an entry write of `c` gives it to the Teller. -/
def given (c : Octets) : Octets := ⟨c.len, c.val % 256 ^ c.len⟩

end Sys2Proof.Claims

/-- Random numbers and tampering (R437, R442): a failed health test clears OK and is reported, in certified mode as a tamper event; 1,024
good samples set OK again and what waited goes on; a request that has waited 1 s is busy. A tamper event is a security reset. -/
def Sys2Proof.Claims.RandomAndTamper : Prop :=
  ∀ (s : State), s.dev.live = true →
    (∀ rct apt, (s.dev.ready 11 = false ∨ (rct = false ∧ apt = false) → exec (.trngFault rct apt) s = .next s) ∧
      (s.dev.ready 11 = true → rct = true ∨ apt = true →
        (s.dev.sec.certified = false → DoesBy (.trngFault rct apt) s (raise .TRNG_FAULT []) (fun e => e.bit SCU_TRNG_OK = false ∧
          e.bit SCU_TRNG_RCT_FAIL = (rct || s.dev.bit SCU_TRNG_RCT_FAIL) ∧ e.bit SCU_TRNG_APT_FAIL = (apt || s.dev.bit SCU_TRNG_APT_FAIL) ∧
          Changes [SCU_TRNG] s.dev e)) ∧
        (s.dev.sec.certified = true → Does (.trngFault rct apt) s (TamperReset s.dev)))) ∧
    (s.dev.ready 11 = false ∨ s.dev.bit SCU_TRNG_OK = true → exec .trngRecovered s = .next s) ∧
    (s.dev.ready 11 = true → s.dev.bit SCU_TRNG_OK = false →
      DoesBy .trngRecovered s waitsRun (fun e => e.bit SCU_TRNG_OK = true ∧ Changes [SCU_TRNG] s.dev e)) ∧
    (∀ d : Dev, ((trngStopped d = true ∧ d.sec.tellerBusy = true) ∨ d.sec.waits = [] → waitsRun d = d) ∧
      ∀ w, trngStopped d = false → d.sec.waits = [w] → w.nv = false → waitsRun d = waitGo w { d with sec.waits := [] }) ∧
    (∀ n q, ((∀ w ∈ s.dev.sec.waits, w.sess ≠ n ∨ w.req ≠ q ∨ w.nv = true) → exec (.trngWaitTimeout n q) s = .next s) ∧
      (∀ w, s.dev.sec.waits = [w] → w.sess = n → w.req = q → w.nv = false → w.op < 0x100 → exec (.trngWaitTimeout n q) s =
        .next { s with dev := respond n ⟨w.op, q, 6, 0, ⟨0, 0⟩⟩ true { s.dev with sec.waits := [] } })) ∧
    (∀ src, (4 < src ∨ (src = 4 ∧ s.dev.sec.certified = false) → exec (.secTamper src) s = .next s) ∧
      (src < 4 ∨ (src = 4 ∧ s.dev.sec.certified = true) → Does (.secTamper src) s (fun e => TamperReset s.dev e ∧
        (e.rd SCU_TAMPER).getLsbD src = true ∧
        (s.dev.pwr.nvEvents.length < 16 → ⟨s.dev.evSeq, s.dev.time64, .SEC_TAMPER, [src]⟩ ∈ e.pwr.nvEvents))))

/-- Life cycle, containers and certified mode (R441, R445, R446, R450, R451, R453, R454): a request is accepted only as its rule allows, and
then leaves what the rule says. -/
def Sys2Proof.Claims.SecurityRequests : Prop :=
  ∀ (s : State) (r : Req),
    (∀ t eui, t < 256 → eui < 2 ^ 64 → Writes (.lcRequest r t eui) s r false 0x9001 0 ⟨9, t % 256 + 256 * eui⟩ (fun _ d e =>
      eui = eui64 ∧ e.sec.dbgOpen = false ∧ ((d.sec.lcs = 0 ∧ t = 1 ∧ tabGet 0 0 d.sec.owner ≠ 0 ∧ e.sec.lcs = 1) ∨
        (d.sec.lcs = 1 ∧ t = 2 ∧ e.sec.lcs = 2 ∧ e.ent 0x9003 0 = 1)))) ∧
    (∀ c, Writes (.updateContainer r c) s r true 0x9200 2 c (fun x d e => ∀ t, t = d.ent 0x9200 1 →
      containerCheck d (given c) = 0 ∧ (given c).cTarget = t ∧ containerRole (given c) ≤ x.role ∧ e.ent 0x9200 3 = 0 ∧
      (0x100 ≤ t → partState d t ≠ 1 ∧ partState d t ≠ 2 ∧ tabGet (0, 255) t e.sec.staged = ((given c).cVersion, (given c).cSeal)) ∧
      ((given c).cType = 0x13 → e.ent (0x9320 + t % 4) 6 = (given c).cPayload.val) ∧
      ((given c).cType = 0x11 → e.ent (0x3020 + t % 4) (3 - (d.cvuS (t % 4)).bank) = (given c).cPayload.val))) ∧
    (∀ n, Writes (.attestNonce r n) s r false 0x9005 1 ⟨32, n⟩ (fun x d e => d.heg.tctx = none → d.sec.lcs ≠ 3 ∧ sessVal e x.num 0x9005 1 = n % 256 ^ 32 ∧
      sessVal e x.num 0x9005 2 = attestReport (n % 256 ^ 32) d ∧ (∀ k, k ≠ x.num → e.session k = d.session k) ∧
      e = { d with heg.sessions := e.heg.sessions })) ∧
    (∀ on, Writes (.certifiedMode r on) s r false 0x9002 0 ⟨1, on.toNat⟩ (fun _ d e => e.ent 0x9002 0 = on.toNat ∧
      e.sec.certified = d.sec.certified ∧
      (on = true → d.sec.certOtp ≠ 2 ∧ certCheck d = 0 ∧ e.sec.certOtp = 1 ∧ e.sec.restartAt = some (d.now + 100000000)) ∧
      (on = false → e.sec.certOtp = if d.sec.certOtp = 1 then 2 else d.sec.certOtp))) ∧
    (∀ c x k via d e, s.dev.live = true → r.sess < 512 → carries s.dev r.sess = true → s.dev.session r.sess = some x →
      rateTake (srcOf x) (s.dev.setSession (atNow x s.dev)) = (0, d) → (∀ y ∈ x.cache, y.req ≠ r.id) → r.id ∉ x.open_ →
      x.open_.length < 8 → r.bad = false → d.sec.recovery = some (k, via) →
      entWrite x.role x.num true 0x9010 0 c d = (0, 0, e) → c.len ≠ 0 →
      exec (.recoveryImage r c) s = .next { s with dev := respond x.num ⟨0x0B, r.id, 0, 0, ⟨0, 0⟩⟩ true e } ∧
        containerCheck d (given c) = 0 ∧ (given c).cType ≤ 2 ∧ (d.sec.certified = false ∨ via ≠ 1) ∧ e.sec.recovery = none ∧
        e.heg.sessions = [] ∧ e.pwr.step = 1 ∧ e.bit PMC_RSTCAUSE_SEC = true ∧
        ∃ slot < 2, flashRead e (slotBase ((given c).cType = 1) slot) c.len = (given c).val)

/-- The Teller's other commands (R443, R449, R452, R493): a valid debug token opens the port, a refused one counts, after three none is
read; a block that fails its hash reads 0 and stops the half, the second stop of both halves is recovery; TIME_FLOOR follows UTC. -/
def Sys2Proof.Claims.TellerCommands : Prop :=
  ∀ (s : State), s.dev.live = true →
    (∀ c, (s.dev.ready 11 = false ∨ 3 ≤ s.dev.sec.refused → exec (.debugToken c) s = .next s) ∧
      (s.dev.ready 11 = true → s.dev.sec.refused < 3 → ∀ d, d = { s.dev with sec.nonce := Config.freeNat s.dev.free, free := s.dev.free + 1 } →
        (tokenOk s.dev c = true → c.at 44 1 = 1 → c.at 45 1 % 4 = 1 → s.dev.sec.lcs ≤ 1 → tokenOwner s.dev c 48 = true →
          exec (.debugToken c) s = .next { s with dev := { d with sec.dbgOpen := true } }) ∧
        (tokenOk s.dev c = false ∨ (c.at 44 1 ≠ 1 ∧ c.at 44 1 ≠ 3) →
          exec (.debugToken c) s = .next { s with dev := raise .SEC_DEBUG_REFUSED [] { d with sec.refused := d.sec.refused + 1 } }) ∧
        (tokenOk s.dev c = true → c.at 44 1 = 3 → c.at 45 1 % 4 = 0 → tokenDalori s.dev c = true →
          s.dev.sec.lcs = 0 ∨ (s.dev.sec.lcs ≤ 2 ∧ tokenOwner s.dev c 112 = true) →
          DoesBy (.debugToken c) s (raise .SEC_LIFECYCLE [3]) (fun e => e.sec.lcs = 3 ∧ e.sec.dbgOpen = false ∧ e.sec.opKey = none ∧
            e.sec.erased = true ∧ (∀ k < 16, e.ent (0x9110 + k) 0 = 0) ∧ (∀ k < 4, e.ent (0x9100 + k) 2 = 0) ∧
            (s.dev.get NVS_STAT_OWNER ≠ 12 → RegsBut [] s.dev e) ∧ (s.dev.get NVS_STAT_OWNER = 12 → e.get NVS_STAT_OWNER = 15 ∧ e.nvs.open_ = none) ∧
            MemSame s.dev e)))) ∧
    (∀ h b ok, (ok = true ∨ 2 ≤ h ∨ s.dev.pwr.halves.testBit h = false → exec (.flashBlockFill h b ok) s = .next s) ∧
      (ok = false → h < 2 → s.dev.pwr.halves.testBit h = true → Does (.flashBlockFill h b ok) s (fun e => e.bus = 0 ∧
        e.pwr.halves.testBit h = false ∧ tabGet 0 h e.sec.blockStops = tabGet 0 h s.dev.sec.blockStops + 1 ∧
        (∀ k, k ≠ h → tabGet 0 k e.sec.blockStops = tabGet 0 k s.dev.sec.blockStops) ∧
        (tabGet 0 0 e.sec.blockStops < 2 ∨ tabGet 0 1 e.sec.blockStops < 2 → e.sec.recovery = s.dev.sec.recovery ∧
          (s.dev.pwr.halves.testBit (1 - h) = true → e.pwr.takeover = some (s.dev.now + 50000000))) ∧
        (2 ≤ tabGet 0 0 e.sec.blockStops → 2 ≤ tabGet 0 1 e.sec.blockStops → e.pwr.halves = 0 ∧ ∃ via, e.sec.recovery = some (1, via) ∧
          (via = 1 ↔ s.dev.pwr.bootSel = 2 ∧ s.dev.sec.certified = false)) ∧ e.flash = s.dev.flash ∧ e.sram = s.dev.sram))) ∧
    (s.dev.xtf.st ≠ .locked ∨ (∃ t, s.dev.sec.floorAt = some t ∧ s.dev.now < t + 3600000000000) ∨ (storeCheck s.dev 8 ≠ 0 ∧ storeCheck s.dev 8 ≠ 1) →
      exec .timeFloorUpdate s = .next s) ∧
    (s.dev.xtf.st = .locked → (∀ t, s.dev.sec.floorAt = some t → t + 3600000000000 ≤ s.dev.now) → storeCheck s.dev 8 = 1 →
      exec .timeFloorUpdate s = .next { s with dev := lowPower s.dev }) ∧
    (s.dev.xtf.st = .locked → (∀ t, s.dev.sec.floorAt = some t → t + 3600000000000 ≤ s.dev.now) → storeCheck s.dev 8 = 0 →
      Does .timeFloorUpdate s (fun e => e.ent 0x9140 0 = max s.dev.time64 (s.dev.ent 0x9140 0) ∧ e.sec.floorAt = some s.dev.now ∧
        (∀ i k, entKey i k ≠ entKey 0x9140 0 → e.ent i k = s.dev.ent i k) ∧ EnergyShown s.dev e ∧
        RegsBut [NVS_JSEQ, PMC_HOLDUP] s.dev e ∧ MemSame s.dev e)) ∧
    (s.dev.get NVS_STAT_OWNER ≠ 12 → exec .debugPortReset s = .next { s with dev := { s.dev with sec.dbgOpen := false } }) ∧
    (s.dev.get NVS_STAT_OWNER = 12 → exec .debugPortReset s = .next { s with dev := ownerEnd { s.dev with sec.dbgOpen := false } })

/-- Security (R437, R441 to R443, R445, R446, R449 to R454, R493). -/
def Obligations.SecurityFunctions : Prop := Claims.RandomAndTamper ∧ Claims.SecurityRequests ∧ Claims.TellerCommands

namespace Sys2Proof.Claims

/-- The activation record `part` of `e` is `a`, and every other is as in `d`. -/
def ActIs (part : Nat) (a : ActS) (d e : Dev) : Prop := e.act part = a ∧ ∀ q, q ≠ part → e.act q = d.act q

/-- `part` is on trial in the place of `old`, and its posting is used up (R456, R457). -/
def OnTrial (part old : Nat) (d e : Dev) : Prop :=
  ActIs part { d.act part with st := 2, at_ := 0, entry := none, failed := 0, ended := false, confirmed := false, old := old } d e ∧
    0x15000000 + part ∉ e.ldg.events

/-- The record of a part that has been rolled back (R457). -/
def rolled (a : ActS) : ActS := { a with st := 4, entry := none, at_ := 0 }

/-- The condition that ACT_ROLLED_BACK names: 2 where the record holds none. -/
def whyOf (a : ActS) : Nat := if a.failed = 0 then 2 else a.failed

/-- What `e` shows and reports of a change of unit `u`'s bank (R155, R160): the flag `f` is up where the unit is on, and `ev` names the
unit, the bank and its VERSION. -/
def bankSaid (ev : Ev) (f : Fld) (u bank : Nat) (d e : Dev) : Dev :=
  raise ev [u, bank, bankVersion d u bank] (if d.ready (cvuDom u) then (cvuShow u e).flagUp f else cvuShow u e)


end Sys2Proof.Claims

/-- ACTIVATE_AT and HEALTH_FAIL (R456, R457): an accepted time, later than now and at most 31 days ahead, leaves the part pending with its
entry in the ledger; 0 cancels; HEALTH_FAIL is accepted on trial only and the trial has then failed. -/
def Sys2Proof.Claims.ActivationWrites : Prop :=
  ∀ (s : State) (r : Req) (idx : Nat),
    (∀ p t, partOf idx = some p → p / 256 ≠ 3 → t < 2 ^ 64 → Writes (.activateAt r idx t) s r false idx (actSubs p).1 ⟨8, t⟩ (fun x d e =>
      (d.act p).st ≠ 2 ∧ e.ent idx (actSubs p).1 = t ∧
      (t = 0 → (e.act p).st = if (d.act p).st = 1 then 0 else (d.act p).st) ∧
      (t ≠ 0 → d.time64 < t ∧ t ≤ d.time64 + 2678400000000000 ∧ (e.act p).st = 1 ∧ (e.act p).at_ = t ∧ (e.act p).role = x.role ∧
        (e.act p).sess = x.num ∧ ((e.act p).version, (e.act p).sealNo) = tabGet (0, 255) p d.sec.staged ∧
        ∃ n, (e.act p).entry = some n ∧ ldgEntry e n = LWords.ofNat (actEntry d p t)))) ∧
    (∀ n t, n < 32 → exec (.activateAt r (0x4300 + n) t) s = exec (.swapActivateAt r n t) s) ∧
    (∀ p, partOf idx = some p → Writes (.healthFail r idx) s r false idx (actSubs p).2.2 ⟨1, 1⟩ (fun _ d e =>
      partState d p = 2 ∧ (groupOf d p = [p] →
        (p / 256 ≠ 3 → (e.act p).failed = if (d.act p).failed = 0 then 1 else (d.act p).failed) ∧
        (p / 256 = 3 → (e.eng (p % 256)).swap.failed = true))))

/-- A trial that has failed fails for its whole group before the next boundary, window end or rollback (R457). -/
def Sys2Proof.Claims.FailuresSettle : Prop :=
  ∀ (s : State) (p : Nat), s.dev.live = true → ∀ t, t = { s with dev := failsSettle s.dev } → t.dev.sec.failing = [] ∧
    exec (.activationSwitchover p) s = exec (.activationSwitchover p) t ∧ exec (.healthWindowEnd p) s = exec (.healthWindowEnd p) t ∧
    exec (.actRolledBack p) s = exec (.actRolledBack p) t

/-- The switch-over (R131, R153, R155, R251, R455, R456, R460): a part switches at its boundary once its posting has been applied and is
then on trial; a calibration set or a configuration set that is refused there is rolled back at once. -/
def Sys2Proof.Claims.SwitchOver : Prop :=
  ∀ (s : State) (p : Nat), s.dev.live = true → s.dev.sec.failing = [] → ∀ c, c = Instr.activationSwitchover p →
    ∀ a, a = s.dev.act p →
    (p / 256 ≠ 3 → p / 256 ≠ 5 → a.st ≠ 1 ∨ actPosted s.dev p = false → exec c s = .next s) ∧
    (a.st = 1 → actPosted s.dev p = true →
      (∀ old, p = 0x100 → old = s.dev.sec.slotA → DoesBy c s (raise .ACT_ACTIVATED [p, a.version]) (fun e =>
        OnTrial p old s.dev e ∧ e.sec.handover = some { stage := 1, slot := 1 - old } ∧ RegsBut [] s.dev e ∧ e.pwr = s.dev.pwr)) ∧
      (∀ old, p = 0x200 → old = s.dev.sec.slotT → DoesBy c s (raise .ACT_ACTIVATED [p, a.version]) (fun e =>
        OnTrial p old s.dev e ∧ TellerSlot (1 - old) e ∧ e.sec.tellerBusy = true ∧
        RegsBut [SCU_BOOTSTAT_TELLER_SLOT.addr] s.dev e ∧ e.heg = s.dev.heg)) ∧
      (∀ u x, u < 4 → p = 0x400 + u → x = s.dev.cvuS u →
        (calsetOk (s.dev.ent (0x3020 + u) (3 - x.bank)) = true → DoesBy c s (fun e => raise .ACT_ACTIVATED [p, a.version]
            (bankSaid .CVU_CALSET_ACTIVATED (CVU_EVT_CALSET_ACT u) u (1 - x.bank) s.dev e)) (fun e =>
          OnTrial p x.bank s.dev e ∧ e.cvuS u = { x with bank := 1 - x.bank, bankTrial := true, bankFail := false, bankAt := s.dev.time64 } ∧
          (∀ v, v ≠ u → e.cvuS v = s.dev.cvuS v) ∧ RegsBut [] s.dev e)) ∧
        (calsetOk (s.dev.ent (0x3020 + u) (3 - x.bank)) = false → Does c s (fun e => ActIs p (rolled a) s.dev e ∧ e.sec.failing = [p] ∧
          e.cvu = s.dev.cvu ∧ RegsBut [] s.dev e))) ∧
      (p / 256 = 6 → Does c s (fun e => OnTrial p (s.dev.ent (recOf p) 6 % 16) s.dev e ∧
        e.sec.failing = (if bookArmed s.dev (p % 256) then [] else [p]) ∧ e.ldg.armed = s.dev.ldg.armed ∧ RegsBut [] s.dev e)) ∧
      (p / 256 = 7 →
        (configItems (s.dev.ent (recOf p) 6) = none → DoesBy c s (raise .ACT_ROLLED_BACK [p, a.version, 2]) (fun e =>
          ActIs p (rolled a) s.dev e ∧ RegsBut [] s.dev e)) ∧
        (∀ l b, configItems (s.dev.ent (recOf p) 6) = some (l, b) →
          (∀ q nv, configWaits p s.dev = some (q, nv) → exec c s = .next { s with dev := waitAdd 0 p 0x102 [p] nv s.dev }) ∧
          (∀ f e', configWaits p s.dev = none → itemsApply a.role a.sess l (actUse p s.dev) = (some f, e') →
            DoesBy c s (fun e => { raise .ACT_ROLLED_BACK [p, a.version, 256 + f.1] e with sec.failing := [p] }) (fun e =>
              e = e'.setAct p (rolled (e'.act p)))) ∧
          (∀ e', configWaits p s.dev = none → itemsApply a.role a.sess l (actUse p s.dev) = (none, e') → Does c s (fun e => (e.act p).st = 2 ∧
            (e.act p).rev = reverseSet l (actUse p s.dev))))) ∧
      (∀ k node, p = 0x800 + k → k < 8 → node = s.dev.ent (recOf p) 6 % 64 → DoesBy c s (raise .ACT_ACTIVATED [p, a.version]) (fun e =>
        OnTrial p (nodeBytes s.dev k node) s.dev e ∧ nodeBytes e k node = s.dev.ent (recOf p) 7 % 2 ^ 48 + 2 ^ 48 ∧ RegsBut [] s.dev e))) ∧
    (∀ k w, p = 0x300 + k → k < 32 → w = (s.dev.eng k).swap →
      (w.st ≠ 1 ∨ s.dev.ready (ceaDom k) = false ∨ swapDue s.dev k w.slot = false ∨ boundaryFree s.dev k w.slot = false →
        exec c s = .next s) ∧
      (w.st = 1 → s.dev.ready (ceaDom k) = true → swapDue s.dev k w.slot = true → boundaryFree s.dev k w.slot = true → Does c s (fun e =>
        (e.eng k).swap = { w with st := 2, failed := false }))) ∧
    (∀ u k x, p = 0x500 + 16 * u + k → u < 4 → k < 9 → x = sliceAt s.dev u k →
      (x.st ≠ 3 ∨ x.passes ≠ 3 ∨ s.dev.ready (cvuDom u) = false → exec c s = .next s) ∧
      (x.st = 3 → x.passes = 3 → s.dev.ready (cvuDom u) = true → 5 ≤ goodCount (s.dev.cvuS u) → Does c s (fun e =>
        (e.act p).st = 2 ∧ (sliceAt e u k).trial = true)))

/-- The end of a health window (R447, R457): a part without failure commits, and its seal counter follows its version; a member of a group
waits for the others; a confirmation set nobody confirmed, or a node that did not announce itself, fails. -/
def Sys2Proof.Claims.WindowEnds : Prop :=
  ∀ (s : State) (p : Nat), s.dev.live = true → s.dev.sec.failing = [] → ∀ c, c = Instr.healthWindowEnd p → ∀ a, a = s.dev.act p →
    (partState s.dev p ≠ 2 ∨ actFailed s.dev p = true → exec c s = .next s) ∧
    (partState s.dev p = 2 → actFailed s.dev p = false →
      (lastCheck s.dev p = false → groupOf s.dev p = [p] →
        exec c s = .next { s with dev := s.dev.setAct p { a with failed := 2 } }) ∧
      (lastCheck s.dev p = true →
        (∀ q ∈ groupOf s.dev p, q ≠ p → partState s.dev q = 2 → (s.dev.act q).ended = false →
          exec c s = .next { s with dev := s.dev.setAct p { a with ended := true } }) ∧
        (groupOf s.dev p = [p] → DoesBy c s (raise .ACT_COMMITTED [p, a.version]) (fun e =>
          ActIs p { a with st := 3, rev := [], ended := false } s.dev e ∧
          (∀ u, u < 4 → p = 0x400 + u → (e.cvuS u).bankTrial = false ∧ (e.cvuS u).bank = (s.dev.cvuS u).bank) ∧
          (∀ k, k < 32 → p = 0x300 + k → (e.eng k).swap.st = 3) ∧
          (∀ v, a.sealNo < 16 → s.dev.sealC a.sealNo = some v →
            (a.version ≤ v → e.sealC a.sealNo = some v) ∧
            (v < a.version → a.version < 2 ^ 32 → energyOk s.dev 1 = true → e.sealC a.sealNo = some a.version)) ∧
          (∀ k, k ≠ a.sealNo → e.sealC k = s.dev.sealC k)))))

/-- Rollback (R131, R153, R155, R252, R457 to R460): a failed part goes back to what it replaced and is rolled back; the runtime's and the
Teller's rollback starts here and ends with its last stage. -/
def Sys2Proof.Claims.RollsBack : Prop :=
  ∀ (s : State) (p : Nat), s.dev.live = true → s.dev.sec.failing = [] → ∀ c, c = Instr.actRolledBack p → ∀ a, a = s.dev.act p →
    (partState s.dev p ≠ 2 ∨ actFailed s.dev p = false → exec c s = .next s) ∧
    (partState s.dev p = 2 → actFailed s.dev p = true →
      (p = 0x100 → (∃ h, s.dev.sec.handover = some h ∧ h.back = true) → exec c s = .next s) ∧
      (p = 0x100 → (∀ h, s.dev.sec.handover = some h → h.back = false) → Does c s (fun e =>
        (∃ h, e.sec.handover = some h ∧ h.slot = a.old ∧ h.back = true ∧ (h.first = 0 ∨ h.first = 1) ∧
          h.stage = (if s.dev.pwr.halves.testBit h.first then 1 else 2)) ∧
        e = { s.dev with sec.handover := e.sec.handover })) ∧
      (p = 0x200 → s.dev.sec.slotT = a.old → exec c s = .next s) ∧
      (p = 0x200 → s.dev.sec.slotT ≠ a.old → a.old < 2 → Does c s (fun e =>
        TellerSlot a.old e ∧ e.sec.tellerBusy = true ∧ RegsBut [SCU_BOOTSTAT_TELLER_SLOT.addr] s.dev e ∧
        e.heg = s.dev.heg ∧ e.sec.acts = s.dev.sec.acts)) ∧
      (∀ k w, p = 0x300 + k → k < 32 → w = (s.dev.eng k).swap →
        (s.dev.ready (ceaDom k) = false ∨ boundaryFree s.dev k w.slot = false → exec c s = .next s) ∧
        (s.dev.ready (ceaDom k) = true → boundaryFree s.dev k w.slot = true → Does c s (fun e =>
          (e.eng k).swap = { w with st := 4, failed := false }))) ∧
      (∀ u x, u < 4 → p = 0x400 + u → x = s.dev.cvuS u → DoesBy c s (fun e => raise .ACT_ROLLED_BACK [p, a.version, whyOf a]
          (bankSaid .CVU_CALSET_ROLLBACK (CVU_EVT_CALSET_ROLLBACK u) u x.bank s.dev e)) (fun e => ActIs p (rolled a) s.dev e ∧
        e.cvuS u = { x with bank := 1 - x.bank, bankTrial := false, bankFail := false, bankAt := s.dev.time64 } ∧
        (∀ v, v ≠ u → e.cvuS v = s.dev.cvuS v) ∧ RegsBut [] s.dev e)) ∧
      (∀ u k, p = 0x500 + 16 * u + k → u < 4 → k < 9 → 6 ≤ goodCount (s.dev.cvuS u) → Does c s (fun e =>
        (sliceAt e u k).st = 2 ∧ (sliceAt e u k).trial = false)) ∧
      (p / 256 = 6 → DoesBy c s (raise .ACT_ROLLED_BACK [p, a.version, whyOf a]) (fun e => ActIs p (rolled a) s.dev e ∧
        (s.dev.ldg.st = 1 → p % 16 ≠ a.old % 16 → bookArmed e (p % 16) = false) ∧ RegsBut [] s.dev e)) ∧
      (∀ f g, p / 256 = 7 → itemsApply 3 0 a.rev s.dev = (f, g) → exec c s =
        .next { s with dev := raise .ACT_ROLLED_BACK [p, (g.act p).version, whyOf a] (g.setAct p (rolled (g.act p))) }) ∧
      (∀ k node, p = 0x800 + k → k < 8 → node = s.dev.ent (recOf p) 6 % 64 →
        DoesBy c s (raise .ACT_ROLLED_BACK [p, a.version, whyOf a]) (fun e => ActIs p (rolled a) s.dev e ∧
          nodeBytes e k node = a.old % 256 ^ 8 ∧ RegsBut [] s.dev e)))

/-- Half `k` has stopped: the NV command interface is given up where one of its cores owned it (R412); nothing else of the registers
changes. -/
def Sys2Proof.Claims.HalfGone (k : Nat) (d e : Dev) : Prop :=
  (d.get NVS_STAT_OWNER / 4 = k → e.get NVS_STAT_OWNER = 15 ∧ e.nvs.open_ = none ∧
    RegsBut (NVS_STAT :: ((List.range 8).map NVS_RGN ++ (List.range 8).map NVS_RGNFAIL)) d e) ∧
  (d.get NVS_STAT_OWNER / 4 ≠ k → RegsBut [] d e)

/-- The stages of the runtime handover (R458): services move, one half stops, is checked and starts from the new slot, then the other; a
failure in stage 1 moves nothing back, one in stage 2 or 3 takes the first half back alone. -/
def Sys2Proof.Claims.HandoverStages : Prop :=
  ∀ (s : State) (ok : Bool), s.dev.live = true → ∀ c, c = Instr.runtimeHandoverStage ok →
    (s.dev.sec.handover = none → exec c s = .next s) ∧
    (∀ h, s.dev.sec.handover = some h → h.first < 2 → h.slot < 2 →
      (ok = false ∨ ((h.stage = 2 ∨ h.stage = 5) ∧ slotVerify s.dev false h.slot ≠ 0) →
        (h.back = true → exec c s = .next s) ∧
        (h.back = false → groupOf s.dev 0x100 = [0x100] → Does c s (fun e => e.pwr.halves = s.dev.pwr.halves ∧ RegsBut [] s.dev e ∧
          (h.stage = 1 → e.sec.handover = none ∧ (e.act 0x100).st = 4) ∧
          (h.stage = 2 ∨ h.stage = 3 → e.sec.handover = some ⟨2, (s.dev.act 0x100).old, true, h.first, true⟩) ∧
          (3 < h.stage → e.sec.handover = none)))) ∧
      (ok = true →
        (h.stage = 1 → s.dev.pwr.halves.testBit (1 - h.first) = false → exec c s = .next s) ∧
        (h.stage = 1 → s.dev.pwr.halves.testBit (1 - h.first) = true → Does c s (fun e => e.sec.handover = some { h with stage := 2 } ∧
          e.pwr.halves.testBit h.first = false ∧ e.pwr.halves.testBit (1 - h.first) = true ∧ HalfGone h.first s.dev e ∧ e.heg = s.dev.heg)) ∧
        (h.stage = 2 → slotVerify s.dev false h.slot = 0 →
          exec c s = .next { s with dev := { s.dev with sec.handover := some { h with stage := 3 } } }) ∧
        (h.stage = 3 → h.only = false → Does c s (fun e => e.sec.handover = some { h with stage := 4 } ∧
          e.pwr.halves.testBit h.first = true ∧ HalfSlot h.first h.slot e ∧ RegsBut [SCU_BOOTSTAT] s.dev e)) ∧
        (h.stage = 3 → h.only = true → Does c s (fun e => e.sec.handover = none ∧ e.pwr.halves.testBit h.first = true ∧
          HalfSlot h.first h.slot e ∧ (h.back = true → (e.act 0x100).st = 4))) ∧
        (h.stage = 4 → Does c s (fun e => e.sec.handover = some { h with stage := 5 } ∧ e.pwr.halves.testBit (1 - h.first) = false ∧
          e.pwr.halves.testBit h.first = s.dev.pwr.halves.testBit h.first ∧ HalfGone (1 - h.first) s.dev e ∧ e.heg = s.dev.heg)) ∧
        (h.stage = 5 → slotVerify s.dev false h.slot = 0 → Does c s (fun e => e.sec.handover = none ∧
          e.pwr.halves.testBit (1 - h.first) = true ∧ HalfSlot (1 - h.first) h.slot e ∧
          (h.back = true → (e.act 0x100).st = 4) ∧ (h.back = false → e.sec.acts = s.dev.sec.acts)))))

/-- The Teller's restart (R459): once it reports ready what waited goes on; a failed start goes back to the old slot, and a start there
leaves the part rolled back. -/
def Sys2Proof.Claims.TellerRestarts : Prop :=
  ∀ (s : State) (ok : Bool), s.dev.live = true → ∀ c a, c = Instr.tellerRestart ok → a = s.dev.act 0x200 →
    (s.dev.sec.tellerBusy = false ∨ (s.dev.sec.slotT = a.old ∧ ok = false) →
      exec c s = .next { s with dev := waitsRun (pwdGo s.dev) }) ∧
    (s.dev.sec.tellerBusy = true →
      (s.dev.sec.slotT ≠ a.old → ok = true →
        exec c s = .next { s with dev := waitsRun (pwdGo { s.dev with sec.tellerBusy := false }) }) ∧
      (s.dev.sec.slotT = a.old → ok = true →
        DoesBy c s (fun e => waitsRun (pwdGo (raise .ACT_ROLLED_BACK [0x200, a.version, whyOf a] e))) (fun e =>
          e = { s.dev with sec.tellerBusy := false, sec.acts := e.sec.acts } ∧ ActIs 0x200 (rolled a) s.dev e)) ∧
      (s.dev.sec.slotT ≠ a.old → ok = false → a.old < 2 → groupOf s.dev 0x200 = [0x200] → DoesBy c s (fun e => waitsRun (pwdGo e)) (fun e =>
        TellerSlot a.old e ∧ e.sec.tellerBusy = true ∧ RegsBut [SCU_BOOTSTAT_TELLER_SLOT.addr] s.dev e ∧
        e.heg = s.dev.heg)))

/-- In-service replacement (R131, R153, R155, R251, R252, R447, R455 to R460). -/
def Obligations.Activations : Prop :=
  Claims.ActivationWrites ∧ Claims.FailuresSettle ∧ Claims.SwitchOver ∧ Claims.WindowEnds ∧ Claims.RollsBack ∧ Claims.HandoverStages ∧
    Claims.TellerRestarts

/-! ### Housekeeping and thermal management (chapters 5 and 17) -/

namespace Sys2Proof.Claims

/-- The result of channel `ch` holds the reading `v` of the present round (R157, R158); the channels above 40 have none. -/
def Converted (ch v : Nat) (d e : Dev) : Prop :=
  e.get (HKC_RESULT_VALUE ch) = (if ch ≤ 40 then v % 65536 else 0) ∧ e.bit (HKC_RESULT_VALID ch) = decide (ch ≤ 40) ∧
    e.get (HKC_RESULT_ROUND ch) = d.get HKC_STATUS_ROUND % 256 ∧ e.get HKC_STATUS_CHAN = ch ∧
    e.get HKC_STATUS_ROUND = d.get HKC_STATUS_ROUND

end Sys2Proof.Claims

/-- Housekeeping conversions (R48, R71, R157 to R159, R465): a conversion stands in its result with its round; VLINE and VHOLD are shown; the
last channel ends the round, which counts whether the self-check held. Four rounds that fail it force level 2 or more. -/
def Sys2Proof.Claims.Housekeeping : Prop :=
  ∀ (s : State) (ch v : Nat), s.dev.live = true →
    (48 ≤ ch → exec (.hkcConversion ch v) s = .next s) ∧
    (ch < 32 ∨ (37 < ch ∧ ch < 47) → Does (.hkcConversion ch v) s (fun e => Converted ch v s.dev e ∧
      Changes [HKC_RESULT ch, HKC_STATUS] s.dev e)) ∧
    (32 ≤ ch → ch < 36 → DoesBy (.hkcConversion ch v) s (refReading (ch - 32) (v % 65536)) (fun e => Converted ch v s.dev e ∧
      Changes [HKC_RESULT ch, HKC_STATUS] s.dev e)) ∧
    (Does (.hkcConversion 36 v) s (fun e => Converted 36 v s.dev e ∧ e.get PMC_LINE_VLINE = v % 65536 / 100 ∧ e.pwr.vlineMV = v % 65536 ∧
      Changes [HKC_RESULT 36, HKC_STATUS, PMC_LINE] { s.dev with pwr.vlineMV := v % 65536 } e)) ∧
    (Does (.hkcConversion 37 v) s (fun e => Converted 37 v s.dev e ∧ e.get PMC_LINE_VHOLD = v % 65536 / 100 ∧ e.pwr.vholdMV = v % 65536 ∧
      Changes [HKC_RESULT 37, HKC_STATUS, PMC_LINE] { s.dev with pwr.vholdMV := v % 65536 } e)) ∧
    (1188 ≤ s.dev.get (HKC_RESULT_VALUE 38) ∧ s.dev.get (HKC_RESULT_VALUE 38) ≤ 1212 ∧ s.dev.get (HKC_RESULT_VALUE 39) ≤ 5 ∧
        995 ≤ s.dev.get (HKC_RESULT_VALUE 40) ∧ s.dev.get (HKC_RESULT_VALUE 40) ≤ 1005 →
      DoesBy (.hkcConversion 47 v) s (fun e => thermalRound true (energyRound e)) (fun e => e.bit HKC_STATUS_FAULT = false ∧
        e.get HKC_STATUS_ROUND = (s.dev.get HKC_STATUS_ROUND + 1) % 65536 ∧ e.ent 0x3040 1 = (s.dev.ent 0x3040 1 + 1) % 2 ^ 32 ∧
        e.pwr.vlineOk = s.dev.pwr.vlineMV ∧ e.pwr.vholdOk = s.dev.pwr.vholdMV ∧ RegsBut [HKC_RESULT 47, HKC_STATUS] s.dev e)) ∧
    (s.dev.get (HKC_RESULT_VALUE 38) < 1188 ∨ 1212 < s.dev.get (HKC_RESULT_VALUE 38) ∨ 5 < s.dev.get (HKC_RESULT_VALUE 39) ∨
        s.dev.get (HKC_RESULT_VALUE 40) < 995 ∨ 1005 < s.dev.get (HKC_RESULT_VALUE 40) →
      DoesBy (.hkcConversion 47 v) s (fun e => thermalRound false (energyRound e)) (fun e => e.bit HKC_STATUS_FAULT = true ∧
        e.get HKC_STATUS_ROUND = (s.dev.get HKC_STATUS_ROUND + 1) % 65536 ∧ e.ent 0x3040 1 = (s.dev.ent 0x3040 1 + 1) % 2 ^ 32 ∧
        e.pwr.vlineMV = s.dev.pwr.vlineOk ∧ e.pwr.vholdMV = s.dev.pwr.vholdOk)) ∧
    (∀ d : Dev, (thermalRound false d).thm.skipped = d.thm.skipped + 1 ∧
      (3 ≤ d.thm.skipped → 2 ≤ (thermalRound false d).get THM_STATUS_LEVEL ∧ (thermalRound false d).bit THM_STATUS_FAULTED = true))

/-- The thermal manager (R467, R471 to R473): HOLD ends after its second; a trip shuts the device down for the heat with its cause; only a
cooled device restarts, with CRITICAL set; a pass that waited for the pace starts unless the unit is busy. -/
def Sys2Proof.Claims.ThermalManager : Prop :=
  ∀ (s : State), s.dev.live = true →
    (∀ t, s.dev.thm.hold = some t → t ≤ s.dev.now → Does .thermalHoldEnd s (fun e => e.bit THM_STATUS_HOLD = false ∧ e.thm.hold = none ∧
      e.get THM_STATUS_LEVEL = s.dev.get THM_STATUS_LEVEL ∧ Changes [THM_STATUS] { s.dev with thm.hold := none } e)) ∧
    (s.dev.thm.hold = none ∨ (∃ t, s.dev.thm.hold = some t ∧ s.dev.now < t) → exec .thermalHoldEnd s = .next s) ∧
    (s.dev.pwr.thermalOff = true → exec .thermalTrip s = .next s) ∧
    (s.dev.pwr.thermalOff = false → s.dev.pwr.save = .none → Does .thermalTrip s (fun e => e.pwr.thermalOff = true ∧ e.pwr.save = .running ∧
      e.bit PMC_RSTCAUSE_THERMAL = true ∧ e.thm.crits.head? = some s.dev.now ∧ (e.thm.stay = true ↔ 3 ≤ e.thm.crits.length) ∧
      (∀ n ∈ [2, 3, 4, 5, 6, 8, 9, 11], e.ready n = false) ∧ e.flash = s.dev.flash)) ∧
    (thermalMayRestart s.dev = false → exec .thermalRestart s = .next s) ∧
    (∀ t l, s.dev.pwr.thermalOff = true → s.dev.thm.stay = false → s.dev.pwr.save = .complete → s.dev.bit PMC_LINE_FAIL = false →
      4 ≤ s.dev.thm.cool → s.dev.thm.crits = t :: l → t + s.dev.ent 0xA101 8 * 1000000000 ≤ s.dev.now →
      DoesBy .thermalRestart s (fun e => e.flagUp THM_EVT_CRITICAL) (fun e => Restarted s.dev e ∧ e.bit PMC_RSTCAUSE_THERMAL = true ∧
        e.pwr.thermalOff = false ∧ e.thm.crits = s.dev.thm.crits)) ∧
    (∀ u x, s.dev.cvuS u = x →
      (x.on = false ∨ x.waiting = false ∨ x.paced = false ∨ s.dev.ready (cvuDom u) = false → exec (.convPaceEnd u) s = .next s) ∧
      (x.on = true → x.waiting = true → x.paced = true → s.dev.ready (cvuDom u) = true →
        (x.fgBusy = true ∨ x.queue ≠ [] ∨ x.conv.isSome = true → Does (.convPaceEnd u) s (UnitIs u { x with paced := false } s.dev)) ∧
        (∀ k, x.fgBusy = false → x.queue = [] → x.conv = none → nextEntry s.dev u 0 = some k → Does (.convPaceEnd u) s (fun e =>
          e.get (CVU_PASS_PASS u) = (s.dev.get (CVU_PASS_PASS u) + 1) % 2 ^ 32 ∧ (e.cvuS u).entry = k ∧ (e.cvuS u).conv = some .reg ∧
          (e.cvuS u).waiting = false ∧ (e.cvuS u).paced = false ∧ (e.cvuS u).late = x.late ∧ (e.cvuS u).passAt = some s.dev.now ∧
          (∀ w, w ≠ u → e.cvuS w = s.dev.cvuS w) ∧ RegsBut [CVU_PASS u] s.dev e ∧ MemSame s.dev e))))

/-- The housekeeping converter (R48, R71, R157 to R159, R465) and the thermal manager (R467, R471 to R473). -/
def Obligations.ThermalManagement : Prop := Claims.Housekeeping ∧ Claims.ThermalManager

/-! ### Performance counters (chapter 18) -/

/-- Counters (R477, R480 to R483): a selection starts its fall-back counter at 0; a write of HI is staged, a write of LO stores both halves;
a read of LO answers the low word and latches the high one for its reader. No other counter changes. -/
def Sys2Proof.Claims.CounterAccess : Prop :=
  ∀ (s : State) (ini sess k v : Nat) (m : Word), m ≠ 0 →
    (k < 16 → Takes s ini sess (OBS_FSEL k) v m → Does (.fselWrite ini sess k v) s (fun e =>
      e.get (OBS_FSEL_EVENT k) = v % 2048 ∧ e.get (OBS_FSEL_MODE k) = v / 2048 % 2 ∧ tabGet 0 (384 + k) e.obs.cnt = 0 ∧
      (tabGet 0 12 e.obs.ovf).testBit k = false ∧ (∀ j, j ≠ 384 + k → tabGet 0 j e.obs.cnt = tabGet 0 j s.dev.obs.cnt) ∧
      RegsBut [OBS_FSEL k] s.dev e ∧ e = { s.dev with regs := e.regs, obs := e.obs, cyc := e.cyc })) ∧
    (k < 400 → Takes s ini sess (OBS_CNT_HI k) v m → Does (.counterHiWrite ini sess k v) s (fun e =>
      tabGet 0 (readerKey ini sess) e.obs.stage = v % 65536 ∧ e.obs.cnt = s.dev.obs.cnt ∧
      e = { s.dev with obs.stage := e.obs.stage, cyc := e.cyc })) ∧
    (k < 400 → Takes s ini sess (OBS_CNT_LO k) v m → tabGet 0 k s.dev.obs.incN = 0 → Does (.counterLoWrite ini sess k v) s (fun e =>
      tabGet 0 k e.obs.cnt = (tabGet 0 (readerKey ini sess) s.dev.obs.stage * 2 ^ 32 + v % 2 ^ 32) % 2 ^ 48 ∧
      tabGet 0 (readerKey ini sess) e.obs.stage = 0 ∧ (∀ j, j ≠ k → tabGet 0 j e.obs.cnt = tabGet 0 j s.dev.obs.cnt) ∧
      e = { s.dev with obs := e.obs, cyc := e.cyc })) ∧
    (k < 400 → s.dev.live = true → ini < 8 → s.dev.cyc.rcOld = [] → s.dev.obs.start = [] → s.dev.obs.wrote = [] →
      Does (.counterLoRead ini sess k) s (fun e => e.bus = tabGet 0 k s.dev.obs.cnt % 2 ^ 32 ∧
        tabGet (0, 0) (readerKey ini sess) e.obs.latch = (k, tabGet 0 k s.dev.obs.cnt / 2 ^ 32) ∧
        e = { s.dev with bus := e.bus, obs.latch := e.obs.latch }))

/-- Freeze and snapshots (R485 to R488): FREEZE and UNPRIV_READ take their values and a frozen counter counts nothing; SNAP copies every
counter for 250 ns later, a second request in that time is merged; the bank then holds the copy and SEQ has moved on. -/
def Sys2Proof.Claims.FreezeAndSnapshots : Prop :=
  ∀ (s : State) (ini sess : Nat) (on : Bool) (m : Word),
    (∀ n (d : Dev), d.bit OBS_CTRL_FREEZE = true → (count n d).obs.cnt = d.obs.cnt ∧ (count n d).obs.ovf = d.obs.ovf) ∧
    (Takes s ini sess OBS_CTRL (wSet (s.dev.rd OBS_CTRL) 0 1 on.toNat).toNat m → m.getLsbD 0 = true → s.dev.obs.incN = [] →
      s.dev.obs.lostN = [] → s.dev.cyc.hwSet = [] → Does (.freeze ini sess on) s (fun e => e.bit OBS_CTRL_FREEZE = on ∧
        e.obs.cnt = s.dev.obs.cnt ∧ e.obs.ovf = s.dev.obs.ovf ∧ RegsBut [OBS_CTRL, OBS_SNAPSTAT] s.dev e ∧ MemSame s.dev e)) ∧
    (Takes s ini sess OBS_CTRL (wSet (s.dev.rd OBS_CTRL) 1 1 1).toNat m → m.getLsbD 1 = true → s.dev.obs.start = [] → s.dev.obs.ovf0 = none →
      (s.dev.obs.pending = none → Does (.snap ini sess) s (fun e => e.bit OBS_SNAPSTAT_BUSY = true ∧
        e.obs.pending = some (s.dev.now + 250, ⟨s.dev.time64, s.dev.obs.cnt, s.dev.obs.ovf⟩) ∧
        e.get OBS_SNAPSTAT_SEQ = s.dev.get OBS_SNAPSTAT_SEQ ∧ RegsBut [OBS_CTRL, OBS_SNAPSTAT] s.dev e ∧ MemSame s.dev e)) ∧
      (∀ t x, s.dev.obs.pending = some (t, x) → t ≠ s.dev.now + 250 → Does (.snap ini sess) s (fun e =>
        e.get OBS_SNAPSTAT_MERGED = Nat.min (s.dev.get OBS_SNAPSTAT_MERGED + 1) 255 ∧ e.obs.pending = some (t, x) ∧
        RegsBut [OBS_CTRL, OBS_SNAPSTAT] s.dev e ∧ MemSame s.dev e))) ∧
    (Takes s ini sess OBS_CTRL (wSet (s.dev.rd OBS_CTRL) 2 1 on.toNat).toNat m → m.getLsbD 2 = true →
      Does (.unprivRead ini sess on) s (fun e => e.bit OBS_CTRL_UNPRIV_READ = on ∧ e.bit OBS_CTRL_FREEZE = s.dev.bit OBS_CTRL_FREEZE ∧
        (∀ x, (e.session x).isSome = (s.dev.session x).isSome) ∧ RegsBut [OBS_CTRL, OBS_SNAPSTAT] s.dev e ∧ MemSame s.dev e)) ∧
    (s.dev.live = true →
      (s.dev.obs.pending = none → exec .snapshotWritten s = .next s) ∧
      (∀ t x, s.dev.obs.pending = some (t, x) → DoesBy .snapshotWritten s (count 0x16A) (fun e =>
        e.obs.bank = x ∧ e.obs.pending = none ∧ e.bit OBS_SNAPSTAT_BUSY = false ∧
        e.get OBS_SNAPSTAT_SEQ = (s.dev.get OBS_SNAPSTAT_SEQ + 1) % 65536 ∧
        Changes [OBS_SNAPSTAT] { s.dev with obs.pending := none, obs.bank := x } e)))

/-- Counters, freeze and snapshots (R477, R480 to R483, R485 to R488). -/
def Obligations.CountersAndSnapshots : Prop := Claims.CounterAccess ∧ Claims.FreezeAndSnapshots

/-! ### The block as a whole -/

namespace Sys2Proof.Claims

/-- `k` steps from `s`; a fault or a refusal ends the run. -/
def run : Nat → State → Host.Outcome State Fault Refusal
  | 0, s => .next s
  | k + 1, s => match step s with
    | .next t => run k t
    | o => o

/-- The commands of `l` one after the other, each on the device that the one before leaves; the queue is not touched. -/
def runAll : List Instr → State → Host.Outcome State Fault Refusal
  | [], s => .next s
  | c :: l, s => match exec c s with
    | .next t => runAll l t
    | o => o

/-- Every command that waits is well formed. -/
def QueueFormed (s : State) : Prop := ∀ c ∈ s.pending, wellFormed c = true

end Sys2Proof.Claims

/-- A step takes the command at the front of the queue and answers what it answers with the rest of the queue. -/
def Obligations.StepRunsFront : Prop :=
  ∀ (s : State) (c : Instr) (q : List Instr), s.pending = c :: q → step s = exec c { s with pending := q }

/-- With no command waiting a step is one cycle of the 200 MHz clock (log entry 1): the elapsed time moves on by 5 ns and the queue
stays empty. -/
def Obligations.IdleStepTicks : Prop :=
  ∀ (s : State), s.pending = [] → step s = .next { s with dev := tickDev s.dev } ∧
    (s.dev.pwr.aon = false → tickDev s.dev = { s.dev with now := s.dev.now + 5 }) ∧
    (s.dev.pwr.aon = true → tickDev s.dev = restartDue (timePass (cycleClear (countConds ((s.dev.now + 5) / 1000 - s.dev.now / 1000)
      (cycleEnd s.dev)))) ∧ ∀ d : Dev, (timePass d).now = d.now + 5 ∧ (d.sec.restartAt = none → restartDue d = d))

/-- Every command answers a next state with the queue as it was: no ordinary data ends a run. -/
def Sys2Proof.Claims.EveryCommandCompletes : Prop := ∀ (c : Instr) (s : State), ∃ e : Dev, exec c s = .next { s with dev := e }

/-- Without VAON nothing is alive (R47, R62): every command but POWER_ON_RESET leaves the device as it is, and POWER_ON_RESET brings
power back with everything else as it was. -/
def Sys2Proof.Claims.UnpoweredDevice : Prop :=
  ∀ (s : State), s.dev.pwr.aon = false →
    (∀ c : Instr, c ≠ .powerOnReset → exec c s = .next s) ∧
    exec .powerOnReset s = .next { s with dev := { s.dev with pwr.aon := true } }

/-- A live device completes every command of power, clocks, resets and the power-up order (R45 to R48, R51 to R63, R67, R73, R74): each
answers its own operation on the device, under no further condition. -/
def Sys2Proof.Claims.PowerCommandsComplete : Prop :=
  ∀ (s : State) (ini sess n v w : Nat) (a b : Bool) (bad : List Nat) (recs : List (Nat × Nat)) (r : Req), s.dev.live = true →
    ∀ p ∈ ([(.coreWait n a, coreWaits n a), (.enterNap, napEnter), (.enterDeep, deepAuto),
        (.forceDeep ini sess, fun d => busWrite ini sess PMC_PSTATE 4 (wSet (d.rd PMC_PSTATE &&& wMask 2 2) 4 1 1).toNat d),
        (.wakeEvent v, Machine.wakeEvent v), (.refLost, Machine.refLost), (.refBack, Machine.refBack),
        (.clk32Lost, fun d => raise .CLK32_LOST [] (d.set PMC_CLKSTAT_CLK32_OK 0)),
        (.clk32Stable, fun d => d.set PMC_CLKSTAT_CLK32_OK 1), (.pinReset, Machine.pinReset),
        (.pinResetRelease, fun d => { d with pwr.pinHeld := false }), (.softReset ini sess, busWrite ini sess PMC_RSTCTRL 4 1),
        (.rccWatchdog, watchdog), (.lineFail a, lineFailure), (.saveComplete, saveFinish), (.holdupExhausted, holdupEnd),
        (.vaonFail, fun d => { powerGone d with pwr.aon := false }), (.lineReturn, Machine.lineReturn),
        (.inrushEnd, Machine.inrushEnd), (.reverseCurrent, Machine.reverseCurrent), (.capMeasureInterval v w, capInterval v w),
        (.aonReady a, Machine.aonReady a), (.bootChainVerify v, bootVerify v), (.journalRecovery a bad recs, journalStep a bad recs),
        (.runtimeUp v, runtimeStep v), (.shadowRestore a b, shadowStep a b), (.configCheck, configStep), (.ledgerArm, ledgerStep),
        (.outputsReleaseGrant (some r), hegWrite r 0xA010 0 1 1), (.outputsReleaseWithdraw r, hegWrite r 0xA010 0 1 0),
        (.domainReady n, domainUp n)] : List (Instr × (Dev → Dev))), exec p.1 s = .next { s with dev := p.2 s.dev }

/-- A live device completes every command of the NV store, of the engines' triggers and of an activation's course (R228, R412 to R437, R457 to
R462): each answers its own operation on the device, under no further condition. -/
def Sys2Proof.Claims.StoreCommandsComplete : Prop :=
  ∀ (s : State) (ini sess n k v : Nat) (b : Bool) (pages : List Nat), s.dev.live = true →
    ∀ p ∈ ([(.claim ini, nvIssue ini NVS_CLAIM (nvClaim ini)), (.release ini, nvIssue ini NVS_CLAIM (nvRelease ini)),
        (.nvWrite ini b, nvIssue ini NVS_CMD (nvCmd ini (nvOp 1 0 0 b))), (.txnBegin ini, nvIssue ini NVS_CMD (nvCmd ini (nvOp 2 0 0 false))),
        (.txnAdd ini b, nvIssue ini NVS_CMD (nvCmd ini (nvOp 3 0 0 b))), (.txnCommit ini, nvIssue ini NVS_CMD (nvCmd ini (nvOp 4 0 0 false))),
        (.txnAbort ini, nvIssue ini NVS_CMD (nvCmd ini (nvOp 5 0 0 false))), (.unlock ini n k, nvIssue ini NVS_CMD (nvCmd ini (nvOp 6 n k false))),
        (.relock ini n k, nvIssue ini NVS_CMD (nvCmd ini (nvOp 7 n k false))), (.setPwd ini n k, nvIssue ini NVS_CMD (nvCmd ini (nvOp 8 n k false))),
        (.setRegion ini n, nvIssue ini NVS_CMD (nvCmd ini (nvOp 9 n 0 false))), (.tallyInc ini n, nvIssue ini NVS_CMD (nvCmd ini (nvOp 10 n 0 false))),
        (.checkpoint (some ini), nvIssue ini NVS_CMD (nvCmd ini (nvOp 11 0 0 false))), (.checkpoint none, ckptAsk), (.checkpointComplete, ckptDone),
        (.nvsTxnComplete ⟨pages, b⟩, fun d => if d.ready 10 then txnFinish pages b d else d), (.nvWindowRead ini n k, busRead ini 0 (0x30000000 + n) k),
        (.unlockExpiry sess n k, fun d => (relockOp sess n k d).2), (.sealAdvance k v, fun d => (sealAdvanceOp k v d).2),
        (.slotTrigger n k, fun d => followUp (slotTrig n k false d)), (.slotStartWrite n k, fun d => followUp (slotTrig n k false d)),
        (.activationSwitchover n, switchover n), (.healthWindowEnd n, windowEnd n), (.actRolledBack n, rollbackNow n),
        (.runtimeHandoverStage b, handoverStage b), (.tellerRestart b, fun d => waitsRun (pwdGo (tellerStart b d)))] :
      List (Instr × (Dev → Dev))), exec p.1 s = .next { s with dev := p.2 s.dev }

/-- Every command completes, the commands of power and of the store with their own operation, and without VAON (R47, R62) only POWER_ON_RESET
has an effect. -/
def Obligations.CompletionWithAndWithoutPower : Prop :=
  Claims.EveryCommandCompletes ∧ Claims.PowerCommandsComplete ∧ Claims.StoreCommandsComplete ∧ Claims.UnpoweredDevice

/-- Commands run first in, first out: after as many steps as commands wait at the front, the device is as those commands one after
the other leave it, and the rest of the queue waits. -/
def Obligations.QueueRunsInOrder : Prop :=
  ∀ (l q : List Instr) (d : Dev), run l.length ⟨d, l ++ q⟩ = runAll l ⟨d, q⟩

/-- Every step keeps the queue well formed and never makes it longer. -/
def Obligations.QueueInvariant : Prop :=
  ∀ (s t : State), QueueFormed s → step s = .next t → QueueFormed t ∧ t.pending = s.pending.drop 1

/-- After reset (R62, R67): VAON is good, step 1 runs, the buck and every domain are off, the inrush phase lasts, the ledger is OFF,
the time base UNSET at 0, no half runs, no session is open, no command waits, and the memories are empty. -/
def Obligations.ResetState : Prop :=
  ∀ d, d = State.reset.dev → QueueFormed State.reset ∧ State.reset.pending = [] ∧ d.pwr.aon = true ∧ d.pwr.step = 0 ∧
    d.pwr.buck = false ∧ d.pwr.halves = 0 ∧ d.pwr.released = false ∧ d.pwr.save = .none ∧ (∀ n < 12, d.ready n = false) ∧
    d.bit PMC_LINE_INRUSH = true ∧ d.ldg.st = 0 ∧ d.xtf.st = .unset ∧ d.time64 = 0 ∧ d.heg.sessions = [] ∧ d.held = [] ∧
    (∀ a, d.rd a = resetOf a) ∧ (∀ a, memByte d.sram a = memByte [] a)
end

