-- ==== Sys2Proof/Laws/Tab.lean ====
section
/-! SUPPORT. Sparse tables and byte memories: what a read gives after a store, and that every store keeps the canonical
form. -/

namespace Sys2Proof.Machine

section tables

variable {α : Type}

theorem tabGet_tabDel_same (z : α) (k : Nat) (t : Tab α) : tabGet z k (tabDel k t) = z := by
  induction t with
  | nil => rfl
  | cons e t ih =>
    obtain ⟨j, v⟩ := e
    by_cases h : j = k
    · rw [tabDel, if_pos h, ih]
    · rw [tabDel, if_neg h, tabGet, if_neg h, ih]

theorem tabGet_tabDel_ne (z : α) {k j : Nat} (h : j ≠ k) (t : Tab α) : tabGet z j (tabDel k t) = tabGet z j t := by
  induction t with
  | nil => rfl
  | cons e t ih =>
    obtain ⟨i, v⟩ := e
    by_cases hi : i = k
    · have hj : ¬ i = j := fun e => h (by omega)
      have hk : ¬ k = j := Ne.symm h
      rw [tabDel, if_pos hi, ih, tabGet, if_neg hj]
    · rw [tabDel, if_neg hi, tabGet, tabGet, ih]

theorem tabGet_tabIns_same (z : α) (k : Nat) (v : α) (t : Tab α) : tabGet z k (tabIns k v t) = v := by
  induction t with
  | nil => simp [tabIns, tabGet]
  | cons e t ih =>
    obtain ⟨i, w⟩ := e
    unfold tabIns
    split
    · simp [tabGet]
    · split
      · simp [tabGet]
      · have : i ≠ k := by omega
        simp [tabGet, this, ih]

theorem tabGet_tabIns_ne (z : α) {k j : Nat} (h : j ≠ k) (v : α) (t : Tab α) : tabGet z j (tabIns k v t) = tabGet z j t := by
  induction t with
  | nil => simp [tabIns, tabGet, Ne.symm h]
  | cons e t ih =>
    obtain ⟨i, w⟩ := e
    have hk : ¬ k = j := Ne.symm h
    unfold tabIns
    split
    · simp [tabGet, hk]
    · split
      · rename_i h1 h2
        have : ¬ i = j := by omega
        simp [tabGet, hk, this]
      · by_cases hi : i = j <;> simp [tabGet, hi, ih]

/-- A stored value is read back. -/
theorem tabGet_tabPut_same [DecidableEq α] (z : α) (k : Nat) (v : α) (t : Tab α) : tabGet z k (tabPut z k v t) = v := by
  unfold tabPut
  split
  · rename_i h
    rw [tabGet_tabDel_same, h]
  · exact tabGet_tabIns_same z k v t

/-- A store leaves every other key alone. -/
theorem tabGet_tabPut_ne [DecidableEq α] (z z' : α) {k j : Nat} (h : j ≠ k) (v : α) (t : Tab α) :
    tabGet z' j (tabPut z k v t) = tabGet z' j t := by
  unfold tabPut
  split
  · exact tabGet_tabDel_ne z' h t
  · exact tabGet_tabIns_ne z' h v t

theorem tabRising_weaken (t : Tab α) {a b : Nat} (h : a ≤ b) (hb : tabRising (some b) t = true) :
    tabRising (some a) t = true := by
  cases t with
  | nil => rfl
  | cons e t =>
    simp only [tabRising, Bool.and_eq_true, decide_eq_true_eq] at hb ⊢
    exact ⟨by omega, hb.2⟩

theorem tabRising_none (t : Tab α) {a : Nat} (h : tabRising (some a) t = true) : tabRising none t = true := by
  cases t with
  | nil => rfl
  | cons e t =>
    simp only [tabRising, Bool.and_eq_true] at h
    simp only [tabRising, Bool.true_and]
    exact h.2

theorem tabRising_tabDel (lo : Option Nat) (k : Nat) (t : Tab α) (h : tabRising lo t = true) :
    tabRising lo (tabDel k t) = true := by
  induction t generalizing lo with
  | nil => rfl
  | cons e t ih =>
    obtain ⟨j, v⟩ := e
    simp only [tabRising, Bool.and_eq_true] at h
    unfold tabDel
    split
    · cases lo with
      | none => exact ih none (tabRising_none t h.2)
      | some l =>
        have hl : l < j := by simpa using h.1
        exact ih (some l) (tabRising_weaken t (by omega) h.2)
    · simp only [tabRising, Bool.and_eq_true]
      exact ⟨h.1, ih (some j) h.2⟩

theorem tabRising_tabIns (lo : Option Nat) (k : Nat) (v : α) (t : Tab α) (hk : ∀ l, lo = some l → l < k)
    (h : tabRising lo t = true) : tabRising lo (tabIns k v t) = true := by
  induction t generalizing lo with
  | nil =>
    cases lo with
    | none => rfl
    | some l => simpa [tabIns, tabRising] using hk l rfl
  | cons e t ih =>
    obtain ⟨j, w⟩ := e
    simp only [tabRising, Bool.and_eq_true] at h
    unfold tabIns
    split
    · rename_i hj
      simp only [tabRising, Bool.and_eq_true, decide_eq_true_eq]
      refine ⟨?_, hj, h.2⟩
      cases lo with
      | none => rfl
      | some l => simpa using hk l rfl
    · split
      · rename_i hj
        subst hj
        simp only [tabRising, Bool.and_eq_true]
        exact h
      · rename_i h1 h2
        simp only [tabRising, Bool.and_eq_true]
        exact ⟨h.1, ih (some j) (fun l hl => by cases hl; omega) h.2⟩

theorem mem_tabDel {k : Nat} {t : Tab α} {e : Nat × α} (h : e ∈ tabDel k t) : e ∈ t := by
  induction t with
  | nil => simp [tabDel] at h
  | cons x t ih =>
    obtain ⟨j, v⟩ := x
    unfold tabDel at h
    split at h
    · exact List.mem_cons_of_mem _ (ih h)
    · rcases List.mem_cons.mp h with h | h
      · exact h ▸ List.mem_cons_self
      · exact List.mem_cons_of_mem _ (ih h)

theorem mem_tabIns {k : Nat} {v : α} {t : Tab α} {e : Nat × α} (h : e ∈ tabIns k v t) : e = (k, v) ∨ e ∈ t := by
  induction t with
  | nil => simpa [tabIns] using h
  | cons x t ih =>
    obtain ⟨j, w⟩ := x
    unfold tabIns at h
    split at h
    · exact List.mem_cons.mp h
    · split at h
      · rcases List.mem_cons.mp h with h | h
        · exact .inl h
        · exact .inr (List.mem_cons_of_mem _ h)
      · rcases List.mem_cons.mp h with h | h
        · exact .inr (h ▸ List.mem_cons_self)
        · rcases ih h with h | h
          · exact .inl h
          · exact .inr (List.mem_cons_of_mem _ h)

/-- Removing a key keeps the canonical form. -/
theorem tabWf_tabDel [DecidableEq α] (z : Nat → α) (k : Nat) (t : Tab α) (h : tabWf z t = true) :
    tabWf z (tabDel k t) = true := by
  simp only [tabWf, Bool.and_eq_true, List.all_eq_true] at h ⊢
  exact ⟨tabRising_tabDel none k t h.1, fun e he => h.2 e (mem_tabDel he)⟩

/-- A store keeps the canonical form. -/
theorem tabWf_tabPut [DecidableEq α] (z : Nat → α) (k : Nat) (v : α) (t : Tab α) (h : tabWf z t = true) :
    tabWf z (tabPut (z k) k v t) = true := by
  unfold tabPut
  split
  · exact tabWf_tabDel z k t h
  · rename_i hv
    simp only [tabWf, Bool.and_eq_true, List.all_eq_true] at h ⊢
    refine ⟨tabRising_tabIns none k v t (fun l hl => by cases hl) h.1, fun e he => ?_⟩
    rcases mem_tabIns he with he | he
    · subst he
      simpa using hv
    · exact h.2 e he

end tables

/-! ### Memories -/

theorem memByte_memPut_same (m : Mem) (a : Nat) (v : BitVec 8) : memByte (memPut m a v) a = v := tabGet_tabPut_same 0 a v m

theorem memByte_memPut_ne (m : Mem) {a b : Nat} (h : b ≠ a) (v : BitVec 8) : memByte (memPut m a v) b = memByte m b :=
  tabGet_tabPut_ne 0 0 h v m

/-- A byte outside the stored ones reads as before. -/
theorem memByte_memWrite_out (m : Mem) (a v n b : Nat) (h : b < a ∨ a + n ≤ b) :
    memByte (memWrite m a v n) b = memByte m b := by
  induction n generalizing m a v with
  | zero => rfl
  | succ n ih =>
    rw [memWrite, ih _ _ _ (by omega), memByte_memPut_ne m (by omega)]

/-- A stored byte reads as written, the lowest first (R3). -/
theorem memByte_memWrite_in (m : Mem) (a v n i : Nat) (h : i < n) :
    memByte (memWrite m a v n) (a + i) = BitVec.ofNat 8 (v / 256 ^ i) := by
  induction n generalizing m a v i with
  | zero => omega
  | succ n ih =>
    rw [memWrite]
    cases i with
    | zero =>
      rw [memByte_memWrite_out _ _ _ _ _ (by omega)]
      simpa using memByte_memPut_same m a (BitVec.ofNat 8 v)
    | succ i =>
      have := ih (memPut m a (BitVec.ofNat 8 v)) (a + 1) (v / 256) i (by omega)
      rw [show a + (i + 1) = a + 1 + i by omega, this, Nat.div_div_eq_div_mul, Nat.pow_succ, Nat.mul_comm]

/-- Stored bytes read back as the stored number. -/
theorem memRead_memWrite_same (m : Mem) (a v n : Nat) : memRead (memWrite m a v n) a n = v % 256 ^ n := by
  induction n generalizing m a v with
  | zero => simp [memRead, Nat.mod_one]
  | succ n ih =>
    simp only [memRead, memWrite, ih]
    rw [memByte_memWrite_out _ _ _ _ _ (Or.inl (Nat.lt_succ_self a)), memByte_memPut_same, BitVec.toNat_ofNat]
    exact (by rw [Nat.pow_succ', Nat.mod_mul] : v % 256 ^ (n + 1) = v % 256 + 256 * (v / 256 % 256 ^ n)).symm

/-- A number read outside the stored bytes is as before. -/
theorem memRead_memWrite_out (m : Mem) (a v n b k : Nat) (h : b + k ≤ a ∨ a + n ≤ b) :
    memRead (memWrite m a v n) b k = memRead m b k := by
  induction k generalizing b with
  | zero => rfl
  | succ k ih =>
    simp only [memRead]
    rw [memByte_memWrite_out _ _ _ _ _ (by omega), ih (b + 1) (by omega)]

/-- Every memory operation keeps the canonical form: one byte. -/
theorem wf_memPut (m : Mem) (a : Nat) (v : BitVec 8) (h : Memory.wf m) : Memory.wf (memPut m a v) :=
  tabWf_tabPut (fun _ => (0 : BitVec 8)) a v m h

/-- Every memory operation keeps the canonical form: several bytes. -/
theorem wf_memWrite (m : Mem) (a v n : Nat) (h : Memory.wf m) : Memory.wf (memWrite m a v n) := by
  induction n generalizing m a v with
  | zero => exact h
  | succ n ih => exact ih _ _ _ (wf_memPut m a _ h)

/-- Every memory operation keeps the canonical form: a page forgotten. -/
theorem wf_tabKeep (m : Mem) (p : Nat → Bool) (h : Memory.wf m) : Memory.wf (tabKeep p m) := by
  simp only [Memory.wf, tabWf, Bool.and_eq_true, List.all_eq_true] at h ⊢
  refine ⟨?_, fun e he => h.2 e (List.mem_filter.mp he).1⟩
  have key : ∀ (lo : Option Nat) (t : Mem), tabRising lo t = true → tabRising lo (tabKeep p t) = true := by
    intro lo t
    induction t generalizing lo with
    | nil => intro _; rfl
    | cons e t ih =>
      intro ht
      obtain ⟨j, v⟩ := e
      simp only [tabRising, Bool.and_eq_true] at ht
      unfold tabKeep
      rw [List.filter_cons]
      split
      · simp only [tabRising, Bool.and_eq_true]
        exact ⟨ht.1, ih (some j) ht.2⟩
      · cases lo with
        | none => exact ih none (tabRising_none t ht.2)
        | some l =>
          have hl : l < j := by simpa using ht.1
          exact ih (some l) (tabRising_weaken t (by omega) ht.2)
  exact key none m h.1

theorem wf_nil : Memory.wf [] := rfl

end Sys2Proof.Machine
end

