-- ==== Sys2Proof/Laws/Words.lean ====
section
/-! SUPPORT. Fields of a register word: what a field reads after it, or another field, is replaced. -/

namespace Sys2Proof.Machine

theorem wGet_testBit (v : Word) (lo w i : Nat) : (wGet v lo w).testBit i = (decide (i < w) && v.toNat.testBit (lo + i)) := by
  unfold wGet
  rw [Nat.testBit_mod_two_pow, ← Nat.shiftRight_eq_div_pow, Nat.testBit_shiftRight]

theorem wMask_getLsbD (lo w i : Nat) : (wMask lo w).getLsbD i = (decide (i < 32) && decide (lo ≤ i) && decide (i - lo < w)) := by
  unfold wMask
  rw [BitVec.getLsbD_ofNat, ← Nat.shiftLeft_eq, Nat.testBit_shiftLeft, Nat.testBit_two_pow_sub_one]
  simp [Bool.and_assoc]

theorem shifted_getLsbD (x lo w i : Nat) :
    (BitVec.ofNat 32 (x % 2 ^ w * 2 ^ lo)).getLsbD i =
      (decide (i < 32) && decide (lo ≤ i) && (decide (i - lo < w) && x.testBit (i - lo))) := by
  rw [BitVec.getLsbD_ofNat, ← Nat.shiftLeft_eq, Nat.testBit_shiftLeft, Nat.testBit_mod_two_pow]
  simp [Bool.and_assoc]

theorem wSet_testBit (v : Word) (lo w x i : Nat) :
    (wSet v lo w x).toNat.testBit i =
      (decide (i < 32) && (if lo ≤ i ∧ i < lo + w then x.testBit (i - lo) else v.toNat.testBit i)) := by
  have h : (wSet v lo w x).toNat.testBit i = (wSet v lo w x).getLsbD i := rfl
  have hv : v.toNat.testBit i = v.getLsbD i := rfl
  rw [h, hv]
  unfold wSet
  rw [BitVec.getLsbD_or, BitVec.getLsbD_and, BitVec.getLsbD_not, wMask_getLsbD, shifted_getLsbD]
  by_cases h32 : i < 32
  · by_cases hlo : lo ≤ i
    · by_cases hw : i < lo + w
      · have : i - lo < w := by omega
        simp [h32, hlo, hw, this]
      · have : ¬ i - lo < w := by omega
        simp [h32, hlo, hw, this]
    · simp [h32, hlo]
  · simp [h32]

/-- A field reads what it was set to. -/
theorem wGet_wSet_same (v : Word) (lo w x : Nat) (h : lo + w ≤ 32) : wGet (wSet v lo w x) lo w = x % 2 ^ w := by
  apply Nat.eq_of_testBit_eq
  intro i
  rw [wGet_testBit, wSet_testBit, Nat.testBit_mod_two_pow]
  by_cases hi : i < w
  · have h1 : lo + i < 32 := by omega
    have h2 : lo ≤ lo + i ∧ lo + i < lo + w := by omega
    have h3 : lo + i - lo = i := by omega
    simp [hi, h1, h2, h3]
  · simp [hi]

/-- A field that does not overlap reads as before. -/
theorem wGet_wSet_other (v : Word) (lo w x lo' w' : Nat) (h : lo + w ≤ lo' ∨ lo' + w' ≤ lo) :
    wGet (wSet v lo w x) lo' w' = wGet v lo' w' := by
  apply Nat.eq_of_testBit_eq
  intro i
  rw [wGet_testBit, wSet_testBit, wGet_testBit]
  by_cases hi : i < w'
  · have h1 : ¬ (lo ≤ lo' + i ∧ lo' + i < lo + w) := by omega
    by_cases h32 : lo' + i < 32
    · simp [hi, h1, h32]
    · have : v.toNat.testBit (lo' + i) = false :=
        Nat.testBit_lt_two_pow (Nat.lt_of_lt_of_le v.isLt (Nat.pow_le_pow_right (by decide) (by omega)))
      simp [hi, h1, h32, this]
  · simp [hi]

/-- Bit `m` of a number after bit `n` is set or cleared. -/
theorem setBit_testBit (x n m : Nat) (b : Bool) : (setBit x n b).testBit m = if m = n then b else x.testBit m := by
  have key : ∀ y : Nat, y.testBit n = false → ∀ m, (y + 2 ^ n).testBit m = if m = n then true else y.testBit m := by
    intro y hy m
    rw [Nat.add_comm]
    rcases Nat.lt_trichotomy m n with h | h | h
    · rw [Nat.testBit_two_pow_add_gt h, if_neg (by omega)]
    · subst h; rw [Nat.testBit_two_pow_add_eq, hy]; simp
    · rw [if_neg (by omega), Nat.testBit_eq_decide_div_mod_eq, Nat.testBit_eq_decide_div_mod_eq]
      have hq : (2 ^ n + y) / 2 ^ (n + 1) = y / 2 ^ (n + 1) := by
        rw [Nat.testBit_eq_decide_div_mod_eq] at hy
        have hy1 : ¬ y / 2 ^ n % 2 = 1 := by simpa using hy
        have hp : 0 < 2 ^ n := Nat.pow_pos (by decide)
        rw [Nat.pow_succ, ← Nat.div_div_eq_div_mul, ← Nat.div_div_eq_div_mul, Nat.add_div_left _ hp]
        omega
      have hm : 2 ^ m = 2 ^ (n + 1) * 2 ^ (m - (n + 1)) := by rw [← Nat.pow_add]; congr 1; omega
      rw [hm, ← Nat.div_div_eq_div_mul, ← Nat.div_div_eq_div_mul, hq]
  unfold setBit
  by_cases hx : x.testBit n = true
  · rw [if_pos hx]
    cases b with
    | true => simp only [if_true]; split
              · next h => subst h; exact hx
              · rfl
    | false =>
      simp only [Bool.false_eq_true, if_false]
      have hle : 2 ^ n ≤ x := Nat.ge_two_pow_of_testBit hx
      have hy : (x - 2 ^ n).testBit n = false := by
        have h1 : (x - 2 ^ n + 2 ^ n).testBit n = true := by rw [Nat.sub_add_cancel hle]; exact hx
        rw [Nat.add_comm, Nat.testBit_two_pow_add_eq] at h1
        simpa using h1
      have h2 := key _ hy m
      rw [Nat.sub_add_cancel hle] at h2
      by_cases h : m = n
      · subst h; simp [hy]
      · simp only [h, if_false] at h2 ⊢; exact h2.symm
  · rw [if_neg hx]
    cases b with
    | true => simp only [if_true]; exact key x (by simpa using hx) m
    | false => simp only [Bool.false_eq_true, if_false]; split
               · next h => subst h; simpa using hx
               · rfl

end Sys2Proof.Machine
end

