-- ==== Sys2Proof/Laws/State.lean ====
section
/-! SUPPORT. What the shared updates of the device leave alone, one lemma per field, and what a register field, a dictionary
value and an event record read after them. -/

namespace Sys2Proof.Machine

/-! ### Registers -/

/-- A stored register reads as stored. -/
@[simp] theorem Dev.rd_wr_same (d : Dev) (a : Nat) (v : Word) : (d.wr a v).rd a = v := tabGet_tabPut_same _ a v d.regs

/-- Every other register reads as before. -/
theorem Dev.rd_wr_ne (d : Dev) {a b : Nat} (h : b ≠ a) (v : Word) : (d.wr a v).rd b = d.rd b :=
  tabGet_tabPut_ne _ _ h v d.regs

/-- Every other register reads as before a field was set. -/
theorem Dev.rd_set_ne (d : Dev) (f : Fld) {b : Nat} (h : b ≠ f.addr) (x : Nat) : (d.set f x).rd b = d.rd b :=
  d.rd_wr_ne h _

/-- A field reads what it was set to. -/
theorem Dev.get_set_same (d : Dev) (f : Fld) (x : Nat) (h : f.lo + f.width ≤ 32) : (d.set f x).get f = x % 2 ^ f.width := by
  simp only [Dev.get, Dev.set, Dev.rd_wr_same]
  exact wGet_wSet_same _ _ _ _ h

/-- A field of another register reads as before. -/
theorem Dev.get_set_ne (d : Dev) (f g : Fld) (x : Nat) (h : g.addr ≠ f.addr) : (d.set f x).get g = d.get g := by
  simp only [Dev.get, Dev.set, d.rd_wr_ne h]

/-- Another field of the same register reads as before. -/
theorem Dev.get_set_field (d : Dev) (f g : Fld) (x : Nat) (ha : g.addr = f.addr)
    (h : f.lo + f.width ≤ g.lo ∨ g.lo + g.width ≤ f.lo) : (d.set f x).get g = d.get g := by
  simp only [Dev.get, Dev.set, ha, Dev.rd_wr_same]
  exact wGet_wSet_other _ _ _ _ _ _ h

/-- A field of a written register reads from the written word. -/
@[simp] theorem Dev.get_wr_same (d : Dev) (a : Nat) (v : Word) (lo w : Nat) : (d.wr a v).get ⟨a, lo, w⟩ = wGet v lo w := by
  simp only [Dev.get, Dev.rd_wr_same]

/-- A field of another register reads as before a write. -/
theorem Dev.get_wr_ne (d : Dev) (a : Nat) (v : Word) (g : Fld) (h : g.addr ≠ a) : (d.wr a v).get g = d.get g := by
  simp only [Dev.get, d.rd_wr_ne h]

/-! ### Dictionary values -/

/-- A stored value reads as stored. -/
@[simp] theorem Dev.ent_setEnt_same (d : Dev) (idx sub v : Nat) : (d.setEnt idx sub v).ent idx sub = v :=
  tabGet_tabPut_same _ _ v d.dict

/-- Every other entry reads as before. -/
theorem Dev.ent_setEnt_ne (d : Dev) (idx sub v i s : Nat) (h : entKey i s ≠ entKey idx sub) :
    (d.setEnt idx sub v).ent i s = d.ent i s := tabGet_tabPut_ne _ _ h v d.dict

/-! ### Fields that an update leaves alone -/

@[simp] theorem Dev.wr_now (d : Dev) (a : Nat) (v : Word) : (d.wr a v).now = d.now := rfl
@[simp] theorem Dev.wr_dict (d : Dev) (a : Nat) (v : Word) : (d.wr a v).dict = d.dict := rfl
@[simp] theorem Dev.wr_sram (d : Dev) (a : Nat) (v : Word) : (d.wr a v).sram = d.sram := rfl
@[simp] theorem Dev.wr_badWords (d : Dev) (a : Nat) (v : Word) : (d.wr a v).badWords = d.badWords := rfl
@[simp] theorem Dev.wr_win (d : Dev) (a : Nat) (v : Word) : (d.wr a v).win = d.win := rfl
@[simp] theorem Dev.wr_flash (d : Dev) (a : Nat) (v : Word) : (d.wr a v).flash = d.flash := rfl
@[simp] theorem Dev.wr_flashSize (d : Dev) (a : Nat) (v : Word) : (d.wr a v).flashSize = d.flashSize := rfl
@[simp] theorem Dev.wr_av (d : Dev) (a : Nat) (v : Word) : (d.wr a v).av = d.av := rfl
@[simp] theorem Dev.wr_obs (d : Dev) (a : Nat) (v : Word) : (d.wr a v).obs = d.obs := rfl
@[simp] theorem Dev.wr_evLog (d : Dev) (a : Nat) (v : Word) : (d.wr a v).evLog = d.evLog := rfl
@[simp] theorem Dev.wr_evSeq (d : Dev) (a : Nat) (v : Word) : (d.wr a v).evSeq = d.evSeq := rfl
@[simp] theorem Dev.wr_cyc (d : Dev) (a : Nat) (v : Word) : (d.wr a v).cyc = d.cyc := rfl
@[simp] theorem Dev.wr_pwr (d : Dev) (a : Nat) (v : Word) : (d.wr a v).pwr = d.pwr := rfl
@[simp] theorem Dev.wr_tlatch (d : Dev) (a : Nat) (v : Word) : (d.wr a v).tlatch = d.tlatch := rfl
@[simp] theorem Dev.wr_bus (d : Dev) (a : Nat) (v : Word) : (d.wr a v).bus = d.bus := rfl
@[simp] theorem Dev.wr_free (d : Dev) (a : Nat) (v : Word) : (d.wr a v).free = d.free := rfl
@[simp] theorem Dev.wr_xtf (d : Dev) (a : Nat) (v : Word) : (d.wr a v).xtf = d.xtf := rfl
@[simp] theorem Dev.wr_ldg (d : Dev) (a : Nat) (v : Word) : (d.wr a v).ldg = d.ldg := rfl
@[simp] theorem Dev.wr_cvu (d : Dev) (a : Nat) (v : Word) : (d.wr a v).cvu = d.cvu := rfl
@[simp] theorem Dev.wr_cea (d : Dev) (a : Nat) (v : Word) : (d.wr a v).cea = d.cea := rfl
@[simp] theorem Dev.wr_held (d : Dev) (a : Nat) (v : Word) : (d.wr a v).held = d.held := rfl
@[simp] theorem Dev.wr_floor (d : Dev) (a : Nat) (v : Word) : (d.wr a v).floor = d.floor := rfl
@[simp] theorem Dev.wr_stamps (d : Dev) (a : Nat) (v : Word) : (d.wr a v).stamps = d.stamps := rfl
@[simp] theorem Dev.wr_mdu (d : Dev) (a : Nat) (v : Word) : (d.wr a v).mdu = d.mdu := rfl
@[simp] theorem Dev.wr_aio (d : Dev) (a : Nat) (v : Word) : (d.wr a v).aio = d.aio := rfl
@[simp] theorem Dev.wr_can (d : Dev) (a : Nat) (v : Word) : (d.wr a v).can = d.can := rfl
@[simp] theorem Dev.wr_net (d : Dev) (a : Nat) (v : Word) : (d.wr a v).net = d.net := rfl
@[simp] theorem Dev.wr_heg (d : Dev) (a : Nat) (v : Word) : (d.wr a v).heg = d.heg := rfl
@[simp] theorem Dev.wr_nvs (d : Dev) (a : Nat) (v : Word) : (d.wr a v).nvs = d.nvs := rfl
@[simp] theorem Dev.wr_sec (d : Dev) (a : Nat) (v : Word) : (d.wr a v).sec = d.sec := rfl
@[simp] theorem Dev.wr_thm (d : Dev) (a : Nat) (v : Word) : (d.wr a v).thm = d.thm := rfl

@[simp] theorem Dev.set_now (d : Dev) (f : Fld) (x : Nat) : (d.set f x).now = d.now := rfl
@[simp] theorem Dev.set_dict (d : Dev) (f : Fld) (x : Nat) : (d.set f x).dict = d.dict := rfl
@[simp] theorem Dev.set_sram (d : Dev) (f : Fld) (x : Nat) : (d.set f x).sram = d.sram := rfl
@[simp] theorem Dev.set_badWords (d : Dev) (f : Fld) (x : Nat) : (d.set f x).badWords = d.badWords := rfl
@[simp] theorem Dev.set_win (d : Dev) (f : Fld) (x : Nat) : (d.set f x).win = d.win := rfl
@[simp] theorem Dev.set_flash (d : Dev) (f : Fld) (x : Nat) : (d.set f x).flash = d.flash := rfl
@[simp] theorem Dev.set_flashSize (d : Dev) (f : Fld) (x : Nat) : (d.set f x).flashSize = d.flashSize := rfl
@[simp] theorem Dev.set_av (d : Dev) (f : Fld) (x : Nat) : (d.set f x).av = d.av := rfl
@[simp] theorem Dev.set_obs (d : Dev) (f : Fld) (x : Nat) : (d.set f x).obs = d.obs := rfl
@[simp] theorem Dev.set_evLog (d : Dev) (f : Fld) (x : Nat) : (d.set f x).evLog = d.evLog := rfl
@[simp] theorem Dev.set_evSeq (d : Dev) (f : Fld) (x : Nat) : (d.set f x).evSeq = d.evSeq := rfl
@[simp] theorem Dev.set_cyc (d : Dev) (f : Fld) (x : Nat) : (d.set f x).cyc = d.cyc := rfl
@[simp] theorem Dev.set_pwr (d : Dev) (f : Fld) (x : Nat) : (d.set f x).pwr = d.pwr := rfl
@[simp] theorem Dev.set_tlatch (d : Dev) (f : Fld) (x : Nat) : (d.set f x).tlatch = d.tlatch := rfl
@[simp] theorem Dev.set_bus (d : Dev) (f : Fld) (x : Nat) : (d.set f x).bus = d.bus := rfl
@[simp] theorem Dev.set_free (d : Dev) (f : Fld) (x : Nat) : (d.set f x).free = d.free := rfl
@[simp] theorem Dev.set_xtf (d : Dev) (f : Fld) (x : Nat) : (d.set f x).xtf = d.xtf := rfl
@[simp] theorem Dev.set_ldg (d : Dev) (f : Fld) (x : Nat) : (d.set f x).ldg = d.ldg := rfl
@[simp] theorem Dev.set_cvu (d : Dev) (f : Fld) (x : Nat) : (d.set f x).cvu = d.cvu := rfl
@[simp] theorem Dev.set_cea (d : Dev) (f : Fld) (x : Nat) : (d.set f x).cea = d.cea := rfl
@[simp] theorem Dev.set_held (d : Dev) (f : Fld) (x : Nat) : (d.set f x).held = d.held := rfl
@[simp] theorem Dev.set_floor (d : Dev) (f : Fld) (x : Nat) : (d.set f x).floor = d.floor := rfl
@[simp] theorem Dev.set_stamps (d : Dev) (f : Fld) (x : Nat) : (d.set f x).stamps = d.stamps := rfl
@[simp] theorem Dev.set_mdu (d : Dev) (f : Fld) (x : Nat) : (d.set f x).mdu = d.mdu := rfl
@[simp] theorem Dev.set_aio (d : Dev) (f : Fld) (x : Nat) : (d.set f x).aio = d.aio := rfl
@[simp] theorem Dev.set_can (d : Dev) (f : Fld) (x : Nat) : (d.set f x).can = d.can := rfl
@[simp] theorem Dev.set_net (d : Dev) (f : Fld) (x : Nat) : (d.set f x).net = d.net := rfl
@[simp] theorem Dev.set_heg (d : Dev) (f : Fld) (x : Nat) : (d.set f x).heg = d.heg := rfl
@[simp] theorem Dev.set_nvs (d : Dev) (f : Fld) (x : Nat) : (d.set f x).nvs = d.nvs := rfl
@[simp] theorem Dev.set_sec (d : Dev) (f : Fld) (x : Nat) : (d.set f x).sec = d.sec := rfl
@[simp] theorem Dev.set_thm (d : Dev) (f : Fld) (x : Nat) : (d.set f x).thm = d.thm := rfl

@[simp] theorem Dev.setB_now (d : Dev) (f : Fld) (b : Bool) : (d.setB f b).now = d.now := rfl
@[simp] theorem Dev.setB_dict (d : Dev) (f : Fld) (b : Bool) : (d.setB f b).dict = d.dict := rfl
@[simp] theorem Dev.setB_sram (d : Dev) (f : Fld) (b : Bool) : (d.setB f b).sram = d.sram := rfl
@[simp] theorem Dev.setB_badWords (d : Dev) (f : Fld) (b : Bool) : (d.setB f b).badWords = d.badWords := rfl
@[simp] theorem Dev.setB_win (d : Dev) (f : Fld) (b : Bool) : (d.setB f b).win = d.win := rfl
@[simp] theorem Dev.setB_flash (d : Dev) (f : Fld) (b : Bool) : (d.setB f b).flash = d.flash := rfl
@[simp] theorem Dev.setB_flashSize (d : Dev) (f : Fld) (b : Bool) : (d.setB f b).flashSize = d.flashSize := rfl
@[simp] theorem Dev.setB_av (d : Dev) (f : Fld) (b : Bool) : (d.setB f b).av = d.av := rfl
@[simp] theorem Dev.setB_obs (d : Dev) (f : Fld) (b : Bool) : (d.setB f b).obs = d.obs := rfl
@[simp] theorem Dev.setB_evLog (d : Dev) (f : Fld) (b : Bool) : (d.setB f b).evLog = d.evLog := rfl
@[simp] theorem Dev.setB_evSeq (d : Dev) (f : Fld) (b : Bool) : (d.setB f b).evSeq = d.evSeq := rfl
@[simp] theorem Dev.setB_cyc (d : Dev) (f : Fld) (b : Bool) : (d.setB f b).cyc = d.cyc := rfl
@[simp] theorem Dev.setB_pwr (d : Dev) (f : Fld) (b : Bool) : (d.setB f b).pwr = d.pwr := rfl
@[simp] theorem Dev.setB_tlatch (d : Dev) (f : Fld) (b : Bool) : (d.setB f b).tlatch = d.tlatch := rfl
@[simp] theorem Dev.setB_bus (d : Dev) (f : Fld) (b : Bool) : (d.setB f b).bus = d.bus := rfl
@[simp] theorem Dev.setB_free (d : Dev) (f : Fld) (b : Bool) : (d.setB f b).free = d.free := rfl
@[simp] theorem Dev.setB_xtf (d : Dev) (f : Fld) (b : Bool) : (d.setB f b).xtf = d.xtf := rfl
@[simp] theorem Dev.setB_ldg (d : Dev) (f : Fld) (b : Bool) : (d.setB f b).ldg = d.ldg := rfl
@[simp] theorem Dev.setB_cvu (d : Dev) (f : Fld) (b : Bool) : (d.setB f b).cvu = d.cvu := rfl
@[simp] theorem Dev.setB_cea (d : Dev) (f : Fld) (b : Bool) : (d.setB f b).cea = d.cea := rfl
@[simp] theorem Dev.setB_held (d : Dev) (f : Fld) (b : Bool) : (d.setB f b).held = d.held := rfl
@[simp] theorem Dev.setB_floor (d : Dev) (f : Fld) (b : Bool) : (d.setB f b).floor = d.floor := rfl
@[simp] theorem Dev.setB_stamps (d : Dev) (f : Fld) (b : Bool) : (d.setB f b).stamps = d.stamps := rfl
@[simp] theorem Dev.setB_mdu (d : Dev) (f : Fld) (b : Bool) : (d.setB f b).mdu = d.mdu := rfl
@[simp] theorem Dev.setB_aio (d : Dev) (f : Fld) (b : Bool) : (d.setB f b).aio = d.aio := rfl
@[simp] theorem Dev.setB_can (d : Dev) (f : Fld) (b : Bool) : (d.setB f b).can = d.can := rfl
@[simp] theorem Dev.setB_net (d : Dev) (f : Fld) (b : Bool) : (d.setB f b).net = d.net := rfl
@[simp] theorem Dev.setB_heg (d : Dev) (f : Fld) (b : Bool) : (d.setB f b).heg = d.heg := rfl
@[simp] theorem Dev.setB_nvs (d : Dev) (f : Fld) (b : Bool) : (d.setB f b).nvs = d.nvs := rfl
@[simp] theorem Dev.setB_sec (d : Dev) (f : Fld) (b : Bool) : (d.setB f b).sec = d.sec := rfl
@[simp] theorem Dev.setB_thm (d : Dev) (f : Fld) (b : Bool) : (d.setB f b).thm = d.thm := rfl

@[simp] theorem Dev.setI_now (d : Dev) (f : Fld) (x : Int) : (d.setI f x).now = d.now := rfl
@[simp] theorem Dev.setI_dict (d : Dev) (f : Fld) (x : Int) : (d.setI f x).dict = d.dict := rfl
@[simp] theorem Dev.setI_sram (d : Dev) (f : Fld) (x : Int) : (d.setI f x).sram = d.sram := rfl
@[simp] theorem Dev.setI_badWords (d : Dev) (f : Fld) (x : Int) : (d.setI f x).badWords = d.badWords := rfl
@[simp] theorem Dev.setI_win (d : Dev) (f : Fld) (x : Int) : (d.setI f x).win = d.win := rfl
@[simp] theorem Dev.setI_flash (d : Dev) (f : Fld) (x : Int) : (d.setI f x).flash = d.flash := rfl
@[simp] theorem Dev.setI_flashSize (d : Dev) (f : Fld) (x : Int) : (d.setI f x).flashSize = d.flashSize := rfl
@[simp] theorem Dev.setI_av (d : Dev) (f : Fld) (x : Int) : (d.setI f x).av = d.av := rfl
@[simp] theorem Dev.setI_obs (d : Dev) (f : Fld) (x : Int) : (d.setI f x).obs = d.obs := rfl
@[simp] theorem Dev.setI_evLog (d : Dev) (f : Fld) (x : Int) : (d.setI f x).evLog = d.evLog := rfl
@[simp] theorem Dev.setI_evSeq (d : Dev) (f : Fld) (x : Int) : (d.setI f x).evSeq = d.evSeq := rfl
@[simp] theorem Dev.setI_cyc (d : Dev) (f : Fld) (x : Int) : (d.setI f x).cyc = d.cyc := rfl
@[simp] theorem Dev.setI_pwr (d : Dev) (f : Fld) (x : Int) : (d.setI f x).pwr = d.pwr := rfl
@[simp] theorem Dev.setI_tlatch (d : Dev) (f : Fld) (x : Int) : (d.setI f x).tlatch = d.tlatch := rfl
@[simp] theorem Dev.setI_bus (d : Dev) (f : Fld) (x : Int) : (d.setI f x).bus = d.bus := rfl
@[simp] theorem Dev.setI_free (d : Dev) (f : Fld) (x : Int) : (d.setI f x).free = d.free := rfl
@[simp] theorem Dev.setI_xtf (d : Dev) (f : Fld) (x : Int) : (d.setI f x).xtf = d.xtf := rfl
@[simp] theorem Dev.setI_ldg (d : Dev) (f : Fld) (x : Int) : (d.setI f x).ldg = d.ldg := rfl
@[simp] theorem Dev.setI_cvu (d : Dev) (f : Fld) (x : Int) : (d.setI f x).cvu = d.cvu := rfl
@[simp] theorem Dev.setI_cea (d : Dev) (f : Fld) (x : Int) : (d.setI f x).cea = d.cea := rfl
@[simp] theorem Dev.setI_held (d : Dev) (f : Fld) (x : Int) : (d.setI f x).held = d.held := rfl
@[simp] theorem Dev.setI_floor (d : Dev) (f : Fld) (x : Int) : (d.setI f x).floor = d.floor := rfl
@[simp] theorem Dev.setI_stamps (d : Dev) (f : Fld) (x : Int) : (d.setI f x).stamps = d.stamps := rfl
@[simp] theorem Dev.setI_mdu (d : Dev) (f : Fld) (x : Int) : (d.setI f x).mdu = d.mdu := rfl
@[simp] theorem Dev.setI_aio (d : Dev) (f : Fld) (x : Int) : (d.setI f x).aio = d.aio := rfl
@[simp] theorem Dev.setI_can (d : Dev) (f : Fld) (x : Int) : (d.setI f x).can = d.can := rfl
@[simp] theorem Dev.setI_net (d : Dev) (f : Fld) (x : Int) : (d.setI f x).net = d.net := rfl
@[simp] theorem Dev.setI_heg (d : Dev) (f : Fld) (x : Int) : (d.setI f x).heg = d.heg := rfl
@[simp] theorem Dev.setI_nvs (d : Dev) (f : Fld) (x : Int) : (d.setI f x).nvs = d.nvs := rfl
@[simp] theorem Dev.setI_sec (d : Dev) (f : Fld) (x : Int) : (d.setI f x).sec = d.sec := rfl
@[simp] theorem Dev.setI_thm (d : Dev) (f : Fld) (x : Int) : (d.setI f x).thm = d.thm := rfl

@[simp] theorem Dev.setN_now (d : Dev) (f : Fld) (n : Nat) (b : Bool) : (d.setN f n b).now = d.now := rfl
@[simp] theorem Dev.setN_dict (d : Dev) (f : Fld) (n : Nat) (b : Bool) : (d.setN f n b).dict = d.dict := rfl
@[simp] theorem Dev.setN_sram (d : Dev) (f : Fld) (n : Nat) (b : Bool) : (d.setN f n b).sram = d.sram := rfl
@[simp] theorem Dev.setN_badWords (d : Dev) (f : Fld) (n : Nat) (b : Bool) : (d.setN f n b).badWords = d.badWords := rfl
@[simp] theorem Dev.setN_win (d : Dev) (f : Fld) (n : Nat) (b : Bool) : (d.setN f n b).win = d.win := rfl
@[simp] theorem Dev.setN_flash (d : Dev) (f : Fld) (n : Nat) (b : Bool) : (d.setN f n b).flash = d.flash := rfl
@[simp] theorem Dev.setN_flashSize (d : Dev) (f : Fld) (n : Nat) (b : Bool) : (d.setN f n b).flashSize = d.flashSize := rfl
@[simp] theorem Dev.setN_av (d : Dev) (f : Fld) (n : Nat) (b : Bool) : (d.setN f n b).av = d.av := rfl
@[simp] theorem Dev.setN_obs (d : Dev) (f : Fld) (n : Nat) (b : Bool) : (d.setN f n b).obs = d.obs := rfl
@[simp] theorem Dev.setN_evLog (d : Dev) (f : Fld) (n : Nat) (b : Bool) : (d.setN f n b).evLog = d.evLog := rfl
@[simp] theorem Dev.setN_evSeq (d : Dev) (f : Fld) (n : Nat) (b : Bool) : (d.setN f n b).evSeq = d.evSeq := rfl
@[simp] theorem Dev.setN_cyc (d : Dev) (f : Fld) (n : Nat) (b : Bool) : (d.setN f n b).cyc = d.cyc := rfl
@[simp] theorem Dev.setN_pwr (d : Dev) (f : Fld) (n : Nat) (b : Bool) : (d.setN f n b).pwr = d.pwr := rfl
@[simp] theorem Dev.setN_tlatch (d : Dev) (f : Fld) (n : Nat) (b : Bool) : (d.setN f n b).tlatch = d.tlatch := rfl
@[simp] theorem Dev.setN_bus (d : Dev) (f : Fld) (n : Nat) (b : Bool) : (d.setN f n b).bus = d.bus := rfl
@[simp] theorem Dev.setN_free (d : Dev) (f : Fld) (n : Nat) (b : Bool) : (d.setN f n b).free = d.free := rfl
@[simp] theorem Dev.setN_xtf (d : Dev) (f : Fld) (n : Nat) (b : Bool) : (d.setN f n b).xtf = d.xtf := rfl
@[simp] theorem Dev.setN_ldg (d : Dev) (f : Fld) (n : Nat) (b : Bool) : (d.setN f n b).ldg = d.ldg := rfl
@[simp] theorem Dev.setN_cvu (d : Dev) (f : Fld) (n : Nat) (b : Bool) : (d.setN f n b).cvu = d.cvu := rfl
@[simp] theorem Dev.setN_cea (d : Dev) (f : Fld) (n : Nat) (b : Bool) : (d.setN f n b).cea = d.cea := rfl
@[simp] theorem Dev.setN_held (d : Dev) (f : Fld) (n : Nat) (b : Bool) : (d.setN f n b).held = d.held := rfl
@[simp] theorem Dev.setN_floor (d : Dev) (f : Fld) (n : Nat) (b : Bool) : (d.setN f n b).floor = d.floor := rfl
@[simp] theorem Dev.setN_stamps (d : Dev) (f : Fld) (n : Nat) (b : Bool) : (d.setN f n b).stamps = d.stamps := rfl
@[simp] theorem Dev.setN_mdu (d : Dev) (f : Fld) (n : Nat) (b : Bool) : (d.setN f n b).mdu = d.mdu := rfl
@[simp] theorem Dev.setN_aio (d : Dev) (f : Fld) (n : Nat) (b : Bool) : (d.setN f n b).aio = d.aio := rfl
@[simp] theorem Dev.setN_can (d : Dev) (f : Fld) (n : Nat) (b : Bool) : (d.setN f n b).can = d.can := rfl
@[simp] theorem Dev.setN_net (d : Dev) (f : Fld) (n : Nat) (b : Bool) : (d.setN f n b).net = d.net := rfl
@[simp] theorem Dev.setN_heg (d : Dev) (f : Fld) (n : Nat) (b : Bool) : (d.setN f n b).heg = d.heg := rfl
@[simp] theorem Dev.setN_nvs (d : Dev) (f : Fld) (n : Nat) (b : Bool) : (d.setN f n b).nvs = d.nvs := rfl
@[simp] theorem Dev.setN_sec (d : Dev) (f : Fld) (n : Nat) (b : Bool) : (d.setN f n b).sec = d.sec := rfl
@[simp] theorem Dev.setN_thm (d : Dev) (f : Fld) (n : Nat) (b : Bool) : (d.setN f n b).thm = d.thm := rfl

@[simp] theorem Dev.flagUp_now (d : Dev) (f : Fld) : (d.flagUp f).now = d.now := rfl
@[simp] theorem Dev.flagUp_dict (d : Dev) (f : Fld) : (d.flagUp f).dict = d.dict := rfl
@[simp] theorem Dev.flagUp_sram (d : Dev) (f : Fld) : (d.flagUp f).sram = d.sram := rfl
@[simp] theorem Dev.flagUp_badWords (d : Dev) (f : Fld) : (d.flagUp f).badWords = d.badWords := rfl
@[simp] theorem Dev.flagUp_win (d : Dev) (f : Fld) : (d.flagUp f).win = d.win := rfl
@[simp] theorem Dev.flagUp_flash (d : Dev) (f : Fld) : (d.flagUp f).flash = d.flash := rfl
@[simp] theorem Dev.flagUp_flashSize (d : Dev) (f : Fld) : (d.flagUp f).flashSize = d.flashSize := rfl
@[simp] theorem Dev.flagUp_av (d : Dev) (f : Fld) : (d.flagUp f).av = d.av := rfl
@[simp] theorem Dev.flagUp_obs (d : Dev) (f : Fld) : (d.flagUp f).obs = d.obs := rfl
@[simp] theorem Dev.flagUp_evLog (d : Dev) (f : Fld) : (d.flagUp f).evLog = d.evLog := rfl
@[simp] theorem Dev.flagUp_evSeq (d : Dev) (f : Fld) : (d.flagUp f).evSeq = d.evSeq := rfl
@[simp] theorem Dev.flagUp_pwr (d : Dev) (f : Fld) : (d.flagUp f).pwr = d.pwr := rfl
@[simp] theorem Dev.flagUp_tlatch (d : Dev) (f : Fld) : (d.flagUp f).tlatch = d.tlatch := rfl
@[simp] theorem Dev.flagUp_bus (d : Dev) (f : Fld) : (d.flagUp f).bus = d.bus := rfl
@[simp] theorem Dev.flagUp_free (d : Dev) (f : Fld) : (d.flagUp f).free = d.free := rfl
@[simp] theorem Dev.flagUp_xtf (d : Dev) (f : Fld) : (d.flagUp f).xtf = d.xtf := rfl
@[simp] theorem Dev.flagUp_ldg (d : Dev) (f : Fld) : (d.flagUp f).ldg = d.ldg := rfl
@[simp] theorem Dev.flagUp_cvu (d : Dev) (f : Fld) : (d.flagUp f).cvu = d.cvu := rfl
@[simp] theorem Dev.flagUp_cea (d : Dev) (f : Fld) : (d.flagUp f).cea = d.cea := rfl
@[simp] theorem Dev.flagUp_held (d : Dev) (f : Fld) : (d.flagUp f).held = d.held := rfl
@[simp] theorem Dev.flagUp_floor (d : Dev) (f : Fld) : (d.flagUp f).floor = d.floor := rfl
@[simp] theorem Dev.flagUp_stamps (d : Dev) (f : Fld) : (d.flagUp f).stamps = d.stamps := rfl
@[simp] theorem Dev.flagUp_mdu (d : Dev) (f : Fld) : (d.flagUp f).mdu = d.mdu := rfl
@[simp] theorem Dev.flagUp_aio (d : Dev) (f : Fld) : (d.flagUp f).aio = d.aio := rfl
@[simp] theorem Dev.flagUp_can (d : Dev) (f : Fld) : (d.flagUp f).can = d.can := rfl
@[simp] theorem Dev.flagUp_net (d : Dev) (f : Fld) : (d.flagUp f).net = d.net := rfl
@[simp] theorem Dev.flagUp_heg (d : Dev) (f : Fld) : (d.flagUp f).heg = d.heg := rfl
@[simp] theorem Dev.flagUp_nvs (d : Dev) (f : Fld) : (d.flagUp f).nvs = d.nvs := rfl
@[simp] theorem Dev.flagUp_sec (d : Dev) (f : Fld) : (d.flagUp f).sec = d.sec := rfl
@[simp] theorem Dev.flagUp_thm (d : Dev) (f : Fld) : (d.flagUp f).thm = d.thm := rfl

@[simp] theorem Dev.flagUpN_now (d : Dev) (f : Fld) (n : Nat) : (d.flagUpN f n).now = d.now := rfl
@[simp] theorem Dev.flagUpN_dict (d : Dev) (f : Fld) (n : Nat) : (d.flagUpN f n).dict = d.dict := rfl
@[simp] theorem Dev.flagUpN_sram (d : Dev) (f : Fld) (n : Nat) : (d.flagUpN f n).sram = d.sram := rfl
@[simp] theorem Dev.flagUpN_badWords (d : Dev) (f : Fld) (n : Nat) : (d.flagUpN f n).badWords = d.badWords := rfl
@[simp] theorem Dev.flagUpN_win (d : Dev) (f : Fld) (n : Nat) : (d.flagUpN f n).win = d.win := rfl
@[simp] theorem Dev.flagUpN_flash (d : Dev) (f : Fld) (n : Nat) : (d.flagUpN f n).flash = d.flash := rfl
@[simp] theorem Dev.flagUpN_flashSize (d : Dev) (f : Fld) (n : Nat) : (d.flagUpN f n).flashSize = d.flashSize := rfl
@[simp] theorem Dev.flagUpN_av (d : Dev) (f : Fld) (n : Nat) : (d.flagUpN f n).av = d.av := rfl
@[simp] theorem Dev.flagUpN_obs (d : Dev) (f : Fld) (n : Nat) : (d.flagUpN f n).obs = d.obs := rfl
@[simp] theorem Dev.flagUpN_evLog (d : Dev) (f : Fld) (n : Nat) : (d.flagUpN f n).evLog = d.evLog := rfl
@[simp] theorem Dev.flagUpN_evSeq (d : Dev) (f : Fld) (n : Nat) : (d.flagUpN f n).evSeq = d.evSeq := rfl
@[simp] theorem Dev.flagUpN_pwr (d : Dev) (f : Fld) (n : Nat) : (d.flagUpN f n).pwr = d.pwr := rfl
@[simp] theorem Dev.flagUpN_tlatch (d : Dev) (f : Fld) (n : Nat) : (d.flagUpN f n).tlatch = d.tlatch := rfl
@[simp] theorem Dev.flagUpN_bus (d : Dev) (f : Fld) (n : Nat) : (d.flagUpN f n).bus = d.bus := rfl
@[simp] theorem Dev.flagUpN_free (d : Dev) (f : Fld) (n : Nat) : (d.flagUpN f n).free = d.free := rfl
@[simp] theorem Dev.flagUpN_xtf (d : Dev) (f : Fld) (n : Nat) : (d.flagUpN f n).xtf = d.xtf := rfl
@[simp] theorem Dev.flagUpN_ldg (d : Dev) (f : Fld) (n : Nat) : (d.flagUpN f n).ldg = d.ldg := rfl
@[simp] theorem Dev.flagUpN_cvu (d : Dev) (f : Fld) (n : Nat) : (d.flagUpN f n).cvu = d.cvu := rfl
@[simp] theorem Dev.flagUpN_cea (d : Dev) (f : Fld) (n : Nat) : (d.flagUpN f n).cea = d.cea := rfl
@[simp] theorem Dev.flagUpN_held (d : Dev) (f : Fld) (n : Nat) : (d.flagUpN f n).held = d.held := rfl
@[simp] theorem Dev.flagUpN_floor (d : Dev) (f : Fld) (n : Nat) : (d.flagUpN f n).floor = d.floor := rfl
@[simp] theorem Dev.flagUpN_stamps (d : Dev) (f : Fld) (n : Nat) : (d.flagUpN f n).stamps = d.stamps := rfl
@[simp] theorem Dev.flagUpN_mdu (d : Dev) (f : Fld) (n : Nat) : (d.flagUpN f n).mdu = d.mdu := rfl
@[simp] theorem Dev.flagUpN_aio (d : Dev) (f : Fld) (n : Nat) : (d.flagUpN f n).aio = d.aio := rfl
@[simp] theorem Dev.flagUpN_can (d : Dev) (f : Fld) (n : Nat) : (d.flagUpN f n).can = d.can := rfl
@[simp] theorem Dev.flagUpN_net (d : Dev) (f : Fld) (n : Nat) : (d.flagUpN f n).net = d.net := rfl
@[simp] theorem Dev.flagUpN_heg (d : Dev) (f : Fld) (n : Nat) : (d.flagUpN f n).heg = d.heg := rfl
@[simp] theorem Dev.flagUpN_nvs (d : Dev) (f : Fld) (n : Nat) : (d.flagUpN f n).nvs = d.nvs := rfl
@[simp] theorem Dev.flagUpN_sec (d : Dev) (f : Fld) (n : Nat) : (d.flagUpN f n).sec = d.sec := rfl
@[simp] theorem Dev.flagUpN_thm (d : Dev) (f : Fld) (n : Nat) : (d.flagUpN f n).thm = d.thm := rfl

@[simp] theorem Dev.setEnt_now (d : Dev) (idx sub v : Nat) : (d.setEnt idx sub v).now = d.now := rfl
@[simp] theorem Dev.setEnt_regs (d : Dev) (idx sub v : Nat) : (d.setEnt idx sub v).regs = d.regs := rfl
@[simp] theorem Dev.setEnt_sram (d : Dev) (idx sub v : Nat) : (d.setEnt idx sub v).sram = d.sram := rfl
@[simp] theorem Dev.setEnt_badWords (d : Dev) (idx sub v : Nat) : (d.setEnt idx sub v).badWords = d.badWords := rfl
@[simp] theorem Dev.setEnt_win (d : Dev) (idx sub v : Nat) : (d.setEnt idx sub v).win = d.win := rfl
@[simp] theorem Dev.setEnt_flash (d : Dev) (idx sub v : Nat) : (d.setEnt idx sub v).flash = d.flash := rfl
@[simp] theorem Dev.setEnt_flashSize (d : Dev) (idx sub v : Nat) : (d.setEnt idx sub v).flashSize = d.flashSize := rfl
@[simp] theorem Dev.setEnt_av (d : Dev) (idx sub v : Nat) : (d.setEnt idx sub v).av = d.av := rfl
@[simp] theorem Dev.setEnt_obs (d : Dev) (idx sub v : Nat) : (d.setEnt idx sub v).obs = d.obs := rfl
@[simp] theorem Dev.setEnt_evLog (d : Dev) (idx sub v : Nat) : (d.setEnt idx sub v).evLog = d.evLog := rfl
@[simp] theorem Dev.setEnt_evSeq (d : Dev) (idx sub v : Nat) : (d.setEnt idx sub v).evSeq = d.evSeq := rfl
@[simp] theorem Dev.setEnt_cyc (d : Dev) (idx sub v : Nat) : (d.setEnt idx sub v).cyc = d.cyc := rfl
@[simp] theorem Dev.setEnt_pwr (d : Dev) (idx sub v : Nat) : (d.setEnt idx sub v).pwr = d.pwr := rfl
@[simp] theorem Dev.setEnt_tlatch (d : Dev) (idx sub v : Nat) : (d.setEnt idx sub v).tlatch = d.tlatch := rfl
@[simp] theorem Dev.setEnt_bus (d : Dev) (idx sub v : Nat) : (d.setEnt idx sub v).bus = d.bus := rfl
@[simp] theorem Dev.setEnt_free (d : Dev) (idx sub v : Nat) : (d.setEnt idx sub v).free = d.free := rfl
@[simp] theorem Dev.setEnt_xtf (d : Dev) (idx sub v : Nat) : (d.setEnt idx sub v).xtf = d.xtf := rfl
@[simp] theorem Dev.setEnt_ldg (d : Dev) (idx sub v : Nat) : (d.setEnt idx sub v).ldg = d.ldg := rfl
@[simp] theorem Dev.setEnt_cvu (d : Dev) (idx sub v : Nat) : (d.setEnt idx sub v).cvu = d.cvu := rfl
@[simp] theorem Dev.setEnt_cea (d : Dev) (idx sub v : Nat) : (d.setEnt idx sub v).cea = d.cea := rfl
@[simp] theorem Dev.setEnt_held (d : Dev) (idx sub v : Nat) : (d.setEnt idx sub v).held = d.held := rfl
@[simp] theorem Dev.setEnt_floor (d : Dev) (idx sub v : Nat) : (d.setEnt idx sub v).floor = d.floor := rfl
@[simp] theorem Dev.setEnt_stamps (d : Dev) (idx sub v : Nat) : (d.setEnt idx sub v).stamps = d.stamps := rfl
@[simp] theorem Dev.setEnt_mdu (d : Dev) (idx sub v : Nat) : (d.setEnt idx sub v).mdu = d.mdu := rfl
@[simp] theorem Dev.setEnt_aio (d : Dev) (idx sub v : Nat) : (d.setEnt idx sub v).aio = d.aio := rfl
@[simp] theorem Dev.setEnt_can (d : Dev) (idx sub v : Nat) : (d.setEnt idx sub v).can = d.can := rfl
@[simp] theorem Dev.setEnt_net (d : Dev) (idx sub v : Nat) : (d.setEnt idx sub v).net = d.net := rfl
@[simp] theorem Dev.setEnt_heg (d : Dev) (idx sub v : Nat) : (d.setEnt idx sub v).heg = d.heg := rfl
@[simp] theorem Dev.setEnt_nvs (d : Dev) (idx sub v : Nat) : (d.setEnt idx sub v).nvs = d.nvs := rfl
@[simp] theorem Dev.setEnt_sec (d : Dev) (idx sub v : Nat) : (d.setEnt idx sub v).sec = d.sec := rfl
@[simp] theorem Dev.setEnt_thm (d : Dev) (idx sub v : Nat) : (d.setEnt idx sub v).thm = d.thm := rfl

@[simp] theorem Dev.setSession_now (d : Dev) (s : Sess) : (d.setSession s).now = d.now := rfl
@[simp] theorem Dev.setSession_regs (d : Dev) (s : Sess) : (d.setSession s).regs = d.regs := rfl
@[simp] theorem Dev.setSession_dict (d : Dev) (s : Sess) : (d.setSession s).dict = d.dict := rfl
@[simp] theorem Dev.setSession_sram (d : Dev) (s : Sess) : (d.setSession s).sram = d.sram := rfl
@[simp] theorem Dev.setSession_badWords (d : Dev) (s : Sess) : (d.setSession s).badWords = d.badWords := rfl
@[simp] theorem Dev.setSession_win (d : Dev) (s : Sess) : (d.setSession s).win = d.win := rfl
@[simp] theorem Dev.setSession_flash (d : Dev) (s : Sess) : (d.setSession s).flash = d.flash := rfl
@[simp] theorem Dev.setSession_flashSize (d : Dev) (s : Sess) : (d.setSession s).flashSize = d.flashSize := rfl
@[simp] theorem Dev.setSession_av (d : Dev) (s : Sess) : (d.setSession s).av = d.av := rfl
@[simp] theorem Dev.setSession_obs (d : Dev) (s : Sess) : (d.setSession s).obs = d.obs := rfl
@[simp] theorem Dev.setSession_evLog (d : Dev) (s : Sess) : (d.setSession s).evLog = d.evLog := rfl
@[simp] theorem Dev.setSession_evSeq (d : Dev) (s : Sess) : (d.setSession s).evSeq = d.evSeq := rfl
@[simp] theorem Dev.setSession_cyc (d : Dev) (s : Sess) : (d.setSession s).cyc = d.cyc := rfl
@[simp] theorem Dev.setSession_pwr (d : Dev) (s : Sess) : (d.setSession s).pwr = d.pwr := rfl
@[simp] theorem Dev.setSession_tlatch (d : Dev) (s : Sess) : (d.setSession s).tlatch = d.tlatch := rfl
@[simp] theorem Dev.setSession_bus (d : Dev) (s : Sess) : (d.setSession s).bus = d.bus := rfl
@[simp] theorem Dev.setSession_free (d : Dev) (s : Sess) : (d.setSession s).free = d.free := rfl
@[simp] theorem Dev.setSession_xtf (d : Dev) (s : Sess) : (d.setSession s).xtf = d.xtf := rfl
@[simp] theorem Dev.setSession_ldg (d : Dev) (s : Sess) : (d.setSession s).ldg = d.ldg := rfl
@[simp] theorem Dev.setSession_cvu (d : Dev) (s : Sess) : (d.setSession s).cvu = d.cvu := rfl
@[simp] theorem Dev.setSession_cea (d : Dev) (s : Sess) : (d.setSession s).cea = d.cea := rfl
@[simp] theorem Dev.setSession_held (d : Dev) (s : Sess) : (d.setSession s).held = d.held := rfl
@[simp] theorem Dev.setSession_floor (d : Dev) (s : Sess) : (d.setSession s).floor = d.floor := rfl
@[simp] theorem Dev.setSession_stamps (d : Dev) (s : Sess) : (d.setSession s).stamps = d.stamps := rfl
@[simp] theorem Dev.setSession_mdu (d : Dev) (s : Sess) : (d.setSession s).mdu = d.mdu := rfl
@[simp] theorem Dev.setSession_aio (d : Dev) (s : Sess) : (d.setSession s).aio = d.aio := rfl
@[simp] theorem Dev.setSession_can (d : Dev) (s : Sess) : (d.setSession s).can = d.can := rfl
@[simp] theorem Dev.setSession_net (d : Dev) (s : Sess) : (d.setSession s).net = d.net := rfl
@[simp] theorem Dev.setSession_nvs (d : Dev) (s : Sess) : (d.setSession s).nvs = d.nvs := rfl
@[simp] theorem Dev.setSession_sec (d : Dev) (s : Sess) : (d.setSession s).sec = d.sec := rfl
@[simp] theorem Dev.setSession_thm (d : Dev) (s : Sess) : (d.setSession s).thm = d.thm := rfl

/-! ### Events and counters: what recording and counting leave alone -/

/-- `e` is `d` but for the event log, the counters, the marks of bits that hardware has set, and events kept in NV. -/
def Quiet (d e : Dev) : Prop :=
  e = { d with obs := e.obs, evLog := e.evLog, evSeq := e.evSeq, cyc.hwSet := e.cyc.hwSet, pwr.nvEvents := e.pwr.nvEvents }

theorem Quiet.eq {d e : Dev} (h : Quiet d e) :
    e = { d with obs := e.obs, evLog := e.evLog, evSeq := e.evSeq, cyc.hwSet := e.cyc.hwSet, pwr.nvEvents := e.pwr.nvEvents } := h

theorem Quiet.refl (d : Dev) : Quiet d d := rfl

theorem Quiet.trans {a b c : Dev} (h : Quiet a b) (g : Quiet b c) : Quiet a c := by
  unfold Quiet at h g ⊢
  rw [g, h]

theorem quiet_logEvent (e : Ev) (par : List Nat) (d : Dev) : Quiet d (logEvent e par d) := by
  unfold logEvent
  dsimp only
  split <;> rfl

theorem quiet_obsAdd (k : Nat) (d : Dev) : Quiet d (obsAdd k d).2 := by
  unfold obsAdd
  split
  · rfl
  · split
    · rfl
    · dsimp only
      split <;> rfl

theorem quiet_foldl {α : Type} (f : Dev → α → Dev) (hf : ∀ d x, Quiet d (f d x)) (l : List α) (d : Dev) :
    Quiet d (l.foldl f d) := by
  induction l generalizing d with
  | nil => exact .refl d
  | cons x l ih => exact (hf d x).trans (ih _)

theorem quiet_countF (fuel n : Nat) (d : Dev) : Quiet d (countF fuel n d) := by
  induction fuel generalizing n d with
  | zero => exact .refl d
  | succ fuel ih =>
    unfold countF
    refine quiet_foldl _ (fun d k => ?_) _ _
    dsimp only
    split
    · exact ((quiet_obsAdd k d).trans (quiet_logEvent _ _ _)).trans (ih _ _)
    · exact quiet_obsAdd k d

theorem quiet_count (n : Nat) (d : Dev) : Quiet d (count n d) := quiet_countF 3 n d

theorem quiet_countN (n k : Nat) (d : Dev) : Quiet d (countN n k d) := by
  induction k generalizing d with
  | zero => exact .refl d
  | succ k ih => exact (quiet_count n d).trans (ih _)

/-- Raising an event records and counts it, and does nothing else. -/
theorem quiet_raise (e : Ev) (par : List Nat) (d : Dev) : Quiet d (raise e par d) := by
  unfold raise
  dsimp only
  split
  · exact quiet_logEvent e par d
  · exact (quiet_logEvent e par d).trans (quiet_count _ _)

theorem Quiet.now {d e : Dev} (h : Quiet d e) : e.now = d.now := (congrArg Dev.now h.eq :)
theorem Quiet.regs {d e : Dev} (h : Quiet d e) : e.regs = d.regs := (congrArg Dev.regs h.eq :)
theorem Quiet.dict {d e : Dev} (h : Quiet d e) : e.dict = d.dict := (congrArg Dev.dict h.eq :)
theorem Quiet.sram {d e : Dev} (h : Quiet d e) : e.sram = d.sram := (congrArg Dev.sram h.eq :)
theorem Quiet.badWords {d e : Dev} (h : Quiet d e) : e.badWords = d.badWords := (congrArg Dev.badWords h.eq :)
theorem Quiet.win {d e : Dev} (h : Quiet d e) : e.win = d.win := (congrArg Dev.win h.eq :)
theorem Quiet.flash {d e : Dev} (h : Quiet d e) : e.flash = d.flash := (congrArg Dev.flash h.eq :)
theorem Quiet.flashSize {d e : Dev} (h : Quiet d e) : e.flashSize = d.flashSize := (congrArg Dev.flashSize h.eq :)
theorem Quiet.av {d e : Dev} (h : Quiet d e) : e.av = d.av := (congrArg Dev.av h.eq :)
theorem Quiet.tlatch {d e : Dev} (h : Quiet d e) : e.tlatch = d.tlatch := (congrArg Dev.tlatch h.eq :)
theorem Quiet.bus {d e : Dev} (h : Quiet d e) : e.bus = d.bus := (congrArg Dev.bus h.eq :)
theorem Quiet.free {d e : Dev} (h : Quiet d e) : e.free = d.free := (congrArg Dev.free h.eq :)
theorem Quiet.xtf {d e : Dev} (h : Quiet d e) : e.xtf = d.xtf := (congrArg Dev.xtf h.eq :)
theorem Quiet.ldg {d e : Dev} (h : Quiet d e) : e.ldg = d.ldg := (congrArg Dev.ldg h.eq :)
theorem Quiet.cvu {d e : Dev} (h : Quiet d e) : e.cvu = d.cvu := (congrArg Dev.cvu h.eq :)
theorem Quiet.cea {d e : Dev} (h : Quiet d e) : e.cea = d.cea := (congrArg Dev.cea h.eq :)
theorem Quiet.held {d e : Dev} (h : Quiet d e) : e.held = d.held := (congrArg Dev.held h.eq :)
theorem Quiet.floor {d e : Dev} (h : Quiet d e) : e.floor = d.floor := (congrArg Dev.floor h.eq :)
theorem Quiet.stamps {d e : Dev} (h : Quiet d e) : e.stamps = d.stamps := (congrArg Dev.stamps h.eq :)
theorem Quiet.mdu {d e : Dev} (h : Quiet d e) : e.mdu = d.mdu := (congrArg Dev.mdu h.eq :)
theorem Quiet.aio {d e : Dev} (h : Quiet d e) : e.aio = d.aio := (congrArg Dev.aio h.eq :)
theorem Quiet.can {d e : Dev} (h : Quiet d e) : e.can = d.can := (congrArg Dev.can h.eq :)
theorem Quiet.net {d e : Dev} (h : Quiet d e) : e.net = d.net := (congrArg Dev.net h.eq :)
theorem Quiet.heg {d e : Dev} (h : Quiet d e) : e.heg = d.heg := (congrArg Dev.heg h.eq :)
theorem Quiet.nvs {d e : Dev} (h : Quiet d e) : e.nvs = d.nvs := (congrArg Dev.nvs h.eq :)
theorem Quiet.sec {d e : Dev} (h : Quiet d e) : e.sec = d.sec := (congrArg Dev.sec h.eq :)
theorem Quiet.thm {d e : Dev} (h : Quiet d e) : e.thm = d.thm := (congrArg Dev.thm h.eq :)
theorem Quiet.pwr_aon {d e : Dev} (h : Quiet d e) : e.pwr.aon = d.pwr.aon := (congrArg (fun x => x.pwr.aon) h.eq :)
theorem Quiet.pwr_swOpen {d e : Dev} (h : Quiet d e) : e.pwr.swOpen = d.pwr.swOpen := (congrArg (fun x => x.pwr.swOpen) h.eq :)
theorem Quiet.pwr_buck {d e : Dev} (h : Quiet d e) : e.pwr.buck = d.pwr.buck := (congrArg (fun x => x.pwr.buck) h.eq :)
theorem Quiet.pwr_localLine {d e : Dev} (h : Quiet d e) : e.pwr.localLine = d.pwr.localLine := (congrArg (fun x => x.pwr.localLine) h.eq :)
theorem Quiet.pwr_eArmed {d e : Dev} (h : Quiet d e) : e.pwr.eArmed = d.pwr.eArmed := (congrArg (fun x => x.pwr.eArmed) h.eq :)
theorem Quiet.pwr_capPhase {d e : Dev} (h : Quiet d e) : e.pwr.capPhase = d.pwr.capPhase := (congrArg (fun x => x.pwr.capPhase) h.eq :)
theorem Quiet.pwr_capReads {d e : Dev} (h : Quiet d e) : e.pwr.capReads = d.pwr.capReads := (congrArg (fun x => x.pwr.capReads) h.eq :)
theorem Quiet.pwr_capNF {d e : Dev} (h : Quiet d e) : e.pwr.capNF = d.pwr.capNF := (congrArg (fun x => x.pwr.capNF) h.eq :)
theorem Quiet.pwr_vholdMV {d e : Dev} (h : Quiet d e) : e.pwr.vholdMV = d.pwr.vholdMV := (congrArg (fun x => x.pwr.vholdMV) h.eq :)
theorem Quiet.pwr_vlineMV {d e : Dev} (h : Quiet d e) : e.pwr.vlineMV = d.pwr.vlineMV := (congrArg (fun x => x.pwr.vlineMV) h.eq :)
theorem Quiet.pwr_vholdOk {d e : Dev} (h : Quiet d e) : e.pwr.vholdOk = d.pwr.vholdOk := (congrArg (fun x => x.pwr.vholdOk) h.eq :)
theorem Quiet.pwr_vlineOk {d e : Dev} (h : Quiet d e) : e.pwr.vlineOk = d.pwr.vlineOk := (congrArg (fun x => x.pwr.vlineOk) h.eq :)
theorem Quiet.pwr_step {d e : Dev} (h : Quiet d e) : e.pwr.step = d.pwr.step := (congrArg (fun x => x.pwr.step) h.eq :)
theorem Quiet.pwr_bootSel {d e : Dev} (h : Quiet d e) : e.pwr.bootSel = d.pwr.bootSel := (congrArg (fun x => x.pwr.bootSel) h.eq :)
theorem Quiet.pwr_released {d e : Dev} (h : Quiet d e) : e.pwr.released = d.pwr.released := (congrArg (fun x => x.pwr.released) h.eq :)
theorem Quiet.pwr_cfgFailed {d e : Dev} (h : Quiet d e) : e.pwr.cfgFailed = d.pwr.cfgFailed := (congrArg (fun x => x.pwr.cfgFailed) h.eq :)
theorem Quiet.pwr_shortfall {d e : Dev} (h : Quiet d e) : e.pwr.shortfall = d.pwr.shortfall := (congrArg (fun x => x.pwr.shortfall) h.eq :)
theorem Quiet.pwr_hrdy {d e : Dev} (h : Quiet d e) : e.pwr.hrdy = d.pwr.hrdy := (congrArg (fun x => x.pwr.hrdy) h.eq :)
theorem Quiet.pwr_save {d e : Dev} (h : Quiet d e) : e.pwr.save = d.pwr.save := (congrArg (fun x => x.pwr.save) h.eq :)
theorem Quiet.pwr_lineBack {d e : Dev} (h : Quiet d e) : e.pwr.lineBack = d.pwr.lineBack := (congrArg (fun x => x.pwr.lineBack) h.eq :)
theorem Quiet.pwr_thermalOff {d e : Dev} (h : Quiet d e) : e.pwr.thermalOff = d.pwr.thermalOff := (congrArg (fun x => x.pwr.thermalOff) h.eq :)
theorem Quiet.pwr_rccDown {d e : Dev} (h : Quiet d e) : e.pwr.rccDown = d.pwr.rccDown := (congrArg (fun x => x.pwr.rccDown) h.eq :)
theorem Quiet.pwr_pinHeld {d e : Dev} (h : Quiet d e) : e.pwr.pinHeld = d.pwr.pinHeld := (congrArg (fun x => x.pwr.pinHeld) h.eq :)
theorem Quiet.pwr_ctx {d e : Dev} (h : Quiet d e) : e.pwr.ctx = d.pwr.ctx := (congrArg (fun x => x.pwr.ctx) h.eq :)
theorem Quiet.pwr_holdEnd {d e : Dev} (h : Quiet d e) : e.pwr.holdEnd = d.pwr.holdEnd := (congrArg (fun x => x.pwr.holdEnd) h.eq :)
theorem Quiet.pwr_wakeReq {d e : Dev} (h : Quiet d e) : e.pwr.wakeReq = d.pwr.wakeReq := (congrArg (fun x => x.pwr.wakeReq) h.eq :)
theorem Quiet.pwr_coreWait {d e : Dev} (h : Quiet d e) : e.pwr.coreWait = d.pwr.coreWait := (congrArg (fun x => x.pwr.coreWait) h.eq :)
theorem Quiet.pwr_halves {d e : Dev} (h : Quiet d e) : e.pwr.halves = d.pwr.halves := (congrArg (fun x => x.pwr.halves) h.eq :)
theorem Quiet.pwr_halfOff {d e : Dev} (h : Quiet d e) : e.pwr.halfOff = d.pwr.halfOff := (congrArg (fun x => x.pwr.halfOff) h.eq :)
theorem Quiet.pwr_failTimes {d e : Dev} (h : Quiet d e) : e.pwr.failTimes = d.pwr.failTimes := (congrArg (fun x => x.pwr.failTimes) h.eq :)
theorem Quiet.pwr_takeover {d e : Dev} (h : Quiet d e) : e.pwr.takeover = d.pwr.takeover := (congrArg (fun x => x.pwr.takeover) h.eq :)
theorem Quiet.pwr_wdogTimes {d e : Dev} (h : Quiet d e) : e.pwr.wdogTimes = d.pwr.wdogTimes := (congrArg (fun x => x.pwr.wdogTimes) h.eq :)
theorem Quiet.pwr_upSince {d e : Dev} (h : Quiet d e) : e.pwr.upSince = d.pwr.upSince := (congrArg (fun x => x.pwr.upSince) h.eq :)
theorem Quiet.pwr_forced {d e : Dev} (h : Quiet d e) : e.pwr.forced = d.pwr.forced := (congrArg (fun x => x.pwr.forced) h.eq :)
theorem Quiet.cyc_posted {d e : Dev} (h : Quiet d e) : e.cyc.posted = d.cyc.posted := (congrArg (fun x => x.cyc.posted) h.eq :)
theorem Quiet.cyc_data0 {d e : Dev} (h : Quiet d e) : e.cyc.data0 = d.cyc.data0 := (congrArg (fun x => x.cyc.data0) h.eq :)
theorem Quiet.cyc_wrote {d e : Dev} (h : Quiet d e) : e.cyc.wrote = d.cyc.wrote := (congrArg (fun x => x.cyc.wrote) h.eq :)
theorem Quiet.cyc_rcOld {d e : Dev} (h : Quiet d e) : e.cyc.rcOld = d.cyc.rcOld := (congrArg (fun x => x.cyc.rcOld) h.eq :)
theorem Quiet.cyc_posts {d e : Dev} (h : Quiet d e) : e.cyc.posts = d.cyc.posts := (congrArg (fun x => x.cyc.posts) h.eq :)
theorem Quiet.cyc_trigged {d e : Dev} (h : Quiet d e) : e.cyc.trigged = d.cyc.trigged := (congrArg (fun x => x.cyc.trigged) h.eq :)
theorem Quiet.cyc_portOld {d e : Dev} (h : Quiet d e) : e.cyc.portOld = d.cyc.portOld := (congrArg (fun x => x.cyc.portOld) h.eq :)
theorem Quiet.cyc_cvuTrig {d e : Dev} (h : Quiet d e) : e.cyc.cvuTrig = d.cyc.cvuTrig := (congrArg (fun x => x.cyc.cvuTrig) h.eq :)
theorem Quiet.cyc_canCan {d e : Dev} (h : Quiet d e) : e.cyc.canCan = d.cyc.canCan := (congrArg (fun x => x.cyc.canCan) h.eq :)
theorem Quiet.cyc_vlan0 {d e : Dev} (h : Quiet d e) : e.cyc.vlan0 = d.cyc.vlan0 := (congrArg (fun x => x.cyc.vlan0) h.eq :)
theorem Quiet.cyc_netDown {d e : Dev} (h : Quiet d e) : e.cyc.netDown = d.cyc.netDown := (congrArg (fun x => x.cyc.netDown) h.eq :)
theorem Quiet.cyc_ringAdv {d e : Dev} (h : Quiet d e) : e.cyc.ringAdv = d.cyc.ringAdv := (congrArg (fun x => x.cyc.ringAdv) h.eq :)
theorem Quiet.cyc_gpio0 {d e : Dev} (h : Quiet d e) : e.cyc.gpio0 = d.cyc.gpio0 := (congrArg (fun x => x.cyc.gpio0) h.eq :)
theorem Quiet.cyc_flags0 {d e : Dev} (h : Quiet d e) : e.cyc.flags0 = d.cyc.flags0 := (congrArg (fun x => x.cyc.flags0) h.eq :)

@[simp] theorem count_now (n : Nat) (d : Dev) : (count n d).now = d.now := (quiet_count n d).now
@[simp] theorem count_regs (n : Nat) (d : Dev) : (count n d).regs = d.regs := (quiet_count n d).regs
@[simp] theorem count_dict (n : Nat) (d : Dev) : (count n d).dict = d.dict := (quiet_count n d).dict
@[simp] theorem count_sram (n : Nat) (d : Dev) : (count n d).sram = d.sram := (quiet_count n d).sram
@[simp] theorem count_badWords (n : Nat) (d : Dev) : (count n d).badWords = d.badWords := (quiet_count n d).badWords
@[simp] theorem count_win (n : Nat) (d : Dev) : (count n d).win = d.win := (quiet_count n d).win
@[simp] theorem count_flash (n : Nat) (d : Dev) : (count n d).flash = d.flash := (quiet_count n d).flash
@[simp] theorem count_flashSize (n : Nat) (d : Dev) : (count n d).flashSize = d.flashSize := (quiet_count n d).flashSize
@[simp] theorem count_av (n : Nat) (d : Dev) : (count n d).av = d.av := (quiet_count n d).av
@[simp] theorem count_tlatch (n : Nat) (d : Dev) : (count n d).tlatch = d.tlatch := (quiet_count n d).tlatch
@[simp] theorem count_bus (n : Nat) (d : Dev) : (count n d).bus = d.bus := (quiet_count n d).bus
@[simp] theorem count_free (n : Nat) (d : Dev) : (count n d).free = d.free := (quiet_count n d).free
@[simp] theorem count_xtf (n : Nat) (d : Dev) : (count n d).xtf = d.xtf := (quiet_count n d).xtf
@[simp] theorem count_ldg (n : Nat) (d : Dev) : (count n d).ldg = d.ldg := (quiet_count n d).ldg
@[simp] theorem count_cvu (n : Nat) (d : Dev) : (count n d).cvu = d.cvu := (quiet_count n d).cvu
@[simp] theorem count_cea (n : Nat) (d : Dev) : (count n d).cea = d.cea := (quiet_count n d).cea
@[simp] theorem count_held (n : Nat) (d : Dev) : (count n d).held = d.held := (quiet_count n d).held
@[simp] theorem count_floor (n : Nat) (d : Dev) : (count n d).floor = d.floor := (quiet_count n d).floor
@[simp] theorem count_stamps (n : Nat) (d : Dev) : (count n d).stamps = d.stamps := (quiet_count n d).stamps
@[simp] theorem count_mdu (n : Nat) (d : Dev) : (count n d).mdu = d.mdu := (quiet_count n d).mdu
@[simp] theorem count_aio (n : Nat) (d : Dev) : (count n d).aio = d.aio := (quiet_count n d).aio
@[simp] theorem count_can (n : Nat) (d : Dev) : (count n d).can = d.can := (quiet_count n d).can
@[simp] theorem count_net (n : Nat) (d : Dev) : (count n d).net = d.net := (quiet_count n d).net
@[simp] theorem count_heg (n : Nat) (d : Dev) : (count n d).heg = d.heg := (quiet_count n d).heg
@[simp] theorem count_nvs (n : Nat) (d : Dev) : (count n d).nvs = d.nvs := (quiet_count n d).nvs
@[simp] theorem count_sec (n : Nat) (d : Dev) : (count n d).sec = d.sec := (quiet_count n d).sec
@[simp] theorem count_thm (n : Nat) (d : Dev) : (count n d).thm = d.thm := (quiet_count n d).thm
@[simp] theorem count_pwr_aon (n : Nat) (d : Dev) : (count n d).pwr.aon = d.pwr.aon := (quiet_count n d).pwr_aon
@[simp] theorem count_pwr_swOpen (n : Nat) (d : Dev) : (count n d).pwr.swOpen = d.pwr.swOpen := (quiet_count n d).pwr_swOpen
@[simp] theorem count_pwr_buck (n : Nat) (d : Dev) : (count n d).pwr.buck = d.pwr.buck := (quiet_count n d).pwr_buck
@[simp] theorem count_pwr_localLine (n : Nat) (d : Dev) : (count n d).pwr.localLine = d.pwr.localLine := (quiet_count n d).pwr_localLine
@[simp] theorem count_pwr_eArmed (n : Nat) (d : Dev) : (count n d).pwr.eArmed = d.pwr.eArmed := (quiet_count n d).pwr_eArmed
@[simp] theorem count_pwr_capPhase (n : Nat) (d : Dev) : (count n d).pwr.capPhase = d.pwr.capPhase := (quiet_count n d).pwr_capPhase
@[simp] theorem count_pwr_capReads (n : Nat) (d : Dev) : (count n d).pwr.capReads = d.pwr.capReads := (quiet_count n d).pwr_capReads
@[simp] theorem count_pwr_capNF (n : Nat) (d : Dev) : (count n d).pwr.capNF = d.pwr.capNF := (quiet_count n d).pwr_capNF
@[simp] theorem count_pwr_vholdMV (n : Nat) (d : Dev) : (count n d).pwr.vholdMV = d.pwr.vholdMV := (quiet_count n d).pwr_vholdMV
@[simp] theorem count_pwr_vlineMV (n : Nat) (d : Dev) : (count n d).pwr.vlineMV = d.pwr.vlineMV := (quiet_count n d).pwr_vlineMV
@[simp] theorem count_pwr_vholdOk (n : Nat) (d : Dev) : (count n d).pwr.vholdOk = d.pwr.vholdOk := (quiet_count n d).pwr_vholdOk
@[simp] theorem count_pwr_vlineOk (n : Nat) (d : Dev) : (count n d).pwr.vlineOk = d.pwr.vlineOk := (quiet_count n d).pwr_vlineOk
@[simp] theorem count_pwr_step (n : Nat) (d : Dev) : (count n d).pwr.step = d.pwr.step := (quiet_count n d).pwr_step
@[simp] theorem count_pwr_bootSel (n : Nat) (d : Dev) : (count n d).pwr.bootSel = d.pwr.bootSel := (quiet_count n d).pwr_bootSel
@[simp] theorem count_pwr_released (n : Nat) (d : Dev) : (count n d).pwr.released = d.pwr.released := (quiet_count n d).pwr_released
@[simp] theorem count_pwr_cfgFailed (n : Nat) (d : Dev) : (count n d).pwr.cfgFailed = d.pwr.cfgFailed := (quiet_count n d).pwr_cfgFailed
@[simp] theorem count_pwr_shortfall (n : Nat) (d : Dev) : (count n d).pwr.shortfall = d.pwr.shortfall := (quiet_count n d).pwr_shortfall
@[simp] theorem count_pwr_hrdy (n : Nat) (d : Dev) : (count n d).pwr.hrdy = d.pwr.hrdy := (quiet_count n d).pwr_hrdy
@[simp] theorem count_pwr_save (n : Nat) (d : Dev) : (count n d).pwr.save = d.pwr.save := (quiet_count n d).pwr_save
@[simp] theorem count_pwr_lineBack (n : Nat) (d : Dev) : (count n d).pwr.lineBack = d.pwr.lineBack := (quiet_count n d).pwr_lineBack
@[simp] theorem count_pwr_thermalOff (n : Nat) (d : Dev) : (count n d).pwr.thermalOff = d.pwr.thermalOff := (quiet_count n d).pwr_thermalOff
@[simp] theorem count_pwr_rccDown (n : Nat) (d : Dev) : (count n d).pwr.rccDown = d.pwr.rccDown := (quiet_count n d).pwr_rccDown
@[simp] theorem count_pwr_pinHeld (n : Nat) (d : Dev) : (count n d).pwr.pinHeld = d.pwr.pinHeld := (quiet_count n d).pwr_pinHeld
@[simp] theorem count_pwr_ctx (n : Nat) (d : Dev) : (count n d).pwr.ctx = d.pwr.ctx := (quiet_count n d).pwr_ctx
@[simp] theorem count_pwr_holdEnd (n : Nat) (d : Dev) : (count n d).pwr.holdEnd = d.pwr.holdEnd := (quiet_count n d).pwr_holdEnd
@[simp] theorem count_pwr_wakeReq (n : Nat) (d : Dev) : (count n d).pwr.wakeReq = d.pwr.wakeReq := (quiet_count n d).pwr_wakeReq
@[simp] theorem count_pwr_coreWait (n : Nat) (d : Dev) : (count n d).pwr.coreWait = d.pwr.coreWait := (quiet_count n d).pwr_coreWait
@[simp] theorem count_pwr_halves (n : Nat) (d : Dev) : (count n d).pwr.halves = d.pwr.halves := (quiet_count n d).pwr_halves
@[simp] theorem count_pwr_halfOff (n : Nat) (d : Dev) : (count n d).pwr.halfOff = d.pwr.halfOff := (quiet_count n d).pwr_halfOff
@[simp] theorem count_pwr_failTimes (n : Nat) (d : Dev) : (count n d).pwr.failTimes = d.pwr.failTimes := (quiet_count n d).pwr_failTimes
@[simp] theorem count_pwr_takeover (n : Nat) (d : Dev) : (count n d).pwr.takeover = d.pwr.takeover := (quiet_count n d).pwr_takeover
@[simp] theorem count_pwr_wdogTimes (n : Nat) (d : Dev) : (count n d).pwr.wdogTimes = d.pwr.wdogTimes := (quiet_count n d).pwr_wdogTimes
@[simp] theorem count_pwr_upSince (n : Nat) (d : Dev) : (count n d).pwr.upSince = d.pwr.upSince := (quiet_count n d).pwr_upSince
@[simp] theorem count_pwr_forced (n : Nat) (d : Dev) : (count n d).pwr.forced = d.pwr.forced := (quiet_count n d).pwr_forced
@[simp] theorem count_cyc_posted (n : Nat) (d : Dev) : (count n d).cyc.posted = d.cyc.posted := (quiet_count n d).cyc_posted
@[simp] theorem count_cyc_data0 (n : Nat) (d : Dev) : (count n d).cyc.data0 = d.cyc.data0 := (quiet_count n d).cyc_data0
@[simp] theorem count_cyc_wrote (n : Nat) (d : Dev) : (count n d).cyc.wrote = d.cyc.wrote := (quiet_count n d).cyc_wrote
@[simp] theorem count_cyc_rcOld (n : Nat) (d : Dev) : (count n d).cyc.rcOld = d.cyc.rcOld := (quiet_count n d).cyc_rcOld
@[simp] theorem count_cyc_posts (n : Nat) (d : Dev) : (count n d).cyc.posts = d.cyc.posts := (quiet_count n d).cyc_posts
@[simp] theorem count_cyc_trigged (n : Nat) (d : Dev) : (count n d).cyc.trigged = d.cyc.trigged := (quiet_count n d).cyc_trigged
@[simp] theorem count_cyc_portOld (n : Nat) (d : Dev) : (count n d).cyc.portOld = d.cyc.portOld := (quiet_count n d).cyc_portOld
@[simp] theorem count_cyc_cvuTrig (n : Nat) (d : Dev) : (count n d).cyc.cvuTrig = d.cyc.cvuTrig := (quiet_count n d).cyc_cvuTrig
@[simp] theorem count_cyc_canCan (n : Nat) (d : Dev) : (count n d).cyc.canCan = d.cyc.canCan := (quiet_count n d).cyc_canCan
@[simp] theorem count_cyc_vlan0 (n : Nat) (d : Dev) : (count n d).cyc.vlan0 = d.cyc.vlan0 := (quiet_count n d).cyc_vlan0
@[simp] theorem count_cyc_netDown (n : Nat) (d : Dev) : (count n d).cyc.netDown = d.cyc.netDown := (quiet_count n d).cyc_netDown
@[simp] theorem count_cyc_ringAdv (n : Nat) (d : Dev) : (count n d).cyc.ringAdv = d.cyc.ringAdv := (quiet_count n d).cyc_ringAdv
@[simp] theorem count_cyc_gpio0 (n : Nat) (d : Dev) : (count n d).cyc.gpio0 = d.cyc.gpio0 := (quiet_count n d).cyc_gpio0
@[simp] theorem count_cyc_flags0 (n : Nat) (d : Dev) : (count n d).cyc.flags0 = d.cyc.flags0 := (quiet_count n d).cyc_flags0
@[simp] theorem count_rd (n : Nat) (d : Dev) (a : Nat) : (count n d).rd a = d.rd a := by
  simp only [Dev.rd, count_regs]
@[simp] theorem count_get (n : Nat) (d : Dev) (f : Fld) : (count n d).get f = d.get f := by
  simp only [Dev.rd, Dev.get, count_regs]
@[simp] theorem count_bit (n : Nat) (d : Dev) (f : Fld) : (count n d).bit f = d.bit f := by
  simp only [Dev.rd, Dev.get, Dev.bit, count_regs]
@[simp] theorem count_ready (n : Nat) (d : Dev) (k : Nat) : (count n d).ready k = d.ready k := by
  simp only [Dev.rd, Dev.get, Dev.bitN, Dev.ready, count_regs]
@[simp] theorem count_ent (n : Nat) (d : Dev) (idx sub : Nat) : (count n d).ent idx sub = d.ent idx sub := by
  simp only [Dev.ent, count_dict]

@[simp] theorem logEvent_now (e : Ev) (par : List Nat) (d : Dev) : (logEvent e par d).now = d.now := (quiet_logEvent e par d).now
@[simp] theorem logEvent_regs (e : Ev) (par : List Nat) (d : Dev) : (logEvent e par d).regs = d.regs := (quiet_logEvent e par d).regs
@[simp] theorem logEvent_dict (e : Ev) (par : List Nat) (d : Dev) : (logEvent e par d).dict = d.dict := (quiet_logEvent e par d).dict
@[simp] theorem logEvent_sram (e : Ev) (par : List Nat) (d : Dev) : (logEvent e par d).sram = d.sram := (quiet_logEvent e par d).sram
@[simp] theorem logEvent_badWords (e : Ev) (par : List Nat) (d : Dev) : (logEvent e par d).badWords = d.badWords := (quiet_logEvent e par d).badWords
@[simp] theorem logEvent_win (e : Ev) (par : List Nat) (d : Dev) : (logEvent e par d).win = d.win := (quiet_logEvent e par d).win
@[simp] theorem logEvent_flash (e : Ev) (par : List Nat) (d : Dev) : (logEvent e par d).flash = d.flash := (quiet_logEvent e par d).flash
@[simp] theorem logEvent_flashSize (e : Ev) (par : List Nat) (d : Dev) : (logEvent e par d).flashSize = d.flashSize := (quiet_logEvent e par d).flashSize
@[simp] theorem logEvent_av (e : Ev) (par : List Nat) (d : Dev) : (logEvent e par d).av = d.av := (quiet_logEvent e par d).av
@[simp] theorem logEvent_tlatch (e : Ev) (par : List Nat) (d : Dev) : (logEvent e par d).tlatch = d.tlatch := (quiet_logEvent e par d).tlatch
@[simp] theorem logEvent_bus (e : Ev) (par : List Nat) (d : Dev) : (logEvent e par d).bus = d.bus := (quiet_logEvent e par d).bus
@[simp] theorem logEvent_free (e : Ev) (par : List Nat) (d : Dev) : (logEvent e par d).free = d.free := (quiet_logEvent e par d).free
@[simp] theorem logEvent_xtf (e : Ev) (par : List Nat) (d : Dev) : (logEvent e par d).xtf = d.xtf := (quiet_logEvent e par d).xtf
@[simp] theorem logEvent_ldg (e : Ev) (par : List Nat) (d : Dev) : (logEvent e par d).ldg = d.ldg := (quiet_logEvent e par d).ldg
@[simp] theorem logEvent_cvu (e : Ev) (par : List Nat) (d : Dev) : (logEvent e par d).cvu = d.cvu := (quiet_logEvent e par d).cvu
@[simp] theorem logEvent_cea (e : Ev) (par : List Nat) (d : Dev) : (logEvent e par d).cea = d.cea := (quiet_logEvent e par d).cea
@[simp] theorem logEvent_held (e : Ev) (par : List Nat) (d : Dev) : (logEvent e par d).held = d.held := (quiet_logEvent e par d).held
@[simp] theorem logEvent_floor (e : Ev) (par : List Nat) (d : Dev) : (logEvent e par d).floor = d.floor := (quiet_logEvent e par d).floor
@[simp] theorem logEvent_stamps (e : Ev) (par : List Nat) (d : Dev) : (logEvent e par d).stamps = d.stamps := (quiet_logEvent e par d).stamps
@[simp] theorem logEvent_mdu (e : Ev) (par : List Nat) (d : Dev) : (logEvent e par d).mdu = d.mdu := (quiet_logEvent e par d).mdu
@[simp] theorem logEvent_aio (e : Ev) (par : List Nat) (d : Dev) : (logEvent e par d).aio = d.aio := (quiet_logEvent e par d).aio
@[simp] theorem logEvent_can (e : Ev) (par : List Nat) (d : Dev) : (logEvent e par d).can = d.can := (quiet_logEvent e par d).can
@[simp] theorem logEvent_net (e : Ev) (par : List Nat) (d : Dev) : (logEvent e par d).net = d.net := (quiet_logEvent e par d).net
@[simp] theorem logEvent_heg (e : Ev) (par : List Nat) (d : Dev) : (logEvent e par d).heg = d.heg := (quiet_logEvent e par d).heg
@[simp] theorem logEvent_nvs (e : Ev) (par : List Nat) (d : Dev) : (logEvent e par d).nvs = d.nvs := (quiet_logEvent e par d).nvs
@[simp] theorem logEvent_sec (e : Ev) (par : List Nat) (d : Dev) : (logEvent e par d).sec = d.sec := (quiet_logEvent e par d).sec
@[simp] theorem logEvent_thm (e : Ev) (par : List Nat) (d : Dev) : (logEvent e par d).thm = d.thm := (quiet_logEvent e par d).thm
@[simp] theorem logEvent_pwr_aon (e : Ev) (par : List Nat) (d : Dev) : (logEvent e par d).pwr.aon = d.pwr.aon := (quiet_logEvent e par d).pwr_aon
@[simp] theorem logEvent_pwr_swOpen (e : Ev) (par : List Nat) (d : Dev) : (logEvent e par d).pwr.swOpen = d.pwr.swOpen := (quiet_logEvent e par d).pwr_swOpen
@[simp] theorem logEvent_pwr_buck (e : Ev) (par : List Nat) (d : Dev) : (logEvent e par d).pwr.buck = d.pwr.buck := (quiet_logEvent e par d).pwr_buck
@[simp] theorem logEvent_pwr_localLine (e : Ev) (par : List Nat) (d : Dev) : (logEvent e par d).pwr.localLine = d.pwr.localLine := (quiet_logEvent e par d).pwr_localLine
@[simp] theorem logEvent_pwr_eArmed (e : Ev) (par : List Nat) (d : Dev) : (logEvent e par d).pwr.eArmed = d.pwr.eArmed := (quiet_logEvent e par d).pwr_eArmed
@[simp] theorem logEvent_pwr_capPhase (e : Ev) (par : List Nat) (d : Dev) : (logEvent e par d).pwr.capPhase = d.pwr.capPhase := (quiet_logEvent e par d).pwr_capPhase
@[simp] theorem logEvent_pwr_capReads (e : Ev) (par : List Nat) (d : Dev) : (logEvent e par d).pwr.capReads = d.pwr.capReads := (quiet_logEvent e par d).pwr_capReads
@[simp] theorem logEvent_pwr_capNF (e : Ev) (par : List Nat) (d : Dev) : (logEvent e par d).pwr.capNF = d.pwr.capNF := (quiet_logEvent e par d).pwr_capNF
@[simp] theorem logEvent_pwr_vholdMV (e : Ev) (par : List Nat) (d : Dev) : (logEvent e par d).pwr.vholdMV = d.pwr.vholdMV := (quiet_logEvent e par d).pwr_vholdMV
@[simp] theorem logEvent_pwr_vlineMV (e : Ev) (par : List Nat) (d : Dev) : (logEvent e par d).pwr.vlineMV = d.pwr.vlineMV := (quiet_logEvent e par d).pwr_vlineMV
@[simp] theorem logEvent_pwr_vholdOk (e : Ev) (par : List Nat) (d : Dev) : (logEvent e par d).pwr.vholdOk = d.pwr.vholdOk := (quiet_logEvent e par d).pwr_vholdOk
@[simp] theorem logEvent_pwr_vlineOk (e : Ev) (par : List Nat) (d : Dev) : (logEvent e par d).pwr.vlineOk = d.pwr.vlineOk := (quiet_logEvent e par d).pwr_vlineOk
@[simp] theorem logEvent_pwr_step (e : Ev) (par : List Nat) (d : Dev) : (logEvent e par d).pwr.step = d.pwr.step := (quiet_logEvent e par d).pwr_step
@[simp] theorem logEvent_pwr_bootSel (e : Ev) (par : List Nat) (d : Dev) : (logEvent e par d).pwr.bootSel = d.pwr.bootSel := (quiet_logEvent e par d).pwr_bootSel
@[simp] theorem logEvent_pwr_released (e : Ev) (par : List Nat) (d : Dev) : (logEvent e par d).pwr.released = d.pwr.released := (quiet_logEvent e par d).pwr_released
@[simp] theorem logEvent_pwr_cfgFailed (e : Ev) (par : List Nat) (d : Dev) : (logEvent e par d).pwr.cfgFailed = d.pwr.cfgFailed := (quiet_logEvent e par d).pwr_cfgFailed
@[simp] theorem logEvent_pwr_shortfall (e : Ev) (par : List Nat) (d : Dev) : (logEvent e par d).pwr.shortfall = d.pwr.shortfall := (quiet_logEvent e par d).pwr_shortfall
@[simp] theorem logEvent_pwr_hrdy (e : Ev) (par : List Nat) (d : Dev) : (logEvent e par d).pwr.hrdy = d.pwr.hrdy := (quiet_logEvent e par d).pwr_hrdy
@[simp] theorem logEvent_pwr_save (e : Ev) (par : List Nat) (d : Dev) : (logEvent e par d).pwr.save = d.pwr.save := (quiet_logEvent e par d).pwr_save
@[simp] theorem logEvent_pwr_lineBack (e : Ev) (par : List Nat) (d : Dev) : (logEvent e par d).pwr.lineBack = d.pwr.lineBack := (quiet_logEvent e par d).pwr_lineBack
@[simp] theorem logEvent_pwr_thermalOff (e : Ev) (par : List Nat) (d : Dev) : (logEvent e par d).pwr.thermalOff = d.pwr.thermalOff := (quiet_logEvent e par d).pwr_thermalOff
@[simp] theorem logEvent_pwr_rccDown (e : Ev) (par : List Nat) (d : Dev) : (logEvent e par d).pwr.rccDown = d.pwr.rccDown := (quiet_logEvent e par d).pwr_rccDown
@[simp] theorem logEvent_pwr_pinHeld (e : Ev) (par : List Nat) (d : Dev) : (logEvent e par d).pwr.pinHeld = d.pwr.pinHeld := (quiet_logEvent e par d).pwr_pinHeld
@[simp] theorem logEvent_pwr_ctx (e : Ev) (par : List Nat) (d : Dev) : (logEvent e par d).pwr.ctx = d.pwr.ctx := (quiet_logEvent e par d).pwr_ctx
@[simp] theorem logEvent_pwr_holdEnd (e : Ev) (par : List Nat) (d : Dev) : (logEvent e par d).pwr.holdEnd = d.pwr.holdEnd := (quiet_logEvent e par d).pwr_holdEnd
@[simp] theorem logEvent_pwr_wakeReq (e : Ev) (par : List Nat) (d : Dev) : (logEvent e par d).pwr.wakeReq = d.pwr.wakeReq := (quiet_logEvent e par d).pwr_wakeReq
@[simp] theorem logEvent_pwr_coreWait (e : Ev) (par : List Nat) (d : Dev) : (logEvent e par d).pwr.coreWait = d.pwr.coreWait := (quiet_logEvent e par d).pwr_coreWait
@[simp] theorem logEvent_pwr_halves (e : Ev) (par : List Nat) (d : Dev) : (logEvent e par d).pwr.halves = d.pwr.halves := (quiet_logEvent e par d).pwr_halves
@[simp] theorem logEvent_pwr_halfOff (e : Ev) (par : List Nat) (d : Dev) : (logEvent e par d).pwr.halfOff = d.pwr.halfOff := (quiet_logEvent e par d).pwr_halfOff
@[simp] theorem logEvent_pwr_failTimes (e : Ev) (par : List Nat) (d : Dev) : (logEvent e par d).pwr.failTimes = d.pwr.failTimes := (quiet_logEvent e par d).pwr_failTimes
@[simp] theorem logEvent_pwr_takeover (e : Ev) (par : List Nat) (d : Dev) : (logEvent e par d).pwr.takeover = d.pwr.takeover := (quiet_logEvent e par d).pwr_takeover
@[simp] theorem logEvent_pwr_wdogTimes (e : Ev) (par : List Nat) (d : Dev) : (logEvent e par d).pwr.wdogTimes = d.pwr.wdogTimes := (quiet_logEvent e par d).pwr_wdogTimes
@[simp] theorem logEvent_pwr_upSince (e : Ev) (par : List Nat) (d : Dev) : (logEvent e par d).pwr.upSince = d.pwr.upSince := (quiet_logEvent e par d).pwr_upSince
@[simp] theorem logEvent_pwr_forced (e : Ev) (par : List Nat) (d : Dev) : (logEvent e par d).pwr.forced = d.pwr.forced := (quiet_logEvent e par d).pwr_forced
@[simp] theorem logEvent_cyc_posted (e : Ev) (par : List Nat) (d : Dev) : (logEvent e par d).cyc.posted = d.cyc.posted := (quiet_logEvent e par d).cyc_posted
@[simp] theorem logEvent_cyc_data0 (e : Ev) (par : List Nat) (d : Dev) : (logEvent e par d).cyc.data0 = d.cyc.data0 := (quiet_logEvent e par d).cyc_data0
@[simp] theorem logEvent_cyc_wrote (e : Ev) (par : List Nat) (d : Dev) : (logEvent e par d).cyc.wrote = d.cyc.wrote := (quiet_logEvent e par d).cyc_wrote
@[simp] theorem logEvent_cyc_rcOld (e : Ev) (par : List Nat) (d : Dev) : (logEvent e par d).cyc.rcOld = d.cyc.rcOld := (quiet_logEvent e par d).cyc_rcOld
@[simp] theorem logEvent_cyc_posts (e : Ev) (par : List Nat) (d : Dev) : (logEvent e par d).cyc.posts = d.cyc.posts := (quiet_logEvent e par d).cyc_posts
@[simp] theorem logEvent_cyc_trigged (e : Ev) (par : List Nat) (d : Dev) : (logEvent e par d).cyc.trigged = d.cyc.trigged := (quiet_logEvent e par d).cyc_trigged
@[simp] theorem logEvent_cyc_portOld (e : Ev) (par : List Nat) (d : Dev) : (logEvent e par d).cyc.portOld = d.cyc.portOld := (quiet_logEvent e par d).cyc_portOld
@[simp] theorem logEvent_cyc_cvuTrig (e : Ev) (par : List Nat) (d : Dev) : (logEvent e par d).cyc.cvuTrig = d.cyc.cvuTrig := (quiet_logEvent e par d).cyc_cvuTrig
@[simp] theorem logEvent_cyc_canCan (e : Ev) (par : List Nat) (d : Dev) : (logEvent e par d).cyc.canCan = d.cyc.canCan := (quiet_logEvent e par d).cyc_canCan
@[simp] theorem logEvent_cyc_vlan0 (e : Ev) (par : List Nat) (d : Dev) : (logEvent e par d).cyc.vlan0 = d.cyc.vlan0 := (quiet_logEvent e par d).cyc_vlan0
@[simp] theorem logEvent_cyc_netDown (e : Ev) (par : List Nat) (d : Dev) : (logEvent e par d).cyc.netDown = d.cyc.netDown := (quiet_logEvent e par d).cyc_netDown
@[simp] theorem logEvent_cyc_ringAdv (e : Ev) (par : List Nat) (d : Dev) : (logEvent e par d).cyc.ringAdv = d.cyc.ringAdv := (quiet_logEvent e par d).cyc_ringAdv
@[simp] theorem logEvent_cyc_gpio0 (e : Ev) (par : List Nat) (d : Dev) : (logEvent e par d).cyc.gpio0 = d.cyc.gpio0 := (quiet_logEvent e par d).cyc_gpio0
@[simp] theorem logEvent_cyc_flags0 (e : Ev) (par : List Nat) (d : Dev) : (logEvent e par d).cyc.flags0 = d.cyc.flags0 := (quiet_logEvent e par d).cyc_flags0
@[simp] theorem logEvent_rd (e : Ev) (par : List Nat) (d : Dev) (a : Nat) : (logEvent e par d).rd a = d.rd a := by
  simp only [Dev.rd, logEvent_regs]
@[simp] theorem logEvent_get (e : Ev) (par : List Nat) (d : Dev) (f : Fld) : (logEvent e par d).get f = d.get f := by
  simp only [Dev.rd, Dev.get, logEvent_regs]
@[simp] theorem logEvent_bit (e : Ev) (par : List Nat) (d : Dev) (f : Fld) : (logEvent e par d).bit f = d.bit f := by
  simp only [Dev.rd, Dev.get, Dev.bit, logEvent_regs]
@[simp] theorem logEvent_ready (e : Ev) (par : List Nat) (d : Dev) (n : Nat) : (logEvent e par d).ready n = d.ready n := by
  simp only [Dev.rd, Dev.get, Dev.bitN, Dev.ready, logEvent_regs]
@[simp] theorem logEvent_ent (e : Ev) (par : List Nat) (d : Dev) (idx sub : Nat) : (logEvent e par d).ent idx sub = d.ent idx sub := by
  simp only [Dev.ent, logEvent_dict]

@[simp] theorem raise_now (e : Ev) (par : List Nat) (d : Dev) : (raise e par d).now = d.now := (quiet_raise e par d).now
@[simp] theorem raise_regs (e : Ev) (par : List Nat) (d : Dev) : (raise e par d).regs = d.regs := (quiet_raise e par d).regs
@[simp] theorem raise_dict (e : Ev) (par : List Nat) (d : Dev) : (raise e par d).dict = d.dict := (quiet_raise e par d).dict
@[simp] theorem raise_sram (e : Ev) (par : List Nat) (d : Dev) : (raise e par d).sram = d.sram := (quiet_raise e par d).sram
@[simp] theorem raise_badWords (e : Ev) (par : List Nat) (d : Dev) : (raise e par d).badWords = d.badWords := (quiet_raise e par d).badWords
@[simp] theorem raise_win (e : Ev) (par : List Nat) (d : Dev) : (raise e par d).win = d.win := (quiet_raise e par d).win
@[simp] theorem raise_flash (e : Ev) (par : List Nat) (d : Dev) : (raise e par d).flash = d.flash := (quiet_raise e par d).flash
@[simp] theorem raise_flashSize (e : Ev) (par : List Nat) (d : Dev) : (raise e par d).flashSize = d.flashSize := (quiet_raise e par d).flashSize
@[simp] theorem raise_av (e : Ev) (par : List Nat) (d : Dev) : (raise e par d).av = d.av := (quiet_raise e par d).av
@[simp] theorem raise_tlatch (e : Ev) (par : List Nat) (d : Dev) : (raise e par d).tlatch = d.tlatch := (quiet_raise e par d).tlatch
@[simp] theorem raise_bus (e : Ev) (par : List Nat) (d : Dev) : (raise e par d).bus = d.bus := (quiet_raise e par d).bus
@[simp] theorem raise_free (e : Ev) (par : List Nat) (d : Dev) : (raise e par d).free = d.free := (quiet_raise e par d).free
@[simp] theorem raise_xtf (e : Ev) (par : List Nat) (d : Dev) : (raise e par d).xtf = d.xtf := (quiet_raise e par d).xtf
@[simp] theorem raise_ldg (e : Ev) (par : List Nat) (d : Dev) : (raise e par d).ldg = d.ldg := (quiet_raise e par d).ldg
@[simp] theorem raise_cvu (e : Ev) (par : List Nat) (d : Dev) : (raise e par d).cvu = d.cvu := (quiet_raise e par d).cvu
@[simp] theorem raise_cea (e : Ev) (par : List Nat) (d : Dev) : (raise e par d).cea = d.cea := (quiet_raise e par d).cea
@[simp] theorem raise_held (e : Ev) (par : List Nat) (d : Dev) : (raise e par d).held = d.held := (quiet_raise e par d).held
@[simp] theorem raise_floor (e : Ev) (par : List Nat) (d : Dev) : (raise e par d).floor = d.floor := (quiet_raise e par d).floor
@[simp] theorem raise_stamps (e : Ev) (par : List Nat) (d : Dev) : (raise e par d).stamps = d.stamps := (quiet_raise e par d).stamps
@[simp] theorem raise_mdu (e : Ev) (par : List Nat) (d : Dev) : (raise e par d).mdu = d.mdu := (quiet_raise e par d).mdu
@[simp] theorem raise_aio (e : Ev) (par : List Nat) (d : Dev) : (raise e par d).aio = d.aio := (quiet_raise e par d).aio
@[simp] theorem raise_can (e : Ev) (par : List Nat) (d : Dev) : (raise e par d).can = d.can := (quiet_raise e par d).can
@[simp] theorem raise_net (e : Ev) (par : List Nat) (d : Dev) : (raise e par d).net = d.net := (quiet_raise e par d).net
@[simp] theorem raise_heg (e : Ev) (par : List Nat) (d : Dev) : (raise e par d).heg = d.heg := (quiet_raise e par d).heg
@[simp] theorem raise_nvs (e : Ev) (par : List Nat) (d : Dev) : (raise e par d).nvs = d.nvs := (quiet_raise e par d).nvs
@[simp] theorem raise_sec (e : Ev) (par : List Nat) (d : Dev) : (raise e par d).sec = d.sec := (quiet_raise e par d).sec
@[simp] theorem raise_thm (e : Ev) (par : List Nat) (d : Dev) : (raise e par d).thm = d.thm := (quiet_raise e par d).thm
@[simp] theorem raise_pwr_aon (e : Ev) (par : List Nat) (d : Dev) : (raise e par d).pwr.aon = d.pwr.aon := (quiet_raise e par d).pwr_aon
@[simp] theorem raise_pwr_swOpen (e : Ev) (par : List Nat) (d : Dev) : (raise e par d).pwr.swOpen = d.pwr.swOpen := (quiet_raise e par d).pwr_swOpen
@[simp] theorem raise_pwr_buck (e : Ev) (par : List Nat) (d : Dev) : (raise e par d).pwr.buck = d.pwr.buck := (quiet_raise e par d).pwr_buck
@[simp] theorem raise_pwr_localLine (e : Ev) (par : List Nat) (d : Dev) : (raise e par d).pwr.localLine = d.pwr.localLine := (quiet_raise e par d).pwr_localLine
@[simp] theorem raise_pwr_eArmed (e : Ev) (par : List Nat) (d : Dev) : (raise e par d).pwr.eArmed = d.pwr.eArmed := (quiet_raise e par d).pwr_eArmed
@[simp] theorem raise_pwr_capPhase (e : Ev) (par : List Nat) (d : Dev) : (raise e par d).pwr.capPhase = d.pwr.capPhase := (quiet_raise e par d).pwr_capPhase
@[simp] theorem raise_pwr_capReads (e : Ev) (par : List Nat) (d : Dev) : (raise e par d).pwr.capReads = d.pwr.capReads := (quiet_raise e par d).pwr_capReads
@[simp] theorem raise_pwr_capNF (e : Ev) (par : List Nat) (d : Dev) : (raise e par d).pwr.capNF = d.pwr.capNF := (quiet_raise e par d).pwr_capNF
@[simp] theorem raise_pwr_vholdMV (e : Ev) (par : List Nat) (d : Dev) : (raise e par d).pwr.vholdMV = d.pwr.vholdMV := (quiet_raise e par d).pwr_vholdMV
@[simp] theorem raise_pwr_vlineMV (e : Ev) (par : List Nat) (d : Dev) : (raise e par d).pwr.vlineMV = d.pwr.vlineMV := (quiet_raise e par d).pwr_vlineMV
@[simp] theorem raise_pwr_vholdOk (e : Ev) (par : List Nat) (d : Dev) : (raise e par d).pwr.vholdOk = d.pwr.vholdOk := (quiet_raise e par d).pwr_vholdOk
@[simp] theorem raise_pwr_vlineOk (e : Ev) (par : List Nat) (d : Dev) : (raise e par d).pwr.vlineOk = d.pwr.vlineOk := (quiet_raise e par d).pwr_vlineOk
@[simp] theorem raise_pwr_step (e : Ev) (par : List Nat) (d : Dev) : (raise e par d).pwr.step = d.pwr.step := (quiet_raise e par d).pwr_step
@[simp] theorem raise_pwr_bootSel (e : Ev) (par : List Nat) (d : Dev) : (raise e par d).pwr.bootSel = d.pwr.bootSel := (quiet_raise e par d).pwr_bootSel
@[simp] theorem raise_pwr_released (e : Ev) (par : List Nat) (d : Dev) : (raise e par d).pwr.released = d.pwr.released := (quiet_raise e par d).pwr_released
@[simp] theorem raise_pwr_cfgFailed (e : Ev) (par : List Nat) (d : Dev) : (raise e par d).pwr.cfgFailed = d.pwr.cfgFailed := (quiet_raise e par d).pwr_cfgFailed
@[simp] theorem raise_pwr_shortfall (e : Ev) (par : List Nat) (d : Dev) : (raise e par d).pwr.shortfall = d.pwr.shortfall := (quiet_raise e par d).pwr_shortfall
@[simp] theorem raise_pwr_hrdy (e : Ev) (par : List Nat) (d : Dev) : (raise e par d).pwr.hrdy = d.pwr.hrdy := (quiet_raise e par d).pwr_hrdy
@[simp] theorem raise_pwr_save (e : Ev) (par : List Nat) (d : Dev) : (raise e par d).pwr.save = d.pwr.save := (quiet_raise e par d).pwr_save
@[simp] theorem raise_pwr_lineBack (e : Ev) (par : List Nat) (d : Dev) : (raise e par d).pwr.lineBack = d.pwr.lineBack := (quiet_raise e par d).pwr_lineBack
@[simp] theorem raise_pwr_thermalOff (e : Ev) (par : List Nat) (d : Dev) : (raise e par d).pwr.thermalOff = d.pwr.thermalOff := (quiet_raise e par d).pwr_thermalOff
@[simp] theorem raise_pwr_rccDown (e : Ev) (par : List Nat) (d : Dev) : (raise e par d).pwr.rccDown = d.pwr.rccDown := (quiet_raise e par d).pwr_rccDown
@[simp] theorem raise_pwr_pinHeld (e : Ev) (par : List Nat) (d : Dev) : (raise e par d).pwr.pinHeld = d.pwr.pinHeld := (quiet_raise e par d).pwr_pinHeld
@[simp] theorem raise_pwr_ctx (e : Ev) (par : List Nat) (d : Dev) : (raise e par d).pwr.ctx = d.pwr.ctx := (quiet_raise e par d).pwr_ctx
@[simp] theorem raise_pwr_holdEnd (e : Ev) (par : List Nat) (d : Dev) : (raise e par d).pwr.holdEnd = d.pwr.holdEnd := (quiet_raise e par d).pwr_holdEnd
@[simp] theorem raise_pwr_wakeReq (e : Ev) (par : List Nat) (d : Dev) : (raise e par d).pwr.wakeReq = d.pwr.wakeReq := (quiet_raise e par d).pwr_wakeReq
@[simp] theorem raise_pwr_coreWait (e : Ev) (par : List Nat) (d : Dev) : (raise e par d).pwr.coreWait = d.pwr.coreWait := (quiet_raise e par d).pwr_coreWait
@[simp] theorem raise_pwr_halves (e : Ev) (par : List Nat) (d : Dev) : (raise e par d).pwr.halves = d.pwr.halves := (quiet_raise e par d).pwr_halves
@[simp] theorem raise_pwr_halfOff (e : Ev) (par : List Nat) (d : Dev) : (raise e par d).pwr.halfOff = d.pwr.halfOff := (quiet_raise e par d).pwr_halfOff
@[simp] theorem raise_pwr_failTimes (e : Ev) (par : List Nat) (d : Dev) : (raise e par d).pwr.failTimes = d.pwr.failTimes := (quiet_raise e par d).pwr_failTimes
@[simp] theorem raise_pwr_takeover (e : Ev) (par : List Nat) (d : Dev) : (raise e par d).pwr.takeover = d.pwr.takeover := (quiet_raise e par d).pwr_takeover
@[simp] theorem raise_pwr_wdogTimes (e : Ev) (par : List Nat) (d : Dev) : (raise e par d).pwr.wdogTimes = d.pwr.wdogTimes := (quiet_raise e par d).pwr_wdogTimes
@[simp] theorem raise_pwr_upSince (e : Ev) (par : List Nat) (d : Dev) : (raise e par d).pwr.upSince = d.pwr.upSince := (quiet_raise e par d).pwr_upSince
@[simp] theorem raise_pwr_forced (e : Ev) (par : List Nat) (d : Dev) : (raise e par d).pwr.forced = d.pwr.forced := (quiet_raise e par d).pwr_forced
@[simp] theorem raise_cyc_posted (e : Ev) (par : List Nat) (d : Dev) : (raise e par d).cyc.posted = d.cyc.posted := (quiet_raise e par d).cyc_posted
@[simp] theorem raise_cyc_data0 (e : Ev) (par : List Nat) (d : Dev) : (raise e par d).cyc.data0 = d.cyc.data0 := (quiet_raise e par d).cyc_data0
@[simp] theorem raise_cyc_wrote (e : Ev) (par : List Nat) (d : Dev) : (raise e par d).cyc.wrote = d.cyc.wrote := (quiet_raise e par d).cyc_wrote
@[simp] theorem raise_cyc_rcOld (e : Ev) (par : List Nat) (d : Dev) : (raise e par d).cyc.rcOld = d.cyc.rcOld := (quiet_raise e par d).cyc_rcOld
@[simp] theorem raise_cyc_posts (e : Ev) (par : List Nat) (d : Dev) : (raise e par d).cyc.posts = d.cyc.posts := (quiet_raise e par d).cyc_posts
@[simp] theorem raise_cyc_trigged (e : Ev) (par : List Nat) (d : Dev) : (raise e par d).cyc.trigged = d.cyc.trigged := (quiet_raise e par d).cyc_trigged
@[simp] theorem raise_cyc_portOld (e : Ev) (par : List Nat) (d : Dev) : (raise e par d).cyc.portOld = d.cyc.portOld := (quiet_raise e par d).cyc_portOld
@[simp] theorem raise_cyc_cvuTrig (e : Ev) (par : List Nat) (d : Dev) : (raise e par d).cyc.cvuTrig = d.cyc.cvuTrig := (quiet_raise e par d).cyc_cvuTrig
@[simp] theorem raise_cyc_canCan (e : Ev) (par : List Nat) (d : Dev) : (raise e par d).cyc.canCan = d.cyc.canCan := (quiet_raise e par d).cyc_canCan
@[simp] theorem raise_cyc_vlan0 (e : Ev) (par : List Nat) (d : Dev) : (raise e par d).cyc.vlan0 = d.cyc.vlan0 := (quiet_raise e par d).cyc_vlan0
@[simp] theorem raise_cyc_netDown (e : Ev) (par : List Nat) (d : Dev) : (raise e par d).cyc.netDown = d.cyc.netDown := (quiet_raise e par d).cyc_netDown
@[simp] theorem raise_cyc_ringAdv (e : Ev) (par : List Nat) (d : Dev) : (raise e par d).cyc.ringAdv = d.cyc.ringAdv := (quiet_raise e par d).cyc_ringAdv
@[simp] theorem raise_cyc_gpio0 (e : Ev) (par : List Nat) (d : Dev) : (raise e par d).cyc.gpio0 = d.cyc.gpio0 := (quiet_raise e par d).cyc_gpio0
@[simp] theorem raise_cyc_flags0 (e : Ev) (par : List Nat) (d : Dev) : (raise e par d).cyc.flags0 = d.cyc.flags0 := (quiet_raise e par d).cyc_flags0
@[simp] theorem raise_rd (e : Ev) (par : List Nat) (d : Dev) (a : Nat) : (raise e par d).rd a = d.rd a := by
  simp only [Dev.rd, raise_regs]
@[simp] theorem raise_get (e : Ev) (par : List Nat) (d : Dev) (f : Fld) : (raise e par d).get f = d.get f := by
  simp only [Dev.rd, Dev.get, raise_regs]
@[simp] theorem raise_bit (e : Ev) (par : List Nat) (d : Dev) (f : Fld) : (raise e par d).bit f = d.bit f := by
  simp only [Dev.rd, Dev.get, Dev.bit, raise_regs]
@[simp] theorem raise_ready (e : Ev) (par : List Nat) (d : Dev) (n : Nat) : (raise e par d).ready n = d.ready n := by
  simp only [Dev.rd, Dev.get, Dev.bitN, Dev.ready, raise_regs]
@[simp] theorem raise_ent (e : Ev) (par : List Nat) (d : Dev) (idx sub : Nat) : (raise e par d).ent idx sub = d.ent idx sub := by
  simp only [Dev.ent, raise_dict]

end Sys2Proof.Machine
end

