-- ==== Sys2Proof/Laws/Outcome.lean ====
section
/-! SUPPORT. What the shared shapes of a meaning answer: a change of a powered device, and of a block whose domain is ready. -/

namespace Sys2Proof.Machine

/-- On a live device a change is made. -/
theorem State.app_on (s : State) (f : Dev → Dev) (h : s.dev.live = true) : s.app f = .next { s with dev := f s.dev } := by
  simp only [State.app, h, if_true]

/-- A device without power or held in reset does not change. -/
theorem State.app_off (s : State) (f : Dev → Dev) (h : s.dev.live = false) : s.app f = .next s := by
  simp [State.app, h]

/-- Whatever a meaning does, it answers a next state with the same queue. -/
theorem State.app_next (s : State) (f : Dev → Dev) : ∃ e, s.app f = .next { s with dev := e } := ⟨_, rfl⟩

theorem State.mdu_on (s : State) (f : Dev → Dev) (h : s.dev.live = true) (r : s.dev.ready 6 = true) :
    s.mdu f = .next { s with dev := f s.dev } := by
  simp only [State.mdu, s.app_on _ h, r, if_true]

theorem State.aio_on (s : State) (f : Dev → Dev) (h : s.dev.live = true) (r : s.dev.ready 7 = true) :
    s.aio f = .next { s with dev := f s.dev } := by
  simp only [State.aio, s.app_on _ h, r, if_true]

theorem State.net_on (s : State) (f : Dev → Dev) (h : s.dev.live = true) (r : s.dev.ready 8 = true) :
    s.net f = .next { s with dev := f s.dev } := by
  simp only [State.net, s.app_on _ h, r, if_true]

theorem State.can_on (s : State) (f : Dev → Dev) (h : s.dev.live = true) (r : s.dev.ready 9 = true) :
    s.can f = .next { s with dev := f s.dev } := by
  simp only [State.can, s.app_on _ h, r, if_true]

/-- The bus lets a core's write to the NV command interface through (R22, R31). -/
theorem nvIssue_core (ini a : Nat) (f : Dev → Dev) (d : Dev) (h : ini < 8) (r : d.ready 10 = true) : nvIssue ini a f d = f d := by
  have h1 : ¬(ini = 12 ∧ (!debugOpen d) = true) := by omega
  have h2 : ¬(8 ≤ ini ∧ ini ≠ 12 ∧ ini ≠ 14) := by omega
  have h3 : ini ≠ 14 := by omega
  rw [nvIssue, if_neg h1, if_neg h2, r, if_neg (by decide), if_neg h3]

theorem State.nvCommand_core (s : State) (ini op index kind : Nat) (bad : Bool) (h : s.dev.live = true) (c : ini < 8)
    (r : s.dev.ready 10 = true) :
    s.nvCommand ini op index kind bad = .next { s with dev := nvCmd ini (nvOp op index kind bad) s.dev } := by
  rw [State.nvCommand, s.app_on _ h, nvIssue_core _ _ _ _ c r]

theorem State.cvu_on (s : State) (u : Nat) (f : Dev → Dev) (h : s.dev.live = true) (r : s.dev.ready (cvuDom u) = true) :
    s.cvu u f = .next { s with dev := cvuShow u (f s.dev) } := by
  simp only [State.cvu, s.app_on _ h, r, if_true]

end Sys2Proof.Machine
end

