-- ==== Sys2Proof/Laws/Bus.lean ====
section
/-! SUPPORT. Bus accesses of a core: what one does once the checks of the bus have passed (R5, R8, R22, R31), and what recording
a violation does (R35). -/

namespace Sys2Proof.Machine

/-- A violation is recorded in the log, among the violations of the cycle and in the counters, and nothing else changes. -/
theorem quiet_violation (kind addr ini sess : Nat) (write unpriv : Bool) (size : Nat) (d : Dev) :
    Quiet { d with av := (violation kind addr ini sess write unpriv size d).av,
                   cyc.viols := (violation kind addr ini sess write unpriv size d).cyc.viols }
      (violation kind addr ini sess write unpriv size d) := by
  have h1 : Quiet d (count kind (count 0 d)) := (quiet_count 0 d).trans (quiet_count _ _)
  unfold violation
  dsimp only
  generalize count kind (count 0 d) = c at h1 ⊢
  have hc := h1.eq
  repeat' split
  all_goals (unfold Quiet; rw [hc])

/-- SRAM (R27). -/
theorem mapRegion_sram (a : Nat) (h1 : 0x20000000 ≤ a) (h2 : a < 0x20400000) : ∃ g, mapRegion a = some g ∧ (g = 2 ∨ g = 3 ∨ g = 4) ∧ (a < 0x203F0000 → g ≠ 4) := by
  unfold mapRegion; repeat' split
  all_goals first | omega | exact ⟨_, rfl, by decide, fun _ => by decide⟩ | exact ⟨_, rfl, by decide, fun _ => by omega⟩

/-- The boot ROM (R27). -/
theorem mapRegion_rom (a : Nat) (h2 : a < 0x40000) : mapRegion a = some 0 := by
  unfold mapRegion; repeat' split
  all_goals first | rfl | omega

/-- The flash window (R27). -/
theorem mapRegion_flash (a : Nat) (h1 : 0x10000000 ≤ a) (h2 : a < 0x20000000) : mapRegion a = some 1 := by
  unfold mapRegion; repeat' split
  all_goals first | rfl | omega

/-- The NV read window (R27). -/
theorem mapRegion_nv (a : Nat) (h1 : 0x30000000 ≤ a) (h2 : a < 0x30100000) : mapRegion a = some 5 := by
  unfold mapRegion; repeat' split
  all_goals first | rfl | omega

/-- Space between the windows and the alias (R27). -/
theorem mapRegion_none (a : Nat) (h1 : 0x42000000 ≤ a) (h2 : a < 0x60000000) : mapRegion a = none := by
  unfold mapRegion; repeat' split
  all_goals first | rfl | omega

/-- The memory windows (R27). -/
theorem mapRegion_win (a : Nat) (h1 : 0x41000000 ≤ a) (h2 : a < 0x42000000) : mapRegion a = some 7 := by
  unfold mapRegion; repeat' split
  all_goals first | rfl | omega

/-- The alias of the blocks (R27). -/
theorem mapRegion_alias (a : Nat) (h1 : 0x60000000 ≤ a) (h2 : a < 0x61000000) : mapRegion a = some 8 := by
  unfold mapRegion; repeat' split
  all_goals first | rfl | omega

/-- The peripheral blocks (R27). -/
theorem mapRegion_priv (a : Nat) (h1 : 0x40000000 ≤ a) (h2 : a < 0x41000000) : mapRegion a = some 6 := by
  unfold mapRegion; repeat' split
  all_goals first | rfl | omega

/-- A core reaches every region (R22). -/
theorem core_reach {ini : Nat} (h : ini < 8) (d : Dev) (sess g a : Nat) (w : Bool) : inReach d ini sess g a w = true := by
  unfold inReach
  rw [if_pos (by omega)]

/-- A core's write, by the region of its address (R27, R28). -/
theorem busWrite_core {ini : Nat} (h : ini < 8) (sess addr size v : Nat) (d : Dev) {g : Nat} (hg : mapRegion addr = some g) :
    busWrite ini sess addr size v d =
      let unpriv : Bool := decide (0x60000000 ≤ addr ∧ addr < 0x62000000)
      if g ≤ 1 ∨ g = 5 then busViolation 4 addr ini sess true unpriv size d
      else if g ≤ 4 then sramWrite g addr size v d
      else if g = 6 then periphWrite ini sess addr addr size v false d
      else if g = 8 then periphWrite ini sess addr (addr - 0x20000000) size v true d
      else if g = 7 then winWrite ini sess addr addr size v false d
      else winWrite ini sess addr (addr - 0x20000000) size v true d := by
  unfold busWrite
  rw [if_neg (by omega), hg]
  simp only [core_reach h, Bool.not_true, Bool.false_eq_true, if_false]

/-- A core's read, by the region of its address (R27, R28). -/
theorem busReadV_core {ini : Nat} (h : ini < 8) (sess addr size : Nat) (d : Dev) {g : Nat} (hg : mapRegion addr = some g) :
    busReadV ini sess addr size d =
      let unpriv : Bool := decide (0x60000000 ≤ addr ∧ addr < 0x62000000)
      if g = 0 then (romRead addr size, d)
      else if g = 1 then
        if addr - 0x10000000 + size > d.flashSize then (0, busViolation 5 addr ini sess false unpriv size d)
        else (flashRead d (addr - 0x10000000) size, d)
      else if g ≤ 4 then (memRead d.sram addr size, d)
      else if g = 5 then ((nvWindowRead ini (addr - 0x30000000) size d).bus, nvWindowRead ini (addr - 0x30000000) size d)
      else if g = 6 then periphRead ini sess addr addr size false d
      else if g = 8 then periphRead ini sess addr (addr - 0x20000000) size true d
      else if g = 7 then winRead ini sess addr addr size false d
      else winRead ini sess addr (addr - 0x20000000) size true d := by
  unfold busReadV
  rw [if_neg (by omega), hg]
  simp only [core_reach h, Bool.not_true, Bool.false_eq_true, if_false]

/-- Only writes to the MDU and the AIO are kept for a posting of the same cycle (R19). -/
theorem ioNote_other {a : Nat} (h1 : a / 0x10000 ≠ 0x4031) (h2 : a / 0x10000 ≠ 0x4032) (d e : Dev) : ioNote a d e = e := by
  simp only [ioNote, h1, h2, or_self, if_false]

/-- A word write of a core to a peripheral register whose checks find no violation. -/
theorem busWrite_takes {ini sess a v : Nat} {d : Dev} {r : RegRow} {ix : List Nat} {m : Word} (hi : ini < 8) (ha : a % 4 = 0)
    (h1 : 0x40000000 ≤ a) (h2 : a < 0x41000000) (hf : findReg a = some (r, ix)) (hr : d.readyAt a = true)
    (hw : writeCheck ini sess a (word v) false r d = ([], m)) :
    busWrite ini sess a 4 v d = ioNote a (noteWrite a (word v) ini sess false d)
      (regPut ini sess a (word v) m r (noteWrite a (word v) ini sess false d)) := by
  have hg := mapRegion_priv a h1 h2
  have h12 : ¬ ini = 12 := by omega
  have h14 : ¬ ini = 14 := by omega
  have hu : ¬ (0x60000000 ≤ a ∧ a < 0x62000000) := by omega
  have hl : ini ≤ 7 ∨ ini = 12 := by omega
  have hreach : inReach d ini sess 6 a true = true := by unfold inReach; rw [if_pos hl]
  have hal : a / 4 * 4 = a := by omega
  unfold busWrite
  simp only [h12, false_and, if_false, hg, hreach, hu, decide_false, Bool.not_true, Bool.false_eq_true]
  simp only [show ¬ ((6 : Nat) ≤ 1 ∨ (6 : Nat) = 5) by decide, show ¬ ((6 : Nat) ≤ 4) by decide, if_false, if_true]
  unfold periphWrite
  simp only [hal, hf, hr, h14, hw, writeLog, if_false, if_true, false_and, Bool.false_and, Bool.not_true, Bool.false_eq_true, ne_eq,
    not_true_eq_false, List.append_nil]

theorem accFold_bit (p : Acc → Bool) (l : List FieldRow) (m : Word) (i : Nat) (hi : i < 32) :
    (l.foldl (fun m f => if p f.acc then m ||| wMask f.lo f.width else m) m).getLsbD i = true ↔
      m.getLsbD i = true ∨ ∃ f ∈ l, p f.acc = true ∧ f.lo ≤ i ∧ i < f.lo + f.width := by
  induction l generalizing m with
  | nil => simp
  | cons f t ih =>
    rw [List.foldl_cons, ih]
    by_cases hp : p f.acc = true
    · rw [if_pos hp, BitVec.getLsbD_or, wMask_getLsbD]
      simp only [Bool.or_eq_true, Bool.and_eq_true, decide_eq_true_eq, List.mem_cons, exists_eq_or_imp, hp, true_and]
      constructor
      · rintro ((h | h) | h)
        · exact .inl h
        · exact .inr (.inl (by omega))
        · exact .inr (.inr h)
      · rintro (h | h | h)
        · exact .inl (.inl h)
        · exact .inl (.inr (by omega))
        · exact .inr h
    · rw [if_neg hp]
      simp [hp]

/-- A mask of access codes holds the bits of the fields with those codes (R8). -/
theorem accMask_bit (r : RegRow) (p : Acc → Bool) (i : Nat) (hi : i < 32) :
    (accMask r p).getLsbD i = true ↔ ∃ f ∈ r.fields, p f.acc = true ∧ f.lo ≤ i ∧ i < f.lo + f.width := by
  unfold accMask; rw [accFold_bit _ _ _ _ hi]; simp

theorem accMask_bit_false (r : RegRow) (p : Acc → Bool) (i : Nat) (hi : i < 32) (h : ∀ f ∈ r.fields, f.lo ≤ i → i < f.lo + f.width → p f.acc = false) :
    (accMask r p).getLsbD i = false := by
  rw [← Bool.not_eq_true, accMask_bit r p i hi]
  rintro ⟨f, hf, hp, h1, h2⟩
  rw [h f hf h1 h2] at hp; cases hp

/-- A write to a block without rules of its own stores the fields (R8). -/
theorem regPut_plain (ini sess a : Nat) (v m : Word) (r : RegRow) (d : Dev) (h : a / 0x10000 = 0x4001 ∨ a / 0x10000 = 0x4038) :
    regPut ini sess a v m r d = plainPut a (storeBits d a v m r).1 (storeBits d a v m r).2 r d := by
  unfold regPut; dsimp only
  have hb : a / 0x10000 % 0x100 = 1 ∨ a / 0x10000 % 0x100 = 0x38 := by omega
  have hs : a ≠ SCU_AVLOG_CTRL := by intro e; rw [e] at h; simp [SCU_AVLOG_CTRL] at h
  iterate 9 rw [if_neg (by omega)]
  rw [if_neg hs]

/-- A WO bit that a write reaches with 1 is written with 1 (R8). -/
theorem store_bit_wo (d : Dev) (a : Nat) (v m : Word) (r : RegRow) (i : Nat) (hi : i < 32) (hv : v.getLsbD i = true) (hm : m.getLsbD i = true)
    (h : (accMask r (fun x => x == .rw || x == .rwl || x == .wo)).getLsbD i = true) (hc : (accMask r (· == .w1c)).getLsbD i = false) :
    wrote1 (storeBits d a v m r).1 (storeBits d a v m r).2 i = true := by
  have e : ∀ x : Word, x.toNat.testBit i = x.getLsbD i := fun _ => rfl
  simp only [wrote1, storeBits, e]
  rw [BitVec.getLsbD_eq_getElem hi] at hv hm h hc
  simp [hv, hm, h, hc, hi]

end Sys2Proof.Machine
end

