-- ==== Sys2Proof/Laws/Engine.lean ====
section
/-! SUPPORT. The control engines: one instruction of a run in progress (R189, R217 to R219), and the tables of engines, slots
and runs. -/

namespace Sys2Proof.Machine

/-- The fields of a word that is encoded from fields in range (R200). -/
theorem ceWord_eq (op d s t imm : Nat) (ho : op < 64) (hd : d < 16) (hs : s < 16) (ht : t < 16) (hi : imm < 16384) :
    ceWord op d s t imm = ⟨op, d, s, t, imm⟩ := by
  simp only [ceWord, ceFields, ceEncode, CeWord.mk.injEq]
  omega

/-- Without a tap on the slot an instruction captures nothing. -/
theorem capture_none (n kind : Nat) (f : Nat → Option W16) (r : Run) (d : Dev) (h : probesOf d n r.slot kind = []) :
    capture n kind f r d = (r, d) := by
  have hl : newSamples d n kind r f = [] := by simp [newSamples, h]
  unfold capture
  simp only [hl, List.map_nil, List.append_nil]
  split
  · rfl
  · rfl

/-- The run in progress of a ready engine. -/
theorem codeRun_eq {d : Dev} {n : Nat} {r : Run} (hd : d.ready (ceaDom n) = true) (hr : (d.eng n).run = some r)
    (hl : r.lib = 0) : codeRun d n = some r := by
  simp [codeRun, hd, hr, hl]

/-- A word that passes the word check, within the cycle limit and the program memory, executes (R218, R219). -/
theorem preFault_none {i : CeWord} {r : Run} (hc : r.cycles < 65536) (hp : r.pc < 2048) (hw : ceWordOk i r.pc = true) :
    preFault i r = none := by
  have h1 : ¬ r.cycles ≥ 65536 := by omega
  have h2 : ¬ r.pc > 2047 := by omega
  simp [preFault, h1, h2, hw]

/-- The engine has reached the word of which `i` are the fields. -/
theorem ceMiss_false {d : Dev} {n : Nat} {i : CeWord} {r : Run} (h : ceFields (progWord d n r.pc) = i) : ceMiss d n i r = false := by
  simp [ceMiss, h]

/-- A command that names another word than the one the engine has reached changes nothing (log entry 133). -/
theorem ceStep_miss {n : Nat} {i : CeWord} {d : Dev} {r : Run} (sem : Dev → CeWord → Run → CeRes) (hr : codeRun d n = some r)
    (h : ceMiss d n i r = true) : ceStep n i sem d = d := by
  simp [ceStep, hr, h]

/-- Everything one instruction can do to the device when nothing stops it beforehand and no probe taps the slot. -/
theorem ceStep_cases {n : Nat} {i : CeWord} {d : Dev} {r : Run} (sem : Dev → CeWord → Run → CeRes)
    (hr : codeRun d n = some r) (hm : ceMiss d n i r = false) (hf : preFault i r = none) (hp : probesOf d n r.slot 2 = []) :
    ceStep n i sem d =
      match sem d i r with
      | .fault c => runFault n c r d
      | .ok r' =>
        (if i.op = 5 ∧ r.kind = .spec then d.bump (CE_FAULTCNT_SPEC_ST n) else d).setRun n
          (some { r' with cycles := r.cycles + ceCycles i.op })
      | .store r' a v => (setData n a v d).setRun n (some { r' with cycles := r.cycles + ceCycles i.op }) := by
  unfold ceStep
  simp only [hr, hm, hf, capture_none n 2 _ r d hp, Bool.false_eq_true, if_false]
  all_goals (cases sem d i r <;> rfl)

/-- An instruction other than ST that goes on changes the run of its engine and nothing else. -/
theorem exec_seq {n op d s t imm : Nat} {st : State} {r r' : Run} {sem : Dev → CeWord → Run → CeRes}
    (hp : st.dev.live = true) (hd : st.dev.ready (ceaDom n) = true) (hr : (st.dev.eng n).run = some r) (hl : r.lib = 0)
    (hc : r.cycles < 65536) (hpc : r.pc < 2048) (ho : op < 64) (h1 : d < 16) (h2 : s < 16) (h3 : t < 16) (h4 : imm < 16384)
    (hm : ceFields (progWord st.dev n r.pc) = ⟨op, d, s, t, imm⟩) (hw : ceWordOk ⟨op, d, s, t, imm⟩ r.pc = true) (hq : probesOf st.dev n r.slot 2 = []) (h5 : op ≠ 5)
    (h : sem st.dev ⟨op, d, s, t, imm⟩ r = .ok r') :
    st.app (ceStep n (ceWord op d s t imm) sem) =
      .next { st with dev := st.dev.setRun n (some { r' with cycles := r.cycles + ceCycles op }) } := by
  rw [State.app_on _ _ hp, ceWord_eq _ _ _ _ _ ho h1 h2 h3 h4,
    ceStep_cases sem (codeRun_eq hd hr hl) (ceMiss_false hm) (preFault_none hc hpc hw) hq, h]
  simp only [h5, false_and, if_false]

/-- A store to W register `k` reads back. -/
theorem Run.wr_setW_same (r : Run) (k : Nat) (v : W16) : (r.setW k v).wr k = v := by
  simp [Run.wr, Run.setW]

/-- A store to a W register leaves the others. -/
theorem Run.wr_setW_ne (r : Run) {k j : Nat} (v : W16) (h : j % 16 ≠ k % 16) : (r.setW k v).wr j = r.wr j := by
  simp only [Run.wr, Run.setW]
  exact Vector.getElem_set_ne _ _ (by omega)

/-- A store to accumulator `k` reads back. -/
theorem Run.ac_setA_same (r : Run) (k : Nat) (v : W40) : (r.setA k v).ac k = v := by
  simp [Run.ac, Run.setA]

/-- A store to an accumulator leaves the others. -/
theorem Run.ac_setA_ne (r : Run) {k j : Nat} (v : W40) (h : j % 4 ≠ k % 4) : (r.setA k v).ac j = r.ac j := by
  simp only [Run.ac, Run.setA]
  exact Vector.getElem_set_ne _ _ (by omega)

/-- A store to pointer `k` reads back. -/
theorem Run.ptr_setP_same (r : Run) (k : Nat) (v : BitVec 10) : (r.setP k v).ptr k = v := by
  simp [Run.ptr, Run.setP]

/-- A store to a pointer leaves the others. -/
theorem Run.ptr_setP_ne (r : Run) {k j : Nat} (v : BitVec 10) (h : j % 4 ≠ k % 4) : (r.setP k v).ptr j = r.ptr j := by
  simp only [Run.ptr, Run.setP]
  exact Vector.getElem_set_ne _ _ (by omega)

/-- An engine reads as stored. -/
@[simp] theorem Dev.eng_setEng_same (d : Dev) (n : Nat) (e : EngS) : (d.setEng n e).eng n = e :=
  tabGet_tabPut_same _ n e d.cea.eng

/-- Every other engine reads as before. -/
theorem Dev.eng_setEng_ne (d : Dev) {n m : Nat} (h : m ≠ n) (e : EngS) : (d.setEng n e).eng m = d.eng m :=
  tabGet_tabPut_ne _ _ h e d.cea.eng

/-- A slot reads as stored. -/
@[simp] theorem Dev.slot_setSlot_same (d : Dev) (n s : Nat) (x : SlotS) : (d.setSlot n s x).slot n s = x := by
  simp only [Dev.slot, Dev.setSlot, Dev.eng_setEng_same]
  exact tabGet_tabPut_same _ s x _

/-- The run of an engine reads as stored. -/
@[simp] theorem Dev.run_setRun_same (d : Dev) (n : Nat) (r : Option Run) : ((d.setRun n r).eng n).run = r := by
  simp only [Dev.setRun, Dev.eng_setEng_same]

end Sys2Proof.Machine
end

