-- ==== Sys2Proof/Laws/PerInstr.lean ====
section
/-! SUPPORT. The family NoWord: the opcode table gives its rows no bits, so no word of any width spells a command (log entry 2);
one lemma per command. -/

/-- No word spells the command. -/
def Sys2Proof.Laws.NoWord.Statement (i : Sys2Proof.Instr) : Prop := ∀ n w : Nat, Sys2Proof.decodeTableWord n w ≠ some i

theorem Sys2Proof.Laws.NoWord.registerWrite : ∀ x0 x1 x2 x3 x4, Sys2Proof.Laws.NoWord.Statement (.registerWrite x0 x1 x2 x3 x4) := by
  intro _ _ _ _ _ _ _ h; cases h

theorem Sys2Proof.Laws.NoWord.registerRead : ∀ x0 x1 x2 x3, Sys2Proof.Laws.NoWord.Statement (.registerRead x0 x1 x2 x3) := by
  intro _ _ _ _ _ _ h; cases h

theorem Sys2Proof.Laws.NoWord.avlogClear : ∀ x0 x1, Sys2Proof.Laws.NoWord.Statement (.avlogClear x0 x1) := by
  intro _ _ _ _ h; cases h

theorem Sys2Proof.Laws.NoWord.mirrorData : ∀ x0 x1 x2, Sys2Proof.Laws.NoWord.Statement (.mirrorData x0 x1 x2) := by
  intro _ _ _ _ _ h; cases h

theorem Sys2Proof.Laws.NoWord.mirrorDataInc : ∀ x0 x1 x2, Sys2Proof.Laws.NoWord.Statement (.mirrorDataInc x0 x1 x2) := by
  intro _ _ _ _ _ h; cases h

theorem Sys2Proof.Laws.NoWord.halfStop : ∀ x0, Sys2Proof.Laws.NoWord.Statement (.halfStop x0) := by
  intro _ _ _ h; cases h

theorem Sys2Proof.Laws.NoWord.halfRestart : ∀ x0 x1, Sys2Proof.Laws.NoWord.Statement (.halfRestart x0 x1) := by
  intro _ _ _ _ h; cases h

theorem Sys2Proof.Laws.NoWord.sramUncorrectable : ∀ x0 x1 x2 x3, Sys2Proof.Laws.NoWord.Statement (.sramUncorrectable x0 x1 x2 x3) := by
  intro _ _ _ _ _ _ h; cases h

theorem Sys2Proof.Laws.NoWord.domainRelease : ∀ x0, Sys2Proof.Laws.NoWord.Statement (.domainRelease x0) := by
  intro _ _ _ h; cases h

theorem Sys2Proof.Laws.NoWord.powerOnReset : Sys2Proof.Laws.NoWord.Statement .powerOnReset := by
  intro _ _ h; cases h

theorem Sys2Proof.Laws.NoWord.inrushEnd : Sys2Proof.Laws.NoWord.Statement .inrushEnd := by
  intro _ _ h; cases h

theorem Sys2Proof.Laws.NoWord.reverseCurrent : Sys2Proof.Laws.NoWord.Statement .reverseCurrent := by
  intro _ _ h; cases h

theorem Sys2Proof.Laws.NoWord.capMeasureInterval : ∀ x0 x1, Sys2Proof.Laws.NoWord.Statement (.capMeasureInterval x0 x1) := by
  intro _ _ _ _ h; cases h

theorem Sys2Proof.Laws.NoWord.aonReady : ∀ x0, Sys2Proof.Laws.NoWord.Statement (.aonReady x0) := by
  intro _ _ _ h; cases h

theorem Sys2Proof.Laws.NoWord.bootChainVerify : ∀ x0, Sys2Proof.Laws.NoWord.Statement (.bootChainVerify x0) := by
  intro _ _ _ h; cases h

theorem Sys2Proof.Laws.NoWord.journalRecovery : ∀ x0 x1 x2, Sys2Proof.Laws.NoWord.Statement (.journalRecovery x0 x1 x2) := by
  intro _ _ _ _ _ h; cases h

theorem Sys2Proof.Laws.NoWord.runtimeUp : ∀ x0, Sys2Proof.Laws.NoWord.Statement (.runtimeUp x0) := by
  intro _ _ _ h; cases h

theorem Sys2Proof.Laws.NoWord.shadowRestore : ∀ x0 x1, Sys2Proof.Laws.NoWord.Statement (.shadowRestore x0 x1) := by
  intro _ _ _ _ h; cases h

theorem Sys2Proof.Laws.NoWord.configCheck : Sys2Proof.Laws.NoWord.Statement .configCheck := by
  intro _ _ h; cases h

theorem Sys2Proof.Laws.NoWord.outputsReleaseGrant : ∀ x0, Sys2Proof.Laws.NoWord.Statement (.outputsReleaseGrant x0) := by
  intro _ _ _ h; cases h

theorem Sys2Proof.Laws.NoWord.outputsReleaseWithdraw : ∀ x0, Sys2Proof.Laws.NoWord.Statement (.outputsReleaseWithdraw x0) := by
  intro _ _ _ h; cases h

theorem Sys2Proof.Laws.NoWord.timeAcquireTimeout : Sys2Proof.Laws.NoWord.Statement .timeAcquireTimeout := by
  intro _ _ h; cases h

theorem Sys2Proof.Laws.NoWord.ledgerArm : Sys2Proof.Laws.NoWord.Statement .ledgerArm := by
  intro _ _ h; cases h

theorem Sys2Proof.Laws.NoWord.domainReady : ∀ x0, Sys2Proof.Laws.NoWord.Statement (.domainReady x0) := by
  intro _ _ _ h; cases h

theorem Sys2Proof.Laws.NoWord.domreqWrite : ∀ x0 x1 x2, Sys2Proof.Laws.NoWord.Statement (.domreqWrite x0 x1 x2) := by
  intro _ _ _ _ _ h; cases h

theorem Sys2Proof.Laws.NoWord.domainReset : ∀ x0 x1 x2, Sys2Proof.Laws.NoWord.Statement (.domainReset x0 x1 x2) := by
  intro _ _ _ _ _ h; cases h

theorem Sys2Proof.Laws.NoWord.coreWait : ∀ x0 x1, Sys2Proof.Laws.NoWord.Statement (.coreWait x0 x1) := by
  intro _ _ _ _ h; cases h

theorem Sys2Proof.Laws.NoWord.enterNap : Sys2Proof.Laws.NoWord.Statement .enterNap := by
  intro _ _ h; cases h

theorem Sys2Proof.Laws.NoWord.enterDeep : Sys2Proof.Laws.NoWord.Statement .enterDeep := by
  intro _ _ h; cases h

theorem Sys2Proof.Laws.NoWord.forceDeep : ∀ x0 x1, Sys2Proof.Laws.NoWord.Statement (.forceDeep x0 x1) := by
  intro _ _ _ _ h; cases h

theorem Sys2Proof.Laws.NoWord.wakeEvent : ∀ x0, Sys2Proof.Laws.NoWord.Statement (.wakeEvent x0) := by
  intro _ _ _ h; cases h

theorem Sys2Proof.Laws.NoWord.refLost : Sys2Proof.Laws.NoWord.Statement .refLost := by
  intro _ _ h; cases h

theorem Sys2Proof.Laws.NoWord.refBack : Sys2Proof.Laws.NoWord.Statement .refBack := by
  intro _ _ h; cases h

theorem Sys2Proof.Laws.NoWord.clk32Lost : Sys2Proof.Laws.NoWord.Statement .clk32Lost := by
  intro _ _ h; cases h

theorem Sys2Proof.Laws.NoWord.pinReset : Sys2Proof.Laws.NoWord.Statement .pinReset := by
  intro _ _ h; cases h

theorem Sys2Proof.Laws.NoWord.pinResetRelease : Sys2Proof.Laws.NoWord.Statement .pinResetRelease := by
  intro _ _ h; cases h

theorem Sys2Proof.Laws.NoWord.softReset : ∀ x0 x1, Sys2Proof.Laws.NoWord.Statement (.softReset x0 x1) := by
  intro _ _ _ _ h; cases h

theorem Sys2Proof.Laws.NoWord.fullRestartLine : ∀ x0, Sys2Proof.Laws.NoWord.Statement (.fullRestartLine x0) := by
  intro _ _ _ h; cases h

theorem Sys2Proof.Laws.NoWord.rccWatchdog : Sys2Proof.Laws.NoWord.Statement .rccWatchdog := by
  intro _ _ h; cases h

theorem Sys2Proof.Laws.NoWord.lineFail : ∀ x0, Sys2Proof.Laws.NoWord.Statement (.lineFail x0) := by
  intro _ _ _ h; cases h

theorem Sys2Proof.Laws.NoWord.saveComplete : Sys2Proof.Laws.NoWord.Statement .saveComplete := by
  intro _ _ h; cases h

theorem Sys2Proof.Laws.NoWord.holdupExhausted : Sys2Proof.Laws.NoWord.Statement .holdupExhausted := by
  intro _ _ h; cases h

theorem Sys2Proof.Laws.NoWord.vaonFail : Sys2Proof.Laws.NoWord.Statement .vaonFail := by
  intro _ _ h; cases h

theorem Sys2Proof.Laws.NoWord.lineReturn : Sys2Proof.Laws.NoWord.Statement .lineReturn := by
  intro _ _ h; cases h

theorem Sys2Proof.Laws.NoWord.sccpClassification : ∀ x0, Sys2Proof.Laws.NoWord.Statement (.sccpClassification x0) := by
  intro _ _ _ h; cases h

theorem Sys2Proof.Laws.NoWord.clk32Stable : Sys2Proof.Laws.NoWord.Statement .clk32Stable := by
  intro _ _ h; cases h

theorem Sys2Proof.Laws.NoWord.timeLoRead : ∀ x0 x1, Sys2Proof.Laws.NoWord.Statement (.timeLoRead x0 x1) := by
  intro _ _ _ _ h; cases h

theorem Sys2Proof.Laws.NoWord.timeSet : ∀ x0 x1 x2, Sys2Proof.Laws.NoWord.Statement (.timeSet x0 x1 x2) := by
  intro _ _ _ _ _ h; cases h

theorem Sys2Proof.Laws.NoWord.timeSetLine : ∀ x0, Sys2Proof.Laws.NoWord.Statement (.timeSetLine x0) := by
  intro _ _ _ h; cases h

theorem Sys2Proof.Laws.NoWord.slewEnd : Sys2Proof.Laws.NoWord.Statement .slewEnd := by
  intro _ _ h; cases h

theorem Sys2Proof.Laws.NoWord.ptpSync : ∀ x0 x1 x2 x3 x4, Sys2Proof.Laws.NoWord.Statement (.ptpSync x0 x1 x2 x3 x4) := by
  intro _ _ _ _ _ _ _ h; cases h

theorem Sys2Proof.Laws.NoWord.ptpFollowUp : ∀ x0 x1 x2, Sys2Proof.Laws.NoWord.Statement (.ptpFollowUp x0 x1 x2) := by
  intro _ _ _ _ _ h; cases h

theorem Sys2Proof.Laws.NoWord.ptpAnnounce : ∀ x0 x1, Sys2Proof.Laws.NoWord.Statement (.ptpAnnounce x0 x1) := by
  intro _ _ _ _ h; cases h

theorem Sys2Proof.Laws.NoWord.ptpDelayReq : ∀ x0 x1, Sys2Proof.Laws.NoWord.Statement (.ptpDelayReq x0 x1) := by
  intro _ _ _ _ h; cases h

theorem Sys2Proof.Laws.NoWord.ptpDelayResp : ∀ x0 x1 x2 x3, Sys2Proof.Laws.NoWord.Statement (.ptpDelayResp x0 x1 x2 x3) := by
  intro _ _ _ _ _ _ h; cases h

theorem Sys2Proof.Laws.NoWord.ptpPdelayReq : ∀ x0 x1, Sys2Proof.Laws.NoWord.Statement (.ptpPdelayReq x0 x1) := by
  intro _ _ _ _ h; cases h

theorem Sys2Proof.Laws.NoWord.ptpPdelayResp : ∀ x0 x1 x2 x3, Sys2Proof.Laws.NoWord.Statement (.ptpPdelayResp x0 x1 x2 x3) := by
  intro _ _ _ _ _ _ h; cases h

theorem Sys2Proof.Laws.NoWord.ptpManagement : ∀ x0 x1 x2, Sys2Proof.Laws.NoWord.Statement (.ptpManagement x0 x1 x2) := by
  intro _ _ _ _ _ h; cases h

theorem Sys2Proof.Laws.NoWord.ptpMessageTimer : ∀ x0 x1, Sys2Proof.Laws.NoWord.Statement (.ptpMessageTimer x0 x1) := by
  intro _ _ _ _ h; cases h

theorem Sys2Proof.Laws.NoWord.announceTimeout : ∀ x0, Sys2Proof.Laws.NoWord.Statement (.announceTimeout x0) := by
  intro _ _ _ h; cases h

theorem Sys2Proof.Laws.NoWord.ppsinPulse : ∀ x0, Sys2Proof.Laws.NoWord.Statement (.ppsinPulse x0) := by
  intro _ _ _ h; cases h

theorem Sys2Proof.Laws.NoWord.ppsMissing : Sys2Proof.Laws.NoWord.Statement .ppsMissing := by
  intro _ _ h; cases h

theorem Sys2Proof.Laws.NoWord.holdoverLearn : ∀ x0, Sys2Proof.Laws.NoWord.Statement (.holdoverLearn x0) := by
  intro _ _ _ h; cases h

theorem Sys2Proof.Laws.NoWord.holdoverLimit : Sys2Proof.Laws.NoWord.Statement .holdoverLimit := by
  intro _ _ h; cases h

theorem Sys2Proof.Laws.NoWord.holdoverClear : Sys2Proof.Laws.NoWord.Statement .holdoverClear := by
  intro _ _ h; cases h

theorem Sys2Proof.Laws.NoWord.leapApplied : Sys2Proof.Laws.NoWord.Statement .leapApplied := by
  intro _ _ h; cases h

theorem Sys2Proof.Laws.NoWord.ppsoutEdge : ∀ x0, Sys2Proof.Laws.NoWord.Statement (.ppsoutEdge x0) := by
  intro _ _ _ h; cases h

theorem Sys2Proof.Laws.NoWord.tsyncCapture : ∀ x0, Sys2Proof.Laws.NoWord.Statement (.tsyncCapture x0) := by
  intro _ _ _ h; cases h

theorem Sys2Proof.Laws.NoWord.tsyncHiRead : ∀ x0 x1, Sys2Proof.Laws.NoWord.Statement (.tsyncHiRead x0 x1) := by
  intro _ _ _ _ h; cases h

theorem Sys2Proof.Laws.NoWord.localtimeChanged : ∀ x0 x1, Sys2Proof.Laws.NoWord.Statement (.localtimeChanged x0 x1) := by
  intro _ _ _ _ h; cases h

theorem Sys2Proof.Laws.NoWord.sunEventsUpdated : Sys2Proof.Laws.NoWord.Statement .sunEventsUpdated := by
  intro _ _ h; cases h

theorem Sys2Proof.Laws.NoWord.sunPosition : Sys2Proof.Laws.NoWord.Statement .sunPosition := by
  intro _ _ h; cases h

theorem Sys2Proof.Laws.NoWord.ledgerWake : ∀ x0, Sys2Proof.Laws.NoWord.Statement (.ledgerWake x0) := by
  intro _ _ _ h; cases h

theorem Sys2Proof.Laws.NoWord.occurrenceDue : ∀ x0, Sys2Proof.Laws.NoWord.Statement (.occurrenceDue x0) := by
  intro _ _ _ h; cases h

theorem Sys2Proof.Laws.NoWord.deferredPosting : Sys2Proof.Laws.NoWord.Statement .deferredPosting := by
  intro _ _ h; cases h

theorem Sys2Proof.Laws.NoWord.heldPostingApply : ∀ x0, Sys2Proof.Laws.NoWord.Statement (.heldPostingApply x0) := by
  intro _ _ _ h; cases h

theorem Sys2Proof.Laws.NoWord.nop : ∀ x0 x1 x2 x3, Sys2Proof.Laws.NoWord.Statement (.nop x0 x1 x2 x3) := by
  intro _ _ _ _ _ _ h; cases h

theorem Sys2Proof.Laws.NoWord.cvuStart : ∀ x0 x1 x2 x3, Sys2Proof.Laws.NoWord.Statement (.cvuStart x0 x1 x2 x3) := by
  intro _ _ _ _ _ _ h; cases h

theorem Sys2Proof.Laws.NoWord.cvuInject : ∀ x0 x1 x2 x3, Sys2Proof.Laws.NoWord.Statement (.cvuInject x0 x1 x2 x3) := by
  intro _ _ _ _ _ _ h; cases h

theorem Sys2Proof.Laws.NoWord.slotStart : ∀ x0 x1 x2 x3, Sys2Proof.Laws.NoWord.Statement (.slotStart x0 x1 x2 x3) := by
  intro _ _ _ _ _ _ h; cases h

theorem Sys2Proof.Laws.NoWord.escrowPost : ∀ x0 x1 x2 x3, Sys2Proof.Laws.NoWord.Statement (.escrowPost x0 x1 x2 x3) := by
  intro _ _ _ _ _ _ h; cases h

theorem Sys2Proof.Laws.NoWord.outLatch : ∀ x0 x1 x2 x3, Sys2Proof.Laws.NoWord.Statement (.outLatch x0 x1 x2 x3) := by
  intro _ _ _ _ _ _ h; cases h

theorem Sys2Proof.Laws.NoWord.regWrite : ∀ x0 x1 x2 x3, Sys2Proof.Laws.NoWord.Statement (.regWrite x0 x1 x2 x3) := by
  intro _ _ _ _ _ _ h; cases h

theorem Sys2Proof.Laws.NoWord.regSet : ∀ x0 x1 x2 x3, Sys2Proof.Laws.NoWord.Statement (.regSet x0 x1 x2 x3) := by
  intro _ _ _ _ _ _ h; cases h

theorem Sys2Proof.Laws.NoWord.regClr : ∀ x0 x1 x2 x3, Sys2Proof.Laws.NoWord.Statement (.regClr x0 x1 x2 x3) := by
  intro _ _ _ _ _ _ h; cases h

theorem Sys2Proof.Laws.NoWord.canQueue : ∀ x0 x1 x2 x3, Sys2Proof.Laws.NoWord.Statement (.canQueue x0 x1 x2 x3) := by
  intro _ _ _ _ _ _ h; cases h

theorem Sys2Proof.Laws.NoWord.netPublish : ∀ x0 x1 x2 x3, Sys2Proof.Laws.NoWord.Statement (.netPublish x0 x1 x2 x3) := by
  intro _ _ _ _ _ _ h; cases h

theorem Sys2Proof.Laws.NoWord.obsSnapshot : ∀ x0 x1 x2 x3, Sys2Proof.Laws.NoWord.Statement (.obsSnapshot x0 x1 x2 x3) := by
  intro _ _ _ _ _ _ h; cases h

theorem Sys2Proof.Laws.NoWord.flagSet : ∀ x0 x1 x2 x3, Sys2Proof.Laws.NoWord.Statement (.flagSet x0 x1 x2 x3) := by
  intro _ _ _ _ _ _ h; cases h

theorem Sys2Proof.Laws.NoWord.flagClr : ∀ x0 x1 x2 x3, Sys2Proof.Laws.NoWord.Statement (.flagClr x0 x1 x2 x3) := by
  intro _ _ _ _ _ _ h; cases h

theorem Sys2Proof.Laws.NoWord.bookArm : ∀ x0 x1 x2 x3, Sys2Proof.Laws.NoWord.Statement (.bookArm x0 x1 x2 x3) := by
  intro _ _ _ _ _ _ h; cases h

theorem Sys2Proof.Laws.NoWord.bookDisarm : ∀ x0 x1 x2 x3, Sys2Proof.Laws.NoWord.Statement (.bookDisarm x0 x1 x2 x3) := by
  intro _ _ _ _ _ _ h; cases h

theorem Sys2Proof.Laws.NoWord.bookSwap : ∀ x0 x1 x2 x3, Sys2Proof.Laws.NoWord.Statement (.bookSwap x0 x1 x2 x3) := by
  intro _ _ _ _ _ _ h; cases h

theorem Sys2Proof.Laws.NoWord.runtimeEvent : ∀ x0 x1 x2 x3, Sys2Proof.Laws.NoWord.Statement (.runtimeEvent x0 x1 x2 x3) := by
  intro _ _ _ _ _ _ h; cases h

theorem Sys2Proof.Laws.NoWord.ldgArm : ∀ x0 x1 x2, Sys2Proof.Laws.NoWord.Statement (.ldgArm x0 x1 x2) := by
  intro _ _ _ _ _ h; cases h

theorem Sys2Proof.Laws.NoWord.ldgDisarm : ∀ x0 x1 x2, Sys2Proof.Laws.NoWord.Statement (.ldgDisarm x0 x1 x2) := by
  intro _ _ _ _ _ h; cases h

theorem Sys2Proof.Laws.NoWord.ldgCommit : ∀ x0 x1 x2 x3, Sys2Proof.Laws.NoWord.Statement (.ldgCommit x0 x1 x2 x3) := by
  intro _ _ _ _ _ _ h; cases h

theorem Sys2Proof.Laws.NoWord.bookImageWrite : ∀ x0 x1 x2, Sys2Proof.Laws.NoWord.Statement (.bookImageWrite x0 x1 x2) := by
  intro _ _ _ _ _ h; cases h

theorem Sys2Proof.Laws.NoWord.calWindowEnd : ∀ x0 x1 x2 x3 x4, Sys2Proof.Laws.NoWord.Statement (.calWindowEnd x0 x1 x2 x3 x4) := by
  intro _ _ _ _ _ _ _ h; cases h

theorem Sys2Proof.Laws.NoWord.fgcalPending : ∀ x0, Sys2Proof.Laws.NoWord.Statement (.fgcalPending x0) := by
  intro _ _ _ h; cases h

theorem Sys2Proof.Laws.NoWord.fgcalNow : ∀ x0, Sys2Proof.Laws.NoWord.Statement (.fgcalNow x0) := by
  intro _ _ _ h; cases h

theorem Sys2Proof.Laws.NoWord.fgcalStart : ∀ x0, Sys2Proof.Laws.NoWord.Statement (.fgcalStart x0) := by
  intro _ _ _ h; cases h

theorem Sys2Proof.Laws.NoWord.fgcalEnd : ∀ x0 x1, Sys2Proof.Laws.NoWord.Statement (.fgcalEnd x0 x1) := by
  intro _ _ _ _ h; cases h

theorem Sys2Proof.Laws.NoWord.requalify : ∀ x0 x1, Sys2Proof.Laws.NoWord.Statement (.requalify x0 x1) := by
  intro _ _ _ _ h; cases h

theorem Sys2Proof.Laws.NoWord.excCompliance : ∀ x0 x1, Sys2Proof.Laws.NoWord.Statement (.excCompliance x0 x1) := by
  intro _ _ _ _ h; cases h

theorem Sys2Proof.Laws.NoWord.calsetWrite : ∀ x0 x1 x2, Sys2Proof.Laws.NoWord.Statement (.calsetWrite x0 x1 x2) := by
  intro _ _ _ _ _ h; cases h

theorem Sys2Proof.Laws.NoWord.seqEnable : ∀ x0, Sys2Proof.Laws.NoWord.Statement (.seqEnable x0) := by
  intro _ _ _ h; cases h

theorem Sys2Proof.Laws.NoWord.seqDisable : ∀ x0, Sys2Proof.Laws.NoWord.Statement (.seqDisable x0) := by
  intro _ _ _ h; cases h

theorem Sys2Proof.Laws.NoWord.seqStart : ∀ x0, Sys2Proof.Laws.NoWord.Statement (.seqStart x0) := by
  intro _ _ _ h; cases h

theorem Sys2Proof.Laws.NoWord.resultDelivery : ∀ x0 x1 x2 x3 x4, Sys2Proof.Laws.NoWord.Statement (.resultDelivery x0 x1 x2 x3 x4) := by
  intro _ _ _ _ _ _ _ h; cases h

theorem Sys2Proof.Laws.NoWord.cvuInjWrite : ∀ x0 x1, Sys2Proof.Laws.NoWord.Statement (.cvuInjWrite x0 x1) := by
  intro _ _ _ _ h; cases h

theorem Sys2Proof.Laws.NoWord.streamEnable : ∀ x0 x1, Sys2Proof.Laws.NoWord.Statement (.streamEnable x0 x1) := by
  intro _ _ _ _ h; cases h

theorem Sys2Proof.Laws.NoWord.ringRdWrite : ∀ x0 x1 x2, Sys2Proof.Laws.NoWord.Statement (.ringRdWrite x0 x1 x2) := by
  intro _ _ _ _ _ h; cases h

theorem Sys2Proof.Laws.NoWord.nopI : ∀ x0 x1 x2 x3 x4, Sys2Proof.Laws.NoWord.Statement (.nopI x0 x1 x2 x3 x4) := by
  intro _ _ _ _ _ _ _ h; cases h

theorem Sys2Proof.Laws.NoWord.ldi : ∀ x0 x1 x2 x3 x4, Sys2Proof.Laws.NoWord.Statement (.ldi x0 x1 x2 x3 x4) := by
  intro _ _ _ _ _ _ _ h; cases h

theorem Sys2Proof.Laws.NoWord.ldih : ∀ x0 x1 x2 x3 x4, Sys2Proof.Laws.NoWord.Statement (.ldih x0 x1 x2 x3 x4) := by
  intro _ _ _ _ _ _ _ h; cases h

theorem Sys2Proof.Laws.NoWord.mov : ∀ x0 x1 x2 x3 x4, Sys2Proof.Laws.NoWord.Statement (.mov x0 x1 x2 x3 x4) := by
  intro _ _ _ _ _ _ _ h; cases h

theorem Sys2Proof.Laws.NoWord.ld : ∀ x0 x1 x2 x3 x4, Sys2Proof.Laws.NoWord.Statement (.ld x0 x1 x2 x3 x4) := by
  intro _ _ _ _ _ _ _ h; cases h

theorem Sys2Proof.Laws.NoWord.st : ∀ x0 x1 x2 x3 x4, Sys2Proof.Laws.NoWord.Statement (.st x0 x1 x2 x3 x4) := by
  intro _ _ _ _ _ _ _ h; cases h

theorem Sys2Proof.Laws.NoWord.lds : ∀ x0 x1 x2 x3 x4, Sys2Proof.Laws.NoWord.Statement (.lds x0 x1 x2 x3 x4) := by
  intro _ _ _ _ _ _ _ h; cases h

theorem Sys2Proof.Laws.NoWord.sts : ∀ x0 x1 x2 x3 x4, Sys2Proof.Laws.NoWord.Statement (.sts x0 x1 x2 x3 x4) := by
  intro _ _ _ _ _ _ _ h; cases h

theorem Sys2Proof.Laws.NoWord.inP : ∀ x0 x1 x2 x3 x4, Sys2Proof.Laws.NoWord.Statement (.inP x0 x1 x2 x3 x4) := by
  intro _ _ _ _ _ _ _ h; cases h

theorem Sys2Proof.Laws.NoWord.outP : ∀ x0 x1 x2 x3 x4, Sys2Proof.Laws.NoWord.Statement (.outP x0 x1 x2 x3 x4) := by
  intro _ _ _ _ _ _ _ h; cases h

theorem Sys2Proof.Laws.NoWord.add : ∀ x0 x1 x2 x3 x4, Sys2Proof.Laws.NoWord.Statement (.add x0 x1 x2 x3 x4) := by
  intro _ _ _ _ _ _ _ h; cases h

theorem Sys2Proof.Laws.NoWord.adds : ∀ x0 x1 x2 x3 x4, Sys2Proof.Laws.NoWord.Statement (.adds x0 x1 x2 x3 x4) := by
  intro _ _ _ _ _ _ _ h; cases h

theorem Sys2Proof.Laws.NoWord.sub : ∀ x0 x1 x2 x3 x4, Sys2Proof.Laws.NoWord.Statement (.sub x0 x1 x2 x3 x4) := by
  intro _ _ _ _ _ _ _ h; cases h

theorem Sys2Proof.Laws.NoWord.subs : ∀ x0 x1 x2 x3 x4, Sys2Proof.Laws.NoWord.Statement (.subs x0 x1 x2 x3 x4) := by
  intro _ _ _ _ _ _ _ h; cases h

theorem Sys2Proof.Laws.NoWord.neg : ∀ x0 x1 x2 x3 x4, Sys2Proof.Laws.NoWord.Statement (.neg x0 x1 x2 x3 x4) := by
  intro _ _ _ _ _ _ _ h; cases h

theorem Sys2Proof.Laws.NoWord.abs : ∀ x0 x1 x2 x3 x4, Sys2Proof.Laws.NoWord.Statement (.abs x0 x1 x2 x3 x4) := by
  intro _ _ _ _ _ _ _ h; cases h

theorem Sys2Proof.Laws.NoWord.min : ∀ x0 x1 x2 x3 x4, Sys2Proof.Laws.NoWord.Statement (.min x0 x1 x2 x3 x4) := by
  intro _ _ _ _ _ _ _ h; cases h

theorem Sys2Proof.Laws.NoWord.max : ∀ x0 x1 x2 x3 x4, Sys2Proof.Laws.NoWord.Statement (.max x0 x1 x2 x3 x4) := by
  intro _ _ _ _ _ _ _ h; cases h

theorem Sys2Proof.Laws.NoWord.andI : ∀ x0 x1 x2 x3 x4, Sys2Proof.Laws.NoWord.Statement (.andI x0 x1 x2 x3 x4) := by
  intro _ _ _ _ _ _ _ h; cases h

theorem Sys2Proof.Laws.NoWord.orI : ∀ x0 x1 x2 x3 x4, Sys2Proof.Laws.NoWord.Statement (.orI x0 x1 x2 x3 x4) := by
  intro _ _ _ _ _ _ _ h; cases h

theorem Sys2Proof.Laws.NoWord.xorI : ∀ x0 x1 x2 x3 x4, Sys2Proof.Laws.NoWord.Statement (.xorI x0 x1 x2 x3 x4) := by
  intro _ _ _ _ _ _ _ h; cases h

theorem Sys2Proof.Laws.NoWord.shl : ∀ x0 x1 x2 x3 x4, Sys2Proof.Laws.NoWord.Statement (.shl x0 x1 x2 x3 x4) := by
  intro _ _ _ _ _ _ _ h; cases h

theorem Sys2Proof.Laws.NoWord.shr : ∀ x0 x1 x2 x3 x4, Sys2Proof.Laws.NoWord.Statement (.shr x0 x1 x2 x3 x4) := by
  intro _ _ _ _ _ _ _ h; cases h

theorem Sys2Proof.Laws.NoWord.sar : ∀ x0 x1 x2 x3 x4, Sys2Proof.Laws.NoWord.Statement (.sar x0 x1 x2 x3 x4) := by
  intro _ _ _ _ _ _ _ h; cases h

theorem Sys2Proof.Laws.NoWord.mpy : ∀ x0 x1 x2 x3 x4, Sys2Proof.Laws.NoWord.Statement (.mpy x0 x1 x2 x3 x4) := by
  intro _ _ _ _ _ _ _ h; cases h

theorem Sys2Proof.Laws.NoWord.mac : ∀ x0 x1 x2 x3 x4, Sys2Proof.Laws.NoWord.Statement (.mac x0 x1 x2 x3 x4) := by
  intro _ _ _ _ _ _ _ h; cases h

theorem Sys2Proof.Laws.NoWord.msu : ∀ x0 x1 x2 x3 x4, Sys2Proof.Laws.NoWord.Statement (.msu x0 x1 x2 x3 x4) := by
  intro _ _ _ _ _ _ _ h; cases h

theorem Sys2Proof.Laws.NoWord.clra : ∀ x0 x1 x2 x3 x4, Sys2Proof.Laws.NoWord.Statement (.clra x0 x1 x2 x3 x4) := by
  intro _ _ _ _ _ _ _ h; cases h

theorem Sys2Proof.Laws.NoWord.lda : ∀ x0 x1 x2 x3 x4, Sys2Proof.Laws.NoWord.Statement (.lda x0 x1 x2 x3 x4) := by
  intro _ _ _ _ _ _ _ h; cases h

theorem Sys2Proof.Laws.NoWord.sta : ∀ x0 x1 x2 x3 x4, Sys2Proof.Laws.NoWord.Statement (.sta x0 x1 x2 x3 x4) := by
  intro _ _ _ _ _ _ _ h; cases h

theorem Sys2Proof.Laws.NoWord.sha : ∀ x0 x1 x2 x3 x4, Sys2Proof.Laws.NoWord.Statement (.sha x0 x1 x2 x3 x4) := by
  intro _ _ _ _ _ _ _ h; cases h

theorem Sys2Proof.Laws.NoWord.cmp : ∀ x0 x1 x2 x3 x4, Sys2Proof.Laws.NoWord.Statement (.cmp x0 x1 x2 x3 x4) := by
  intro _ _ _ _ _ _ _ h; cases h

theorem Sys2Proof.Laws.NoWord.lim : ∀ x0 x1 x2 x3 x4, Sys2Proof.Laws.NoWord.Statement (.lim x0 x1 x2 x3 x4) := by
  intro _ _ _ _ _ _ _ h; cases h

theorem Sys2Proof.Laws.NoWord.slew : ∀ x0 x1 x2 x3 x4, Sys2Proof.Laws.NoWord.Statement (.slew x0 x1 x2 x3 x4) := by
  intro _ _ _ _ _ _ _ h; cases h

theorem Sys2Proof.Laws.NoWord.deadb : ∀ x0 x1 x2 x3 x4, Sys2Proof.Laws.NoWord.Statement (.deadb x0 x1 x2 x3 x4) := by
  intro _ _ _ _ _ _ _ h; cases h

theorem Sys2Proof.Laws.NoWord.lut : ∀ x0 x1 x2 x3 x4, Sys2Proof.Laws.NoWord.Statement (.lut x0 x1 x2 x3 x4) := by
  intro _ _ _ _ _ _ _ h; cases h

theorem Sys2Proof.Laws.NoWord.sincos : ∀ x0 x1 x2 x3 x4, Sys2Proof.Laws.NoWord.Statement (.sincos x0 x1 x2 x3 x4) := by
  intro _ _ _ _ _ _ _ h; cases h

theorem Sys2Proof.Laws.NoWord.div : ∀ x0 x1 x2 x3 x4, Sys2Proof.Laws.NoWord.Statement (.div x0 x1 x2 x3 x4) := by
  intro _ _ _ _ _ _ _ h; cases h

theorem Sys2Proof.Laws.NoWord.sqrt : ∀ x0 x1 x2 x3 x4, Sys2Proof.Laws.NoWord.Statement (.sqrt x0 x1 x2 x3 x4) := by
  intro _ _ _ _ _ _ _ h; cases h

theorem Sys2Proof.Laws.NoWord.bra : ∀ x0 x1 x2 x3 x4, Sys2Proof.Laws.NoWord.Statement (.bra x0 x1 x2 x3 x4) := by
  intro _ _ _ _ _ _ _ h; cases h

theorem Sys2Proof.Laws.NoWord.bcc : ∀ x0 x1 x2 x3 x4, Sys2Proof.Laws.NoWord.Statement (.bcc x0 x1 x2 x3 x4) := by
  intro _ _ _ _ _ _ _ h; cases h

theorem Sys2Proof.Laws.NoWord.loopI : ∀ x0 x1 x2 x3 x4, Sys2Proof.Laws.NoWord.Statement (.loopI x0 x1 x2 x3 x4) := by
  intro _ _ _ _ _ _ _ h; cases h

theorem Sys2Proof.Laws.NoWord.trig : ∀ x0 x1 x2 x3 x4, Sys2Proof.Laws.NoWord.Statement (.trig x0 x1 x2 x3 x4) := by
  intro _ _ _ _ _ _ _ h; cases h

theorem Sys2Proof.Laws.NoWord.endI : ∀ x0, Sys2Proof.Laws.NoWord.Statement (.endI x0) := by
  intro _ _ _ h; cases h

theorem Sys2Proof.Laws.NoWord.runFault : ∀ x0, Sys2Proof.Laws.NoWord.Statement (.runFault x0) := by
  intro _ _ _ h; cases h

theorem Sys2Proof.Laws.NoWord.runLimit : ∀ x0, Sys2Proof.Laws.NoWord.Statement (.runLimit x0) := by
  intro _ _ _ h; cases h

theorem Sys2Proof.Laws.NoWord.faultClr : ∀ x0, Sys2Proof.Laws.NoWord.Statement (.faultClr x0) := by
  intro _ _ _ h; cases h

theorem Sys2Proof.Laws.NoWord.engineImageLoad : ∀ x0 x1, Sys2Proof.Laws.NoWord.Statement (.engineImageLoad x0 x1) := by
  intro _ _ _ _ h; cases h

theorem Sys2Proof.Laws.NoWord.libBind : ∀ x0 x1 x2 x3 x4, Sys2Proof.Laws.NoWord.Statement (.libBind x0 x1 x2 x3 x4) := by
  intro _ _ _ _ _ _ _ h; cases h

theorem Sys2Proof.Laws.NoWord.removeProg : ∀ x0 x1, Sys2Proof.Laws.NoWord.Statement (.removeProg x0 x1) := by
  intro _ _ _ _ h; cases h

theorem Sys2Proof.Laws.NoWord.slotEnable : ∀ x0 x1, Sys2Proof.Laws.NoWord.Statement (.slotEnable x0 x1) := by
  intro _ _ _ _ h; cases h

theorem Sys2Proof.Laws.NoWord.slotDisable : ∀ x0 x1, Sys2Proof.Laws.NoWord.Statement (.slotDisable x0 x1) := by
  intro _ _ _ _ h; cases h

theorem Sys2Proof.Laws.NoWord.slotStartWrite : ∀ x0 x1, Sys2Proof.Laws.NoWord.Statement (.slotStartWrite x0 x1) := by
  intro _ _ _ _ h; cases h

theorem Sys2Proof.Laws.NoWord.slotTrigger : ∀ x0 x1, Sys2Proof.Laws.NoWord.Statement (.slotTrigger x0 x1) := by
  intro _ _ _ _ h; cases h

theorem Sys2Proof.Laws.NoWord.runStart : ∀ x0, Sys2Proof.Laws.NoWord.Statement (.runStart x0) := by
  intro _ _ _ h; cases h

theorem Sys2Proof.Laws.NoWord.specStartTime : ∀ x0 x1, Sys2Proof.Laws.NoWord.Statement (.specStartTime x0 x1) := by
  intro _ _ _ _ h; cases h

theorem Sys2Proof.Laws.NoWord.sampleInstant : ∀ x0 x1, Sys2Proof.Laws.NoWord.Statement (.sampleInstant x0 x1) := by
  intro _ _ _ _ h; cases h

theorem Sys2Proof.Laws.NoWord.specNoTrigger : ∀ x0 x1, Sys2Proof.Laws.NoWord.Statement (.specNoTrigger x0 x1) := by
  intro _ _ _ _ h; cases h

theorem Sys2Proof.Laws.NoWord.slotArm : ∀ x0 x1, Sys2Proof.Laws.NoWord.Statement (.slotArm x0 x1) := by
  intro _ _ _ _ h; cases h

theorem Sys2Proof.Laws.NoWord.routeWrite : ∀ x0 x1 x2 x3, Sys2Proof.Laws.NoWord.Statement (.routeWrite x0 x1 x2 x3) := by
  intro _ _ _ _ _ _ h; cases h

theorem Sys2Proof.Laws.NoWord.swapBoundary : ∀ x0, Sys2Proof.Laws.NoWord.Statement (.swapBoundary x0) := by
  intro _ _ _ h; cases h

theorem Sys2Proof.Laws.NoWord.traceEnable : ∀ x0, Sys2Proof.Laws.NoWord.Statement (.traceEnable x0) := by
  intro _ _ _ h; cases h

theorem Sys2Proof.Laws.NoWord.zoneEvaluation : Sys2Proof.Laws.NoWord.Statement .zoneEvaluation := by
  intro _ _ h; cases h

theorem Sys2Proof.Laws.NoWord.dayBookCompile : Sys2Proof.Laws.NoWord.Statement .dayBookCompile := by
  intro _ _ h; cases h

theorem Sys2Proof.Laws.NoWord.dayBookRecompile : Sys2Proof.Laws.NoWord.Statement .dayBookRecompile := by
  intro _ _ h; cases h

theorem Sys2Proof.Laws.NoWord.lightRestage : ∀ x0, Sys2Proof.Laws.NoWord.Statement (.lightRestage x0) := by
  intro _ _ _ h; cases h

theorem Sys2Proof.Laws.NoWord.lightSwitched : ∀ x0, Sys2Proof.Laws.NoWord.Statement (.lightSwitched x0) := by
  intro _ _ _ h; cases h

theorem Sys2Proof.Laws.NoWord.hostHeartbeat : ∀ x0 x1, Sys2Proof.Laws.NoWord.Statement (.hostHeartbeat x0 x1) := by
  intro _ _ _ _ h; cases h

theorem Sys2Proof.Laws.NoWord.hostLost : Sys2Proof.Laws.NoWord.Statement .hostLost := by
  intro _ _ h; cases h

theorem Sys2Proof.Laws.NoWord.tmrEnable : ∀ x0, Sys2Proof.Laws.NoWord.Statement (.tmrEnable x0) := by
  intro _ _ _ h; cases h

theorem Sys2Proof.Laws.NoWord.pwmValley : ∀ x0, Sys2Proof.Laws.NoWord.Statement (.pwmValley x0) := by
  intro _ _ _ h; cases h

theorem Sys2Proof.Laws.NoWord.centreTrigger : ∀ x0, Sys2Proof.Laws.NoWord.Statement (.centreTrigger x0) := by
  intro _ _ _ h; cases h

theorem Sys2Proof.Laws.NoWord.mfltFault : ∀ x0 x1, Sys2Proof.Laws.NoWord.Statement (.mfltFault x0 x1) := by
  intro _ _ _ _ h; cases h

theorem Sys2Proof.Laws.NoWord.runWrite : ∀ x0 x1, Sys2Proof.Laws.NoWord.Statement (.runWrite x0 x1) := by
  intro _ _ _ _ h; cases h

theorem Sys2Proof.Laws.NoWord.motorRun : ∀ x0, Sys2Proof.Laws.NoWord.Statement (.motorRun x0) := by
  intro _ _ _ h; cases h

theorem Sys2Proof.Laws.NoWord.startWindow : ∀ x0, Sys2Proof.Laws.NoWord.Statement (.startWindow x0) := by
  intro _ _ _ h; cases h

theorem Sys2Proof.Laws.NoWord.retryPause : ∀ x0, Sys2Proof.Laws.NoWord.Statement (.retryPause x0) := by
  intro _ _ _ h; cases h

theorem Sys2Proof.Laws.NoWord.motorStall : ∀ x0, Sys2Proof.Laws.NoWord.Statement (.motorStall x0) := by
  intro _ _ _ h; cases h

theorem Sys2Proof.Laws.NoWord.motorStopped : ∀ x0, Sys2Proof.Laws.NoWord.Statement (.motorStopped x0) := by
  intro _ _ _ h; cases h

theorem Sys2Proof.Laws.NoWord.motorClear : ∀ x0, Sys2Proof.Laws.NoWord.Statement (.motorClear x0) := by
  intro _ _ _ h; cases h

theorem Sys2Proof.Laws.NoWord.attemptReset : ∀ x0, Sys2Proof.Laws.NoWord.Statement (.attemptReset x0) := by
  intro _ _ _ h; cases h

theorem Sys2Proof.Laws.NoWord.fanPeriodStart : ∀ x0, Sys2Proof.Laws.NoWord.Statement (.fanPeriodStart x0) := by
  intro _ _ _ h; cases h

theorem Sys2Proof.Laws.NoWord.tachUpdate : ∀ x0 x1, Sys2Proof.Laws.NoWord.Statement (.tachUpdate x0 x1) := by
  intro _ _ _ _ h; cases h

theorem Sys2Proof.Laws.NoWord.tachTimeout : ∀ x0, Sys2Proof.Laws.NoWord.Statement (.tachTimeout x0) := by
  intro _ _ _ h; cases h

theorem Sys2Proof.Laws.NoWord.fanTargetWrite : ∀ x0 x1, Sys2Proof.Laws.NoWord.Statement (.fanTargetWrite x0 x1) := by
  intro _ _ _ _ h; cases h

theorem Sys2Proof.Laws.NoWord.kickEnd : ∀ x0, Sys2Proof.Laws.NoWord.Statement (.kickEnd x0) := by
  intro _ _ _ h; cases h

theorem Sys2Proof.Laws.NoWord.fanPauseEnd : ∀ x0, Sys2Proof.Laws.NoWord.Statement (.fanPauseEnd x0) := by
  intro _ _ _ h; cases h

theorem Sys2Proof.Laws.NoWord.tachLostTimeout : ∀ x0, Sys2Proof.Laws.NoWord.Statement (.tachLostTimeout x0) := by
  intro _ _ _ h; cases h

theorem Sys2Proof.Laws.NoWord.fanClear : ∀ x0, Sys2Proof.Laws.NoWord.Statement (.fanClear x0) := by
  intro _ _ _ h; cases h

theorem Sys2Proof.Laws.NoWord.bandLearn : ∀ x0, Sys2Proof.Laws.NoWord.Statement (.bandLearn x0) := by
  intro _ _ _ h; cases h

theorem Sys2Proof.Laws.NoWord.ageingSample : ∀ x0, Sys2Proof.Laws.NoWord.Statement (.ageingSample x0) := by
  intro _ _ _ h; cases h

theorem Sys2Proof.Laws.NoWord.ageingLearn : ∀ x0 x1, Sys2Proof.Laws.NoWord.Statement (.ageingLearn x0 x1) := by
  intro _ _ _ _ h; cases h

theorem Sys2Proof.Laws.NoWord.coastElapsed : ∀ x0, Sys2Proof.Laws.NoWord.Statement (.coastElapsed x0) := by
  intro _ _ _ h; cases h

theorem Sys2Proof.Laws.NoWord.actOvercurrent : ∀ x0, Sys2Proof.Laws.NoWord.Statement (.actOvercurrent x0) := by
  intro _ _ _ h; cases h

theorem Sys2Proof.Laws.NoWord.actocClear : ∀ x0, Sys2Proof.Laws.NoWord.Statement (.actocClear x0) := by
  intro _ _ _ h; cases h

theorem Sys2Proof.Laws.NoWord.actPulseEnd : ∀ x0, Sys2Proof.Laws.NoWord.Statement (.actPulseEnd x0) := by
  intro _ _ _ h; cases h

theorem Sys2Proof.Laws.NoWord.pairGapEnd : ∀ x0, Sys2Proof.Laws.NoWord.Statement (.pairGapEnd x0) := by
  intro _ _ _ h; cases h

theorem Sys2Proof.Laws.NoWord.latchApply : ∀ x0, Sys2Proof.Laws.NoWord.Statement (.latchApply x0) := by
  intro _ _ _ h; cases h

theorem Sys2Proof.Laws.NoWord.gpioInput : ∀ x0 x1 x2, Sys2Proof.Laws.NoWord.Statement (.gpioInput x0 x1 x2) := by
  intro _ _ _ _ _ h; cases h

theorem Sys2Proof.Laws.NoWord.gcapRead : ∀ x0 x1 x2, Sys2Proof.Laws.NoWord.Statement (.gcapRead x0 x1 x2) := by
  intro _ _ _ _ _ h; cases h

theorem Sys2Proof.Laws.NoWord.i2cEnable : ∀ x0, Sys2Proof.Laws.NoWord.Statement (.i2cEnable x0) := by
  intro _ _ _ h; cases h

theorem Sys2Proof.Laws.NoWord.i2cDisable : ∀ x0, Sys2Proof.Laws.NoWord.Statement (.i2cDisable x0) := by
  intro _ _ _ h; cases h

theorem Sys2Proof.Laws.NoWord.i2cRound : ∀ x0 x1, Sys2Proof.Laws.NoWord.Statement (.i2cRound x0 x1) := by
  intro _ _ _ _ h; cases h

theorem Sys2Proof.Laws.NoWord.i2cWait : ∀ x0, Sys2Proof.Laws.NoWord.Statement (.i2cWait x0) := by
  intro _ _ _ h; cases h

theorem Sys2Proof.Laws.NoWord.i2cEntryDone : ∀ x0 x1 x2 x3, Sys2Proof.Laws.NoWord.Statement (.i2cEntryDone x0 x1 x2 x3) := by
  intro _ _ _ _ _ _ h; cases h

theorem Sys2Proof.Laws.NoWord.i2cStretchTimeout : ∀ x0 x1, Sys2Proof.Laws.NoWord.Statement (.i2cStretchTimeout x0 x1) := by
  intro _ _ _ _ h; cases h

theorem Sys2Proof.Laws.NoWord.canModeWrite : ∀ x0 x1, Sys2Proof.Laws.NoWord.Statement (.canModeWrite x0 x1) := by
  intro _ _ _ _ h; cases h

theorem Sys2Proof.Laws.NoWord.adrDwell : ∀ x0, Sys2Proof.Laws.NoWord.Statement (.adrDwell x0) := by
  intro _ _ _ h; cases h

theorem Sys2Proof.Laws.NoWord.canTxreq : ∀ x0 x1, Sys2Proof.Laws.NoWord.Statement (.canTxreq x0 x1) := by
  intro _ _ _ _ h; cases h

theorem Sys2Proof.Laws.NoWord.canTxcan : ∀ x0 x1, Sys2Proof.Laws.NoWord.Statement (.canTxcan x0 x1) := by
  intro _ _ _ _ h; cases h

theorem Sys2Proof.Laws.NoWord.canSof : ∀ x0, Sys2Proof.Laws.NoWord.Statement (.canSof x0) := by
  intro _ _ _ h; cases h

theorem Sys2Proof.Laws.NoWord.canFrameSent : ∀ x0 x1 x2, Sys2Proof.Laws.NoWord.Statement (.canFrameSent x0 x1 x2) := by
  intro _ _ _ _ _ h; cases h

theorem Sys2Proof.Laws.NoWord.canError : ∀ x0 x1, Sys2Proof.Laws.NoWord.Statement (.canError x0 x1) := by
  intro _ _ _ _ h; cases h

theorem Sys2Proof.Laws.NoWord.busoffRecovery : ∀ x0, Sys2Proof.Laws.NoWord.Statement (.busoffRecovery x0) := by
  intro _ _ _ h; cases h

theorem Sys2Proof.Laws.NoWord.clearBo : ∀ x0, Sys2Proof.Laws.NoWord.Statement (.clearBo x0) := by
  intro _ _ _ h; cases h

theorem Sys2Proof.Laws.NoWord.canFrameReceived : ∀ x0 x1, Sys2Proof.Laws.NoWord.Statement (.canFrameReceived x0 x1) := by
  intro _ _ _ _ h; cases h

theorem Sys2Proof.Laws.NoWord.rxhRead : ∀ x0 x1 x2 x3 x4, Sys2Proof.Laws.NoWord.Statement (.rxhRead x0 x1 x2 x3 x4) := by
  intro _ _ _ _ _ _ _ h; cases h

theorem Sys2Proof.Laws.NoWord.rxUnlock : ∀ x0 x1, Sys2Proof.Laws.NoWord.Statement (.rxUnlock x0 x1) := by
  intro _ _ _ _ h; cases h

theorem Sys2Proof.Laws.NoWord.rxDrop : ∀ x0 x1, Sys2Proof.Laws.NoWord.Statement (.rxDrop x0 x1) := by
  intro _ _ _ _ h; cases h

theorem Sys2Proof.Laws.NoWord.hushReq : ∀ x0 x1, Sys2Proof.Laws.NoWord.Statement (.hushReq x0 x1) := by
  intro _ _ _ _ h; cases h

theorem Sys2Proof.Laws.NoWord.hushAck : ∀ x0 x1, Sys2Proof.Laws.NoWord.Statement (.hushAck x0 x1) := by
  intro _ _ _ _ h; cases h

theorem Sys2Proof.Laws.NoWord.hushDeadline : ∀ x0, Sys2Proof.Laws.NoWord.Statement (.hushDeadline x0) := by
  intro _ _ _ h; cases h

theorem Sys2Proof.Laws.NoWord.busloadWindow : ∀ x0 x1, Sys2Proof.Laws.NoWord.Statement (.busloadWindow x0 x1) := by
  intro _ _ _ _ h; cases h

theorem Sys2Proof.Laws.NoWord.nodeAnnounce : ∀ x0 x1 x2, Sys2Proof.Laws.NoWord.Statement (.nodeAnnounce x0 x1 x2) := by
  intro _ _ _ _ _ h; cases h

theorem Sys2Proof.Laws.NoWord.beacon : ∀ x0, Sys2Proof.Laws.NoWord.Statement (.beacon x0) := by
  intro _ _ _ h; cases h

theorem Sys2Proof.Laws.NoWord.cutTime : ∀ x0, Sys2Proof.Laws.NoWord.Statement (.cutTime x0) := by
  intro _ _ _ h; cases h

theorem Sys2Proof.Laws.NoWord.canSegRestored : ∀ x0, Sys2Proof.Laws.NoWord.Statement (.canSegRestored x0) := by
  intro _ _ _ h; cases h

theorem Sys2Proof.Laws.NoWord.segClear : ∀ x0, Sys2Proof.Laws.NoWord.Statement (.segClear x0) := by
  intro _ _ _ h; cases h

theorem Sys2Proof.Laws.NoWord.segOff : ∀ x0 x1, Sys2Proof.Laws.NoWord.Statement (.segOff x0 x1) := by
  intro _ _ _ _ h; cases h

theorem Sys2Proof.Laws.NoWord.hegusSingle : ∀ x0 x1 x2, Sys2Proof.Laws.NoWord.Statement (.hegusSingle x0 x1 x2) := by
  intro _ _ _ _ _ h; cases h

theorem Sys2Proof.Laws.NoWord.hegusFirst : ∀ x0 x1 x2, Sys2Proof.Laws.NoWord.Statement (.hegusFirst x0 x1 x2) := by
  intro _ _ _ _ _ h; cases h

theorem Sys2Proof.Laws.NoWord.hegusConsecutive : ∀ x0 x1 x2, Sys2Proof.Laws.NoWord.Statement (.hegusConsecutive x0 x1 x2) := by
  intro _ _ _ _ _ h; cases h

theorem Sys2Proof.Laws.NoWord.hegusFlow : ∀ x0 x1 x2, Sys2Proof.Laws.NoWord.Statement (.hegusFlow x0 x1 x2) := by
  intro _ _ _ _ _ h; cases h

theorem Sys2Proof.Laws.NoWord.hegusCanTimeout : ∀ x0 x1 x2, Sys2Proof.Laws.NoWord.Statement (.hegusCanTimeout x0 x1 x2) := by
  intro _ _ _ _ _ h; cases h

theorem Sys2Proof.Laws.NoWord.fnsFrameReceived : ∀ x0 x1, Sys2Proof.Laws.NoWord.Statement (.fnsFrameReceived x0 x1) := by
  intro _ _ _ _ h; cases h

theorem Sys2Proof.Laws.NoWord.fnsFrameTransmit : ∀ x0, Sys2Proof.Laws.NoWord.Statement (.fnsFrameTransmit x0) := by
  intro _ _ _ h; cases h

theorem Sys2Proof.Laws.NoWord.macAge : ∀ x0, Sys2Proof.Laws.NoWord.Statement (.macAge x0) := by
  intro _ _ _ h; cases h

theorem Sys2Proof.Laws.NoWord.portEnable : ∀ x0 x1, Sys2Proof.Laws.NoWord.Statement (.portEnable x0 x1) := by
  intro _ _ _ _ h; cases h

theorem Sys2Proof.Laws.NoWord.linkUp : ∀ x0 x1, Sys2Proof.Laws.NoWord.Statement (.linkUp x0 x1) := by
  intro _ _ _ _ h; cases h

theorem Sys2Proof.Laws.NoWord.linkDown : ∀ x0, Sys2Proof.Laws.NoWord.Statement (.linkDown x0) := by
  intro _ _ _ h; cases h

theorem Sys2Proof.Laws.NoWord.plcaBeacon : ∀ x0, Sys2Proof.Laws.NoWord.Statement (.plcaBeacon x0) := by
  intro _ _ _ h; cases h

theorem Sys2Proof.Laws.NoWord.sqiUpdate : ∀ x0 x1, Sys2Proof.Laws.NoWord.Statement (.sqiUpdate x0 x1) := by
  intro _ _ _ _ h; cases h

theorem Sys2Proof.Laws.NoWord.cableTest : ∀ x0, Sys2Proof.Laws.NoWord.Statement (.cableTest x0) := by
  intro _ _ _ h; cases h

theorem Sys2Proof.Laws.NoWord.cableTestDone : ∀ x0 x1 x2, Sys2Proof.Laws.NoWord.Statement (.cableTestDone x0 x1 x2) := by
  intro _ _ _ _ _ h; cases h

theorem Sys2Proof.Laws.NoWord.loopCheck : Sys2Proof.Laws.NoWord.Statement .loopCheck := by
  intro _ _ h; cases h

theorem Sys2Proof.Laws.NoWord.addrConflict : ∀ x0, Sys2Proof.Laws.NoWord.Statement (.addrConflict x0) := by
  intro _ _ _ h; cases h

theorem Sys2Proof.Laws.NoWord.dhcpv4AttemptTimeout : Sys2Proof.Laws.NoWord.Statement .dhcpv4AttemptTimeout := by
  intro _ _ h; cases h

theorem Sys2Proof.Laws.NoWord.duplicateAddressDetection : ∀ x0 x1, Sys2Proof.Laws.NoWord.Statement (.duplicateAddressDetection x0 x1) := by
  intro _ _ _ _ h; cases h

theorem Sys2Proof.Laws.NoWord.read : ∀ x0 x1 x2, Sys2Proof.Laws.NoWord.Statement (.read x0 x1 x2) := by
  intro _ _ _ _ _ h; cases h

theorem Sys2Proof.Laws.NoWord.write : ∀ x0 x1 x2 x3, Sys2Proof.Laws.NoWord.Statement (.write x0 x1 x2 x3) := by
  intro _ _ _ _ _ _ h; cases h

theorem Sys2Proof.Laws.NoWord.readMulti : ∀ x0 x1, Sys2Proof.Laws.NoWord.Statement (.readMulti x0 x1) := by
  intro _ _ _ _ h; cases h

theorem Sys2Proof.Laws.NoWord.writeMulti : ∀ x0 x1 x2, Sys2Proof.Laws.NoWord.Statement (.writeMulti x0 x1 x2) := by
  intro _ _ _ _ _ h; cases h

theorem Sys2Proof.Laws.NoWord.timedWrite : ∀ x0, Sys2Proof.Laws.NoWord.Statement (.timedWrite x0) := by
  intro _ _ _ h; cases h

theorem Sys2Proof.Laws.NoWord.timedCancel : ∀ x0 x1, Sys2Proof.Laws.NoWord.Statement (.timedCancel x0 x1) := by
  intro _ _ _ _ h; cases h

theorem Sys2Proof.Laws.NoWord.subscribe : ∀ x0 x1 x2 x3 x4 x5, Sys2Proof.Laws.NoWord.Statement (.subscribe x0 x1 x2 x3 x4 x5) := by
  intro _ _ _ _ _ _ _ _ h; cases h

theorem Sys2Proof.Laws.NoWord.unsubscribe : ∀ x0 x1, Sys2Proof.Laws.NoWord.Statement (.unsubscribe x0 x1) := by
  intro _ _ _ _ h; cases h

theorem Sys2Proof.Laws.NoWord.notify : ∀ x0 x1, Sys2Proof.Laws.NoWord.Statement (.notify x0 x1) := by
  intro _ _ _ _ h; cases h

theorem Sys2Proof.Laws.NoWord.describe : ∀ x0 x1 x2, Sys2Proof.Laws.NoWord.Statement (.describe x0 x1 x2) := by
  intro _ _ _ _ _ h; cases h

theorem Sys2Proof.Laws.NoWord.blockStart : ∀ x0 x1 x2 x3 x4, Sys2Proof.Laws.NoWord.Statement (.blockStart x0 x1 x2 x3 x4) := by
  intro _ _ _ _ _ _ _ h; cases h

theorem Sys2Proof.Laws.NoWord.blockData : ∀ x0 x1 x2 x3, Sys2Proof.Laws.NoWord.Statement (.blockData x0 x1 x2 x3) := by
  intro _ _ _ _ _ _ h; cases h

theorem Sys2Proof.Laws.NoWord.blockEnd : ∀ x0 x1 x2, Sys2Proof.Laws.NoWord.Statement (.blockEnd x0 x1 x2) := by
  intro _ _ _ _ _ h; cases h

theorem Sys2Proof.Laws.NoWord.blockAbort : ∀ x0 x1, Sys2Proof.Laws.NoWord.Statement (.blockAbort x0 x1) := by
  intro _ _ _ _ h; cases h

theorem Sys2Proof.Laws.NoWord.blockTimeout : ∀ x0 x1, Sys2Proof.Laws.NoWord.Statement (.blockTimeout x0 x1) := by
  intro _ _ _ _ h; cases h

theorem Sys2Proof.Laws.NoWord.sessionOpen : ∀ x0 x1, Sys2Proof.Laws.NoWord.Statement (.sessionOpen x0 x1) := by
  intro _ _ _ _ h; cases h

theorem Sys2Proof.Laws.NoWord.sessionClose : ∀ x0, Sys2Proof.Laws.NoWord.Statement (.sessionClose x0) := by
  intro _ _ _ h; cases h

theorem Sys2Proof.Laws.NoWord.sessionIdle : ∀ x0, Sys2Proof.Laws.NoWord.Statement (.sessionIdle x0) := by
  intro _ _ _ h; cases h

theorem Sys2Proof.Laws.NoWord.authBegin : ∀ x0 x1 x2 x3, Sys2Proof.Laws.NoWord.Statement (.authBegin x0 x1 x2 x3) := by
  intro _ _ _ _ _ _ h; cases h

theorem Sys2Proof.Laws.NoWord.authProof : ∀ x0 x1, Sys2Proof.Laws.NoWord.Statement (.authProof x0 x1) := by
  intro _ _ _ _ h; cases h

theorem Sys2Proof.Laws.NoWord.clientHello : ∀ x0 x1 x2 x3 x4 x5, Sys2Proof.Laws.NoWord.Statement (.clientHello x0 x1 x2 x3 x4 x5) := by
  intro _ _ _ _ _ _ _ _ h; cases h

theorem Sys2Proof.Laws.NoWord.spiTransfer : ∀ x0 x1 x2, Sys2Proof.Laws.NoWord.Statement (.spiTransfer x0 x1 x2) := by
  intro _ _ _ _ _ h; cases h

theorem Sys2Proof.Laws.NoWord.appSchemaWrite : ∀ x0 x1, Sys2Proof.Laws.NoWord.Statement (.appSchemaWrite x0 x1) := by
  intro _ _ _ _ h; cases h

theorem Sys2Proof.Laws.NoWord.hegusLockoutEnd : ∀ x0, Sys2Proof.Laws.NoWord.Statement (.hegusLockoutEnd x0) := by
  intro _ _ _ h; cases h

theorem Sys2Proof.Laws.NoWord.nvWindowRead : ∀ x0 x1 x2, Sys2Proof.Laws.NoWord.Statement (.nvWindowRead x0 x1 x2) := by
  intro _ _ _ _ _ h; cases h

theorem Sys2Proof.Laws.NoWord.claim : ∀ x0, Sys2Proof.Laws.NoWord.Statement (.claim x0) := by
  intro _ _ _ h; cases h

theorem Sys2Proof.Laws.NoWord.release : ∀ x0, Sys2Proof.Laws.NoWord.Statement (.release x0) := by
  intro _ _ _ h; cases h

theorem Sys2Proof.Laws.NoWord.nvWrite : ∀ x0 x1, Sys2Proof.Laws.NoWord.Statement (.nvWrite x0 x1) := by
  intro _ _ _ _ h; cases h

theorem Sys2Proof.Laws.NoWord.txnBegin : ∀ x0, Sys2Proof.Laws.NoWord.Statement (.txnBegin x0) := by
  intro _ _ _ h; cases h

theorem Sys2Proof.Laws.NoWord.txnAdd : ∀ x0 x1, Sys2Proof.Laws.NoWord.Statement (.txnAdd x0 x1) := by
  intro _ _ _ _ h; cases h

theorem Sys2Proof.Laws.NoWord.txnCommit : ∀ x0, Sys2Proof.Laws.NoWord.Statement (.txnCommit x0) := by
  intro _ _ _ h; cases h

theorem Sys2Proof.Laws.NoWord.txnAbort : ∀ x0, Sys2Proof.Laws.NoWord.Statement (.txnAbort x0) := by
  intro _ _ _ h; cases h

theorem Sys2Proof.Laws.NoWord.nvsTxnComplete : ∀ x0, Sys2Proof.Laws.NoWord.Statement (.nvsTxnComplete x0) := by
  intro _ _ _ h; cases h

theorem Sys2Proof.Laws.NoWord.unlock : ∀ x0 x1 x2, Sys2Proof.Laws.NoWord.Statement (.unlock x0 x1 x2) := by
  intro _ _ _ _ _ h; cases h

theorem Sys2Proof.Laws.NoWord.relock : ∀ x0 x1 x2, Sys2Proof.Laws.NoWord.Statement (.relock x0 x1 x2) := by
  intro _ _ _ _ _ h; cases h

theorem Sys2Proof.Laws.NoWord.setPwd : ∀ x0 x1 x2, Sys2Proof.Laws.NoWord.Statement (.setPwd x0 x1 x2) := by
  intro _ _ _ _ _ h; cases h

theorem Sys2Proof.Laws.NoWord.setRegion : ∀ x0 x1, Sys2Proof.Laws.NoWord.Statement (.setRegion x0 x1) := by
  intro _ _ _ _ h; cases h

theorem Sys2Proof.Laws.NoWord.tallyInc : ∀ x0 x1, Sys2Proof.Laws.NoWord.Statement (.tallyInc x0 x1) := by
  intro _ _ _ _ h; cases h

theorem Sys2Proof.Laws.NoWord.checkpoint : ∀ x0, Sys2Proof.Laws.NoWord.Statement (.checkpoint x0) := by
  intro _ _ _ h; cases h

theorem Sys2Proof.Laws.NoWord.unlockExpiry : ∀ x0 x1 x2, Sys2Proof.Laws.NoWord.Statement (.unlockExpiry x0 x1 x2) := by
  intro _ _ _ _ _ h; cases h

theorem Sys2Proof.Laws.NoWord.sealAdvance : ∀ x0 x1, Sys2Proof.Laws.NoWord.Statement (.sealAdvance x0 x1) := by
  intro _ _ _ _ h; cases h

theorem Sys2Proof.Laws.NoWord.checkpointComplete : Sys2Proof.Laws.NoWord.Statement .checkpointComplete := by
  intro _ _ h; cases h

theorem Sys2Proof.Laws.NoWord.nvLockoutEnd : ∀ x0, Sys2Proof.Laws.NoWord.Statement (.nvLockoutEnd x0) := by
  intro _ _ _ h; cases h

theorem Sys2Proof.Laws.NoWord.trngFault : ∀ x0 x1, Sys2Proof.Laws.NoWord.Statement (.trngFault x0 x1) := by
  intro _ _ _ _ h; cases h

theorem Sys2Proof.Laws.NoWord.trngRecovered : Sys2Proof.Laws.NoWord.Statement .trngRecovered := by
  intro _ _ h; cases h

theorem Sys2Proof.Laws.NoWord.secTamper : ∀ x0, Sys2Proof.Laws.NoWord.Statement (.secTamper x0) := by
  intro _ _ _ h; cases h

theorem Sys2Proof.Laws.NoWord.lcRequest : ∀ x0 x1 x2, Sys2Proof.Laws.NoWord.Statement (.lcRequest x0 x1 x2) := by
  intro _ _ _ _ _ h; cases h

theorem Sys2Proof.Laws.NoWord.debugToken : ∀ x0, Sys2Proof.Laws.NoWord.Statement (.debugToken x0) := by
  intro _ _ _ h; cases h

theorem Sys2Proof.Laws.NoWord.updateContainer : ∀ x0 x1, Sys2Proof.Laws.NoWord.Statement (.updateContainer x0 x1) := by
  intro _ _ _ _ h; cases h

theorem Sys2Proof.Laws.NoWord.flashBlockFill : ∀ x0 x1 x2, Sys2Proof.Laws.NoWord.Statement (.flashBlockFill x0 x1 x2) := by
  intro _ _ _ _ _ h; cases h

theorem Sys2Proof.Laws.NoWord.recoveryImage : ∀ x0 x1, Sys2Proof.Laws.NoWord.Statement (.recoveryImage x0 x1) := by
  intro _ _ _ _ h; cases h

theorem Sys2Proof.Laws.NoWord.attestNonce : ∀ x0 x1, Sys2Proof.Laws.NoWord.Statement (.attestNonce x0 x1) := by
  intro _ _ _ _ h; cases h

theorem Sys2Proof.Laws.NoWord.certifiedMode : ∀ x0 x1, Sys2Proof.Laws.NoWord.Statement (.certifiedMode x0 x1) := by
  intro _ _ _ _ h; cases h

theorem Sys2Proof.Laws.NoWord.activateAt : ∀ x0 x1 x2, Sys2Proof.Laws.NoWord.Statement (.activateAt x0 x1 x2) := by
  intro _ _ _ _ _ h; cases h

theorem Sys2Proof.Laws.NoWord.activationSwitchover : ∀ x0, Sys2Proof.Laws.NoWord.Statement (.activationSwitchover x0) := by
  intro _ _ _ h; cases h

theorem Sys2Proof.Laws.NoWord.healthFail : ∀ x0 x1, Sys2Proof.Laws.NoWord.Statement (.healthFail x0 x1) := by
  intro _ _ _ _ h; cases h

theorem Sys2Proof.Laws.NoWord.healthWindowEnd : ∀ x0, Sys2Proof.Laws.NoWord.Statement (.healthWindowEnd x0) := by
  intro _ _ _ h; cases h

theorem Sys2Proof.Laws.NoWord.actRolledBack : ∀ x0, Sys2Proof.Laws.NoWord.Statement (.actRolledBack x0) := by
  intro _ _ _ h; cases h

theorem Sys2Proof.Laws.NoWord.runtimeHandoverStage : ∀ x0, Sys2Proof.Laws.NoWord.Statement (.runtimeHandoverStage x0) := by
  intro _ _ _ h; cases h

theorem Sys2Proof.Laws.NoWord.tellerRestart : ∀ x0, Sys2Proof.Laws.NoWord.Statement (.tellerRestart x0) := by
  intro _ _ _ h; cases h

theorem Sys2Proof.Laws.NoWord.trngWaitTimeout : ∀ x0 x1, Sys2Proof.Laws.NoWord.Statement (.trngWaitTimeout x0 x1) := by
  intro _ _ _ _ h; cases h

theorem Sys2Proof.Laws.NoWord.timeFloorUpdate : Sys2Proof.Laws.NoWord.Statement .timeFloorUpdate := by
  intro _ _ h; cases h

theorem Sys2Proof.Laws.NoWord.debugPortReset : Sys2Proof.Laws.NoWord.Statement .debugPortReset := by
  intro _ _ h; cases h

theorem Sys2Proof.Laws.NoWord.swapActivateAt : ∀ x0 x1 x2, Sys2Proof.Laws.NoWord.Statement (.swapActivateAt x0 x1 x2) := by
  intro _ _ _ _ _ h; cases h

theorem Sys2Proof.Laws.NoWord.hkcConversion : ∀ x0 x1, Sys2Proof.Laws.NoWord.Statement (.hkcConversion x0 x1) := by
  intro _ _ _ _ h; cases h

theorem Sys2Proof.Laws.NoWord.thermalHoldEnd : Sys2Proof.Laws.NoWord.Statement .thermalHoldEnd := by
  intro _ _ h; cases h

theorem Sys2Proof.Laws.NoWord.thermalTrip : Sys2Proof.Laws.NoWord.Statement .thermalTrip := by
  intro _ _ h; cases h

theorem Sys2Proof.Laws.NoWord.thermalRestart : Sys2Proof.Laws.NoWord.Statement .thermalRestart := by
  intro _ _ h; cases h

theorem Sys2Proof.Laws.NoWord.convPaceEnd : ∀ x0, Sys2Proof.Laws.NoWord.Statement (.convPaceEnd x0) := by
  intro _ _ _ h; cases h

theorem Sys2Proof.Laws.NoWord.fselWrite : ∀ x0 x1 x2 x3, Sys2Proof.Laws.NoWord.Statement (.fselWrite x0 x1 x2 x3) := by
  intro _ _ _ _ _ _ h; cases h

theorem Sys2Proof.Laws.NoWord.counterLoRead : ∀ x0 x1 x2, Sys2Proof.Laws.NoWord.Statement (.counterLoRead x0 x1 x2) := by
  intro _ _ _ _ _ h; cases h

theorem Sys2Proof.Laws.NoWord.counterLoWrite : ∀ x0 x1 x2 x3, Sys2Proof.Laws.NoWord.Statement (.counterLoWrite x0 x1 x2 x3) := by
  intro _ _ _ _ _ _ h; cases h

theorem Sys2Proof.Laws.NoWord.counterHiWrite : ∀ x0 x1 x2 x3, Sys2Proof.Laws.NoWord.Statement (.counterHiWrite x0 x1 x2 x3) := by
  intro _ _ _ _ _ _ h; cases h

theorem Sys2Proof.Laws.NoWord.freeze : ∀ x0 x1 x2, Sys2Proof.Laws.NoWord.Statement (.freeze x0 x1 x2) := by
  intro _ _ _ _ _ h; cases h

theorem Sys2Proof.Laws.NoWord.snap : ∀ x0 x1, Sys2Proof.Laws.NoWord.Statement (.snap x0 x1) := by
  intro _ _ _ _ h; cases h

theorem Sys2Proof.Laws.NoWord.snapshotWritten : Sys2Proof.Laws.NoWord.Statement .snapshotWritten := by
  intro _ _ h; cases h

theorem Sys2Proof.Laws.NoWord.unprivRead : ∀ x0 x1 x2, Sys2Proof.Laws.NoWord.Statement (.unprivRead x0 x1 x2) := by
  intro _ _ _ _ _ h; cases h
end

