-- ==== Sys2Proof/Machine/Pins.lean ====
section
/-! DEFINITION. The ball map of the package (R491), and the levels of the host and time balls (R402, R492). The levels of the other
output balls stand beside the registers that drive them. -/

namespace Sys2Proof.Machine

/-- A group of the ball map: for each of its `n` indices the balls in `parts`, as what stands before and after the index; a group
whose balls carry no index names one ball `n` times. -/
structure BallGroup where
  parts    : List (String × String)
  n        : Nat
  numbered : Bool := true
deriving DecidableEq, Repr

/-- The number of balls of a group. -/
def BallGroup.count (g : BallGroup) : Nat := g.parts.length * g.n

/-- The name of ball `k` of a group. -/
def BallGroup.name (g : BallGroup) (k : Nat) : String :=
  let p := g.parts.getD (k % g.parts.length) ("", "")
  if g.numbered then p.1 ++ toString (k / g.parts.length) ++ p.2 else p.1

/-- A group of balls without an index. -/
def single (l : List String) : BallGroup := ⟨l.map (·, ""), 1, false⟩

/-- The groups in the order of the table of R491. -/
def ballGroups : List BallGroup :=
  [⟨[("AIN", "")], 96, true⟩, ⟨[("VREFP", ""), ("VREFN", "")], 4, true⟩, ⟨[("AGND", "")], 16, false⟩, ⟨[("AOUT", "")], 24, true⟩,
   ⟨[("VANA", "")], 4, false⟩, ⟨[("VAON", "")], 2, false⟩, single ["XI32", "XO32", "REFI", "REFO"], single ["PPSIN", "PPSOUT", "TSYNC"],
   single ["nRESET", "BOOT0", "BOOT1", "nFAULT"], single ["DTCK", "DTMS", "DTDI", "DTDO", "nDRST"],
   single ["HSCK", "HSDI", "HSDO", "HCS", "HIRQ", "HRDY"], single ["FCLK", "FCS", "FDQ0", "FDQ1", "FDQ2", "FDQ3"],
   ⟨[("VCORE", "")], 8, false⟩, ⟨[("VIO", "")], 6, false⟩, ⟨[("DGND", "")], 26, false⟩,
   ⟨[("TL", "P"), ("TL", "N"), ("TLBIAS", "")], 2, true⟩, ⟨[("TS", "P"), ("TS", "N")], 4, true⟩, ⟨[("SCL", ""), ("SDA", "")], 8, true⟩,
   ⟨[("CTX", ""), ("CRX", ""), ("CSEG", "")], 8, true⟩,
   ⟨[("M", " AH"), ("M", " AL"), ("M", " BH"), ("M", " BL"), ("M", " CH"), ("M", " CL")], 8, true⟩,
   ⟨[("MFLT", ""), ("MEN", "")], 8, true⟩, ⟨[("FPWM", ""), ("FTACH", "")], 16, true⟩, ⟨[("ACT", "")], 32, true⟩, ⟨[("GPIO", "")], 64, true⟩,
   ⟨[("PGND", "")], 8, false⟩, ⟨[("SW", "")], 4, false⟩, ⟨[("VHOLD", "")], 2, false⟩, ⟨[("VLINE", "")], 4, false⟩, single ["VBST"], single ["VFB"]]

/-- The name at position `p` of a list of groups. -/
def nameIn : List BallGroup → Nat → Option String
  | [], _ => none
  | g :: t, p => if p < g.count then some (g.name p) else nameIn t (p - g.count)

/-- The signal at position `p`, counted from 0 at A1. -/
def ballSignal (p : Nat) : Option String := nameIn ballGroups p

/-- The rows of the array in order. -/
def ballRows : List String :=
  ["A", "B", "C", "D", "E", "F", "G", "H", "J", "K", "L", "M", "N", "P", "T", "U", "V", "W", "Y", "AA", "AB", "AC"]

/-- The ball at position `p`: row p / 22, column p mod 22 + 1. -/
def ballAt (p : Nat) : Option String := ballRows[p / 22]?.map (· ++ toString (p % 22 + 1))

/-- HRDY is high: the device can accept a frame (R402, R492). -/
def hrdyBall (d : Dev) : Bool := vioOn d && hrdyHigh d

/-- HIRQ, active low: it is low while the device holds a frame for the host (R402, R492). -/
def hirqBall (d : Dev) : Bool := vioOn d && !(d.bit HIF_CFG_EN && (spiHead d).1.isSome)

/-- The level of PPSOUT (R94, R492). -/
def ppsOutBall (d : Dev) : Bool := vioOn d && d.xtf.ppsOut

end Sys2Proof.Machine
end

