-- ==== Sys2Proof/Tests/Slice0.lean ====
section
/-! SUPPORT. Tests: ill-formed commands are refused; and for the statements with hypotheses states and operands that meet them. A
hypothesis that turns on an uninterpreted constant of Config (a signature, a hash, the EUI-64) has no witness here: it cannot be
evaluated. -/

open Sys2Proof Sys2Proof.Machine Sys2Proof.Claims

namespace Sys2Proof.Tests

set_option Elab.async false

/-! ### The ball map: the examples of R491 and the last ball of the array -/

theorem test_ball_map : (ballGroups.map (·.count)).sum = 484 ∧ ballSignal 417 = some "GPIO17" ∧ ballAt 417 = some "Y22" ∧
    ballSignal 284 = some "M2 AH" ∧ ballAt 284 = some "N21" ∧ ballSignal 483 = some "VFB" ∧ ballAt 483 = some "AC22" ∧
    ballSignal 484 = none := by decide +kernel

/-! ### Ill-formed commands: one term for each check -/

/-- Every command of the list is refused. -/
def refusedAll (l : List Instr) : Bool := l.all (fun i => !wellFormed i)

theorem test_refused_registerWrite : refusedAll
  [.registerWrite (2 ^ 200) 0 0 4 0, .registerWrite 0 (2 ^ 200) 0 4 0, .registerWrite 0 0 (2 ^ 200) 4 0,
   .registerWrite 0 0 0 (2 ^ 200) 0, .registerWrite 0 0 0 4 (2 ^ 200), .registerRead (2 ^ 200) 0 0 4,
   .registerRead 0 (2 ^ 200) 0 4, .registerRead 0 0 (2 ^ 200) 4, .registerRead 0 0 0 (2 ^ 200), .avlogClear (2 ^ 200) 0,
   .avlogClear 0 (2 ^ 200), .mirrorData 0 (2 ^ 200) none, .mirrorData 0 0 (some (2 ^ 200)), .mirrorDataInc 0 (2 ^ 200) none,
   .mirrorDataInc 0 0 (some (2 ^ 200)), .halfStop (2 ^ 200), .halfRestart (2 ^ 200) false,
   .sramUncorrectable (2 ^ 200) 0x20000000 0 false, .sramUncorrectable 0 (2 ^ 200) 0 false,
   .sramUncorrectable 0 0x20000000 (2 ^ 200) false] = true := by decide +kernel

theorem test_refused_domainRelease : refusedAll
  [.domainRelease (2 ^ 200), .capMeasureInterval (2 ^ 200) 0, .capMeasureInterval 0 (2 ^ 200), .bootChainVerify (2 ^ 200),
   .journalRecovery false [2 ^ 200] [], .journalRecovery false [] [(2 ^ 200, 0)], .journalRecovery false [] [(0, 2 ^ 200)], .runtimeUp (2 ^ 200), .outputsReleaseGrant (some ⟨1, 65536, false⟩),
   .outputsReleaseWithdraw ⟨1, 65536, false⟩, .domainReady (2 ^ 200), .domreqWrite (2 ^ 200) 0 0,
   .domreqWrite 0 (2 ^ 200) 0, .domreqWrite 0 0 (2 ^ 200), .domainReset (2 ^ 200) 0 0, .domainReset 0 (2 ^ 200) 0,
   .domainReset 0 0 (2 ^ 200), .coreWait (2 ^ 200) false, .forceDeep (2 ^ 200) 0, .forceDeep 0 (2 ^ 200),
   .wakeEvent (2 ^ 200), .softReset (2 ^ 200) 0, .softReset 0 (2 ^ 200)] = true := by decide +kernel

/-- An Announce whose fields are all 0. -/
def ann : Announce := ⟨0, 0, 0, 0, 0, 0, 0, 0, 0, false, false, false, 0, [], none⟩

theorem test_refused_timeLoRead : refusedAll
  [.timeLoRead (2 ^ 200) 0, .timeLoRead 0 (2 ^ 200), .timeSet (2 ^ 200) 0 none, .timeSet 0 (2 ^ 200) none,
   .timeSet 0 0 (some (2 ^ 200)), .timeSetLine (2 ^ 200), .ptpSync ⟨6, 0, 0, 0, 0, 0, 0, false⟩ false 0 0 0,
   .ptpSync ⟨0, 0, 0, 256, 0, 0, 0, false⟩ false 0 0 0, .ptpSync ⟨0, 0, 0, 0, 2 ^ 64, 0, 0, false⟩ false 0 0 0,
   .ptpSync ⟨0, 0, 0, 0, 0, 65536, 0, false⟩ false 0 0 0, .ptpSync ⟨0, 0, 0, 0, 0, 0, 65536, false⟩ false 0 0 0,
   .ptpSync ⟨0, 0, 0, 0, 0, 0, 0, false⟩ false (2 ^ 200) 0 0, .ptpSync ⟨0, 0, 0, 0, 0, 0, 0, false⟩ false 0 0 (2 ^ 200),
   .ptpFollowUp ⟨6, 0, 0, 0, 0, 0, 0, false⟩ 0 0, .ptpFollowUp ⟨0, 0, 0, 256, 0, 0, 0, false⟩ 0 0,
   .ptpFollowUp ⟨0, 0, 0, 0, 2 ^ 64, 0, 0, false⟩ 0 0, .ptpFollowUp ⟨0, 0, 0, 0, 0, 65536, 0, false⟩ 0 0,
   .ptpFollowUp ⟨0, 0, 0, 0, 0, 0, 65536, false⟩ 0 0, .ptpFollowUp ⟨0, 0, 0, 0, 0, 0, 0, false⟩ (2 ^ 200) 0,
   .ptpAnnounce ⟨6, 0, 0, 0, 0, 0, 0, false⟩ ann,
   .ptpAnnounce ⟨0, 0, 0, 256, 0, 0, 0, false⟩ ann,
   .ptpAnnounce ⟨0, 0, 0, 0, 2 ^ 64, 0, 0, false⟩ ann,
   .ptpAnnounce ⟨0, 0, 0, 0, 0, 65536, 0, false⟩ ann,
   .ptpAnnounce ⟨0, 0, 0, 0, 0, 0, 65536, false⟩ ann,
   .ptpAnnounce ⟨0, 0, 0, 0, 0, 0, 0, false⟩ { ann with prio1 := 256 },
   .ptpAnnounce ⟨0, 0, 0, 0, 0, 0, 0, false⟩ { ann with cls := 256 },
   .ptpAnnounce ⟨0, 0, 0, 0, 0, 0, 0, false⟩ { ann with acc := 256 },
   .ptpAnnounce ⟨0, 0, 0, 0, 0, 0, 0, false⟩ { ann with var := 65536 },
   .ptpAnnounce ⟨0, 0, 0, 0, 0, 0, 0, false⟩ { ann with prio2 := 256 },
   .ptpAnnounce ⟨0, 0, 0, 0, 0, 0, 0, false⟩ { ann with gm := 2 ^ 64 },
   .ptpAnnounce ⟨0, 0, 0, 0, 0, 0, 0, false⟩ { ann with steps := 65536 },
   .ptpAnnounce ⟨0, 0, 0, 0, 0, 0, 0, false⟩ { ann with tsrc := 256 }] = true := by decide +kernel

theorem test_refused_ptpDelayReq : refusedAll
  [.ptpDelayReq ⟨6, 0, 0, 0, 0, 0, 0, false⟩ 0, .ptpDelayReq ⟨0, 0, 0, 256, 0, 0, 0, false⟩ 0,
   .ptpDelayReq ⟨0, 0, 0, 0, 2 ^ 64, 0, 0, false⟩ 0, .ptpDelayReq ⟨0, 0, 0, 0, 0, 65536, 0, false⟩ 0,
   .ptpDelayReq ⟨0, 0, 0, 0, 0, 0, 65536, false⟩ 0, .ptpDelayReq ⟨0, 0, 0, 0, 0, 0, 0, false⟩ (2 ^ 200),
   .ptpDelayResp ⟨6, 0, 0, 0, 0, 0, 0, false⟩ 0 0 0, .ptpDelayResp ⟨0, 0, 0, 256, 0, 0, 0, false⟩ 0 0 0,
   .ptpDelayResp ⟨0, 0, 0, 0, 2 ^ 64, 0, 0, false⟩ 0 0 0, .ptpDelayResp ⟨0, 0, 0, 0, 0, 65536, 0, false⟩ 0 0 0,
   .ptpDelayResp ⟨0, 0, 0, 0, 0, 0, 65536, false⟩ 0 0 0, .ptpDelayResp ⟨0, 0, 0, 0, 0, 0, 0, false⟩ 0 (2 ^ 200) 0,
   .ptpPdelayReq ⟨6, 0, 0, 0, 0, 0, 0, false⟩ 0, .ptpPdelayReq ⟨0, 0, 0, 256, 0, 0, 0, false⟩ 0,
   .ptpPdelayReq ⟨0, 0, 0, 0, 2 ^ 64, 0, 0, false⟩ 0, .ptpPdelayReq ⟨0, 0, 0, 0, 0, 65536, 0, false⟩ 0,
   .ptpPdelayReq ⟨0, 0, 0, 0, 0, 0, 65536, false⟩ 0, .ptpPdelayReq ⟨0, 0, 0, 0, 0, 0, 0, false⟩ (2 ^ 200),
   .ptpPdelayResp ⟨6, 0, 0, 0, 0, 0, 0, false⟩ 0 0 0, .ptpPdelayResp ⟨0, 0, 0, 256, 0, 0, 0, false⟩ 0 0 0,
   .ptpPdelayResp ⟨0, 0, 0, 0, 2 ^ 64, 0, 0, false⟩ 0 0 0, .ptpPdelayResp ⟨0, 0, 0, 0, 0, 65536, 0, false⟩ 0 0 0,
   .ptpPdelayResp ⟨0, 0, 0, 0, 0, 0, 65536, false⟩ 0 0 0, .ptpPdelayResp ⟨0, 0, 0, 0, 0, 0, 0, false⟩ 0 0 (2 ^ 200)] = true := by decide +kernel

theorem test_refused_ptpManagement : refusedAll
  [.ptpManagement ⟨6, 0, 0, 0, 0, 0, 0, false⟩ 0 0, .ptpManagement ⟨0, 0, 0, 256, 0, 0, 0, false⟩ 0 0,
   .ptpManagement ⟨0, 0, 0, 0, 2 ^ 64, 0, 0, false⟩ 0 0, .ptpManagement ⟨0, 0, 0, 0, 0, 65536, 0, false⟩ 0 0,
   .ptpManagement ⟨0, 0, 0, 0, 0, 0, 65536, false⟩ 0 0, .ptpManagement ⟨0, 0, 0, 0, 0, 0, 0, false⟩ (2 ^ 200) 0,
   .ptpManagement ⟨0, 0, 0, 0, 0, 0, 0, false⟩ 0 (2 ^ 200), .ptpMessageTimer (2 ^ 200) 0, .ptpMessageTimer 0 (2 ^ 200),
   .announceTimeout (2 ^ 200), .tsyncHiRead (2 ^ 200) 0, .tsyncHiRead 0 (2 ^ 200), .localtimeChanged (2 ^ 200) [],
   .localtimeChanged 0 [(2 ^ 200, 0)], .localtimeChanged 0 [(1, 2 ^ 200)], .ledgerWake (2 ^ 200), .occurrenceDue (2 ^ 200),
   .heldPostingApply (2 ^ 200), .nop (2 ^ 200) 0 0 false, .nop 0 (2 ^ 200) 0 false, .nop 0 0 (2 ^ 200) false] = true := by decide +kernel

theorem test_refused_cvuStart : refusedAll
  [.cvuStart (2 ^ 200) 0 0 false, .cvuStart 0 (2 ^ 200) 0 false, .cvuStart 0 0 (2 ^ 200) false,
   .cvuInject (2 ^ 200) 0 0 false, .cvuInject 0 (2 ^ 200) 0 false, .cvuInject 0 0 (2 ^ 200) false,
   .slotStart (2 ^ 200) 0 0 false, .slotStart 0 (2 ^ 200) 0 false, .slotStart 0 0 (2 ^ 200) false,
   .escrowPost (2 ^ 200) 0 0 false, .escrowPost 0 (2 ^ 200) 0 false, .escrowPost 0 0 (2 ^ 200) false,
   .outLatch (2 ^ 200) 0 0 false, .outLatch 0 (2 ^ 200) 0 false, .outLatch 0 0 (2 ^ 200) false,
   .regWrite (2 ^ 200) 0 0 false, .regWrite 0 (2 ^ 200) 0 false, .regWrite 0 0 (2 ^ 200) false, .regSet (2 ^ 200) 0 0 false,
   .regSet 0 (2 ^ 200) 0 false, .regSet 0 0 (2 ^ 200) false] = true := by decide +kernel

theorem test_refused_regClr : refusedAll
  [.regClr (2 ^ 200) 0 0 false, .regClr 0 (2 ^ 200) 0 false, .regClr 0 0 (2 ^ 200) false, .canQueue (2 ^ 200) 0 0 false,
   .canQueue 0 (2 ^ 200) 0 false, .canQueue 0 0 (2 ^ 200) false, .netPublish (2 ^ 200) 0 0 false,
   .netPublish 0 (2 ^ 200) 0 false, .netPublish 0 0 (2 ^ 200) false, .obsSnapshot (2 ^ 200) 0 0 false,
   .obsSnapshot 0 (2 ^ 200) 0 false, .obsSnapshot 0 0 (2 ^ 200) false, .flagSet (2 ^ 200) 0 0 false,
   .flagSet 0 (2 ^ 200) 0 false, .flagSet 0 0 (2 ^ 200) false, .flagClr (2 ^ 200) 0 0 false, .flagClr 0 (2 ^ 200) 0 false,
   .flagClr 0 0 (2 ^ 200) false, .bookArm (2 ^ 200) 0 0 false, .bookArm 0 (2 ^ 200) 0 false, .bookArm 0 0 (2 ^ 200) false] = true := by decide +kernel

theorem test_refused_bookDisarm : refusedAll
  [.bookDisarm (2 ^ 200) 0 0 false, .bookDisarm 0 (2 ^ 200) 0 false, .bookDisarm 0 0 (2 ^ 200) false,
   .bookSwap (2 ^ 200) 0 0 false, .bookSwap 0 (2 ^ 200) 0 false, .bookSwap 0 0 (2 ^ 200) false,
   .runtimeEvent (2 ^ 200) 0 0 false, .runtimeEvent 0 (2 ^ 200) 0 false, .runtimeEvent 0 0 (2 ^ 200) false,
   .ldgArm (2 ^ 200) 0 0, .ldgArm 0 (2 ^ 200) 0, .ldgArm 0 0 (2 ^ 200), .ldgDisarm (2 ^ 200) 0 0, .ldgDisarm 0 (2 ^ 200) 0,
   .ldgDisarm 0 0 (2 ^ 200), .ldgCommit (2 ^ 200) 0 0 false, .ldgCommit 0 (2 ^ 200) 0 false, .ldgCommit 0 0 (2 ^ 200) false,
   .bookImageWrite ⟨1, 65536, false⟩ 0 ⟨0, 0⟩, .bookImageWrite ⟨1, 1, false⟩ (2 ^ 200) ⟨0, 0⟩,
   .bookImageWrite ⟨1, 1, false⟩ 0 ⟨1, 256⟩] = true := by decide +kernel

theorem test_refused_calWindowEnd : refusedAll
  [.calWindowEnd (2 ^ 200) 0 0 0 [], .calWindowEnd 0 (2 ^ 200) 0 0 [], .fgcalPending (2 ^ 200), .fgcalNow (2 ^ 200),
   .fgcalStart (2 ^ 200), .fgcalEnd (2 ^ 200) [], .requalify (2 ^ 200) 0, .requalify 0 (2 ^ 200),
   .excCompliance (2 ^ 200) false, .calsetWrite ⟨1, 65536, false⟩ ⟨0, 0⟩ [],
   .calsetWrite ⟨1, 1, false⟩ ⟨2 ^ 200, 0⟩ [], .calsetWrite ⟨1, 1, false⟩ ⟨0, 2 ^ 200⟩ [], .calsetWrite ⟨1, 1, false⟩ ⟨0, 0⟩ [2 ^ 200],
   .seqEnable (2 ^ 200), .seqDisable (2 ^ 200), .seqStart (2 ^ 200), .resultDelivery (2 ^ 200) ⟨0, []⟩ false false 0,
   .resultDelivery 0 ⟨0, [40000]⟩ false false 0, .resultDelivery 0 ⟨0, []⟩ false false (2 ^ 200), .cvuInjWrite (2 ^ 200) 0,
   .cvuInjWrite 0 (2 ^ 200)] = true := by decide +kernel

theorem test_refused_streamEnable : refusedAll
  [.streamEnable (2 ^ 200) 0, .streamEnable 0 (2 ^ 200), .ringRdWrite (2 ^ 200) 0 0, .ringRdWrite 0 (2 ^ 200) 0,
   .ringRdWrite 0 0 (2 ^ 200), .nopI (2 ^ 200) 0 0 0 0, .nopI 0 (2 ^ 200) 0 0 0, .nopI 0 0 (2 ^ 200) 0 0,
   .nopI 0 0 0 (2 ^ 200) 0, .nopI 0 0 0 0 (2 ^ 200), .ldi (2 ^ 200) 0 0 0 0, .ldi 0 (2 ^ 200) 0 0 0, .ldi 0 0 (2 ^ 200) 0 0,
   .ldi 0 0 0 (2 ^ 200) 0, .ldi 0 0 0 0 (2 ^ 200), .ldih (2 ^ 200) 0 0 0 0, .ldih 0 (2 ^ 200) 0 0 0,
   .ldih 0 0 (2 ^ 200) 0 0, .ldih 0 0 0 (2 ^ 200) 0, .ldih 0 0 0 0 (2 ^ 200)] = true := by decide +kernel

theorem test_refused_mov : refusedAll
  [.mov (2 ^ 200) 0 0 0 0, .mov 0 (2 ^ 200) 0 0 0, .mov 0 0 (2 ^ 200) 0 0, .mov 0 0 0 (2 ^ 200) 0, .mov 0 0 0 0 (2 ^ 200),
   .ld (2 ^ 200) 0 0 0 0, .ld 0 (2 ^ 200) 0 0 0, .ld 0 0 (2 ^ 200) 0 0, .ld 0 0 0 (2 ^ 200) 0, .ld 0 0 0 0 (2 ^ 200),
   .st (2 ^ 200) 0 0 0 0, .st 0 (2 ^ 200) 0 0 0, .st 0 0 (2 ^ 200) 0 0, .st 0 0 0 (2 ^ 200) 0, .st 0 0 0 0 (2 ^ 200),
   .lds (2 ^ 200) 0 0 0 0, .lds 0 (2 ^ 200) 0 0 0, .lds 0 0 (2 ^ 200) 0 0, .lds 0 0 0 (2 ^ 200) 0, .lds 0 0 0 0 (2 ^ 200)] = true := by decide +kernel

theorem test_refused_sts : refusedAll
  [.sts (2 ^ 200) 0 0 0 0, .sts 0 (2 ^ 200) 0 0 0, .sts 0 0 (2 ^ 200) 0 0, .sts 0 0 0 (2 ^ 200) 0, .sts 0 0 0 0 (2 ^ 200),
   .inP (2 ^ 200) 0 0 0 0, .inP 0 (2 ^ 200) 0 0 0, .inP 0 0 (2 ^ 200) 0 0, .inP 0 0 0 (2 ^ 200) 0, .inP 0 0 0 0 (2 ^ 200),
   .outP (2 ^ 200) 0 0 0 0, .outP 0 (2 ^ 200) 0 0 0, .outP 0 0 (2 ^ 200) 0 0, .outP 0 0 0 (2 ^ 200) 0,
   .outP 0 0 0 0 (2 ^ 200), .add (2 ^ 200) 0 0 0 0, .add 0 (2 ^ 200) 0 0 0, .add 0 0 (2 ^ 200) 0 0, .add 0 0 0 (2 ^ 200) 0,
   .add 0 0 0 0 (2 ^ 200)] = true := by decide +kernel

theorem test_refused_adds : refusedAll
  [.adds (2 ^ 200) 0 0 0 0, .adds 0 (2 ^ 200) 0 0 0, .adds 0 0 (2 ^ 200) 0 0, .adds 0 0 0 (2 ^ 200) 0,
   .adds 0 0 0 0 (2 ^ 200), .sub (2 ^ 200) 0 0 0 0, .sub 0 (2 ^ 200) 0 0 0, .sub 0 0 (2 ^ 200) 0 0, .sub 0 0 0 (2 ^ 200) 0,
   .sub 0 0 0 0 (2 ^ 200), .subs (2 ^ 200) 0 0 0 0, .subs 0 (2 ^ 200) 0 0 0, .subs 0 0 (2 ^ 200) 0 0,
   .subs 0 0 0 (2 ^ 200) 0, .subs 0 0 0 0 (2 ^ 200), .neg (2 ^ 200) 0 0 0 0, .neg 0 (2 ^ 200) 0 0 0, .neg 0 0 (2 ^ 200) 0 0,
   .neg 0 0 0 (2 ^ 200) 0, .neg 0 0 0 0 (2 ^ 200)] = true := by decide +kernel

theorem test_refused_abs : refusedAll
  [.abs (2 ^ 200) 0 0 0 0, .abs 0 (2 ^ 200) 0 0 0, .abs 0 0 (2 ^ 200) 0 0, .abs 0 0 0 (2 ^ 200) 0, .abs 0 0 0 0 (2 ^ 200),
   .min (2 ^ 200) 0 0 0 0, .min 0 (2 ^ 200) 0 0 0, .min 0 0 (2 ^ 200) 0 0, .min 0 0 0 (2 ^ 200) 0, .min 0 0 0 0 (2 ^ 200),
   .max (2 ^ 200) 0 0 0 0, .max 0 (2 ^ 200) 0 0 0, .max 0 0 (2 ^ 200) 0 0, .max 0 0 0 (2 ^ 200) 0, .max 0 0 0 0 (2 ^ 200),
   .andI (2 ^ 200) 0 0 0 0, .andI 0 (2 ^ 200) 0 0 0, .andI 0 0 (2 ^ 200) 0 0, .andI 0 0 0 (2 ^ 200) 0,
   .andI 0 0 0 0 (2 ^ 200)] = true := by decide +kernel

theorem test_refused_orI : refusedAll
  [.orI (2 ^ 200) 0 0 0 0, .orI 0 (2 ^ 200) 0 0 0, .orI 0 0 (2 ^ 200) 0 0, .orI 0 0 0 (2 ^ 200) 0, .orI 0 0 0 0 (2 ^ 200),
   .xorI (2 ^ 200) 0 0 0 0, .xorI 0 (2 ^ 200) 0 0 0, .xorI 0 0 (2 ^ 200) 0 0, .xorI 0 0 0 (2 ^ 200) 0,
   .xorI 0 0 0 0 (2 ^ 200), .shl (2 ^ 200) 0 0 0 0, .shl 0 (2 ^ 200) 0 0 0, .shl 0 0 (2 ^ 200) 0 0, .shl 0 0 0 (2 ^ 200) 0,
   .shl 0 0 0 0 (2 ^ 200), .shr (2 ^ 200) 0 0 0 0, .shr 0 (2 ^ 200) 0 0 0, .shr 0 0 (2 ^ 200) 0 0, .shr 0 0 0 (2 ^ 200) 0,
   .shr 0 0 0 0 (2 ^ 200)] = true := by decide +kernel

theorem test_refused_sar : refusedAll
  [.sar (2 ^ 200) 0 0 0 0, .sar 0 (2 ^ 200) 0 0 0, .sar 0 0 (2 ^ 200) 0 0, .sar 0 0 0 (2 ^ 200) 0, .sar 0 0 0 0 (2 ^ 200),
   .mpy (2 ^ 200) 0 0 0 0, .mpy 0 (2 ^ 200) 0 0 0, .mpy 0 0 (2 ^ 200) 0 0, .mpy 0 0 0 (2 ^ 200) 0, .mpy 0 0 0 0 (2 ^ 200),
   .mac (2 ^ 200) 0 0 0 0, .mac 0 (2 ^ 200) 0 0 0, .mac 0 0 (2 ^ 200) 0 0, .mac 0 0 0 (2 ^ 200) 0, .mac 0 0 0 0 (2 ^ 200),
   .msu (2 ^ 200) 0 0 0 0, .msu 0 (2 ^ 200) 0 0 0, .msu 0 0 (2 ^ 200) 0 0, .msu 0 0 0 (2 ^ 200) 0, .msu 0 0 0 0 (2 ^ 200)] = true := by decide +kernel

theorem test_refused_clra : refusedAll
  [.clra (2 ^ 200) 0 0 0 0, .clra 0 (2 ^ 200) 0 0 0, .clra 0 0 (2 ^ 200) 0 0, .clra 0 0 0 (2 ^ 200) 0,
   .clra 0 0 0 0 (2 ^ 200), .lda (2 ^ 200) 0 0 0 0, .lda 0 (2 ^ 200) 0 0 0, .lda 0 0 (2 ^ 200) 0 0, .lda 0 0 0 (2 ^ 200) 0,
   .lda 0 0 0 0 (2 ^ 200), .sta (2 ^ 200) 0 0 0 0, .sta 0 (2 ^ 200) 0 0 0, .sta 0 0 (2 ^ 200) 0 0, .sta 0 0 0 (2 ^ 200) 0,
   .sta 0 0 0 0 (2 ^ 200), .sha (2 ^ 200) 0 0 0 0, .sha 0 (2 ^ 200) 0 0 0, .sha 0 0 (2 ^ 200) 0 0, .sha 0 0 0 (2 ^ 200) 0,
   .sha 0 0 0 0 (2 ^ 200)] = true := by decide +kernel

theorem test_refused_cmp : refusedAll
  [.cmp (2 ^ 200) 0 0 0 0, .cmp 0 (2 ^ 200) 0 0 0, .cmp 0 0 (2 ^ 200) 0 0, .cmp 0 0 0 (2 ^ 200) 0, .cmp 0 0 0 0 (2 ^ 200),
   .lim (2 ^ 200) 0 0 0 0, .lim 0 (2 ^ 200) 0 0 0, .lim 0 0 (2 ^ 200) 0 0, .lim 0 0 0 (2 ^ 200) 0, .lim 0 0 0 0 (2 ^ 200),
   .slew (2 ^ 200) 0 0 0 0, .slew 0 (2 ^ 200) 0 0 0, .slew 0 0 (2 ^ 200) 0 0, .slew 0 0 0 (2 ^ 200) 0,
   .slew 0 0 0 0 (2 ^ 200), .deadb (2 ^ 200) 0 0 0 0, .deadb 0 (2 ^ 200) 0 0 0, .deadb 0 0 (2 ^ 200) 0 0,
   .deadb 0 0 0 (2 ^ 200) 0, .deadb 0 0 0 0 (2 ^ 200)] = true := by decide +kernel

theorem test_refused_lut : refusedAll
  [.lut (2 ^ 200) 0 0 0 0, .lut 0 (2 ^ 200) 0 0 0, .lut 0 0 (2 ^ 200) 0 0, .lut 0 0 0 (2 ^ 200) 0, .lut 0 0 0 0 (2 ^ 200),
   .sincos (2 ^ 200) 0 0 0 0, .sincos 0 (2 ^ 200) 0 0 0, .sincos 0 0 (2 ^ 200) 0 0, .sincos 0 0 0 (2 ^ 200) 0,
   .sincos 0 0 0 0 (2 ^ 200), .div (2 ^ 200) 0 0 0 0, .div 0 (2 ^ 200) 0 0 0, .div 0 0 (2 ^ 200) 0 0,
   .div 0 0 0 (2 ^ 200) 0, .div 0 0 0 0 (2 ^ 200), .sqrt (2 ^ 200) 0 0 0 0, .sqrt 0 (2 ^ 200) 0 0 0,
   .sqrt 0 0 (2 ^ 200) 0 0, .sqrt 0 0 0 (2 ^ 200) 0, .sqrt 0 0 0 0 (2 ^ 200)] = true := by decide +kernel

theorem test_refused_bra : refusedAll
  [.bra (2 ^ 200) 0 0 0 0, .bra 0 (2 ^ 200) 0 0 0, .bra 0 0 (2 ^ 200) 0 0, .bra 0 0 0 (2 ^ 200) 0, .bra 0 0 0 0 (2 ^ 200),
   .bcc (2 ^ 200) 0 0 0 0, .bcc 0 (2 ^ 200) 0 0 0, .bcc 0 0 (2 ^ 200) 0 0, .bcc 0 0 0 (2 ^ 200) 0, .bcc 0 0 0 0 (2 ^ 200),
   .loopI (2 ^ 200) 0 0 0 0, .loopI 0 (2 ^ 200) 0 0 0, .loopI 0 0 (2 ^ 200) 0 0, .loopI 0 0 0 (2 ^ 200) 0,
   .loopI 0 0 0 0 (2 ^ 200), .trig (2 ^ 200) 0 0 0 0, .trig 0 (2 ^ 200) 0 0 0, .trig 0 0 (2 ^ 200) 0 0,
   .trig 0 0 0 (2 ^ 200) 0, .trig 0 0 0 0 (2 ^ 200)] = true := by decide +kernel

theorem test_refused_endI : refusedAll
  [.endI (2 ^ 200), .runFault (2 ^ 200), .runLimit (2 ^ 200), .faultClr (2 ^ 200), .engineImageLoad (2 ^ 200) [],
   .engineImageLoad 0 [2 ^ 200], .libBind (2 ^ 200) 0 0 0 0, .libBind 0 (2 ^ 200) 0 0 0, .libBind 0 0 (2 ^ 200) 0 0,
   .libBind 0 0 0 (2 ^ 200) 0, .libBind 0 0 0 0 (2 ^ 200), .removeProg (2 ^ 200) 0, .removeProg 0 (2 ^ 200),
   .slotEnable (2 ^ 200) 0, .slotEnable 0 (2 ^ 200), .slotDisable (2 ^ 200) 0, .slotDisable 0 (2 ^ 200),
   .slotStartWrite (2 ^ 200) 0, .slotStartWrite 0 (2 ^ 200), .slotTrigger (2 ^ 200) 0, .slotTrigger 0 (2 ^ 200)] = true := by decide +kernel

theorem test_refused_runStart : refusedAll
  [.runStart (2 ^ 200), .specStartTime (2 ^ 200) 0, .specStartTime 0 (2 ^ 200), .sampleInstant (2 ^ 200) 0,
   .sampleInstant 0 (2 ^ 200), .specNoTrigger (2 ^ 200) 0, .specNoTrigger 0 (2 ^ 200), .slotArm (2 ^ 200) 0,
   .slotArm 0 (2 ^ 200), .routeWrite (2 ^ 200) false 0 0, .routeWrite 0 false (2 ^ 200) 0, .routeWrite 0 false 0 (2 ^ 200),
   .swapBoundary (2 ^ 200), .traceEnable (2 ^ 200), .lightRestage (2 ^ 200), .lightSwitched (2 ^ 200),
   .hostHeartbeat ⟨1, 65536, false⟩ 0, .hostHeartbeat ⟨1, 1, false⟩ (2 ^ 200), .tmrEnable (2 ^ 200), .pwmValley (2 ^ 200)] = true := by decide +kernel

theorem test_refused_centreTrigger : refusedAll
  [.centreTrigger (2 ^ 200), .mfltFault (2 ^ 200) false, .runWrite (2 ^ 200) false, .motorRun (2 ^ 200),
   .startWindow (2 ^ 200), .retryPause (2 ^ 200), .motorStall (2 ^ 200), .motorStopped (2 ^ 200), .motorClear (2 ^ 200),
   .attemptReset (2 ^ 200), .fanPeriodStart (2 ^ 200), .tachUpdate (2 ^ 200) [1], .tachUpdate 0 [], .tachTimeout (2 ^ 200),
   .fanTargetWrite (2 ^ 200) 0, .fanTargetWrite 0 (2 ^ 200), .kickEnd (2 ^ 200), .fanPauseEnd (2 ^ 200),
   .tachLostTimeout (2 ^ 200), .fanClear (2 ^ 200), .bandLearn (2 ^ 200)] = true := by decide +kernel

theorem test_refused_ageingSample : refusedAll
  [.ageingSample (2 ^ 200), .ageingLearn (2 ^ 200) false, .coastElapsed (2 ^ 200), .actOvercurrent (2 ^ 200),
   .actocClear (2 ^ 200), .actPulseEnd (2 ^ 200), .pairGapEnd (2 ^ 200), .latchApply (2 ^ 200),
   .gpioInput (2 ^ 200) false 0, .gpioInput 0 false (2 ^ 200), .gcapRead (2 ^ 200) 0 0, .gcapRead 0 (2 ^ 200) 0,
   .gcapRead 0 0 (2 ^ 200), .i2cEnable (2 ^ 200), .i2cDisable (2 ^ 200), .i2cRound (2 ^ 200) .free, .i2cWait ⟨2 ^ 200, .free⟩,
   .i2cEntryDone (2 ^ 200) false [] .free, .i2cEntryDone 0 false [2 ^ 200] .free, .i2cStretchTimeout (2 ^ 200) .free] = true := by decide +kernel

theorem test_refused_canModeWrite : refusedAll
  [.canModeWrite (2 ^ 200) 0, .canModeWrite 0 (2 ^ 200), .adrDwell (2 ^ 200), .canTxreq (2 ^ 200) 0, .canTxreq 0 (2 ^ 200),
   .canTxcan (2 ^ 200) 0, .canTxcan 0 (2 ^ 200), .canSof (2 ^ 200), .canFrameSent (2 ^ 200) false none,
   .canError (2 ^ 200) { tx := true }, .busoffRecovery (2 ^ 200), .clearBo (2 ^ 200),
   .canFrameReceived (2 ^ 200) { id := 0 }, .canFrameReceived 0 { id := 2 ^ 11 },
   .canFrameReceived 0 { id := 2 ^ 29, xtd := true }, .canFrameReceived 0 { id := 0, dlc := 16 },
   .canFrameReceived 0 { id := 0, data := [256] }, .rxhRead (2 ^ 200) 0 0 0 0, .rxhRead 0 (2 ^ 200) 0 0 0,
   .rxhRead 0 0 (2 ^ 200) 0 0, .rxhRead 0 0 0 (2 ^ 200) 0, .rxhRead 0 0 0 0 (2 ^ 200)] = true := by decide +kernel

theorem test_refused_rxUnlock : refusedAll
  [.rxUnlock (2 ^ 200) 0, .rxUnlock 0 (2 ^ 200), .rxDrop (2 ^ 200) 0, .rxDrop 0 (2 ^ 200), .hushReq (2 ^ 200) none,
   .hushReq 0 (some (128, 0, false)), .hushAck (2 ^ 200) 0, .hushAck 0 (2 ^ 200), .hushDeadline (2 ^ 200),
   .busloadWindow (2 ^ 200) 0, .busloadWindow 0 (2 ^ 200), .nodeAnnounce (2 ^ 200) 0 0, .nodeAnnounce 0 (2 ^ 200) 0,
   .nodeAnnounce 0 0 (2 ^ 200), .beacon (2 ^ 200), .cutTime (2 ^ 200), .canSegRestored (2 ^ 200), .segClear (2 ^ 200),
   .segOff (2 ^ 200) false, .hegusSingle (2 ^ 200) 0 [], .hegusSingle 0 (2 ^ 200) [], .hegusSingle 0 0 [2 ^ 200]] = true := by decide +kernel

theorem test_refused_hegusFirst : refusedAll
  [.hegusFirst (2 ^ 200) 0 [], .hegusFirst 0 (2 ^ 200) [], .hegusFirst 0 0 [2 ^ 200], .hegusConsecutive (2 ^ 200) 0 [],
   .hegusConsecutive 0 (2 ^ 200) [], .hegusConsecutive 0 0 [2 ^ 200], .hegusFlow (2 ^ 200) 0 [], .hegusFlow 0 (2 ^ 200) [],
   .hegusFlow 0 0 [2 ^ 200], .hegusCanTimeout (2 ^ 200) 0 false, .hegusCanTimeout 0 (2 ^ 200) false,
   .fnsFrameReceived (2 ^ 200) none, .fnsFrameReceived 0 (some { dst := 2 ^ 48, src := 0, etype := 0, len := 64 }),
   .fnsFrameReceived 0 (some { dst := 0, src := 2 ^ 48, etype := 0, len := 64 }),
   .fnsFrameReceived 0 (some { dst := 0, src := 0, etype := 65536, len := 64 }), .fnsFrameTransmit (2 ^ 200),
   .macAge (2 ^ 200), .portEnable (2 ^ 200) false, .linkUp (2 ^ 200) false, .linkDown (2 ^ 200)] = true := by decide +kernel

theorem test_refused_plcaBeacon : refusedAll
  [.plcaBeacon (2 ^ 200), .sqiUpdate (2 ^ 200) 0, .sqiUpdate 0 (2 ^ 200), .cableTest (2 ^ 200),
   .cableTestDone (2 ^ 200) 1 0, .cableTestDone 0 (2 ^ 200) 0, .addrConflict ⟨2 ^ 200, 0⟩, .addrConflict ⟨0, 2 ^ 200⟩,
   .duplicateAddressDetection (2 ^ 200) 0, .duplicateAddressDetection 0 (2 ^ 200), .read ⟨1, 65536, false⟩ 0 0,
   .read ⟨1, 1, false⟩ (2 ^ 200) 0, .read ⟨1, 1, false⟩ 0 (2 ^ 200), .write ⟨1, 65536, false⟩ 0 0 ⟨0, 0⟩,
   .write ⟨1, 1, false⟩ (2 ^ 200) 0 ⟨0, 0⟩, .write ⟨1, 1, false⟩ 0 (2 ^ 200) ⟨0, 0⟩, .write ⟨1, 1, false⟩ 0 0 ⟨1, 256⟩,
   .readMulti ⟨1, 65536, false⟩ [], .readMulti ⟨1, 1, false⟩ [(2 ^ 200, 0)], .readMulti ⟨1, 1, false⟩ [(1, 2 ^ 200)],
   .writeMulti ⟨1, 65536, false⟩ none [], .writeMulti ⟨1, 1, false⟩ (some (2 ^ 200)) [],
   .writeMulti ⟨1, 1, false⟩ none [⟨65536, 0, ⟨0, 0⟩⟩], .writeMulti ⟨1, 1, false⟩ none [⟨0, 256, ⟨0, 0⟩⟩],
   .writeMulti ⟨1, 1, false⟩ none [⟨0, 0, ⟨1, 256⟩⟩]] = true := by decide +kernel

theorem test_refused_timedWrite : refusedAll
  [.timedWrite (2 ^ 200), .timedCancel ⟨1, 65536, false⟩ 0, .timedCancel ⟨1, 1, false⟩ (2 ^ 200),
   .subscribe ⟨1, 65536, false⟩ 0 0 0 0 0, .subscribe ⟨1, 1, false⟩ (2 ^ 200) 0 0 0 0,
   .subscribe ⟨1, 1, false⟩ 0 (2 ^ 200) 0 0 0, .subscribe ⟨1, 1, false⟩ 0 0 (2 ^ 200) 0 0,
   .subscribe ⟨1, 1, false⟩ 0 0 0 (2 ^ 200) 0, .subscribe ⟨1, 1, false⟩ 0 0 0 0 (2 ^ 200), .unsubscribe ⟨1, 65536, false⟩ 0,
   .unsubscribe ⟨1, 1, false⟩ (2 ^ 200), .notify 0 (2 ^ 200), .describe ⟨1, 65536, false⟩ 0 0,
   .describe ⟨1, 1, false⟩ (2 ^ 200) 0, .describe ⟨1, 1, false⟩ 0 (2 ^ 200), .blockStart ⟨1, 65536, false⟩ 0 0 0 0,
   .blockStart ⟨1, 1, false⟩ (2 ^ 200) 0 0 0, .blockStart ⟨1, 1, false⟩ 0 (2 ^ 200) 0 0,
   .blockStart ⟨1, 1, false⟩ 0 0 (2 ^ 200) 0, .blockStart ⟨1, 1, false⟩ 0 0 0 (2 ^ 200)] = true := by decide +kernel

theorem test_refused_blockData : refusedAll
  [.blockData ⟨1, 65536, false⟩ 0 0 ⟨0, 0⟩, .blockData ⟨1, 1, false⟩ (2 ^ 200) 0 ⟨0, 0⟩,
   .blockData ⟨1, 1, false⟩ 0 (2 ^ 200) ⟨0, 0⟩, .blockData ⟨1, 1, false⟩ 0 0 ⟨1, 256⟩, .blockEnd ⟨1, 65536, false⟩ 0 0,
   .blockEnd ⟨1, 1, false⟩ (2 ^ 200) 0, .blockEnd ⟨1, 1, false⟩ 0 (2 ^ 200), .blockAbort ⟨1, 65536, false⟩ 0,
   .blockAbort ⟨1, 1, false⟩ (2 ^ 200), .blockTimeout 0 (2 ^ 200), .sessionOpen ⟨1, 65536, false⟩ 0,
   .sessionOpen ⟨1, 1, false⟩ (2 ^ 200), .sessionClose ⟨1, 65536, false⟩, .authBegin ⟨1, 65536, false⟩ 0 ⟨0, 0⟩ ⟨0, 0⟩,
   .authBegin ⟨1, 1, false⟩ (2 ^ 200) ⟨0, 0⟩ ⟨0, 0⟩, .authBegin ⟨1, 1, false⟩ 0 ⟨1, 256⟩ ⟨0, 0⟩,
   .authBegin ⟨1, 1, false⟩ 0 ⟨0, 0⟩ ⟨1, 256⟩, .authProof ⟨1, 65536, false⟩ 0, .clientHello 0 ⟨2 ^ 200, 0⟩ false 0 0 ⟨0, 0⟩,
   .clientHello 0 ⟨0, 2 ^ 200⟩ false 0 0 ⟨0, 0⟩, .clientHello 0 ⟨0, 0⟩ false (2 ^ 200) 0 ⟨0, 0⟩,
   .clientHello 0 ⟨0, 0⟩ false 0 (2 ^ 200) ⟨0, 0⟩, .clientHello 0 ⟨0, 0⟩ false 0 0 ⟨1, 256⟩] = true := by decide +kernel

theorem test_refused_spiTransfer : refusedAll
  [.spiTransfer ⟨1, 256⟩ 0 false, .appSchemaWrite ⟨1, 65536, false⟩ ⟨0, 0⟩, .appSchemaWrite ⟨1, 1, false⟩ ⟨1, 256⟩,
   .nvWindowRead (2 ^ 200) 0 4, .nvWindowRead 0 (2 ^ 200) 4, .nvWindowRead 0 0 (2 ^ 200), .claim (2 ^ 200),
   .release (2 ^ 200), .nvWrite (2 ^ 200) false, .txnBegin (2 ^ 200), .txnAdd (2 ^ 200) false, .txnCommit (2 ^ 200),
   .txnAbort (2 ^ 200), .nvsTxnComplete ⟨[2 ^ 200], false⟩, .unlock (2 ^ 200) 0 0, .unlock 0 (2 ^ 200) 0, .unlock 0 0 (2 ^ 200),
   .relock (2 ^ 200) 0 0, .relock 0 (2 ^ 200) 0, .relock 0 0 (2 ^ 200)] = true := by decide +kernel

theorem test_refused_setPwd : refusedAll
  [.setPwd (2 ^ 200) 0 0, .setPwd 0 (2 ^ 200) 0, .setPwd 0 0 (2 ^ 200), .setRegion (2 ^ 200) 0, .setRegion 0 (2 ^ 200),
   .tallyInc (2 ^ 200) 0, .tallyInc 0 (2 ^ 200), .checkpoint (some (2 ^ 200)), .unlockExpiry 0 (2 ^ 200) 0,
   .unlockExpiry 0 0 (2 ^ 200), .sealAdvance (2 ^ 200) 0, .sealAdvance 0 (2 ^ 200), .nvLockoutEnd (2 ^ 200),
   .secTamper (2 ^ 200), .lcRequest ⟨1, 65536, false⟩ 0 0, .lcRequest ⟨1, 1, false⟩ (2 ^ 200) 0,
   .lcRequest ⟨1, 1, false⟩ 0 (2 ^ 200), .debugToken ⟨1, 256⟩, .updateContainer ⟨1, 65536, false⟩ ⟨0, 0⟩,
   .updateContainer ⟨1, 1, false⟩ ⟨1, 256⟩] = true := by decide +kernel

theorem test_refused_flashBlockFill : refusedAll
  [.flashBlockFill (2 ^ 200) 0 false, .recoveryImage ⟨1, 65536, false⟩ ⟨0, 0⟩, .recoveryImage ⟨1, 1, false⟩ ⟨1, 256⟩,
   .attestNonce ⟨1, 65536, false⟩ 0, .certifiedMode ⟨1, 65536, false⟩ false, .activateAt ⟨1, 65536, false⟩ 0 0,
   .activateAt ⟨1, 1, false⟩ (2 ^ 200) 0, .activateAt ⟨1, 1, false⟩ 0 (2 ^ 200), .healthFail ⟨1, 65536, false⟩ 0,
   .healthFail ⟨1, 1, false⟩ (2 ^ 200), .swapActivateAt ⟨1, 65536, false⟩ 0 0, .swapActivateAt ⟨1, 1, false⟩ (2 ^ 200) 0,
   .swapActivateAt ⟨1, 1, false⟩ 0 (2 ^ 200), .hkcConversion (2 ^ 200) 0, .hkcConversion 0 (2 ^ 200),
   .convPaceEnd (2 ^ 200), .fselWrite (2 ^ 200) 0 0 0, .fselWrite 0 (2 ^ 200) 0 0, .fselWrite 0 0 (2 ^ 200) 0,
   .fselWrite 0 0 0 (2 ^ 200)] = true := by decide +kernel

theorem test_refused_counterLoRead : refusedAll
  [.counterLoRead (2 ^ 200) 0 0, .counterLoRead 0 (2 ^ 200) 0, .counterLoRead 0 0 (2 ^ 200),
   .counterLoWrite (2 ^ 200) 0 0 0, .counterLoWrite 0 (2 ^ 200) 0 0, .counterLoWrite 0 0 (2 ^ 200) 0,
   .counterLoWrite 0 0 0 (2 ^ 200), .counterHiWrite (2 ^ 200) 0 0 0, .counterHiWrite 0 (2 ^ 200) 0 0,
   .counterHiWrite 0 0 (2 ^ 200) 0, .counterHiWrite 0 0 0 (2 ^ 200), .freeze (2 ^ 200) 0 false, .freeze 0 (2 ^ 200) false,
   .snap (2 ^ 200) 0, .snap 0 (2 ^ 200), .unprivRead (2 ^ 200) 0 false, .unprivRead 0 (2 ^ 200) false, .debugToken ⟨175, 0⟩,
   .trngFault false false, .trngFault false false] = true := by decide +kernel

theorem test_refused_registerWrite_more : refusedAll
  [.registerWrite 0 1 0 4 0, .registerRead 0 0 0 3, .sramUncorrectable 0 0 0 false] = true := by decide +kernel

/-! ### States and operands that meet the hypotheses of the statements, at the edges of their ranges -/

/-- A device with power, its halves running, every domain ready and the fields of `l` set, after step `k` of the power-up order. -/
def upAt (k : Nat) (l : List (Fld × Nat)) : Dev :=
  l.foldl (fun d x => d.set x.1 x.2) ({ State.reset.dev with pwr.step := k, pwr.buck := true, pwr.halves := 3, pwr.hrdy := true }.set
    PMC_DOMSTAT_READY 4095)

/-- The same after the last step. -/
def up (l : List (Fld × Nat)) : Dev := upAt 9 l

/-- A device as a state with no command waiting. -/
def st (d : Dev) : State := ⟨d, []⟩

/-- `Takes`, decided: the write reaches bits of which `P` holds. -/
def takes (d : Dev) (ini sess a v : Nat) (P : Word → Bool) : Bool :=
  d.live && decide (ini < 8) && d.readyAt a && match findReg a with
    | some (r, _) => decide ((writeCheck ini sess a (word v) false r d).1 = []) && P (writeCheck ini sess a (word v) false r d).2
    | none => false

theorem takes_meets {d : Dev} {ini sess a v : Nat} {P : Word → Bool} (h : takes d ini sess a v P = true) :
    ∃ m, Takes (st d) ini sess a v m ∧ P m = true := by
  unfold takes at h
  split at h
  · rename_i r ix e
    simp only [Bool.and_eq_true, decide_eq_true_eq] at h
    exact ⟨_, ⟨h.1.1.1, h.1.1.2, h.1.2, r, ix, e, Prod.ext h.2.1 rfl⟩, h.2.2⟩
  · simp at h

/-! ### Chapters 1 and 2 -/

theorem meets_BusMemory : (up []).live = true ∧ 0x10000000 - 0x10000000 + 4 ≤ (up []).flashSize := by decide +kernel

theorem meets_BusFaults : (findReg PMC_RSTCTRL).any (fun x => x.1.priv) = true ∧ (up []).readyAt (CVU_STATUS 0) = true ∧
    State.reset.dev.readyAt (CVU_STATUS 0) = false ∧ (findReg (CVU_STATUS 0)).isSome = true := by decide +kernel

/-- A violation, and a log that is full of it. -/
def fullLog : Dev := { up [] with av.entries := List.replicate 16 ⟨0x42000000, 5, 0, true, false, 2, 0, 0, 0⟩ }

theorem meets_ViolationLog : (up []).av.entries.length < 16 ∧ fullLog.av.entries.length = 16 := by decide +kernel

theorem meets_RegisterWriteBits : takes (up []) 0 0 THM_EVT 0 (fun _ => true) = true ∧ THM_EVT / 0x10000 = 0x4001 ∧ THM_EVT % 4 = 0 := by decide +kernel

theorem meets_LogCleared : ∃ m, Takes (st fullLog) 0 0 SCU_AVLOG_CTRL 1 m ∧ m.getLsbD 0 = true := takes_meets (by decide +kernel)

/-- Session 2 of the network, of role `r`. -/
def sess (r : Nat) : Sess := { num := 2, via := .udp, role := r, peer := 65536, last := 0 }

theorem meets_MirrorAccess : 2 ≤ { up [] with heg.sessions := [sess 2] }.sessRole 2 ∧ { up [] with heg.sessions := [sess 1] }.sessRole 2 < 2 ∧
    ({ up [] with heg.sessions := [sess 2] }.session 2).isSome = true ∧
    (∀ b ∈ [1, 0x38], (up []).readyAt (0x40000000 + b * 0x10000 + sessVal { up [] with heg.sessions := [sess 2] } 2 (0xF000 + b) 1) = true ∧
      (findReg (0x40000000 + b * 0x10000)).any (fun x => decide ((writeCheck 14 2 (0x40000000 + b * 0x10000) (word 0) false x.1 { up [] with heg.sessions := [sess 2] }).1 = [])) = true) ∧
    0x4000FFFC < 0x41000000 ∧ findReg (0x4000FFFC / 4 * 4) = none := by decide +kernel

theorem meets_HalfStops : (up []).pwr.halves.testBit 1 = true ∧ (up []).pwr.halves.testBit (1 - 1) = true ∧
    (up [(NVS_STAT_OWNER, 4)]).get NVS_STAT_OWNER < 8 ∧ (up [(NVS_STAT_OWNER, 4)]).get NVS_STAT_OWNER / 4 = 1 := by decide +kernel

theorem meets_HalfRestarts : { up [] with pwr.halves := 1 }.pwr.halves.testBit 1 = false ∧ halfAvailable { up [] with pwr.halves := 1 } 1 = true ∧
    (∃ t ∈ { up [] with pwr.failTimes := [1] }.pwr.failTimes, t % 2 = 1 ∧ { up [] with pwr.failTimes := [1] }.now < t / 2 + 600000000000) := by
  decide +kernel

theorem meets_SramErrors : ringWordAt (up []) 0x20300000 = none ∧
    ringWordAt (up [(CVU_SCFG_EN 0 0, 1), (CVU_SBASE_BASE 0 0, 0x20300000), (CVU_SLEN_LEN 0 0, 8)]) 0x20300004 = some (0x20300004, 0) := by decide +kernel

theorem meets_HoldRequests : ∃ m, Takes (st (up [])) 7 0 PMC_DOMREQ 0xFFF m ∧ (List.range 12).all (fun i => m.getLsbD i) = true :=
  takes_meets (by decide +kernel)

theorem meets_DomainOff : mayRelease (up [(PMC_DOMSTAT_ON, 4095), (PMC_DOMREQ_HOLD, 0), (NVS_STAT_RECOVERED, 1)]) 11 = true ∧ mayRelease (up []) 11 = false := by decide +kernel

theorem meets_DomainReady : (upAt 9 [(PMC_DOMSTAT_READY, 0), (PMC_DOMSTAT_ON, 4095)]).bitN PMC_DOMSTAT_ON 11 = true ∧
    (upAt 9 [(PMC_DOMSTAT_READY, 0), (PMC_DOMSTAT_ON, 4095)]).ready 11 = false ∧ (up []).pwr.buck = true := by decide +kernel

theorem meets_DomainResets : ∃ m, Takes (st (up [(PMC_DOMSTAT_ON, 4095)])) 0 0 PMC_RSTCTRL (0xFFF * 65536) m ∧
    (List.range 12).all (fun i => m.getLsbD (16 + i)) = true := takes_meets (by decide +kernel)

theorem meets_FullRestarts : (∃ m, Takes (st (up [])) 0 0 PMC_RSTCTRL 1 m ∧ m.getLsbD 0 = true) ∧
    (up []).ready 11 = true ∧ (up []).pwr.save = .none ∧ (up []).pwr.thermalOff = false ∧ (up []).pwr.step ≠ 0 ∧
    { up [] with pwr.save := .running }.pwr.save ≠ .none := ⟨takes_meets (by decide +kernel), by decide +kernel⟩

theorem meets_Supply : State.reset.dev.bit PMC_LINE_INRUSH = true ∧ State.reset.dev.pwr.step = 0 ∧ State.reset.dev.pwr.capPhase = .idle ∧
    (up []).bit PMC_LINE_INRUSH = true ∧ (up []).pwr.step ≠ 0 ∧ (up [(PMC_LINE_INRUSH, 0)]).bit PMC_LINE_INRUSH = false ∧
    (up []).pwr.localLine = false ∧ { up [] with pwr.localLine := true }.pwr.localLine = true := by decide +kernel

theorem meets_CapacitanceMeasured : { up [] with pwr.capPhase := .first }.pwr.capPhase = .first ∧
    { up [] with pwr.capPhase := .second, pwr.capReads := [20000, 24000] }.pwr.capReads = [20000, 24000] ∧
    ((1 : Nat) : Int) = ((24001 : Int) - 20000) - ((24000 : Int) - 20000) := by decide +kernel

/-- What a checkpoint has captured. -/
def shot : ShadowDesc := ⟨1, 0, 1, {}⟩

/-- `MayStep`, decided. -/
theorem mayStep (k : Nat) (d : Dev) (h : d.live = true ∧ d.pwr.step = k ∧ d.pwr.buck = true ∧ d.pwr.pinHeld = false ∧ d.pwr.save = .none ∧
    d.sec.recovery = none) : MayStep (st d) k := h

theorem meets_PowerUpOrder : (∀ k ∈ [0, 1, 2, 3, 4, 6, 7, 8], MayStep (st (upAt k [])) k) ∧
    { upAt 0 [] with pwr.capPhase := .ended }.pwr.capPhase = .ended ∧ (upAt 1 []).ready 11 = true ∧ (upAt 2 []).ready 10 = true ∧
    (upAt 3 []).pwr.halfOff = 0 ∧ (upAt 3 []).pwr.rccDown = false ∧ (upAt 3 []).ready 0 = true ∧ (upAt 3 []).ready 1 = true ∧
    autoRelease (upAt 6 []) = true ∧ autoRelease { upAt 6 [] with pwr.shortfall := true } = false ∧
    shadowBest { upAt 4 [] with nvs.descB := some shot } = some (1, shot) ∧ (∀ t ∈ shot.img.timed, t.state ≠ 1) := by
  refine ⟨?_, by decide +kernel⟩
  intro k hk
  fin_cases hk <;> exact mayStep _ _ (by decide +kernel)

theorem meets_ConfigurationCheck : MayStep (st (upAt 5 [])) 5 := mayStep _ _ (by decide +kernel)

theorem meets_PowerStates : (up []).ready (7 / 4) = true ∧ (up []).pwr.halves.testBit (7 / 4) = true ∧
    (up [(PMC_PSTATE_LOWEST, 1)]).get PMC_PSTATE_STATE = 0 ∧ (up [(PMC_PSTATE_STATE, 2)]).get PMC_PSTATE_STATE = 2 ∧
    wakeArmed (up []) 31 = false ∧ wakeArmed (up []) 8 = true := by decide +kernel

/-- A device in IDLE, or in NAP on a clock that allows DEEP, with nothing that keeps a domain on. -/
def idle (k : Nat) : Dev :=
  ({ up [(PMC_PSTATE_STATE, k), (PMC_PSTATE_LOWEST, 3), (PMC_CLKSTAT_CLK32_OK, 1), (PMC_DOMREQ_HOLD, 0), (PMC_PINNED_PINNED, 0),
    (NVS_STAT_RECOVERED, 1)] with
    pwr.halves := 0 }.setEnt 0x2001 1 0)

theorem meets_PowerStates_rest : napQuiet (idle 1) 1000000 = true ∧ (idle 1).pwr.save = .none ∧ (idle 2).ent 0x2001 1 = 0 ∧
    (idle 2).bit PMC_CLKSTAT_CLK32_OK = true ∧ (∀ n < 12, heldOn (idle 2) n = false ∧ keepOn (idle 2) n = false ∧ wanted (idle 2) n = false) ∧
    (∀ p < 6, (idle 2).get (FNS_PORTSTAT_LINK p) ≠ 2) ∧ wakeWithin (idle 2) 10000000 = false := by decide +kernel

theorem meets_ForcedDeep : (∃ m, Takes (st (idle 2)) 0 0 PMC_PSTATE (16 + 4 * 3) m ∧ m.getLsbD 4 = true) ∧ (idle 2).get PMC_PSTATE_LOWEST = 3 ∧
    ((idle 2).setEnt 0x2001 1 3).ent 0x2001 1 = 3 ∧ ((idle 2).set PMC_CLKSTAT_CLK32_OK 0).bit PMC_CLKSTAT_CLK32_OK = false ∧
    (idle 2).pwr.deepReq = 0 ∧ (idle 2).get PMC_PSTATE_STATE = 2 ∧ (∀ n < 8, (forcedQuiet (idle 2)).get (CAN_STAT_MODE n) = 0) ∧
    (forcedQuiet { (idle 2).set (CAN_STAT_MODE 7) 2 with can := [(7, { act := some 0 })] }).get (CAN_STAT_MODE 7) ≠ 0 :=
  ⟨takes_meets (by decide +kernel), by decide +kernel⟩

theorem meets_Clocks : (up [(PMC_DOMSTAT_READY, 0), (PMC_CLKSTAT_REF_OK, 1)]).bit PMC_CLKSTAT_REF_OK = true ∧
    (up [(PMC_DOMSTAT_READY, 0)]).ready 8 = false ∧ (up [(PMC_CLKSTAT_REF_OK, 0)]).bit PMC_CLKSTAT_REF_OK = false ∧
    (up []).get PMC_PSTATE_STATE ≠ 3 := by decide +kernel

theorem meets_WatchdogResets : 4 ≤ (up []).pwr.step ∧ (up []).pwr.rccDown = false ∧
    2 ≤ ({ up [] with pwr.wdogTimes := [0, 0] }.pwr.wdogTimes.filter (fun t => decide ((up []).now < t + 600000000000))).length ∧
    (up []).live = true := by decide +kernel

theorem meets_LineFailure : (up [(PMC_LINE_FAIL, 1)]).bit PMC_LINE_FAIL = true ∧ (up []).bit PMC_LINE_FAIL = false ∧
    { up [] with pwr.save := .running }.pwr.save = .running ∧ { up [] with pwr.save := .running }.pwr.lineBack = false := by decide +kernel
/-! ### Chapters 3 and 4 -/

theorem meets_TimeSet : (up []).ldg.st = 0 ∧ (up []).xtf.st = .unset ∧ (up []).xtf.src ≠ 1 ∧ { up [] with xtf.src := 1 }.xtf.src = 1 ∧
    { up [] with xtf.st := .locked }.xtf.st = .locked ∧
    takes (up []) 0 0 XTF_CTRL (((up []).set XTF_CTRL_SET 1).rd XTF_CTRL).toNat (fun m => m.getLsbD 0) = true ∧
    (up [(XTF_CTRL_SERVO_EN, 1)]).bit XTF_CTRL_SERVO_EN = true ∧ (up [(XTF_CTRL_SERVO_EN, 0)]).bit XTF_CTRL_SERVO_EN = false := by decide +kernel

/-- The header of a message on port `n` from clock 1, port 1, that the device takes, and one that it does not. -/
def hdr (n : Nat) : PtpHdr := ⟨n, 0, 0, 0, 1, 1, 7, false⟩
def hdrOdd : PtpHdr := ⟨0, 0, 0, 0, 1, 1, 7, true⟩

/-- A device in PTP role 2 with port 1 in state `k`, the parent being clock 1 and a Sync and a request of that port outstanding. -/
def ptpDev (k : Nat) : Dev :=
  { up [(PTP_CFG_ROLE, 2), (PTP_CFG_DOMAIN, 0), (PTP_PORTSTAT_STATE 1, k)] with
    xtf.parent := some ⟨0, 0, 0, 0, 0, 1, 0, 1, 1, 0, 0, false, false, false, 0, [], 0⟩,
    xtf.ports := [(1, { sync := some (1, 7, 100, 0), last := some (5, 100), dreq := some (7, 200) })] }

/-- `PtpTakes`, decided. -/
theorem ptpTakes (d : Dev) (h : PtpHdr) (x : d.live = true ∧ d.ready 8 = true ∧ (d.get PMC_PSTATE_STATE = 0 ∧ d.pwr.coreWait = 0) ∧
    ptpOn d h.port = true ∧ ptpSupported d h = true) : PtpTakes (st d) h := ⟨⟨x.1, by simp [st, x.2.1]⟩, x.2.2⟩

theorem meets_PtpMessages : PtpTakes (st (ptpDev 9)) (hdr 1) ∧ ptpSupported (ptpDev 9) hdrOdd = false ∧ fromParent (ptpDev 9) (hdr 1) = true ∧
    fromParent (ptpDev 6) (hdr 1) = false ∧ ((ptpDev 9).ptp 1).sync = some (1, 7, 100, 0) ∧ (ptpDev 6).get (PTP_PORTSTAT_STATE 1) = 6 ∧
    isP2p ((ptpDev 6).set PTP_CFG_DELAY_MECH 0) 1 = false ∧ isP2p ((ptpDev 9).set PTP_CFG_DELAY_MECH 1) 1 = true ∧
    ptpOn (up []) 1 = false ∧ (ptpDev 8).get (PTP_PORTSTAT_STATE 1) = 8 ∧ (ptpDev 5).get (PTP_PORTSTAT_STATE 1) = 5 ∧
    ((ptpDev 5).ptp 1).preEnd ≤ (ptpDev 5).now ∧ ((ptpDev 9).ptp 1).dreq = some (7, 200) ∧ ((ptpDev 9).ptp 1).last = some (5, 100) := ⟨ptpTakes _ _ (by decide +kernel), by decide +kernel⟩

theorem meets_PtpMasters : PtpTakes (st (ptpDev 6)) (hdr 1) ∧ PtpTakes (st (ptpDev 6)) (hdr 5) ∧ (hdr 1).src = 1 ∧ (hdr 1).port < 2 ∧
    (ptpDev 6).ent 0x2001 15 = (ptpDev 6).ent 0x2001 15 ∧ ((ptpDev 6).setEnt 0x2001 15 1023).ent 0x2001 15 = 1023 :=
  ⟨ptpTakes _ _ (by decide +kernel), ptpTakes _ _ (by decide +kernel), by decide +kernel⟩

/-- A device that follows source 1 in the time state `k`. -/
def servo (k : TbState) : Dev := { up [(XTF_CTRL_SERVO_EN, 1)] with xtf.st := k, xtf.src := 1 }

theorem meets_ServoLocks : (servo .locked).bit XTF_CTRL_SERVO_EN = true ∧ (servo .locked).xtf.fromUnset = false ∧
    (1 : Int).natAbs ≤ stepThr (servo .locked) ∧ stepThr (servo .locked) < (10 ^ 12 : Int).natAbs ∧ (servo .locked).ldg.st = 0 ∧
    (1 : Int).natAbs < lockThr (servo .locking) ∧ 4 * lockThr (servo .locked) < (stepThr (servo .locked) : Int).natAbs ∧
    15 ≤ { servo .locking with xtf.good := 15 }.xtf.good ∧ 3 ≤ { servo .locked with xtf.bad := 3 }.xtf.bad := by decide +kernel

/-- PPSIN on, its last pulse at `l` 2^-32 ns of 0. -/
def pps (l : Option Nat) : Dev := { up [(XTF_PPS_PPSIN_EN, 1), (XTF_PPS_PPSIN_EDGE, 0)] with xtf.ppsLast := l }

theorem meets_Pulses : (pps none).bit XTF_PPS_PPSIN_EN = true ∧ (pps none).bit XTF_PPS_PPSIN_EDGE ≠ true ∧ (pps none).xtf.ppsLast = none ∧
    ppsWindow 0 (pps (some 0)).xtf.el = false ∧ (pps (some 0)).xtf.ppsLast ≠ none ∧ (up []).bit XTF_PPS_PPSIN_EN = false ∧
    2 ≤ { pps (some 0) with xtf.ppsMiss := 2 }.xtf.ppsMiss ∧
    (pps none).get PMC_PSTATE_STATE = 0 ∧ (up [(PMC_PSTATE_STATE, 3)]).get PMC_PSTATE_STATE ≠ 0 ∧
    ppsWindow 0 { pps (some 0) with xtf.el := 4294967296000000000 - 429496729600000 }.xtf.el = true ∧
    (∀ m ∈ [0, 1, 2, 3], (up [(XTF_PPS_PPSOUT_MODE, m)]).get XTF_PPS_PPSOUT_MODE = m) ∧ ({ up [] with xtf.ns := 10 }.xtf.ns + 10) % 1000000000 ≤ 20 ∧
    20 < ({ up [] with xtf.ns := 11 }.xtf.ns + 10) % 1000000000 ∧ (up []).xtf.ppsOut = false ∧ (up []).xtf.ppsEnd ≤ (up []).now ∧
    { up [] with xtf.ppsEnd := 1 }.now < { up [] with xtf.ppsEnd := 1 }.xtf.ppsEnd := by decide +kernel

theorem meets_TsyncCaptures : (up [(XTF_TSYNC_EN, 1), (XTF_TSYNC_EDGE, 2)]).bit XTF_TSYNC_EN = true ∧
    (up [(XTF_TSYNC_EN, 1), (XTF_TSYNC_EDGE, 2)]).get XTF_TSYNC_EDGE = 2 ∧ (up []).xtf.tsFull = false ∧
    { up [] with xtf.tsFull := true }.xtf.tsFull = true ∧ (up [(XTF_TSYNC_EDGE, 1)]).get XTF_TSYNC_EDGE = 1 := by decide +kernel

theorem meets_HoldoverAndCalendar : (up []).xtf.st ≠ .locked ∧ (servo .locked).xtf.st = .locked ∧ (servo .holdover).xtf.limitHit = false ∧
    (up []).ent 0x2005 2 ≠ 1 ∧ (up []).ent 0x2005 2 ≠ 2 ∧ (leapDue ((up []).setEnt 0x2005 2 2)).isSome = true ∧
    rulePairOk ((up []).ent (0x2010 + 3) 3) ((up []).ent (0x2010 + 3) 4) = true ∧ (up []).ldg.st = 0 ∧
    errKnown (up []) = false ∧ errKnown (servo .holdover) = true ∧ errKnown (servo .locked) = true := by decide +kernel

/-- A ledger that is ON with books 0 and 15 armed and entry 0 enabled, absolute at 200 ns, with action `a` and late policy `l`. -/
def ldg (a l g : Nat) : Dev :=
  let d := { up [] with xtf.st := .free, ldg.st := 1, ldg.armed := 0x8001 }
  { d with win := memWrite d.win (ldgAddr 0) (packW 32 [1 + 8 * l + 256 * a, 200, 0, 0, g, 1, 0, 0]) 32 }

/-- `MayPost`, decided. -/
theorem mayPost (d : Dev) (n i : Nat) (h : d.live = true ∧ d.ldg.st = 1 ∧ tbUnset d = false ∧ (∀ x ∈ d.ldg.due, x.entry ≠ n) ∧
    bookArmed d (n / 256) = true ∧ nextIdx d n = some i ∧ isConsumed (d.lent n) i = false ∧ entryAllowed d (ldgEntry d n) = true) :
    MayPost (st d) n i := h

theorem meets_LedgerActions : MayPost (st (ldg 0 0 0)) 0 0 ∧ (ldg 0 0 0).ready 4 = true ∧ (ldg 0 0 0).ready (cvuDom (7 % 4)) = true ∧
    (ldg 0 0 0).ready (ceaDom (31 % 32)) = true ∧ (ldg 0 0 0).ready 6 = true ∧ (ldg 0 0 0).ready 7 = true ∧ (ldg 0 0 0).ready 9 = true ∧
    (ldg 0 0 0).ready 8 = true ∧ (ldg 0 0 0).ready 0 = true := ⟨mayPost _ _ _ (by decide +kernel), by decide +kernel⟩

theorem meets_PostingEffects : (ldg 0 0 0).cyc.wrote = [] ∧ boundMask (ldg 0 0 0) (AIO_ACTCFG 31) = 0 ∧
    word 0 &&& reservedMask (AIO_ACTCFG 31) = 0 ∧
    (ldg 0 0 0).cyc.before = [] ∧ bookArmed (ldg 0 0 0) 15 = true ∧ bookArmed (ldg 0 0 0) 14 = false := by decide +kernel

/-- Its CAN domain off. -/
def ldgOff9 (l : Nat) : Dev := (ldg 9 l 0).setN PMC_DOMSTAT_READY 9 false

theorem meets_LedgerOccurrences : (up []).ldg.st ≠ 1 ∧ tbUnset { ldg 0 0 0 with xtf.st := .unset } = true ∧ bookArmed (ldg 0 0 0) 1 = false ∧
    (ldg 0 0 0).ldg.due = [] ∧ entryAllowed (ldg 0 0 0x1000000) (ldgEntry (ldg 0 0 0x1000000) 0) = false ∧ (ldgOff9 0).ready 9 = false ∧
    (ldgEntry (ldgOff9 0) 0).late = 0 ∧ (ldgEntry (ldgOff9 1) 0).late = 1 ∧ (ldgOff9 0).held = [] ∧ dueIdx (ldg 0 0 0) 0 = none ∧
    dueIdx { ldg 0 0 0 with xtf.ns := 200 } 0 = some 0 ∧ (ldg 0 0 0).ldg.old = 0 ∧
    actionDomains (ldg 9 0 0) (ldgEntry (ldg 9 0 0) 0).action (ldgEntry (ldg 9 0 0) 0).target (ldgEntry (ldg 9 0 0) 0).value ≠ [] := by decide +kernel

theorem meets_LedgerOccurrences_post : MayPost (st (ldgOff9 1)) 0 0 ∧ MayPost (st (ldgOff9 0)) 0 0 := ⟨mayPost _ _ _ (by decide +kernel), mayPost _ _ _ (by decide +kernel)⟩

theorem pair_zero {α : Type} {p : Nat × α} (h : p.1 = 0) : p = (0, p.2) := by rw [← h]

/-- `Admitted`, decided. -/
def admits (d : Dev) (r : Req) (write : Bool) : Bool :=
  match d.session r.sess with
  | none => false
  | some x =>
    let q := rateTake (srcOf x) (d.setSession { x with last := d.now })
    d.live && decide (r.sess < 512) && carries d r.sess && decide (q.1 = 0) && decide (∀ y ∈ x.cache, y.req ≠ r.id) &&
      decide (r.id ∉ x.open_) && decide (x.open_.length < 8) && !r.bad && decide (q.2.sec.recovery = none) && !hegBusy q.2 write

theorem admits_meets {d : Dev} {r : Req} {write : Bool} (h : admits d r write = true) : ∃ x e, d.session r.sess = some x ∧
    e = (rateTake (srcOf x) (d.setSession { x with last := d.now })).2 ∧ Admitted (st d) r write x e := by
  unfold admits at h
  split at h
  · simp at h
  · rename_i x hx
    simp only [Bool.and_eq_true, decide_eq_true_eq, Bool.not_eq_true'] at h
    obtain ⟨⟨⟨⟨⟨⟨⟨⟨⟨h1, h2⟩, h3⟩, h4⟩, h5⟩, h6⟩, h7⟩, h8⟩, h9⟩, h10⟩ := h
    exact ⟨x, _, hx, rfl, h1, h2, h3, hx, pair_zero h4, h5, h6, h7, h8, h9, h10⟩

/-- A write that R379 accepts and after which the stored values are what they were, so that their load is no question. -/
def accepted (role sess : Nat) (block : Bool) (idx sub : Nat) (v : Octets) (d : Dev) : Bool :=
  match entInfo idx sub d with
  | none => false
  | some e =>
    let x := v.val % 256 ^ v.len
    let r := entOp ⟨role, sess, idx, sub, x, v.len, d.setEnt idx sub x, block, false⟩ d
    decide (writeGate role idx sub block d = 0) && decide (v.len ≠ 0) &&
      !decide (if 15 ≤ entTy d idx e then e.size < v.len else v.len ≠ e.size) &&
      !decide (!valueOk (entTy d idx e) (e.row.bind (·.range)) ⟨v.len, x⟩ ∨ (idx ≠ 0x1120 ∧ entryRefused d idx sub x)) &&
      decide (r.1 = 0) && decide (certGate d r.2.2 idx sub x = 0) && decide (r.2.2.dict = d.dict) && decide (r.2.2.held.length ≤ d.held.length) &&
      !decide (schedEntry idx sub ∧ dayBookFull r.2.2) &&
      decide (nvBytes idx sub v d = [] ∨ (storeSt (storeCheckL d (unstage idx sub (if schedEntry idx sub then { r.2.2 with floor.dirty := true } else r.2.2))
        (nvBytes idx sub v d))).1 = 0)

theorem storeWriteN_held (k : Nat) (d : Dev) : (storeWriteN k d).held = d.held := by
  have h : (energyNote d).held = d.held := by
    unfold energyNote
    dsimp only
    split
    · rfl
    · split <;> rfl
  unfold storeWriteN
  dsimp only
  split <;> exact h

theorem unstage_held (idx sub : Nat) (d : Dev) : (unstage idx sub d).held = d.held := by
  unfold unstage
  split <;> rfl

theorem accepted_meets {role sess : Nat} {block : Bool} {idx sub : Nat} {v : Octets} {d : Dev} (h : accepted role sess block idx sub v d = true) :
    ∃ e, entWrite role sess block idx sub v d = (0, 0, e) ∧ e.held.length ≤ d.held.length := by
  unfold accepted at h
  split at h
  · simp at h
  · rename_i e he
    simp only [Bool.and_eq_true, decide_eq_true_eq, Bool.not_eq_true', decide_eq_false_iff_not] at h
    obtain ⟨⟨⟨⟨⟨⟨⟨⟨⟨h1, h2⟩, h3⟩, h4⟩, h5⟩, h6⟩, h7⟩, hh⟩, h8⟩, h9⟩ := h
    have hl : ∀ a : Dev, a.dict = d.dict → ¬(90 < loadTotal a ∧ loadTotal d < loadTotal a) := by
      intro a ha hb
      unfold loadTotal at hb
      rw [ha] at hb
      omega
    rw [← Bool.not_eq_true'] at h4
    obtain ⟨x, hx⟩ : ∃ x, entApply role sess block idx sub v d = x := ⟨_, rfl⟩
    unfold entWrite
    rw [hx]
    unfold entApply at hx
    rw [he] at hx
    dsimp only at hx
    rw [if_neg (not_ne_iff.mpr h1), if_neg h2, if_neg h3, if_neg h4] at hx
    simp only [h5, h6, h8, hl _ h7, ne_eq, not_true_eq_false, if_false] at hx
    subst hx
    dsimp only [okRes]
    split
    · exact ⟨_, rfl, by rw [unstage_held]; split <;> exact hh⟩
    · rename_i hn
      have h10 := h9.resolve_left (fun h => hn (Or.inr h))
      unfold storeJoin
      rw [if_neg (not_ne_iff.mpr h10)]
      exact ⟨_, rfl, by rw [storeWriteN_held, unstage_held]; split <;> exact hh⟩

/-- The hypotheses of `Writes`, decided. -/
def writes (d : Dev) (r : Req) (block : Bool) (idx sub : Nat) (v : Octets) : Bool :=
  admits d r true && match d.session r.sess with
    | none => false
    | some x =>
      let e := (rateTake (srcOf x) (d.setSession { x with last := d.now })).2
      accepted x.role x.num block idx sub v e && !tellerWaits idx sub e && decide (v.len ≠ 0)

theorem writes_meets {d : Dev} {r : Req} {block : Bool} {idx sub : Nat} {v : Octets} (h : writes d r block idx sub v = true) :
    ∃ x e f, Admitted (st d) r true x e ∧ entWrite x.role x.num block idx sub v e = (0, 0, f) ∧ tellerWaits idx sub e = false ∧
      leftHeld x.num idx sub e f = false ∧ v.len ≠ 0 := by
  unfold writes at h
  rw [Bool.and_eq_true] at h
  obtain ⟨x, e, hx, he, ha⟩ := admits_meets h.1
  have h2 := h.2
  rw [hx] at h2
  simp only [← he, Bool.and_eq_true, decide_eq_true_eq, Bool.not_eq_true'] at h2
  obtain ⟨⟨h3, h4⟩, h5⟩ := h2
  obtain ⟨f, hf, hl⟩ := accepted_meets h3
  refine ⟨x, e, f, ha, hf, h4, ?_, h5⟩
  unfold leftHeld
  rw [decide_eq_false (by omega), Bool.false_and]

/-- A device with an open network session of role OWNER. -/
def owned (l : List (Fld × Nat)) : Dev :=
  let d := up ((HKC_RESULT_VALID 37, 1) :: (PMC_CFG_HOLDWIN, 10) :: l)
  { d with heg.sessions := [sess 3], pwr.vlineMV := 24000, pwr.vlineOk := 24000, pwr.vholdMV := 24000, pwr.vholdOk := 24000 }

/-- R65: nFAULT is low until the outputs are released, and while the runtime is down. -/
theorem test_nfault : nFaultLow (upAt 6 []) = true ∧ nFaultLow { up [] with pwr.released := true } = false ∧
    nFaultLow { up [] with pwr.released := true, pwr.rccDown := true } = true := by decide +kernel

theorem meets_OutputsReleased : (upAt 6 []).live = true ∧ writes (owned []) ⟨2, 1, false⟩ false 0xA010 0 ⟨1, 0⟩ = true ∧
    writes ((owned []).setEnt 0xA010 0 1) ⟨2, 1, false⟩ false 0xA010 0 ⟨1, 1⟩ = true ∧ { up [] with pwr.released := true }.pwr.rccDown = false ∧
    { up [] with pwr.released := true }.pwr.save = .none ∧ { up [] with pwr.released := true }.get THM_STATUS_LEVEL < 2 ∧
    (upAt 6 []).pwr.released = false ∧ (upAt 6 [(PMC_DOMSTAT_READY, 0)]).ready 6 = false ∧
    (upAt 6 [(PMC_DOMSTAT_READY, 0)]).ready 9 = false ∧ { up [] with pwr.released := true }.pwr.released = true := by decide +kernel

/-- A ledger in state `k` with nothing armed; the same with entry 255 of book 0 malformed, and with a malformed staged entry. -/
def books (k : Nat) : Dev := { up [] with ldg.st := k, xtf.st := .free }
def booksBad : Dev := let d := books 1; { d with win := memWrite d.win (ldgAddr 255) (packW 32 [0x81, 0, 0, 0, 0, 0, 0, 0]) 32 }

theorem meets_LedgerBooks_commands : ∀ k ∈ [0, 1, 2], ∀ c ∈ [1, 2],
    takes (books k) 0 0 LDG_BOOKCMD (15 + 16 * c) (fun m => (List.range 6).all (fun i => m.getLsbD i)) = true ∧ (books k).ldg.st = k := by decide +kernel

theorem meets_LedgerBooks_check : bookCheck booksBad 0 = some (255, 1) ∧ bookArmed booksBad 0 = false ∧ booksBad.ldg.st = 1 ∧
    bookCheck (books 1) 15 = none ∧ tbUnset (books 1) = false := by decide +kernel

theorem meets_LedgerBooks_commit : entryCheck 15 (LWords.ofNat (stagedEntry ((books 1).set (LDG_STAGE_WORD 0) 0x81))) = 1 ∧
    entryCheck 15 (LWords.ofNat (stagedEntry (books 1))) = 0 ∧ (books 1).ldg.due = [] ∧
    dueIdx (books 1) 4095 = none := by decide +kernel

theorem meets_LedgerBooks_image : writes (owned []) ⟨2, 1, false⟩ true (0x2110 + 15) 4 ⟨1, 0⟩ = true := by decide +kernel

/-! ### Chapters 5 and 6 -/

/-- Unit 3 as `x` on a device with the fields of `l`. -/
def unit3 (x : CvuS) (l : List (Fld × Nat)) : Dev := { up l with cvu := [(3, x)] }

/-- The nine slices with slice 8 in state `k`. -/
def slices (k : Nat) : List SliceS := (({} : CvuS).slices.take 8) ++ [{ st := k, pos := 15 }]

theorem unitWf (x : CvuS) (h : x.slices.length = 9 ∧ x.rate = rateOf (goodCount x)) : UnitWf (unit3 x []) 3 := h

theorem meets_CalibrationWindows : (∀ k ∈ [0, 1, 2, 3], UnitWf (unit3 { slices := slices k } []) 3 ∧
    (sliceAt (unit3 { slices := slices k } []) 3 8).st = k) ∧ (unit3 {} []).ready 5 = true ∧ measOk 64 (-500) = true ∧ measOk 65 0 = false ∧
    (sliceAt (unit3 {} []) 3 ((8 + 1) % 9)).st = 0 ∧ (sliceAt (unit3 {} []) 3 8).suspect = false := by
  refine ⟨?_, by decide +kernel⟩
  intro k hk
  fin_cases hk <;> exact ⟨unitWf _ (by decide +kernel), by decide +kernel⟩

theorem meets_ForegroundWindows : UnitWf (unit3 { mode := 1 } []) 3 ∧ UnitWf (unit3 { mode := 2 } []) 3 ∧
    UnitWf (unit3 { fgPend := some 0 } []) 3 ∧ UnitWf (unit3 { fgBusy := true } []) 3 ∧
    (unit3 {} [(CVU_SEQ_CTRL_EN 3, 1)]).ready 5 = true ∧ seqOn (unit3 { fgBusy := true } [(CVU_SEQ_CTRL_EN 3, 1)]) 3 = true ∧
    ((unit3 { queue := [1], heldQ := [2] } []).cvuS 3).queue ++ ((unit3 { queue := [1], heldQ := [2] } []).cvuS 3).heldQ = 1 :: [2] :=
  ⟨unitWf _ (by decide +kernel), unitWf _ (by decide +kernel), unitWf _ (by decide +kernel), unitWf _ (by decide +kernel), by decide +kernel⟩

/-- A calibration set with every gain 1, without and with its CRC. -/
def calsetBody : List Nat :=
  (List.range 8).map (fun _ => 0) ++ ((List.range 24).map (fun _ => [0, 0, 0, 64, 0, 0, 0, 0])).flatten ++ (List.range 52).map (fun _ => 0)
def calset : List Nat := calsetBody ++ (List.range 4).map (fun i => crc32 (Blob.ofBytes calsetBody) 252 / 256 ^ i % 256)

theorem meets_ExcitationAndSets : (up []).ready 5 = true ∧ (up []).bit (CVU_EXC_OPEN 7) = false ∧
    (up [(CVU_EXC_OPEN 7, 1)]).bit (CVU_EXC_OPEN 7) = true ∧ ((up []).cvuS 3).bank = 0 ∧ calset.length = 256 ∧ calsetOk (Blob.ofBytes calset).val = true ∧
    writes (owned []) ⟨2, 1, false⟩ false (0x3020 + 3) (2 + 1) ⟨calset.length, (Blob.ofBytes calset).val⟩ = true := by decide +kernel

/-- Unit 3 with a sequence of one entry that delivers, whose profiles pass the check. -/
def seqDev (on : Nat) (x : CvuS) (l : List (Fld × Nat)) : Dev :=
  unit3 x ([(CVU_SEQ_CTRL_EN 3, on), (CVU_SEQ_CTRL_LEN 3, 1), (CVU_SEQE_OUTPUTS 3 0, 1)] ++ (upto 4).map (fun p => (CVU_FPB_DEC_M1 3 p, 1)) ++ l)

theorem meets_ConverterSequence : seqOn (seqDev 1 {} []) 3 = true ∧ seqOn (seqDev 0 {} []) 3 = false ∧ (seqCheck (seqDev 0 {} []) 3).1 = 0 ∧
    (seqCheck ((seqDev 0 {} []).set (CVU_SEQ_CTRL_LEN 3) 33) 3).1 = 1 ∧ (seqDev 1 {} []).cyc.cvuTrig = [] ∧ ((seqDev 1 {} []).cvuS 3).conv = none ∧
    pacedNow (seqDev 1 {} []) 3 = false ∧ nextEntry (seqDev 1 {} []) 3 0 = some 0 ∧ nextEntry ((seqDev 1 {} []).set (CVU_SEQE_OUTPUTS 3 0) 0) 3 0 = none ∧
    (∀ p ∈ [0, 1, 2], (seqDev 1 { on := true, conv := some .reg } [(CVU_SEQ_CTRL_POLICY 3, p)]).get (CVU_SEQ_CTRL_POLICY 3) = p ∧
      (seqDev 1 { on := true, conv := some .reg } [(CVU_SEQ_CTRL_POLICY 3, p)]).bit (CVU_SEQ_CTRL_MODE 3) = false) ∧
    ((seqDev 1 { on := true, conv := some .reg } []).cvuS 3).conv = some .reg ∧ ((seqDev 1 { on := true } []).cvuS 3).latched = false ∧
    pacedNow (seqDev 1 { on := true, conv := some .reg } []) 3 = false ∧
    ((seqDev 1 { latched := true } []).cvuS 3).latched = true ∧ (seqDev 1 {} []).cyc.passEnd = [] ∧
    { seqDev 1 { on := true } [] with cyc.trigRun := [(3, true)] }.cyc.trigRun = [(3, true)] := by decide +kernel

theorem meets_InjectedRequests : injRefusal (seqDev 0 {} []) 3 0 = 1 ∧ injRefusal (seqDev 1 {} []) 3 23 = 0 ∧ injRefusal (seqDev 1 {} []) 3 65535 = 2 ∧
    injRefusal (seqDev 1 { conv := some (.inj 5) } []) 3 0 = 0 ∧ injRefusal (seqDev 1 { conv := some .reg } [(CVU_SEQ_CTRL_INJ_MODE 3, 1)]) 3 0 = 0 ∧
    (seqDev 1 { conv := some .reg } [(CVU_SEQ_CTRL_INJ_MODE 3, 1)]).bit (CVU_SEQ_CTRL_INJ_MODE 3) = true := by decide +kernel

theorem meets_ResultsDelivered : ((seqDev 1 { on := true, conv := some .reg, entry := 31 } []).cvuS 3).entry < 32 ∧
    (seqDev 1 {} []).bit (CVU_SEQE_EVT 3 31) = false ∧ (∀ k < 16, (seqDev 1 {} []).bit (CVU_SCFG_EN 3 k) = false) ∧
    (makeRes (seqDev 1 { conv := some (.inj 65535) } []) 3 (23 % 32) (23 / 32 % 4) (23 / 256 % 256) true false [1, 2, 3] false false 100).2 = false ∧
    dueSpan (seqDev 1 { on := true, conv := some .reg } []) 3 0 [1, 1] false ≠ none ∧
    dueSpan (seqDev 1 { on := true, conv := some .reg } []) 3 0 [1] false = none ∧ dueSpan (seqDev 1 { conv := some (.inj 23) } []) 3 0 [1, 1] false ≠ none := by decide +kernel

/-- Stream 15 of unit 3: enabled or not, a ring of 8 bytes, WR and RD at 0. -/
def ringDev (en len : Nat) : Dev :=
  unit3 {} [(CVU_SCFG_EN 3 15, en), (CVU_SCFG_FMT 3 15, 0), (CVU_SBASE_BASE 3 15, 0x20300000), (CVU_SLEN_LEN 3 15, len), (CVU_SCFG_THRESH 3 15, 0)]

theorem meets_StreamsAndRings : (ringDev 1 8).bit (CVU_SCFG_EN 3 15) = true ∧ (ringDev 0 8).bit (CVU_SCFG_EN 3 15) = false ∧
    streamCheck (ringDev 0 8) 3 15 = 0 ∧ streamCheck (ringDev 0 0) 3 15 = 1 ∧ 3 % ringSize ((ringDev 1 8).get (CVU_SCFG_FMT 3 15)) ≠ 0 ∧
    (ringDev 1 8).get (CVU_SLEN_LEN 3 15) ≤ 8 ∧ 4 < (ringDev 1 8).get (CVU_SLEN_LEN 3 15) ∧ (ringDev 1 8).cyc.ringAdv = [] ∧
    ((ringDev 1 8).get (CVU_SWR_WR 3 15) + 4) % 8 ≠ (ringDev 1 8).get (CVU_SRD_RD 3 15) ∧ (ringDev 1 8).get (CVU_SCFG_THRESH 3 15) = 0 ∧
    (ringDev 1 8).get (CVU_SRD_RD 3 15) ≠ 3 ∧ (ringDev 1 8).cyc.ringRd = [] := by decide +kernel

/-! ### Chapter 7 -/

/-- A run of kind `k` near the limits: the last slot, nearly every cycle used, one loop open, 256 state words and one input port. -/
def run0 (k : RunKind) : Run :=
  { slot := 15, kind := k, slen := 256, work := List.replicate 256 0, ins := [(5, false)], loops := [⟨0, 2047, 2⟩], pc := 2045, cycles := 65535 }

/-- Engine 31 with that run. -/
def engDev (k : RunKind) : Dev := { up [(CE_SWIN_IN_BASE 31 15, 1)] with cea.eng := [(31, { run := some (run0 k) })] }

/-- `At`, decided. -/
def atOk (d : Dev) (n : Nat) (r : Run) (i : CeWord) : Bool :=
  d.live && d.ready (ceaDom n) && decide ((d.eng n).run = some r ∧ r.lib = 0 ∧ r.cycles < 65536 ∧ r.pc < 2048 ∧
    i.d < 16 ∧ i.s < 16 ∧ i.t < 16 ∧ i.imm < 16384 ∧ ceFields (progWord d n r.pc) = i ∧ ceWordOk i r.pc = true)

theorem at_meets {d : Dev} {n : Nat} {r : Run} {i : CeWord} (h : atOk d n r i = true) : At n r (st d) i := by
  simp only [atOk, Bool.and_eq_true, decide_eq_true_eq] at h
  exact ⟨⟨h.1.1, by simpa [st] using h.1.2⟩, h.2⟩

/-- The same engine with the word of `i` where the run is. -/
def engAt (k : RunKind) (i : CeWord) : Dev := { engDev k with win := memWrite [] (ceWin 31 (4 * 2045)) (ceEncode i) 4 }

/-- Words of the operations `l` with the operands `i`. -/
def ops (l : List Nat) (d s t imm : Nat) : List CeWord := l.map (fun o => ⟨o, d, s, t, imm⟩)

/-- Every operation with operands at the edge of what its forms admit: an immediate, and a register where it takes one. -/
def ceWords : List CeWord :=
  ops [0x0A, 0x0B, 0x0C, 0x0D, 0x10, 0x11, 0x12, 0x13, 0x14] 15 15 0 0x3FFF ++ ops [0x0A, 0x0B, 0x0C, 0x0D, 0x10, 0x11, 0x12, 0x13, 0x14] 15 15 15 0 ++
  ops [0x0E, 0x0F, 0x24, 0x26] 15 15 0 0 ++ ops [0x15, 0x16, 0x17] 15 15 0 0x200F ++ ops [0x15, 0x16, 0x17] 15 15 15 0 ++
  ops [0x18, 0x19, 0x1A] 3 15 15 0 ++ ops [0x1B] 3 0 0 0 ++ ops [0x1E] 3 0 0 31 ++ ops [0x1E] 3 0 0 0 ++ ops [0x1E] 3 0 0 63 ++
  ops [0x00] 0 0 0 0 ++ ops [0x01] 15 0 0 0x3FFF ++ ops [0x01] 3 1 0 0x3FF ++ ops [0x02] 15 0 0 255 ++ ops [0x03] 15 15 0 0 ++ ops [0x03] 15 3 0 1 ++
  ops [0x03] 3 15 0 2 ++ ops [0x03] 3 15 0 3 ++ ops [0x03] 15 3 0 4 ++ ops [0x03] 3 3 0 5 ++ ops [0x03] 3 3 0 6 ++
  ops [0x04, 0x05] 15 0 0 0x3FF ++ ops [0x04, 0x05] 15 7 0 0x3FF ++ ops [0x04, 0x05] 15 11 0 0x3FF ++ ops [0x06, 0x07, 0x1C, 0x1D] 3 0 0 255 ++
  ops [0x06, 0x07, 0x1C, 0x1D] 3 11 0 255 ++ ops [0x08, 0x09] 15 0 0 255 ++ ops [0x08] 15 0 0 0 ++ ops [0x08] 15 0 0 1 ++ ops [0x2A] 0 0 0 15 ++
  ops [0x1F] 0 15 0 0x3FFF ++ ops [0x1F] 0 15 15 0 ++ ops [0x20, 0x21, 0x22, 0x25] 15 15 15 0 ++ ops [0x23] 15 15 3 8 ++ ops [0x23] 15 15 3 24 ++
  ops [0x27] 0 0 0 2047 ++ ops [0x28] 9 0 0 2047 ++ ops [0x29] 15 15 0 0x27FF ++ ops [0x29] 0 0 0 0x27FE ++ ops [0x29] 0 15 0 2046

theorem meets_EngineInstructions : ∀ k ∈ [RunKind.plain, .spec, .confirmed, .rerun], ∀ i ∈ ceWords, At 31 (run0 k) (st (engAt k i)) i := by
  intro k hk i hi
  apply at_meets
  revert i
  revert k
  decide +kernel

theorem meets_EngineLoads : (stateOff (run0 .plain) ⟨0x06, 3, 0, 0, 255⟩).1 < (run0 .plain).slen ∧ (stateOff (run0 .plain) ⟨0x1D, 3, 11, 0, 255⟩).1 < (run0 .plain).slen ∧
    (engDev .plain).get (CE_SWIN_IN_BASE 31 15) = 1 ∧ (run0 .plain).ins[1 - 1]? = some (5, false) ∧ 1 + (run0 .plain).ins.length ≤ 255 ∧
    (engDev .plain).cyc.data0 = [] ∧ (run0 .plain).kind ≠ .spec ∧ (run0 .spec).kind = .spec := by decide +kernel

theorem meets_EngineControlFlow : (∀ l ∈ (run0 .plain).loops, 0x27FF % 2048 ≤ l.last) ∧ 0 < loopCount (run0 .plain) 15 15 0x27FF ∧ (run0 .plain).loops.length < 2 ∧
    (∀ l ∈ (run0 .plain).loops, 0x27FE % 2048 < l.last) ∧ loopCount (run0 .plain) 0 0 0x27FE = 0 ∧ holds (run0 .plain) 9 ∧ ¬ holds (run0 .plain) 8 := by
  unfold holds
  decide +kernel

theorem meets_EngineTraced : ((engDev .plain).eng 31).run = some (run0 .plain) ∧ probesOf (engDev .plain) 31 (run0 .plain).slot 2 = [] ∧
    (run0 .spec).kind = .spec ∧ (run0 .confirmed).kind = .confirmed := by decide +kernel

theorem meets_EngineLoopPasses : (2045 : Nat) ≠ (⟨0, 2047, 2⟩ : LoopLvl).last ∧ (⟨0, 2047, 2⟩ : LoopLvl).left = 0 + 2 ∧ (⟨0, 2047, 1⟩ : LoopLvl).left ≤ 1 := by decide +kernel

/-! ### Chapters 10 and 11 -/

/-- Motor 7 in state `k` as `x`, with its timer running, VMOT fault clear and outputs released. -/
def motorDev (k : Nat) (x : MotorS) (l : List (Fld × Nat)) : Dev :=
  { up ([(MDU_MSTAT_STATE 7, k), (MDU_MCFG_TMR_EN 7, 1)] ++ l) with mdu.motors := [(7, x)], pwr.released := true }

theorem meets_MotorTimers : (motorDev 2 {} []).ready 6 = true ∧ (motorDev 2 {} []).bit (MDU_MCFG_TMR_EN 7) = true ∧
    (motorDev 2 {} [(MDU_MCFG_TMR_EN 7, 0)]).bit (MDU_MCFG_TMR_EN 7) = false ∧ (motorDev 2 {} []).get (MDU_MSTAT_STATE 7) = 2 ∧
    ((motorDev 2 {} []).motor 7).wdogOn = false ∧ (motorDev 3 {} []).get (MDU_MSTAT_STATE 7) = 3 ∧
    ((motorDev 3 { wdogOn := true, written := true } []).motor 7).written = true ∧
    (motorDev 1 {} [(MDU_MTRIG_WDOG 7, 3)]).get (MDU_MTRIG_WDOG 7) ≤ ((motorDev 1 { wdogOn := true, wdogCnt := 2 } []).motor 7).wdogCnt + 1 ∧
    (∀ u < 4, (motorDev 2 {} []).get (CVU_SEQ_CTRL_TRIG_SRC u) ≠ 7 + 1) ∧
    (∀ u < 4, (motorDev 2 {} [(CVU_SEQ_CTRL_TRIG_SRC 3, 8)]).get (CVU_SEQ_CTRL_TRIG_SRC u) = 7 + 1 ↔ u = 3) ∧
    (motorDev 2 {} [(CVU_SEQ_CTRL_TRIG_SRC 3, 8)]).cyc.cvuTrig = [] ∧ seqOn (motorDev 2 {} [(CVU_SEQ_CTRL_TRIG_SRC 3, 8)]) 3 = false ∧
    (motorDev 2 {} []).cyc.duty0 = [] := by decide +kernel

theorem meets_MotorDecisions : (∀ k < 7, (motorDev k { valleys := 64, atZero := true } []).get (MDU_MSTAT_STATE 7) = k) ∧
    64 ≤ ((motorDev 1 { valleys := 64 } []).motor 7).valleys ∧ ((motorDev 1 { valleys := 63 } []).motor 7).valleys < 64 ∧
    ((motorDev 3 { atZero := true } []).motor 7).atZero = true ∧
    (spdMag (motorDev 3 {} [(MDU_MMIN_MIN_SPEED 7, 2), (MDU_MSPD_SPDEST 7, 1)]) 7).all (fun v => decide (v < 2)) = true ∧
    minSpeed (motorDev 3 {} [(MDU_MMIN_MIN_SPEED 7, 2), (MDU_MSPD_SPDEST 7, 1)]) 7 = 2 ∧
    (motorDev 6 {} [(MDU_MSTAT_MFLT 7, 1)]).bit (MDU_MSTAT_MFLT 7) = true ∧ (motorDev 6 {} [(MDU_MSTAT_MFLT 7, 0)]).bit (MDU_MSTAT_MFLT 7) = false ∧
    ((motorDev 5 {} [(MDU_MCMD_RUN 7, 1)]).bit (MDU_MCMD_RUN 7) && (motorDev 5 {} []).pwr.released && !((motorDev 5 {} []).motor 7).coast) = true ∧
    ((motorDev 5 {} [(MDU_MCMD_RUN 7, 0)]).bit (MDU_MCMD_RUN 7) && (motorDev 5 {} []).pwr.released && !((motorDev 5 {} []).motor 7).coast) = false := by
  decide +kernel

/-- R291 and R292: PER 6,250, duty 39,323 and DT 20 give the comparison 3,750; the high side stops there and the low side starts 20 ticks on. -/
theorem test_dead_time : (let d := motorDev 2 { per := 6250, dt := 20, duty := [39323, 0, 0], prev := some (6250, [39323, 0, 0]) } [(MDU_MSTAT_MEN 7, 1)]
    [gateBall d 7 0 true 3749, gateBall d 7 0 true 3750, gateBall d 7 0 false 3769, gateBall d 7 0 false 3770]) = [true, false, false, true] := by decide +kernel

/-- R278: at 22 °C and 50 % the dew point is 11.09459 °C. -/
theorem test_dew_point : vsDew (22 * 512) 16384 / 10 ^ 14 = 110945 := by decide +kernel

/-- Fan 15 in state `k` as `x`. -/
def fanDev (k : Nat) (x : FanS) (l : List (Fld × Nat)) : Dev :=
  { up ((MDU_FSTAT_STATE 15, k) :: l) with mdu.fans := [(15, x)], pwr.released := true }

theorem meets_DriveTargets : (fanDev 0 {} []).cyc.posted = [] ∧ (motorDev 2 {} [(MDU_MTRIG_LATCH 7, 14)]).get (MDU_MTRIG_LATCH 7) ≠ 15 ∧
    (motorDev 2 {} [(MDU_MTRIG_LATCH 7, 15)]).get (MDU_MTRIG_LATCH 7) = 15 ∧ (fanDev 0 {} [(MDU_FCFG_LATCH 15, 0)]).get (MDU_FCFG_LATCH 15) ≠ 15 ∧
    (fanDev 0 {} [(MDU_FCFG_LATCH 15, 15)]).get (MDU_FCFG_LATCH 15) = 15 ∧ (fanDev 0 {} []).get (MDU_FSTAT_STATE 15) = 0 ∧
    (fanDev 5 {} []).get (MDU_FSTAT_STATE 15) = 5 ∧ (fanDev 0 {} []).pwr.released = true := by decide +kernel

theorem meets_FanStates : (∀ k < 6, (fanDev k {} []).get (MDU_FSTAT_STATE 15) = k) ∧ ((fanDev 2 { next := 65535 } []).fan 15).next < 65536 ∧
    1 ≤ ((fanDev 3 { revs := 1 } []).fan 15).revs ∧ (fanDev 2 {} [(MDU_FCFG_MODE 15, 0)]).bit (MDU_FCFG_MODE 15) = false ∧
    (fanDev 1 {} [(MDU_FCFG_MODE 15, 1)]).bit (MDU_FCFG_MODE 15) = true ∧ 0 < (fanDev 2 {} [(MDU_FSTAT_DUTY 15, 1)]).get (MDU_FSTAT_DUTY 15) ∧
    inBand (fanDev 3 {} [(MDU_FBAND_LEARNED 15 0, 0)]) 15 = false ∧
    inBand { fanDev 3 {} [(MDU_FBAND_LEARNED 15 0, 1), (MDU_FIS_ISRC 15, 131)] with cea.conv := [(131, (0, false))] } 15 = true ∧
    (fanDev 4 {} [(MDU_FSTAT_ATTEMPT 15, 2), (MDU_FCFG_RESTARTS 15, 2)]).get (MDU_FSTAT_ATTEMPT 15) ≤ (fanDev 4 {} [(MDU_FCFG_RESTARTS 15, 2)]).get (MDU_FCFG_RESTARTS 15) ∧
    (fanDev 4 {} [(MDU_FCFG_RESTARTS 15, 2)]).get (MDU_FCFG_RESTARTS 15) < (fanDev 4 {} [(MDU_FSTAT_ATTEMPT 15, 3)]).get (MDU_FSTAT_ATTEMPT 15) ∧
    (fanDev 5 {} [(MDU_FTGT_TARGET 15, 0)]).sget (MDU_FTGT_TARGET 15) ≤ 0 ∧ 0 < (fanDev 5 {} [(MDU_FTGT_TARGET 15, 1)]).sget (MDU_FTGT_TARGET 15) ∧
    (fanDev 5 {} [(MDU_FCFG_KICK 15, 1)]).get (MDU_FCFG_KICK 15) ≠ 0 := by decide +kernel

/-- Fan 15 running steadily in the top band, its current 100 from source 131. -/
def learnDev (x : FanS) : Dev :=
  { fanDev 2 x [(MDU_FSTAT_DUTY 15, 32767), (MDU_FTACH_VALID 15, 1), (MDU_FIS_ISRC 15, 131)] with cea.conv := [(131, (100, false))] }

/-- The same as drive 23, with ten equal speeds and a learned lowest bin of 1,000. -/
def ageDev (x : DriveS) : Dev :=
  { ((learnDev {}).setEnt 0x6417 2 1000).setEnt 0x6417 3 1 with mdu.drives := [(23, x)] }

theorem meets_DriveLearning : (learnDev {}).get (MDU_FSTAT_DUTY 15) / 4096 = 7 ∧ fanCurrent (learnDev { band := 7, bandSecs := 9 }) 15 = some 100 ∧
    (learnDev {}).bit (MDU_FTACH_VALID 15) = true ∧ ((learnDev {}).fan 15).bandSecs < 9 ∧ ((learnDev { band := 7, bandSecs := 9 }).fan 15).band = 7 ∧
    driveEffort (ageDev {}) 23 = some 32767 ∧ ((ageDev {}).drive 23).speeds.getD 9 none = none ∧ driveSpeed (ageDev {}) 23 = some 0 ∧
    ((ageDev { speeds := List.replicate 10 (some 0) }).drive 23).speeds.getD 9 none = some 0 ∧ driveRuns (ageDev {}) 23 = true ∧
    ageRef (ageDev {}) 23 0 = some 2048000 ∧ ((ageDev { learning := true }).drive 23).learning = true ∧ ((ageDev {}).drive 23).warnCnt < 59 := by decide +kernel

/-- Outputs released, ACT 31 on, pair 15 in state `k`. -/
def outDev (k : Nat) : Dev :=
  { up [(AIO_PAIRCFG_EN 15, 0), (AIO_ACTCFG_MODE 31, 0), (AIO_PAIR_STATE 15, k)] with pwr.released := true, aio.pulse := 0x80000000 }.setN AIO_ACTOUT_LEVEL 31 true

theorem meets_ActuatorOutputs : (outDev 3).ready 7 = true ∧ actOn (outDev 3) 31 = true ∧ actOn (outDev 3) 0 = false ∧ (outDev 3).aio.pulse.testBit 31 = true ∧
    (outDev 3).aio.pulse.testBit 0 = false ∧ (outDev 3).get (AIO_PAIR_STATE 15) = 3 ∧ (outDev 2).get (AIO_PAIR_STATE 15) ≠ 3 := by decide +kernel

theorem meets_GpioInputs : (up []).aio.gpio.testBit 63 = false ∧ (up []).aio.gpio.testBit 63 ≠ true ∧ (up []).cget (AIO_GPIOCFG_WAKE 63) = 0 ∧
    (up [(AIO_GPIOCFG_WAKE 63, 1)]).cget (AIO_GPIOCFG_WAKE 63) = 1 ∧ ((up []).cget (AIO_GPIOCFG_EDGE 63)).testBit 0 = false ∧
    ((up [(AIO_GPIOCFG_EDGE 63, 3)]).cget (AIO_GPIOCFG_EDGE 63)).testBit 0 = true ∧ (up []).ready 7 = true := by decide +kernel

/-- Controller 7 with EN `en`, PERIOD 1 and entry 15 enabled with words 0 `w0` and 2 `w2`. -/
def i2cDev (en w0 w2 : Nat) (x : I2cS) (l : List (Fld × Nat)) : Dev :=
  { up ([(AIO_I2CCFG_EN 7, en), (AIO_I2CCFG_PERIOD 7, 1), (AIO_I2CP_WORD 7 15 0, w0), (AIO_I2CP_WORD 7 15 2, w2)] ++ l) with aio.i2c := [(7, x)] }

theorem meets_I2cControllers : (i2cDev 0 0 0 {} []).bit (AIO_I2CCFG_EN 7) = false ∧ (i2cDev 1 0 0 {} []).bit (AIO_I2CCFG_EN 7) = true ∧
    i2cCheck (i2cDev 0 0 0 {} []) 7 = none ∧ i2cCheck (i2cDev 0 0x80 0 {} []) 7 = some (15, 1) ∧ i2cPolled (i2cDev 1 0x1190 0x200 {} []) 7 = [15] ∧
    i2cPolled (i2cDev 1 0 0 {} []) 7 = [] ∧ (i2cDev 1 0 0 {} [(AIO_I2CCFG_PERIOD 7, 0)]).get (AIO_I2CCFG_PERIOD 7) = 0 ∧
    (i2cDev 1 0 0 {} []).get (AIO_I2CCFG_PERIOD 7) ≠ 0 ∧ (i2cDev 1 0 0 {} []).bit (AIO_I2CSTAT_STUCK 7) = false ∧
    ((i2cDev 1 0 0 { cur := some 15 } []).i2c 7).cur = some 15 ∧ i2cReadings (i2cDev 1 0x1190 0x200 {} []) 7 15 = [(254, 0)] ∧
    tabGet 0 15 ((i2cDev 1 0 0 { cur := some 15 } []).i2c 7).fails + 1 < Nat.max ((i2cDev 1 0 0 {} [(AIO_I2CCFG_FAIL_N 7, 15)]).get (AIO_I2CCFG_FAIL_N 7)) 1 ∧
    Nat.max ((i2cDev 1 0 0 {} [(AIO_I2CCFG_FAIL_N 7, 0)]).get (AIO_I2CCFG_FAIL_N 7)) 1 ≤ tabGet 0 15 ((i2cDev 1 0 0 { cur := some 15 } []).i2c 7).fails + 1 := by decide +kernel

/-! ### Chapter 12 -/

/-- Channel 7 in mode `k` as `x`, its segment connected and error-active. -/
def canDev (k : Nat) (x : CanS) (l : List (Fld × Nat)) : Dev :=
  { up ([(CAN_STAT_MODE 7, k), (CAN_CFG_MODE 7, k), (CAN_STAT_FAULT 7, 0), (CAN_STAT_SEG 7, 0), (CAN_CFG_FD_EN 7, 0), (CAN_TDC_TDC_EN 7, 1)] ++ l) with can := [(7, x)], pwr.released := true }

theorem meets_CanModes : (canDev 0 {} []).ready 9 = true ∧ (canDev 0 {} []).pwr.ctx.length < 2048 ∧ (canDev 4 {} []).get (CAN_STAT_MODE 7) = 4 ∧
    (canDev 0 {} []).get (CAN_STAT_MODE 7) = 0 ∧ channelCheck (canDev 0 {} []) 7 5 ≠ 0 ∧ channelCheck (canDev 0 {} []) 7 1 = 0 ∧
    ((canDev 1 {} []).canS 7).act = none ∧ ((canDev 1 { act := some 31 } []).canS 7).act ≠ none ∧
    (candidates (canDev 4 {} [(CAN_ADR_CAND 7, 0x81)]) 7).find? (fun k => decide (((canDev 4 {} []).canS 7).cand < k)) = some 7 ∧
    (candidates (canDev 4 { cand := 7 } [(CAN_ADR_CAND 7, 0x81)]) 7).find? (fun k => decide (((canDev 4 { cand := 7 } []).canS 7).cand < k)) = none := by decide +kernel

/-- Buffer 29 of channel 7 holds a classic frame of identifier 8 and has status `k`. -/
def txDev (k : Nat) (x : CanS) (l : List (Fld × Nat)) : Dev :=
  let d := canDev 1 x ((CAN_TXSTAT_STATUS 7 29, k) :: l)
  { d with win := memWrite d.win (txAddr 7 29) (8 * 2 ^ 18) 4 }

theorem meets_CanTransmission : (txDev 0 {} []).cyc.canCan = [] ∧ (txDev 0 {} []).cyc.canLate = [] ∧ (∀ k ∈ [0, 1, 2], txStatus (txDev k {} []) 7 29 = k) ∧ txCheck (txDev 0 {} []) 7 29 = 0 ∧
    txCheck (canDev 1 {} []) 7 29 ≠ 0 ∧ canMaySend (canDev 0 {} []) 7 = false ∧ txChoose (canDev 1 {} []) 7 = none ∧ canMaySend (txDev 1 {} []) 7 = true ∧
    txChoose (txDev 1 {} []) 7 = some 29 ∧ canMaySend (txDev 1 { chq := [(0, [])] } []) 7 = true ∧ ((txDev 1 { chq := [(0, [])] } []).canS 7).chq ≠ [] ∧
    ((txDev 2 { act := some 29 } []).canS 7).act = some 29 ∧ (txDev 2 { act := some 29 } [(CAN_CFG_HEGUS_EN 7, 0)]).bit (CAN_CFG_HEGUS_EN 7) = false := by decide +kernel

theorem meets_CanCancelledAtSof : txStatus (txDev 1 {} []) 7 29 = 1 ∧ 32 * 7 + 29 ∉ (txDev 1 {} []).cyc.canReq ∧
    txLate { txDev 5 {} [] with cyc.canLate := [253] } 7 29 = true ∧ canMaySend { txDev 5 {} [] with cyc.canLate := [253] } 7 = true ∧
    (∀ k < 32, k ≠ 29 → txStatus (txDev 5 {} []) 7 k ≠ 1 ∧ txLate { txDev 5 {} [] with cyc.canLate := [253] } 7 k = false) ∧
    32 * 7 + 29 ∈ { txDev 0 {} [] with cyc.canCan := [253] }.cyc.canCan ∧ txCheck { txDev 0 {} [] with cyc.canCan := [253] } 7 29 = 0 := by decide +kernel

theorem meets_CanErrors : (∀ k < 4, (canDev 1 {} [(CAN_STAT_FAULT 7, k)]).get (CAN_STAT_FAULT 7) = k) ∧ (canDev 1 {} []).get (CAN_STAT_MODE 7) = 1 ∧
    (canDev 1 {} []).pwr.released = true ∧ ((canDev 1 { rec_ := 126, tec := 127 } []).canS 7).rec_ < 127 ∧ ((canDev 1 { rec_ := 127 } []).canS 7).rec_ = 127 ∧
    ((txDev 2 { act := some 29, tec := 119, rec_ := 127 } []).canS 7).tec < 120 ∧ (txWord (txDev 2 { act := some 29 } []) 7 29 1).getLsbD 7 = false ∧
    248 ≤ ((txDev 2 { act := some 29, tec := 248 } []).canS 7).tec ∧ (txDev 2 {} [(CAN_BOCFG_BO_LIMIT 7, 0)]).get (CAN_BOCFG_BO_LIMIT 7) = 0 := by decide +kernel

/-- Channel 7 only listening, with filters off and NOMATCH `k`; a frame that nothing filters. -/
def rxDev (k : Nat) (x : CanS) : Dev := canDev 2 x [(CAN_CFG_NOMATCH 7, k), (PMC_PSTATE_STATE, 0)]
def anyFrame : CanFrame := { id := 2047, dlc := 8, data := [1, 2, 3, 4, 5, 6, 7, 8] }

theorem meets_CanReception : (canDev 0 {} []).cget (CAN_CFG_MODE 7) = 0 ∧ (rxDev 2 {}).cget (CAN_CFG_MODE 7) ≠ 0 ∧ Awake (st (rxDev 2 {})) ∧
    (crxEdge { up [(PMC_DOMSTAT_READY, 0)] with pwr.ctx := [(CAN_CFG 7, 1)] }).ready 9 = false ∧
    { up [(PMC_DOMSTAT_READY, 0)] with pwr.ctx := [(CAN_CFG 7, 1)] }.cget (CAN_CFG_MODE 7) ≠ 0 ∧
    wakeArmed (rxDev 2 {}) 2 = true ∧ (rxDev 2 {}).pwr.save = .none ∧ 4 ≤ (rxDev 2 {}).pwr.step ∧
    2 ≤ (canDev 1 {} [(CAN_STAT_FAULT 7, 3)]).get (CAN_STAT_FAULT 7) ∧ (rxDev 2 {}).get (CAN_STAT_MODE 7) = 2 ∧
    (rxDev 2 {}).get (CAN_STAT_FAULT 7) < 2 ∧ (upto 64).find? (filterHit (rxDev 2 {}) 7 anyFrame) = none ∧
    (rxDev 2 {}).get (CAN_CFG_NOMATCH 7) = 1 + 1 ∧ ((rxDev 2 {}).canS 7).hush = none ∧ (((rxDev 2 {}).canS 7).q 1).length < 64 ∧
    (upto 64).find? (fun k => !(((rxDev 2 {}).canS 7).q 1).contains k) = some 0 ∧ ((rxDev 2 {}).canS 7).q 1 = [] ∧
    ((rxDev 2 { q1 := [63, 0] }).canS 7).q 1 = 63 :: [0] ∧ ((rxDev 2 { q1 := [63, 0] }).canS 7).lock 1 = none ∧
    ((rxDev 2 { q1 := [63, 0], lock1 := some (readerKey 7 0) }).canS 7).lock 1 = some (readerKey 7 0) := by
  refine ⟨by decide +kernel, by decide +kernel, ⟨by decide +kernel, by decide +kernel⟩, by decide +kernel⟩

/-- A HUSH of node `t` asked for at 0. -/
def hush (t : Nat) (sent : Option Nat) (acked : Bool) : HushS := { target := t, dur := 10, release := false, req := 0, sent := sent, acked := acked }

theorem meets_CanSegments : ((canDev 1 { hush := some (hush 63 none false) } []).canS 7).hush ≠ none ∧ ((canDev 1 {} []).canS 7).hush = none ∧
    (∃ t, (hush 63 (some 49000000) true).sent = some t ∧ t ≤ (hush 63 (some 49000000) true).req + 49000000) ∧ (hush 63 (some 49000000) true).acked = true ∧
    (hush 0x7F (some 0) false).noisy = false ∧ (hush 63 none false).sent = none ∧ (canDev 1 {} []).get (CAN_STAT_SEG 7) = 0 ∧
    (canDev 2 {} []).now ≤ (hush 63 (some 0) false).req + 50000000 ∧ (hush 63 (some 0) false).sent ≠ none ∧
    (canDev 2 {} [(CAN_CFG_CH_COPY 7, 0)]).bit (CAN_CFG_CH_COPY 7) = false ∧
    (canDev 1 {} [(CAN_SEGCFG_BABBLE_LOAD 7, 0)]).get (CAN_SEGCFG_BABBLE_LOAD 7) = 0 ∧
    Nat.min ((txDev 1 {} [(CAN_SEGCFG_BABBLE_LOAD 7, 99)]).get (CAN_SEGCFG_BABBLE_LOAD 7)) 100 < 100 ∧ (txDev 1 {} [(CAN_SEGCFG_BABBLE_LOAD 7, 99)]).get (CAN_SEGCFG_BABBLE_LOAD 7) ≠ 0 ∧
    (canDev 1 {} [(CAN_SEGCFG_BEACON_PERIOD 7, 0)]).get (CAN_SEGCFG_BEACON_PERIOD 7) = 0 ∧ (canDev 1 {} [(CAN_SEGCFG_BEACON_PERIOD 7, 1)]).get (CAN_SEGCFG_BEACON_PERIOD 7) ≠ 0 ∧
    (∀ k < 5, (canDev 1 {} [(CAN_STAT_SEG 7, k)]).get (CAN_STAT_SEG 7) = k) := by
  refine ⟨by decide +kernel, by decide +kernel, ⟨49000000, by decide +kernel, by decide +kernel⟩, by decide +kernel⟩

theorem meets_CanNodesAndTransport : (canDev 2 {} [(CAN_CFG_CH_COPY 7, 0)]).get (CAN_STAT_MODE 7) = 2 ∧ (tabGet {} (0x800 + 7) (canDev 2 {} []).sec.acts : ActS).st ≠ 2 ∧
    nodeBound (canDev 2 {} []) 7 63 = false ∧ nodeBound (nodeBind 7 63 5 (canDev 2 {} [])) 7 63 = true ∧ nodeIdent (nodeBind 7 63 5 (canDev 2 {} [])) 7 63 = 5 ∧
    (canDev 2 {} [(CAN_CFG_HEGUS_EN 7, 1)]).bit (CAN_CFG_HEGUS_EN 7) = true ∧ (canDev 2 {} []).bit (CAN_CFG_FD_EN 7) = false ∧
    (∀ k < 63, (canDev 2 {} []).bit (CAN_FMATCH_EN 7 k) = false) ∧ (((canDev 2 {} []).canS 7).q 1).length < 64 ∧
    ((canDev 2 { rx := [⟨63, 9, [1, 2, 3, 4, 5], 1⟩] } []).canS 7).rx = [⟨63, 9, [1, 2, 3, 4, 5], 1⟩] ∧
    (∀ t ∈ ((canDev 2 { tx := [{ node := 63, msg := [], st := 2 }] } []).canS 7).tx, t.node ≠ 63 ∨ t.st ≠ 1) := by decide +kernel

/-! ### Chapter 13 -/

/-- Ports 1 and 5 are up and members of VLAN 1; class 6 of port 1 is policed at rate `k`. -/
def netDev (k : Nat) (l : List (Fld × Nat)) : Dev :=
  up ([(FNS_PORTSTAT_LINK 1, 2), (FNS_PORTSTAT_LINK 5, 2), (FNS_PORTCFG_PVID 1, 1), (FNS_PORTCFG_ACCEPT 1, 0), (FNS_VLAN_VID 0, 1), (FNS_VLAN_MEMBER 0, 0x22),
    (FNS_VLAN_EN 0, 1), (FNS_POLICE_RATE 1 6, k), (FNS_POLICE_BURST 1 6, 255), (FNS_CFG_LEARN, 0), (PMC_PSTATE_STATE, 0), (PMC_CLKSTAT_REF_OK, 1)] ++ l)

/-- A tagged group frame of class 6, of VLAN `v` and type `t`. -/
def netFrame (v t : Nat) : NetFrame := { dst := 0x01005E000001, src := 2, tag := some (6, v), etype := t, len := 1522 }

/-- A frame that waits on port 5 in class 7. -/
def netQueued : Dev := { netDev 1 [] with net.queues := [(47, [{ frame := netFrame 1 0x800, shared := true }])] }

theorem meets_NetFrames : (netDev 1 []).ready 8 = true ∧ (netDev 1 []).get PMC_PSTATE_STATE = 0 ∧ (netDev 1 []).pwr.coreWait = 0 ∧
    (netDev 1 [(PMC_PSTATE_STATE, 2)]).get PMC_PSTATE_STATE ≠ 0 ∧ portUp (netDev 1 [(PMC_PSTATE_STATE, 2)]) 1 = true ∧
    passesBlock (netFrame 1 0x800) = false ∧ (netDev 1 [(FNS_PORTSTAT_LOOP_BLOCKED 1, 1)]).bit (FNS_PORTSTAT_LOOP_BLOCKED 1) = true ∧
    portUp (netDev 1 []) 1 = true ∧ portUp (netDev 1 []) 5 = true ∧
    portUp (netDev 1 []) 0 = false ∧ (netDev 1 []).bit FNS_CFG_LEARN = false ∧ (netDev 1 []).bit (FNS_PORTSTAT_LOOP_BLOCKED 1) = false ∧
    isPtp (netFrame 1 0x88F7) = true ∧ ptpRole (netDev 1 [(PTP_CFG_ROLE, 1)]) ≠ 0 ∧ isPtp (netFrame 1 0x800) = false ∧
    reservedGroup (netFrame 1 0x800).dst = false ∧ (netFrame 1 0x800).dst ≠ broadcast ∧ classify 1 (netFrame 4095 0x800) (netDev 1 []) = none ∧
    (classify 1 (netFrame 1 0x800) (netDev 1 [])).isSome = true ∧ classOf 1 (netFrame 1 0x800) (netDev 1 []) = 6 ∧
    (netDev 0 []).get (FNS_POLICE_RATE 1 6) = 0 ∧ (netDev 1 []).get (FNS_POLICE_RATE 1 6) ≠ 0 ∧
    netTargets 1 ((netDev 1 []).rd (FNS_VLAN 0)) (netFrame 1 0x800) (netDev 1 []) = [5] ∧
    tabGet (0, 0) (8 * 1 + 6) { netDev 1 [] with net.buckets := [(14, (1522 * 8000000000, 0))] }.net.buckets = ((netFrame 1 0x800).len * 8000000000, 0) ∧
    (netFrame 1 0x800).len * 8 ≤ (netDev 1 []).get (FNS_POLICE_BURST 1 6) * 512 ∧ (netDev 1 []).net.queues = [] ∧ (netDev 1 []).cyc.netDown = [] ∧
    netQueued.queue 5 7 = [{ frame := netFrame 1 0x800, shared := true }] ∧ (∀ k < 8, 7 < k → netQueued.queue 5 k = []) := by
  decide +kernel

theorem meets_NetLinks : (netDev 1 []).pwr.ctx.length < 2048 ∧ (netDev 1 []).bit PMC_CLKSTAT_REF_OK = true ∧ (netDev 1 []).cyc.posted = [] ∧
    (netDev 1 []).get (FNS_PORTSTAT_LINK 0) = 0 ∧ (netDev 1 []).bit (FNS_DIAG_BUSY 0) = false ∧ (netDev 1 []).get (FNS_PORTSTAT_LINK 5) ≠ 0 ∧
    (netDev 1 [(FNS_PORTSTAT_LINK 1, 1)]).get (FNS_PORTSTAT_LINK 1) = 1 ∧ (netDev 1 []).get (FNS_PORTSTAT_LINK 1) = 2 ∧
    (netDev 1 [(FNS_PORTCFG_EN 1, 1)]).bit (FNS_PORTCFG_EN 1) = true ∧ portUp (netDev 1 []) (3 + 2) = true ∧ portUp (netDev 1 []) (0 + 2) = false ∧
    (netDev 1 [(FNS_DIAG_BUSY 5, 1)]).bit (FNS_DIAG_BUSY 5) = true ∧ (netDev 1 [(FNS_PORTCFG_EN 5, 0)]).bit (FNS_PORTCFG_EN 5) = false ∧
    (netDev 1 [(FNS_CFG_LOOP_EN, 0)]).bit FNS_CFG_LOOP_EN = false ∧ (netDev 1 [(FNS_CFG_LOOP_EN, 1)]).bit FNS_CFG_LOOP_EN = true ∧
    (∀ q, q < 6 → q ≠ 5 → portUp (netDev 1 [(FNS_PORTSTAT_LINK 1, 0)]) q = false ∧ (netDev 1 []).bit (FNS_PORTSTAT_LOOP_BLOCKED q) = false) ∧
    (netDev 1 [(FNS_PORTSTAT_LOOP_BLOCKED 5, 1)]).bit (FNS_PORTSTAT_LOOP_BLOCKED 5) = true ∧ (netDev 1 []).net.loopHit.testBit 5 = false := by decide +kernel

theorem meets_NetAddresses : (up []).net.llCand = 0 ∧ (up []).net.v6Stop.testBit 0 = false ∧ (up []).net.v6Stop.testBit 1 = false ∧
    { up [] with net.v6Stop := 3 }.net.v6Stop.testBit 1 = true ∧ { up [] with net.llCand := 0xFEA9 + 65536 }.net.llCand ≠ 0 ∧ ((up []).setEnt 0x1100 6 1).ent 0x1100 6 ≠ 2 ∧
    ((up []).setEnt 0x1100 6 2).ent 0x1100 6 = 2 ∧ (((up []).setEnt 0x1100 6 2).ent 0x1101 4).testBit 1 = false ∧
    (((up []).setEnt 0x1101 4 2).ent 0x1101 4).testBit 1 = true ∧ { up [] with net.dhcp := 1 }.net.dhcp < 2 ∧ 2 ≤ { up [] with net.dhcp := 2 }.net.dhcp ∧
    ((up []).setEnt 0x1100 3 0).ent 0x1100 3 = 0 ∧ ((up []).setEnt 0x1100 3 2).ent 0x1100 3 = 2 ∧ ((up []).setEnt 0x1100 6 0).ent 0x1100 6 = 0 := by decide +kernel

/-! ### Chapter 14 -/

/-- A request that is taken, on whose session and device `P` holds. -/
def admitsP (d : Dev) (r : Req) (write : Bool) (P : Sess → Dev → Bool) : Bool :=
  admits d r write && match d.session r.sess with
    | none => false
    | some x => P x (rateTake (srcOf x) (d.setSession { x with last := d.now })).2

theorem admitsP_meets {d : Dev} {r : Req} {write : Bool} {P : Sess → Dev → Bool} (h : admitsP d r write P = true) :
    ∃ x e, Admitted (st d) r write x e ∧ P x e = true := by
  unfold admitsP at h
  rw [Bool.and_eq_true] at h
  obtain ⟨x, e, hx, he, ha⟩ := admits_meets h.1
  have h2 := h.2
  rw [hx] at h2
  exact ⟨x, e, ha, by rw [he]; exact h2⟩

/-- A request of session 2, of the host, and a malformed one. -/
def req : Req := ⟨2, 1, false⟩
def reqHost : Req := ⟨1, 1, false⟩
def reqBad : Req := ⟨2, 1, true⟩

/-- A device whose one session is `x`, and one with no credit left for it. -/
def hegDev (x : Sess) : Dev := { owned [(HIF_CFG_EN, 1)] with heg.sessions := [x] }
def poor (n : Nat) : Dev := { hegDev (sess 3) with heg.buckets := [(65537, (0, 0, n, 0))] }

theorem meets_RequestPipeline : (hegDev (sess 3)).sec.recovery = none ∧ carries (hegDev (sess 3)) 511 = true ∧ (hegDev (sess 3)).session 511 = none ∧
    carries { hegDev (sess 3) with pwr.step := 3 } 2 = false ∧
    (rateTake 65537 ((hegDev (sess 3)).setSession (atNow (sess 3) (hegDev (sess 3))))).1 = 0 ∧ srcOf (sess 3) = 65537 ∧
    (rateTake 65537 ((poor 9).setSession (atNow (sess 3) (poor 9)))).1 = 1 ∧ (rateTake 65537 ((poor 10).setSession (atNow (sess 3) (poor 10)))).1 = 2 ∧
    ({ sess 3 with cache := [⟨1, 1, 0, 0, ⟨0, 0⟩⟩] }.cache.find? (fun y : Resp => y.req = 1)).isSome = true ∧ (sess 3).open_.length < 8 ∧
    1 ∈ { sess 3 with open_ := [1] }.open_ ∧ reqBad.bad = true ∧ hegBusy { hegDev (sess 3) with pwr.takeover := some 1 } false = true := by decide +kernel

theorem meets_EntryRequests_read : (∃ x e, Admitted (st (hegDev (sess 3))) req false x e ∧
      (decide ((readEnt x.role x.num 0x1000 2 e).1 = 0 ∧ 16 + (readEnt x.role x.num 0x1000 2 e).2.1.len ≤ maxMsg x.via) &&
        decide ((readEnt x.role x.num 0x1000 255 e).1 ≠ 0) && (entInfo 0x1000 255 e).isNone && (entInfo 0x1000 2 e).isSome) = true) ∧
    (∃ x e, Admitted (st (hegDev (sess 3))) req true x e ∧ (decide ((entWrite x.role x.num false 0x1000 255 ⟨1, 0⟩ e).1 ≠ 0) &&
      (itemsApply x.role x.num [⟨0x1000, 255, ⟨1, 0⟩⟩] e).1.isSome && (itemsApply x.role x.num [⟨0x1000, 2, ⟨2, 50⟩⟩] e).1.isNone &&
      decide (0 < (itemsApply x.role x.num [⟨0x1000, 2, ⟨2, 50⟩⟩] e).2.time64 + 10000000)) = true) :=
  ⟨admitsP_meets (P := fun x e => decide ((readEnt x.role x.num 0x1000 2 e).1 = 0 ∧ 16 + (readEnt x.role x.num 0x1000 2 e).2.1.len ≤ maxMsg x.via) &&
        decide ((readEnt x.role x.num 0x1000 255 e).1 ≠ 0) && (entInfo 0x1000 255 e).isNone && (entInfo 0x1000 2 e).isSome) (by decide +kernel),
    admitsP_meets (P := fun x e => decide ((entWrite x.role x.num false 0x1000 255 ⟨1, 0⟩ e).1 ≠ 0) &&
      (itemsApply x.role x.num [⟨0x1000, 255, ⟨1, 0⟩⟩] e).1.isSome && (itemsApply x.role x.num [⟨0x1000, 2, ⟨2, 50⟩⟩] e).1.isNone &&
      decide (0 < (itemsApply x.role x.num [⟨0x1000, 2, ⟨2, 50⟩⟩] e).2.time64 + 10000000)) (by decide +kernel)⟩

/-- The same with the time known, and while the debug port owns the NV store. -/
def hegTimed : Dev := { hegDev (sess 3) with xtf.st := .free }
def hegDebug : Dev := (hegDev (sess 3)).set NVS_STAT_OWNER 12

theorem meets_EntryRequests_timed : (∃ x e, Admitted (st hegTimed) req true x e ∧ ((itemsApply x.role x.num [⟨0x1000, 2, ⟨2, 50⟩⟩] e).1.isNone && !tbUnset e &&
      decide (e.time64 + 10000000 ≤ 10000000 ∧ 10000000 ≤ e.time64 + days31 ∧ e.heg.timed = [] ∧ (ldgEntry e (14 * 256 + 8 + 247)).en = false ∧
        itemWaits [⟨0x1000, 2, ⟨2, 50⟩⟩] none e = none)) = true) ∧
    (∃ x e, Admitted (st hegDebug) req true x e ∧ (!tellerWaits 0x1000 2 e &&
      storeOwned (fun d => (entWrite x.role x.num false 0x1000 2 ⟨2, 50⟩ d).1) e) = true) :=
  ⟨admitsP_meets (P := fun x e => (itemsApply x.role x.num [⟨0x1000, 2, ⟨2, 50⟩⟩] e).1.isNone && !tbUnset e &&
      decide (e.time64 + 10000000 ≤ 10000000 ∧ 10000000 ≤ e.time64 + days31 ∧ e.heg.timed = [] ∧ (ldgEntry e (14 * 256 + 8 + 247)).en = false ∧
        itemWaits [⟨0x1000, 2, ⟨2, 50⟩⟩] none e = none)) (by decide +kernel),
    admitsP_meets (P := fun x e => !tellerWaits 0x1000 2 e && storeOwned (fun d => (entWrite x.role x.num false 0x1000 2 ⟨2, 50⟩ d).1) e) (by decide +kernel)⟩

/-- A timed request of session 2 that waits with one item, and its due event. -/
def timedDev : Dev :=
  { hegDev (sess 3) with heg.timed := [{ id := 65535, time := 5, role := 3, sess := 2, items := [⟨0x1000, 2, ⟨2, 50⟩⟩] }], ldg.events := [0x1400FFFF] }

theorem meets_EntryRequests_write : writes { hegDev (sess 3) with dict := [(0x550001, 2)] } req false 0x1F00 0 ⟨4, 0⟩ = true ∧ writes (hegDev (sess 3)) req true 0x0C00 0 ⟨1, 0⟩ = true ∧
    writes { timedDev with ldg.events := [], dict := ((up []).setEnt 0x1010 5 65535).dict } req false 0x1010 5 ⟨2, 65535⟩ = true ∧ timedEntry timedDev 65535 = none ∧ 0x14000000 + 65535 ∈ timedDev.ldg.events ∧
    timedDev.get NVS_STAT_OWNER ≠ 12 ∧ (∀ q ∈ timedDev.heg.timed, itemWaits q.items (timedApply q timedDev).1 timedDev = none ∧ (timedApply q timedDev).1 = none) ∧
    (itemsApply 3 2 [⟨0x1000, 2, ⟨2, 50⟩⟩] timedDev).1 = none ∧ (itemsApply 3 2 [⟨0x1000, 255, ⟨4, 0⟩⟩] timedDev).1.isSome = true := by decide +kernel

/-- A subscription of session 2 to the request credit: `last` notified, `m` its mode. -/
def subbed (m : Nat) (last : Option Octets) (q : List Notification) : Sess :=
  { sess 3 with subs := [{ id := 1, idx := 0x1000, sub := 2, mode := m, period := 100, deadband := 0, last := last }], queue := q }

theorem meets_Subscriptions : (∃ x e, Admitted (st (hegDev (sess 3))) req false x e ∧ ((entInfo 0x1000 255 e).isNone && x.subs.isEmpty &&
      e.heg.sessions.all (fun y => y.subs.isEmpty) && (match entInfo 0x0100 0 e, entInfo 0x1000 2 e with
        | some a, some b => decide (a.rd ≤ x.role ∧ 22 + a.size ≤ maxMsg x.via ∧ b.rd ≤ x.role ∧ 22 + b.size ≤ maxMsg x.via)
        | _, _ => false)) = true) ∧
    (∃ x e, Admitted (st (hegDev (subbed 0 none []))) req false x e ∧ decide (∃ b ∈ x.subs, b.id = 1) = true) :=
  ⟨admitsP_meets (P := fun x e => (entInfo 0x1000 255 e).isNone && x.subs.isEmpty &&
      e.heg.sessions.all (fun y => y.subs.isEmpty) && (match entInfo 0x0100 0 e, entInfo 0x1000 2 e with
        | some a, some b => decide (a.rd ≤ x.role ∧ 22 + a.size ≤ maxMsg x.via ∧ b.rd ≤ x.role ∧ 22 + b.size ≤ maxMsg x.via)
        | _, _ => false)) (by decide +kernel),
    admitsP_meets (P := fun x _ => decide (∃ b ∈ x.subs, b.id = 1)) (by decide +kernel)⟩

/-- A device that has logged an event since session 2 subscribed to events. -/
def evDev : Dev :=
  raise .CLK32_LOST [] (hegDev { sess 3 with subs := [{ id := 1, idx := 0x0100, sub := 0, mode := 3, period := 0, deadband := 0 }] })

theorem meets_Subscriptions_events : (evDev.session 2).any (fun x => x.subs.all (fun b => decide (b.mode = 3 ∧ b.carried = 0 ∧
      (evDev.evLog.filter (fun v => decide (b.next ≤ v.seq))).length = 1)) && decide (x.subs.length = 1 ∧ x.queue.length + 1 ≤ 64) &&
      (entInfo 0x0100 0 evDev).any (fun e => decide (e.rd ≤ x.role))) = true := by decide +kernel

/-- Sixty-four values that wait, the first of subscription 1. -/
def fullQueue : List Notification := List.replicate 64 ⟨1, 0, 0, 0, ⟨2, 49⟩⟩

theorem meets_Subscriptions_notify : (hegDev (sess 3)).session 7 = none ∧ (hegDev (sess 3)).session 2 = some (sess 3) ∧
    (hegDev (subbed 0 none [])).session 2 = some (subbed 0 none []) ∧ (subbed 0 none []).subs.find? (fun b => b.id = 1) = (subbed 0 none []).subs.head? ∧
    (readEnt 3 2 0x1000 2 (hegDev (subbed 0 none []))).1 = 0 ∧ (readEnt 3 2 0x1000 2 (hegDev (subbed 0 none []))).2.1 = ⟨2, 50⟩ ∧
    (readEnt 3 2 0x1000 2 (hegDev (subbed 0 none []))).2.2 = hegDev (subbed 0 none []) ∧
    (entInfo 0x1000 2 (hegDev (subbed 0 none []))).isSome = true ∧ (subbed 0 (some ⟨2, 50⟩) []).subs.all (fun b => b.last = some ⟨2, 50⟩) = true ∧
    64 ≤ (subbed 1 none fullQueue).queue.length ∧ (∃ q ∈ (subbed 1 none fullQueue).queue, q.sub = 1) := by decide +kernel

/-- Session 2 with a block read of three bytes, or a write of three bytes of which `n` have come. -/
def reading : Sess := { sess 3 with xfers := [{ id := 1, idx := 0x0C00, sub := 0, write := false, total := 3, data := ⟨3, 5⟩, last := 0 }] }
def writing (n : Nat) : Sess := { sess 3 with xfers := [{ id := 1, idx := 0x0C00, sub := 0, write := true, total := 1, data := ⟨n, 0⟩, last := 0 }] }

theorem meets_BlockTransfers_start : (∃ x e, Admitted (st (hegDev (sess 3))) req false x e ∧ (x.xfers.isEmpty && decide ((readEnt x.role x.num 0x1000 2 e).1 = 0)) = true) ∧
    (∃ x e, Admitted (st (hegDev (sess 3))) req true x e ∧ (decide (writeGate x.role 0x1000 255 true e ≠ 0 ∧ writeGate x.role 0x0C00 0 true e = 0) &&
      (match entInfo 0x0C00 0 e with | some a => decide (1 ≤ a.size) | none => false) && e.heg.sessions.all (fun y => y.xfers.isEmpty)) = true) :=
  ⟨admitsP_meets (P := fun x e => x.xfers.isEmpty && decide ((readEnt x.role x.num 0x1000 2 e).1 = 0)) (by decide +kernel),
    admitsP_meets (P := fun x e => decide (writeGate x.role 0x1000 255 true e ≠ 0 ∧ writeGate x.role 0x0C00 0 true e = 0) &&
      (match entInfo 0x0C00 0 e with | some a => decide (1 ≤ a.size) | none => false) && e.heg.sessions.all (fun y => y.xfers.isEmpty)) (by decide +kernel)⟩

theorem meets_BlockTransfers_abort : ∃ x e, Admitted (st { hegDev (sess 3) with sec.waits := [⟨2, 9, 0x0B, [0, 0, 0, 0, 0, 1], 0, false⟩] }) req false x e ∧
    (x.xfers.isEmpty && (blockWaiting 1 x e).isSome) = true := admitsP_meets (P := fun x e => x.xfers.isEmpty && (blockWaiting 1 x e).isSome) (by decide +kernel)

theorem keepsXfers {d : Dev} {w : Bool} {l : List BlockXfer} (h : admitsP d req w (fun x _ => decide (x.xfers = l)) = true) :
    ∃ x e, Admitted (st d) req w x e ∧ decide (x.xfers = l) = true := admitsP_meets h

theorem meets_BlockTransfers_data : (∃ x e, Admitted (st (hegDev reading)) req false x e ∧ decide (x.xfers = reading.xfers) = true) ∧
    (∃ x e, Admitted (st (hegDev (writing 0))) req false x e ∧ decide (x.xfers = (writing 0).xfers) = true) ∧
    (∃ x e, Admitted (st (hegDev (writing 0))) req true x e ∧ decide (x.xfers = (writing 0).xfers) = true) ∧
    (∃ x e, Admitted (st (hegDev (writing 1))) req true x e ∧ (decide (x.xfers = (writing 1).xfers) && decide (crc32 ⟨1, 0⟩ 1 ≠ 0) &&
      accepted x.role x.num true 0x0C00 0 ⟨1, 0⟩ (e.setSession { atNow x (hegDev (writing 1)) with xfers := [] })) = true) ∧ tellerWaits 0x0C00 0 (hegDev (writing 1)) = false :=
  ⟨keepsXfers (by decide +kernel), keepsXfers (by decide +kernel), keepsXfers (by decide +kernel),
    admitsP_meets (P := fun x e => decide (x.xfers = (writing 1).xfers) && decide (crc32 ⟨1, 0⟩ 1 ≠ 0) &&
      accepted x.role x.num true 0x0C00 0 ⟨1, 0⟩ (e.setSession { atNow x (hegDev (writing 1)) with xfers := [] })) (by decide +kernel), by decide +kernel⟩

/-- The host's session, and a device with the host interface on and no session. -/
def host : Sess := { num := 1, via := .spi, role := 1 }
def closed : Dev := { hegDev (sess 3) with heg.sessions := [] }

theorem meets_SessionsAndProofs_open : reqHost.sess = 1 ∧ reqHost.bad = false ∧ closed.sec.recovery = none ∧ carries closed 1 = true ∧ closed.session 1 = none ∧
    hegBusy closed false = false ∧ (rateTake 0 closed).1 = 0 ∧ closed.session 2 = none ∧ (hegDev (sess 3)).session 2 ≠ none := by decide +kernel

theorem meets_SessionsAndProofs_request : (∃ x e, Admitted (st (hegDev (sess 3))) req false x e ∧ decide (x.via ≠ .spi) = true) ∧
    (∃ x e, Admitted (st { hegDev host with regs := (((hegDev host).set SCU_TRNG_OK 1).regs) }) reqHost false x e ∧ (decide (x.via = .spi ∧ e.sec.lcs ≠ 3 ∧
      lockedOut e (srcOf x) = false ∧ trngStopped e = false ∧ x.authing = none ∧ (tabGet [] 0 e.heg.fails).length < 4)) = true) ∧
    (∃ x e, Admitted (st { hegDev host with heg.lockout := [(0, 5)] }) reqHost false x e ∧ decide (x.via = .spi ∧ lockedOut e (srcOf x) = true) = true) :=
  ⟨admitsP_meets (P := fun x _ => decide (x.via ≠ .spi)) (by decide +kernel),
    admitsP_meets (P := fun x e => decide (x.via = .spi ∧ e.sec.lcs ≠ 3 ∧
      lockedOut e (srcOf x) = false ∧ trngStopped e = false ∧ x.authing = none ∧ (tabGet [] 0 e.heg.fails).length < 4)) (by decide +kernel),
    admitsP_meets (P := fun x e => decide (x.via = .spi ∧ lockedOut e (srcOf x) = true)) (by decide +kernel)⟩

theorem meets_SessionsAndProofs_hello : closed.ready 8 = true ∧ 4 ≤ closed.pwr.step ∧ lockedOut closed (65536 + 5) = false ∧ (tabGet [] (65536 + 5) closed.heg.hellos).length < 4 ∧
    (closed.setEnt 0x1000 5 1).ent 0x1000 5 = 1 ∧ trngStopped (closed.set SCU_TRNG_OK 1) = false ∧ closed.heg.sessions = [] ∧
    hegusPort closed ≠ 0 ∧ (serverCert closed).isSome = true ∧ serverCert { closed with sec.lcs := 3 } = none ∧ portUp (closed.set (FNS_PORTCFG_EN 6) 0) 6 = false ∧ portUp closed 6 = true ∧
    lockedOut { closed with heg.lockout := [(65541, 5)] } (65536 + 5) = true := by decide +kernel

/-- An empty frame of the host: head, its CRC, and the CRC `k` of the payload. -/
def frameHead : Octets := ⟨6, 0xA5⟩
def frame8 : Octets := ⟨8, 0xA5 + crc16 frameHead 6 * 256 ^ 6⟩
def frame (k : Nat) : Octets := ⟨12, frame8.val + k * 256 ^ 8⟩

theorem meets_HostSpi : closed.get PMC_PSTATE_STATE = 0 ∧ closed.pwr.coreWait = 0 ∧ (closed.set PMC_PSTATE_STATE 3).get PMC_PSTATE_STATE ≠ 0 ∧ (closed.set HIF_CFG_EN 0).bit HIF_CFG_EN = false ∧ closed.bit HIF_CFG_EN = true ∧ closed.heg.outq = [] ∧ closed.session 1 = none ∧
    hrdyHigh closed = true ∧ hrdyHigh { closed with heg.rxFull := true } = false ∧ (frame 0).len = 12 ∧ (frame 0).at 0 1 = 0xA5 ∧ (frame 0).at 1 1 = 0 ∧ (frame 0).at 2 2 = 0 ∧
    crc16 (frame 0) 6 = (frame 0).at 6 2 ∧ crc16 ⟨12, 0xA5⟩ 6 ≠ (⟨12, 0xA5⟩ : Octets).at 6 2 ∧ closed.heg.key = none ∧
    (let k := crc32 frame8.blob 8; crc32 ((frame k).part 0 8).blob ((frame k).part 0 8).len = (frame k).at 8 4) ∧
    crc32 ((frame 0).part 0 8).blob ((frame 0).part 0 8).len ≠ (frame 0).at 8 4 ∧ { closed with heg.outq := [(none, ⟨3, 5⟩)] }.heg.outq = (none, ⟨3, 5⟩) :: [] := by
  decide +kernel

/-! ### Chapter 8 -/

/-- Engine 31 with run `r` and slot 15 as `x`. -/
def ceDev (r : Option Run) (x : SlotS) (l : List (Fld × Nat)) : Dev := { up l with cea.eng := [(31, { run := r, slots := [(15, x)] })] }

/-- `PlainRun`, decided. -/
def plainRunOk (d : Dev) (n : Nat) (r : Run) : Bool :=
  d.live && d.ready (ceaDom n) && decide (n < 32 ∧ (d.eng n).run = some r ∧ r.lib = 0 ∧ r.slot < 16 ∧ (r.kind = .plain ∨ r.kind = .rerun) ∧
    ((d.eng n).swap.st ≠ 2 ∨ (d.eng n).swap.slot ≠ r.slot) ∧ trigCfg d n r.slot (CE_SCFG_DEMOTE_N n r.slot) = 0)

theorem plainRun_meets {d : Dev} {n : Nat} {r : Run} (h : plainRunOk d n r = true) : PlainRun n r (st d) := by
  simp only [plainRunOk, Bool.and_eq_true, decide_eq_true_eq] at h
  exact ⟨⟨h.1.1, by simpa [st] using h.1.2⟩, h.2⟩

theorem meets_EngineFaults : (∀ k ∈ [RunKind.plain, .rerun], PlainRun 31 { run0 k with cycles := 65536, pc := 2048 } (st (ceDev (some { run0 k with cycles := 65536, pc := 2048 }) {} [(CE_SCFG_DEMOTE_N 31 15, 0)])) ∧
      PlainRun 31 { run0 k with pc := 2048 } (st (ceDev (some { run0 k with pc := 2048 }) {} [(CE_SCFG_DEMOTE_N 31 15, 0)]))) ∧
    codeRun (ceDev none {} []) 31 = none ∧ (ceDev (some (run0 .plain)) {} []).ready (ceaDom 31) = true ∧ fetchFault (ceDev (some (run0 .plain)) {} []) 31 (run0 .plain) = none ∧
    ceWordOk (ceFields (progWord { up [] with win := memWrite [] (ceWin 31 (4 * 2045)) 0xFFFFFFFF 4 } 31 2045)) 2045 = false ∧
    (upAt 9 [(PMC_DOMSTAT_READY, 0)]).ready (ceaDom 31) = false := by
  refine ⟨?_, by decide +kernel⟩
  intro k hk
  fin_cases hk <;> exact ⟨plainRun_meets (by decide +kernel), plainRun_meets (by decide +kernel)⟩

theorem meets_EngineEnd : (∀ k ∈ [RunKind.plain, .spec], At 31 (run0 k) (st (engAt k ⟨0x2B, 0, 0, 0, 0⟩)) ⟨0x2B, 0, 0, 0, 0⟩) ∧ (engDev .plain).bit (CE_TCTRL_EN 31) = false ∧
    (run0 .plain).sbase + (run0 .plain).slen ≤ 256 ∧ ((engDev .plain).set (CE_SCFG_RELEASE 31 15) 1).get (CE_SCFG_RELEASE 31 15) = 1 ∧ (run0 .plain).out = [] ∧ (run0 .plain).trigs = [] := by
  refine ⟨?_, by decide +kernel⟩
  intro k hk
  fin_cases hk <;> exact at_meets (by decide +kernel)

/-- The `k` bytes of a number. -/
def le (k v : Nat) : List Nat := (List.range k).map (fun i => v / 256 ^ i % 256)

/-- An image of one program section with one word, and the same with its CRC. -/
def imageBody : List Nat :=
  le 4 0x31504543 ++ le 2 1 ++ le 2 32 ++ le 4 48 ++ le 4 0 ++ le 2 1 ++ le 2 0 ++ le 12 0 ++ (le 1 1 ++ le 1 0 ++ le 2 2047 ++ le 2 1 ++ le 2 0 ++ le 4 0xAC000000)
def image : List Nat := imageBody ++ le 4 (crc32 (Blob.ofBytes imageBody) 44)

theorem meets_EngineImages : loadCheck (up []) 31 (Blob.ofBytes image) = ((0, 0), [⟨1, 2047, 1, 32⟩]) ∧ (loadCheck (up []) 31 (Blob.ofBytes (imageBody ++ le 4 0))).1 = (3, 0) ∧
    (Blob.ofBytes image).at 0 4 = 0x31504543 ∧ (Blob.ofBytes image).at 4 2 = 1 ∧ (Blob.ofBytes image).at 6 2 = 32 ∧ 8 ≤ (Blob.ofBytes image).len ∧
    (Blob.ofBytes (le 4 0x31504543 ++ le 4 1)).at 6 2 ≠ 32 ∧ (Blob.ofBytes (le 4 0x31504543 ++ le 2 1 ++ le 2 32 ++ le 4 0)).at 8 4 ≠ 12 ∧
    (upAt 9 [(PMC_DOMSTAT_READY, 0)]).live = true ∧ (upAt 9 [(PMC_DOMSTAT_READY, 0)]).ready (ceaDom 31) = false ∧
    (loadCheck (domView (ceaDom 31) (upAt 9 [(PMC_DOMSTAT_READY, 0)])) 31 (Blob.ofBytes image)).1 = (0, 0) ∧
    (loadCheck (domView (ceaDom 31) (upAt 9 [(PMC_DOMSTAT_READY, 0)])) 31 (Blob.ofBytes imageBody)).1.1 ≠ 0 := by decide +kernel

/-- Engine 31 with slot 15 armed on the library program 0xF008 whose descriptor stands in place 31. -/
def libDev (x : SlotS) (l : List (Fld × Nat)) : Dev := setDesc 31 31 ⟨0, 0, 255, 0, 1023, 0xF008, 2⟩ (ceDev none x ((CE_SCFG_PROG_ID 31 15, 0xF008) :: l))

theorem meets_LibraryPrograms : libSlen 0 = none ∧ libSlen 0xF008 = some 0 ∧ 255 + 0 ≤ 256 ∧ inUse (libDev { st := .armed } []) 31 0xF008 = true ∧
    inUse (libDev {} []) 31 0xF008 = false ∧ (findDescIx (libDev {} []) 31 0xF008) = some 31 ∧ (descAt (libDev {} []) 31 0).valid = 0 ∧
    findDescIx (libDev {} []) 31 0xF001 = none ∧ ((libDev {} []).eng 31).swap.st = 0 ∧
    ({ up [] with cea.eng := [(31, { swap := { st := 1, oldProg := 0xF008 } })] }.eng 31).swap.oldProg = 0xF008 := by decide +kernel

theorem meets_EngineSlots : ((libDev { st := .armed } []).slot 31 15).st ≠ .disabled ∧ ((libDev {} []).slot 31 15).st = .disabled ∧
    slotCheck (libDev {} [(CE_SWIN_OUT_COUNT 31 15, 2), (CE_SWIN_IN_COUNT 31 15, 2)]) 31 15 = (0, 0) ∧ slotCheck (ceDev none {} []) 31 15 = (1, 0) ∧
    findDesc (ceDev none {} []) 31 ((ceDev none {} []).get (CE_SCFG_PROG_ID 31 15)) = none ∧
    findDesc (libDev {} []) 31 ((libDev {} []).get (CE_SCFG_PROG_ID 31 15)) ≠ none ∧ 64 < (inWin (libDev {} [(CE_SWIN_IN_COUNT 31 15, 65)]) 31 15).2 ∧
    ((libDev { st := .demoted } []).slot 31 15).st = .demoted ∧ (ceDev (some (run0 .plain)) {} []).ready (ceaDom 31) = true := by decide +kernel

theorem meets_SlotTriggers : (libDev {} []).cyc.trigged = [] ∧ swapDue (libDev {} []) 31 15 = false ∧ slotsRestricted (libDev {} [(THM_STATUS_LEVEL, 4)]) = true ∧
    essential (libDev {} [(CE_SCFG_ESSENTIAL 31 15, 0)]) 31 15 = false ∧ essential (libDev {} [(CE_SCFG_ESSENTIAL 31 15, 1)]) 31 15 = true ∧
    slotsRestricted (libDev {} [(THM_STATUS_LEVEL, 3)]) = false ∧ ((libDev { st := .pending, pend := .spec } []).slot 31 15).pend = .spec ∧
    (libDev { st := .pending } [(CE_SCFG_POLICY 31 15, 0)]).bit (CE_SCFG_POLICY 31 15) = false ∧ (libDev {} [(CE_SCFG_DEMOTE_N 31 15, 0)]).get (CE_SCFG_DEMOTE_N 31 15) = 0 ∧
    trigCfg (libDev { st := .pending } []) 31 15 (CE_SCFG_POLICY 31 15) = 0 ∧ trigCfg (libDev { st := .pending } [(CE_SCFG_DEMOTE_N 31 15, 0)]) 31 15 (CE_SCFG_DEMOTE_N 31 15) = 0 ∧
    ((libDev { st := .pending } []).slot 31 15).pend ≠ .spec ∧ essential (latchCfg 31 15 (libDev {} [(CE_SCFG_ESSENTIAL 31 15, 1)])) 31 15 = true ∧
    essential (latchCfg 31 15 (libDev {} [(CE_SCFG_ESSENTIAL 31 15, 0)])) 31 15 = false := by decide +kernel

theorem meets_RunStarts : pickSlot (libDev {} []) 31 = none ∧ pickSlot (libDev { st := .pending } []) 31 = some 15 ∧ ((libDev { st := .pending } []).eng 31).run = none ∧
    (findDesc (libDev { st := .pending } []) 31 ((libDev { st := .pending } []).get (CE_SCFG_PROG_ID 31 15))).isSome = true ∧
    (libDev { st := .pending } []).bit (CE_TCTRL_EN 31) = false ∧ ((libDev { st := .pending } []).slot 31 15).pend = .plain ∧
    ({ up [] with cea.eng := [(31, { slots := [(14, { st := .pending }), (15, { st := .pending, pend := .rerun })] })] }.eng 31).slots =
      [(14, { st := .pending }), (15, { st := .pending, pend := .rerun })] := by decide +kernel

theorem meets_RoutesAndTrace : (enabledSlots (libDev { st := .armed } [(CE_SWIN_IN_BASE 31 15, 255), (CE_SWIN_IN_COUNT 31 15, 1)]) 31).find?
      (fun j => inRange (inWin (libDev { st := .armed } [(CE_SWIN_IN_BASE 31 15, 255), (CE_SWIN_IN_COUNT 31 15, 1)]) 31 j) 255) = some 15 ∧
    (∀ k ∈ enabledSlots (libDev {} []) 31, inRange (outWin (libDev {} []) 31 k) 255 = false) ∧ (libDev {} [(CE_TCTRL_EN 31, 1)]).bit (CE_TCTRL_EN 31) = true ∧
    (libDev {} [(CE_TCTRL_EN 31, 0)]).bit (CE_TCTRL_EN 31) = false := by decide +kernel

/-- Slot 15 has a window of one port from engine value 0, with two valid samples of it, and the run `r` ahead of its sample instant; `v` tells whether the port is valid now. -/
def specDev (x : SlotS) (v : Nat) : Dev :=
  { ceDev none x [(CE_SCFG_SPEC_EN 31 15, 1), (CE_SWIN_IN_BASE 31 15, 255), (CE_SWIN_IN_COUNT 31 15, 1), (CE_INRT_CLASS 31 255, 3 * v), (CE_SCFG_RELEASE 31 15, 1), (THM_STATUS_LEVEL, 0)] with
    xtf.ns := 5 }

/-- A speculative run that predicted 0. -/
def specRun (e : Bool) : Run := { run0 .spec with ins := [(0, false)], ended := e }

/-- `AtSample`, decided. -/
def atSampleOk (d : Dev) (n k : Nat) (r : Run) : Bool :=
  d.live && d.ready (ceaDom n) && decide (n < 32 ∧ k < 16 ∧ 16 * n + k ∉ d.cyc.trigged ∧ swapDue d n k = false ∧ (d.slot n k).st = .spec ∧
    openSpec d n k = some r ∧ r.slot = k ∧ r.kind = .spec ∧ r.stRefused = false ∧ d.bit (CE_TCTRL_EN n) = false)

theorem atSample_meets {d : Dev} {n k : Nat} {r : Run} (h : atSampleOk d n k r = true) : AtSample (st d) n k r := by
  simp only [atSampleOk, Bool.and_eq_true, decide_eq_true_eq] at h
  exact ⟨⟨h.1.1, by simpa [st] using h.1.2⟩, h.2⟩

/-- The run still in the engine, or waiting with its end reached. -/
def running (v : Nat) : Dev := let d := specDev { st := .spec } v; d.setRun 31 (some (specRun false))
def ended (v : Nat) : Dev := specDev { st := .spec, waiting := some (specRun true) } v

theorem meets_RunAhead : (AtSample (st (running 1)) 31 15 (specRun false) ∧ AtSample (st (ended 1)) 31 15 (specRun true) ∧ AtSample (st (ended 0)) 31 15 (specRun true)) ∧
    (inWin (running 1) 31 15).2 = 1 ∧ ((latchWin (running 1) 31 15).getD 0 (0, true)).2 = false ∧
    (((latchWin (running 1) 31 15).getD 0 (0, true)).1.toInt - ((specRun false).ins.getD 0 (0, true)).1.toInt).natAbs ≤ tolOf (running 1) 31 15 0 ∧
    ((running 1).slot 31 15).waiting = none ∧ (ended 1).get (CE_SCFG_RELEASE 31 15) = 1 ∧ (specRun true).sbase + (specRun true).slen ≤ 256 ∧
    ((latchWin (ended 0) 31 15).getD 0 (0, true)).2 = true ∧ histValid (specDev { hist := [[(0, false)], [(1, false)]] } 1) 31 15 = true ∧
    (specDev {} 1).bit (CE_SCFG_SPEC_EN 31 15) = true ∧ (specDev {} 1).get THM_STATUS_LEVEL = 0 ∧ ((specDev {} 1).eng 31).swap.st ≠ 1 ∧
    histValid (specDev {} 1) 31 15 = false ∧ openSpec (specDev {} 1) 31 15 = none ∧ (specDev { st := .pending } 1).ready (ceaDom 31) = true := by
  refine ⟨⟨atSample_meets (by decide +kernel), atSample_meets (by decide +kernel), atSample_meets (by decide +kernel)⟩, by decide +kernel⟩

/-- Slot 15 armed with a swap to program 2 pending whose instant has come, with a state map of `c` entries of operation `op`. -/
def swapDev (c op : Nat) : Dev :=
  let d := { specDev { st := .armed } 1 with cea.eng := [(31, { slots := [(15, { st := .armed })], swap := ⟨1, 15, 0, 1, 2, 5, false⟩ })] }
  setDesc 31 1 ⟨0, 1, 4, 4, 0, 2, 1⟩ (setDesc 31 0 ⟨0, 1, 0, 4, 0, 1, 1⟩ (((d.setEnt 0x431F 4 c).setEnt 0x431F 3 (256 ^ 2 * op))))

theorem meets_ProgramSwaps : swapDue (swapDev 0 0) 31 15 = true ∧ boundaryFree (swapDev 0 0) 31 15 = true ∧ swapDue (specDev {} 1) 31 0 = false ∧
    ((swapDev 0 0).eng 31).swap = ⟨1, 15, 0, 1, 2, 5, false⟩ ∧ 5 ≤ (swapDev 0 0).time64 ∧ (swapDev 0 0).cyc.trigged = [] ∧ ((swapDev 0 0).slot 31 15).st = .armed ∧
    slotsRestricted (swapDev 0 0) = false ∧ (swapDev 0 0).ent 0x431F 4 = 0 ∧
    (∀ op ∈ [0, 1, 2], (swapDev 1 op).ent 0x431F 4 = 1 ∧ mapEntry ((swapDev 1 op).ent 0x431F 3) 0 = (0, 0, op, 0, 0) ∧
      (findDesc (swapDev 1 op) 31 2).isSome = true ∧ (findDesc (swapDev 1 op) 31 1).isSome = true) := by decide +kernel

/-- Two programs, slot 15 armed on the first, and entries that record a swap of it to the second at `t`. -/
def activeDev (t : Nat) : Dev :=
  let d := { owned [(CE_SCFG_PROG_ID 31 15, 1)] with cea.eng := [(31, { slots := [(15, { st := .armed })] })], xtf.ns := 5, xtf.st := .free }
  setDesc 31 1 ⟨0, 1, 4, 4, 0, 2, 1⟩ (setDesc 31 0 ⟨0, 1, 0, 4, 0, 1, 1⟩ (((d.setEnt 0x431F 1 15).setEnt 0x431F 2 2).setEnt 0x431F 7 t))

theorem meets_ProgramSwaps_write : writes (activeDev 0) ⟨2, 1, false⟩ false 0x431F 7 ⟨8, 0⟩ = true ∧
    writes (activeDev 1000000000) ⟨2, 1, false⟩ false 0x431F 7 ⟨8, 1000000000⟩ = true := by decide +kernel

/-! ### Chapter 9 -/

/-- Zone 255 as `x`, with the entries of `l`. -/
def zoneDev (x : ZoneS) (l : List (Nat × Nat × Nat)) : Dev :=
  l.foldl (fun d e => d.setEnt e.1 e.2.1 e.2.2) { up [] with floor.zones := [(255, x)] }

/-- Zone 255 enabled with source 1 from engine value `k`, and no other source. -/
def oneSource (k : Nat) : Dev :=
  { zoneDev {} [(0x50FF, 1, 1), (0x50FF, 2, k), (0x50FF, 3, 0), (0x50FF, 4, 0), (0x50FF, 5, 0)] with cea.conv := [(0, (100, false))], stamps := [(65536, 0)] }

theorem meets_ZoneEvaluated : (zoneDev { seen := true } []).zone 255 ≠ {} ∧ (zoneDev {} [(0x50FF, 1, 0)]).ent (0x5000 + 255) 1 = 0 ∧
    (oneSource 1).ent (0x5000 + 255) 1 ≠ 0 ∧ (∀ k < 4, (oneSource 0).ent (0x5000 + 255) (2 + k) % 16 = 0) ∧ (oneSource 1).ent (0x5000 + 255) 2 % 16 ≠ 0 ∧
    (∀ k < 3, (oneSource 1).ent (0x5000 + 255) (3 + k) % 16 = 0) ∧ (srcVal (oneSource 1) 255 ((oneSource 1).ent (0x5000 + 255) 2)).isSome = true ∧
    ((oneSource 1).zone 255).excl.testBit 0 = false ∧ 64 ≤ (zoneDev {} [(0x50FF, 7, 64)]).ent (0x5000 + 255) 7 ∧
    (zoneDev {} [(0x51FF, 4, 5)]).ent (0x5100 + 255) 4 ≠ 0x8000 ∧ (zoneDev {} [(0x51FF, 4, 0x8000)]).ent (0x5100 + 255) 4 = 0x8000 ∧
    (zoneDev {} [(0x51FF, 6, 5)]).ent (0x5100 + 255) 6 ≠ 0x8000 ∧ (zoneDev {} [(0x5500, 1, 0)]).ent 0x5500 1 = 0 ∧
    (zoneDev {} [(0x51FF, 3, 0)]).ent (0x5100 + 255) 3 = 0 ∧ (zoneDev {} []).time64 < (zoneDev {} [(0x51FF, 3, 1)]).ent (0x5100 + 255) 3 := by decide +kernel

theorem meets_ZoneEvaluated_condense : ((zoneEval 255 { oneSource 0 with floor.zones := [(255, { seen := true, condense := ⟨true, 0⟩ })] }).zone 255).condense.on = true := by decide +kernel

theorem meets_VotesAndThresholds : ((5 : Int) - 5).natAbs ≤ (toQ (((zoneDev {} [(0x5500, 2, 0)]).ent 0x5500 2 : Nat) : Int)).natAbs ∧
    (toQ (((zoneDev {} [(0x5500, 2, 0)]).ent 0x5500 2 : Nat) : Int)).natAbs < ((5 : Int) - 6).natAbs ∧ (⟨false, 2⟩ : Cond).on = false ∧ 3 ≤ (⟨false, 2⟩ : Cond).cnt + 1 ∧
    (⟨false, 1⟩ : Cond).cnt + 1 < 3 ∧ (⟨true, 2⟩ : Cond).on = true := by decide +kernel

theorem meets_FloorEvaluated : { up [] with pwr.step := 5 }.pwr.step < 6 ∧ { up [] with pwr.halves := 0 }.pwr.halves = 0 ∧ 6 ≤ (up []).pwr.step ∧ (up []).pwr.halves ≠ 0 ∧
    (∀ i < 64, ((up []).setEnt (0x6300 + 15) 1 (256 ^ 64 - 1)).entByte (0x6300 + 15) 1 i = 0xFF) ∧
    ((up []).setEnt (0x6300 + 15) 1 (254 * 256 ^ 63)).entByte (0x6300 + 15) 1 63 = 254 ∧ ((up []).setEnt (0x5200 + 254) 8 1).ent (0x5200 + 254) 8 = 1 ∧
    ((up []).setEnt (0x6100 + 23) 1 0).ent (0x6100 + 23) 1 = 0 ∧ ((up []).setEnt (0x6100 + 23) 1 1).ent (0x6100 + 23) 1 ≠ 0 ∧
    ((up []).setEnt (0x6100 + 23) 7 5).ent (0x6100 + 23) 7 ≠ 0x8000 ∧ ((up []).setEnt (0x6100 + 23) 7 0x8000).ent (0x6100 + 23) 7 = 0x8000 ∧
    ((up []).setEnt (0x6100 + 23) 9 5).ent (0x6100 + 23) 9 ≠ 0x8000 ∧ (((up []).setEnt (0x6100 + 23) 9 5).setEnt 0x5500 1 0).ent 0x5500 1 = 0 := by decide +kernel

/-- A ledger that is ON at 5 ns of a day whose book is `k`, with changes waiting or not. -/
def bookDev (k : Option Int) (c : Bool) : Dev := { up [] with ldg.st := 1, xtf.st := .free, xtf.ns := 5, floor.day := k, floor.dirty := c }

theorem meets_DayBooks : (up []).ldg.st ≠ 1 ∧ tbUnset (bookDev none false) = false ∧ (bookDev none true).floor.dirty = true ∧ (bookDev (some (schedDay (bookDev none false) : Int)) false).floor.next = none ∧
    (bookDev (some (schedDay (bookDev none false) : Int)) true).floor.day = some (schedDay (bookDev (some (schedDay (bookDev none false) : Int)) true) : Int) ∧
    (bookDev none true).floor.day ≠ some (schedDay (bookDev none true) : Int) ∧ (bookDev none true).time64 < midnightSwap (bookDev none true) (schedDay (bookDev none true) + 1) := by decide +kernel

/-- Lighting group 15 enabled with actuator 31, its overrides in entries 11 and 12 as `m` and `h`. -/
def lightDev (m h : Nat) : Dev := [(1, 1), (3, 0x80000000), (4, 8), (7, 64), (11, m), (12, h)].foldl (fun d e => d.setEnt 0x540F e.1 e.2) (zoneDev {} [(0x5500, 1, 0)])

theorem meets_LightsAndHost : ((up []).setEnt 0x540F 1 0).ent (0x5400 + 15) 1 = 0 ∧ (lightDev 1 255).ent (0x5400 + 15) 11 ≤ 1 ∧ 1 < (lightDev 2 1).ent (0x5400 + 15) 11 ∧
    (lightDev 2 1).ent (0x5400 + 15) 12 ≤ 1 ∧ (lightDev 2 1).ent 0x5500 1 = 0 ∧ ((lightDev 2 1).setEnt 0x5500 1 2).ent 0x5500 1 = 2 ∧
    lightWant (lightDev 1 255) 15 = (2, true) ∧ (((lightDev 1 255).light 15).src, ((lightDev 1 255).light 15).on) ≠ (2, true) ∧ (lightDev 1 255).ent (0x5400 + 15) 1 ≠ 0 ∧
    8 ≤ (lightDev 1 255).ent (0x5400 + 15) 4 ∧ 64 ≤ (lightDev 1 255).ent (0x5400 + 15) 7 ∧ (lightDev 1 255).ready 7 = true ∧ ((lightDev 1 255).ent (0x5400 + 15) 3).testBit 31 = true ∧
    inPair (lightDev 1 255) 31 = false ∧ (lightDev 1 255).get (AIO_ACTCFG_MODE 31) ≠ 1 ∧ ((lightDev 1 255).setEnt 0x1F01 0 0).ent 0x1F01 0 = 0 ∧
    ((lightDev 1 255).setEnt 0x1F01 0 5).ent 0x1F01 0 ≠ 0 ∧ ((lightDev 1 255).setEnt 0x5500 1 1).ent 0x5500 1 = 1 := by decide +kernel

/-- An engine route bound to the target of fan 15, which drive 23 sets. -/
def boundDev : Dev :=
  { up [(CE_SWIN_OUT_COUNT 31 15, 1), (CE_SWIN_OUT_BASE 31 15, 255), (CE_OUTRT_CLASS 31 255, 1), (CE_OUTRT_BLOCK 31 255, 0), (CE_OUTRT_WORD 31 255, (MDU_FTGT 15 - 0x40310000) / 4),
      (CE_OUTRT_LSB 31 255, 0), (CE_OUTRT_WIDTH_M1 31 255, 15)] with cea.eng := [(31, { slots := [(15, { st := .armed })] })] }

theorem meets_FloorEvaluated_bound : driveBound boundDev 23 = true := by decide +kernel

/-! ### Chapter 15 -/

/-- A device with energy, initiator 3 owner of the NV command interface, the fields of `l` set and `n` beside the registers. -/
def nv (l : List (Fld × Nat)) (n : NvsS) : Dev := { owned ((NVS_STAT_OWNER, 3) :: l) with nvs := n }

/-- `NvMay` for initiator 3, decided. -/
def nvOk (d : Dev) : Bool := d.live && d.ready 10 && decide (d.get NVS_STAT_OWNER = 3) && !d.bit NVS_STAT_BUSY

theorem nv_meets {d : Dev} (h : nvOk d = true) : NvMay (st d) 3 := by
  simp only [nvOk, Bool.and_eq_true, decide_eq_true_eq, Bool.not_eq_true'] at h
  exact ⟨⟨h.1.1.1, by simpa [st] using h.1.1.2⟩, h.1.2, .inl (by decide +kernel), h.2⟩

/-- Region 7 over the pages `a` to `b`, enabled. -/
def region7 (a b : Nat) : Tab TwoCopy := [(7, { a := some (a + 65536 * b + 2 ^ 32, 1), b := none })]

/-- The last user page of the array, all of it, from the top of staging. -/
def lastPage : List (Fld × Nat) := [(NVS_ADDR_ADDR, 0xFFF00), (NVS_LEN_LEN, 256), (NVS_LEN_SOFS, 3840)]

theorem meets_NvOwner : (upAt 9 [(PMC_DOMSTAT_READY, 0)]).ready 10 = false ∧ (up [(NVS_STAT_OWNER, 15)]).get NVS_STAT_OWNER = 15 ∧ (nv [] {}).get NVS_STAT_OWNER = 3 ∧
    (nv [(NVS_STAT_OWNER, 13)] {}).get NVS_STAT_OWNER = 13 ∧ NvReach (st (nv [] {})) 7 ∧ NvReach (st (nv [] { })) 12 ∧
    debugOpen { nv [] {} with sec.lcs := 1 } = false ∧ (up []).get NVS_STAT_OWNER ≠ 12 ∧ (nv [(NVS_STAT_OWNER, 12)] {}).get NVS_STAT_OWNER = 12 ∧ (nv [(NVS_STAT_BUSY, 1)] {}).bit NVS_STAT_BUSY = true := by
  refine ⟨?_, ?_, ?_, ?_, .inl (by decide +kernel), .inr ⟨rfl, ?_⟩, ?_, ?_, ?_, ?_⟩ <;> decide +kernel

theorem meets_NvWrites : NvMay (st (nv lastPage {})) 3 ∧ NvMay (st (nv lastPage { regions := region7 0xFFF 0xFFF, verif := [(15, { a := some (7, 1), b := none })] })) 3 ∧
    NvMay (st (nv [(NVS_ADDR_ADDR, 0x22000), (NVS_LEN_LEN, 0)] {})) 3 ∧ NvMay (st (nv [(NVS_ADDR_ADDR, 0x21FFF), (NVS_LEN_LEN, 1)] {})) 3 ∧
    NvMay (st { nv lastPage {} with pwr.vholdMV := 0 }) 3 := by
  refine ⟨?_, ?_, ?_, ?_, ?_⟩ <;> exact nv_meets (by decide +kernel)

theorem meets_NvWrites_ranges : 4096 < (nv [(NVS_LEN_LEN, 4095), (NVS_LEN_SOFS, 2)] {}).get NVS_LEN_SOFS + (nv [(NVS_LEN_LEN, 4095), (NVS_LEN_SOFS, 2)] {}).get NVS_LEN_LEN ∧
    0x100000 < (nv [(NVS_ADDR_ADDR, 0xFFFFF), (NVS_LEN_LEN, 2)] {}).get NVS_ADDR_ADDR + (nv [(NVS_ADDR_ADDR, 0xFFFFF), (NVS_LEN_LEN, 2)] {}).get NVS_LEN_LEN ∧
    (nv [(NVS_ADDR_ADDR, 0x21FFF), (NVS_LEN_LEN, 1)] {}).get NVS_ADDR_ADDR < 0x22000 ∧
    (nv lastPage {}).get NVS_ADDR_ADDR = 0xFFF00 ∧ (nv lastPage {}).get NVS_LEN_LEN = 256 ∧ (nv lastPage {}).get NVS_LEN_SOFS = 3840 ∧
    writeLocked (nv lastPage { regions := region7 0xFFF 0xFFF, verif := [(15, { a := some (7, 1), b := none })] }) 0 0xFFF = true ∧
    writeLocked (nv lastPage {}) 0 0xFFF = false ∧ energyOk (nv lastPage {}) 1 = true ∧ energyOk { nv lastPage {} with pwr.vholdMV := 0 } 1 = false := by decide +kernel

theorem meets_NvTransactionCommands : NvMay (st (nv [(PMC_LINE_FAIL, 1)] {})) 3 ∧ NvMay (st (nv lastPage {})) 3 ∧ NvMay (st (nv lastPage { open_ := some [] })) 3 ∧
    NvMay (st (nv lastPage { open_ := some (List.range' 0xF00 16) })) 3 ∧ NvMay (st { nv [] { open_ := some [0xFFF] } with pwr.vholdMV := 0 }) 3 := by
  refine ⟨?_, ?_, ?_, ?_, ?_⟩ <;> exact nv_meets (by decide +kernel)

theorem meets_NvTransactionCommands_cases : (nv [(PMC_LINE_FAIL, 1)] {}).bit PMC_LINE_FAIL = true ∧ (nv lastPage {}).bit PMC_LINE_FAIL = false ∧
    (nv lastPage {}).nvs.open_ = none ∧ (nv lastPage { open_ := some [] }).nvs.open_ ≠ none ∧ nvRange (nv lastPage { open_ := some [] }) 0 0xFFF00 256 3841 ≠ 0 ∧
    nvRange (nv lastPage { open_ := some [] }) 0 0xFFF00 256 3840 = 0 ∧
    16 < (List.range' 0xF00 16 ++ (List.range' 0xFFF 1).filter (fun p => !(List.range' 0xF00 16).contains p)).length ∧ ([0xFFF] : List Nat).Nodup ∧
    energyOk { nv [] { open_ := some [0xFFF] } with pwr.vholdMV := 0 } 1 = false ∧ energyOk (nv lastPage { open_ := some [0xFFF] }) 1 = true := by decide +kernel

/-- A TXN_COMMIT of the last page, and a WRITE of it that comes after `k` other pages. -/
def commitRun : NvRun := ⟨4, [0xFFF], 0, 0, 0, 0, 0, 0, 0, []⟩
def writeRun : NvRun := ⟨1, [0xFFE], 0, 0, 0xFFF, 0, 0xFFE00, 512, 0, []⟩

theorem meets_NvCompletion : On (st (nv [] {})) [10] ∧ (nv [] {}).nvs.run = none ∧ (nv lastPage { run := some commitRun }).nvs.run = some commitRun ∧
    commitRun.homes.length ≤ 16 ∧ commitRun.homes.Nodup ∧ (∀ p ∈ commitRun.homes, 0x20 ≤ p) ∧ (nv lastPage { run := some commitRun }).nvs.ckptPend = false ∧ commitRun.op < 16 ∧
    commitRun.op ≠ 1 ∧ writeRun.op = 1 ∧ writeRun.next ≤ (writeRun.addr + writeRun.len - 1) / 256 ∧ energyOk (nv lastPage { run := some writeRun }) 1 = true ∧
    (nv [(PMC_LINE_FAIL, 1)] {}).bit PMC_LINE_FAIL = true ∧ (nv [] {}).bit PMC_LINE_FAIL = false ∧ (nv [(NVS_STAT_BUSY, 1)] {}).bit NVS_STAT_BUSY = true ∧
    (nv [] { saving := some shot }).nvs.saving.isSome = true ∧ (nv [] {}).nvs.saving = none ∧ nextSlot (nv [] {}) = 0 ∧ nextSlot (nv [] { descA := some shot }) ≠ 0 ∧
    (nv [] {}).bit NVS_SHADOW_CKPT_BUSY = false ∧ (nv [(NVS_SHADOW_CKPT_BUSY, 1)] { saving := some shot }).bit NVS_SHADOW_CKPT_BUSY = true ∧
    (nv [(NVS_SHADOW_CKPT_BUSY, 1)] { saving := some shot }).nvs.shdWait = [] := by
  refine ⟨⟨by decide +kernel, by decide +kernel⟩, ?_⟩
  decide +kernel

/-- A recovered store, page 0xFFF of it in a region locked for reading. -/
def winDev : Dev := nv [(NVS_STAT_RECOVERED, 1)] { regions := region7 0xFFF 0xFFF, verif := [(14, { a := some (7, 1), b := none })] }

theorem meets_NvWindow : (upAt 9 [(PMC_DOMSTAT_READY, 0)]).live = true ∧ (upAt 9 [(PMC_DOMSTAT_READY, 0)]).ready 10 = false ∧ (nv [] {}).ready 10 = true ∧
    (nv [(NVS_STAT_RECOVERED, 0)] {}).bit NVS_STAT_RECOVERED = false ∧ winDev.bit NVS_STAT_RECOVERED = true ∧ 0x1FFF / 256 < 0x20 ∧ 0x21FFF / 256 = 0x21F ∧ 0xFFFFF / 256 = 0xFFF ∧
    readLocked winDev 0 0xFFF = true ∧ readLocked winDev 0xFFFF 0xFFF = true ∧ readLocked winDev 0 0xFFE = false ∧ readLocked winDev 0xFFFF 0xFFE = false ∧ winDev.nvs.run = none ∧
    (nv [(NVS_STAT_RECOVERED, 1)] { run := some commitRun }).nvs.run = some commitRun ∧ commitRun.commitAt ≤ (nv [] {}).now ∧ journalAt commitRun.homes 0xFFFFF = some 0x10FF := by
  decide +kernel

/-- Region 7 with the verifier `v` of its write password. -/
def pwdDev (v : Nat) : Dev := nv [] { regions := region7 0xFFF 0xFFF, verif := [(15, { a := some (v, 1), b := none })] }

theorem meets_NvPasswords : NvMay (st (nv [(PMC_LINE_FAIL, 1)] {})) 3 ∧ NvMay (st (nv [] {})) 3 ∧ NvMay (st (pwdDev 7)) 3 ∧ (nv [] {}).bit PMC_LINE_FAIL = false ∧
    (7, 5) ∈ (nv [] { lock := [(7, 5)] }).nvs.lock ∧ (∀ x ∈ (pwdDev 7).nvs.lock, x.1 ≠ 7) ∧ pwdSet (pwdDev 7) 7 0 = false ∧ pwdSet (pwdDev 7) 7 1 = true ∧
    (pwdDev 7).region 7 ≠ none ∧ (nv [] { regions := [(7, ⟨none, none⟩)] }).region 7 = none ∧ pwdSet (nv [] { regions := [(7, ⟨none, none⟩)] }) 7 1 = true := by
  refine ⟨nv_meets ?_, nv_meets ?_, nv_meets ?_, ?_⟩ <;> decide +kernel

theorem meets_NvPasswords_right (pwd : Nat) : (pwdDev (verifierOf pwd 7 1)).verifier 7 1 = some (verifierOf pwd 7 1) ∧ pwdSet (pwdDev (verifierOf pwd 7 1)) 7 1 = true ∧
    NvMay (st (pwdDev (verifierOf pwd 7 1))) 3 :=
  ⟨rfl, by rw [pwdSet, show (pwdDev (verifierOf pwd 7 1)).verifier 7 1 = some (verifierOf pwd 7 1) from rfl]; simp [verifierOf],
    nv_meets (show nvOk (nv [] {}) = true by decide +kernel)⟩

theorem meets_NvRegions : NvMay (st (nv [(PMC_LINE_FAIL, 1)] {})) 3 ∧ NvMay (st (pwdDev 7)) 3 ∧ (nv [] {}).bit PMC_LINE_FAIL = false ∧
    ((stageNat ((nv [] {}).wr (NVS_STAGE 0) 0x0FFF0220) 0 2, stageNat ((nv [] {}).wr (NVS_STAGE 0) 0x0FFF0220) 2 2) = (0x220, 0xFFF)) ∧
    (stageByte ((nv [] {}).wr (NVS_STAGE 1) 1) 4).testBit 0 = true ∧ (stageByte (nv [] {}) 4).testBit 0 = false ∧
    ((regionOf (pwdDev 7) 7).2.2 = true ∧ (regionOf (pwdDev 7) 7).1 ≤ 0xFFF ∧ 0xFFF ≤ (regionOf (pwdDev 7) 7).2.1) ∧
    (∀ q < 8, q ≠ 7 → (regionOf (pwdDev 7) q).2.2 = false) ∧ pwdSet (pwdDev 7) 7 1 = true ∧ unlocked (pwdDev 7) 0 7 1 = false ∧
    unlocked { pwdDev 7 with nvs.unlk := [(0, 7, 1)] } 0 7 1 = true ∧ pwdSet (nv [] {}) 7 0 = false ∧ pwdSet (nv [] {}) 7 1 = false := by
  refine ⟨nv_meets (by decide +kernel), nv_meets (by decide +kernel), ?_⟩
  decide +kernel

theorem meets_NvCounters : NvMay (st (nv [(PMC_LINE_FAIL, 1)] {})) 3 ∧ NvMay (st (nv [] {})) 3 ∧ (nv [] {}).bit PMC_LINE_FAIL = false ∧
    (nv [] { tallies := [(15, ⟨none, none⟩)] }).tally 15 = none ∧ (nv [] { tallies := [(15, ⟨some (0xFFFFFFFF, 1), none⟩)] }).tally 15 = some 0xFFFFFFFF ∧
    energyOk (nv [] {}) 1 = true ∧ energyOk { nv [] {} with pwr.vholdMV := 0 } 1 = false ∧ (nv [] { seals := [(15, ⟨none, none⟩)] }).sealC 15 = none ∧
    (nv [] {}).sealC 15 = some 0 ∧ (∀ x ∈ (nv [] {}).nvs.lock, x.1 ≠ 7) ∧ (7, 5) ∈ (nv [] { lock := [(7, 5)] }).nvs.lock := by
  refine ⟨nv_meets ?_, nv_meets ?_, ?_⟩ <;> decide +kernel

/-! ### Chapter 16 -/

/-- A powered device with `x` as its security unit. -/
def sec (x : SecS) : Dev := { owned [] with sec := x }

/-- A request that waits for randomness. -/
def waiter : Waiting := ⟨2, 1, 6, [], 0, false⟩

theorem meets_RandomAndTamper : (upAt 9 [(PMC_DOMSTAT_READY, 0)]).live = true ∧ (upAt 9 [(PMC_DOMSTAT_READY, 0)]).ready 11 = false ∧ (sec {}).pwr.aon = true ∧ (sec {}).ready 11 = true ∧
    (sec {}).sec.certified = false ∧ (sec { certified := true }).sec.certified = true ∧ (up [(SCU_TRNG_OK, 1)]).bit SCU_TRNG_OK = true ∧ (up [(SCU_TRNG_OK, 0)]).bit SCU_TRNG_OK = false ∧
    trngStopped (up [(SCU_TRNG_OK, 0)]) = true ∧ (sec {}).sec.waits = [] ∧ (sec { waits := [waiter] }).sec.waits = [waiter] ∧ waiter.op ≠ 0x100 ∧
    (∀ w ∈ (sec { waits := [waiter] }).sec.waits, w.sess ≠ 3 ∨ w.req ≠ 1) := by decide +kernel

/-- The attestation nonce and the end of certified mode are accepted; the other requests of this statement turn on a signature. -/
theorem meets_SecurityRequests : writes (owned [(SCU_TRNG_OK, 1)]) ⟨2, 1, false⟩ false 0x9005 1 ⟨32, 5⟩ = true ∧ writes (owned []) ⟨2, 1, false⟩ false 0x9002 0 ⟨1, 0⟩ = true := by decide +kernel

theorem meets_TellerCommands : (sec { refused := 3 }).sec.refused = 3 ∧ (sec { refused := 2 }).sec.refused < 3 ∧ tokenOk (sec {}) ⟨0, 0⟩ = false ∧
    { sec {} with pwr.halves := 1 }.pwr.halves.testBit 1 = false ∧ (sec {}).pwr.halves.testBit 1 = true ∧ (sec {}).pwr.halves.testBit (1 - 1) = true ∧
    tabGet 0 0 (sec { blockStops := [(0, 2), (1, 1)] }).sec.blockStops = 2 ∧ (sec {}).xtf.st ≠ .locked ∧
    (sec { floorAt := some 0 }).sec.floorAt = some 0 ∧ (sec {}).now < 0 + 3600000000000 ∧ storeCheck (sec {}) 8 = 0 ∧ storeCheck { sec {} with pwr.vholdMV := 0 } 8 ≠ 0 ∧
    (sec {}).sec.floorAt = none := by decide +kernel

/-- A device with time, the activation record `a` of part `p`, and the event of its posting in the ledger. -/
def actDev (p : Nat) (a : ActS) : Dev := { owned [] with sec.acts := [(p, a)], ldg.events := [0x15000000 + p], ldg.st := 1, xtf.st := .free, xtf.ns := 5 }

/-- A configuration set of one item, UINT16 `v` to entry `i`:`k`, with the CONFIRM bit `c`. -/
def conf (i k v c : Nat) : Nat := 1 + 256 * c + 256 ^ 4 * i + 256 ^ 6 * k + 256 ^ 8 * 2 + 256 ^ 10 * v

/-- A calibration set with every gain 0.25 and its CRC. -/
def calBody : Nat := (List.range 24).foldl (fun s i => s + 0x20000000 * 256 ^ (8 + 8 * i)) 0
def calSet : Nat := calBody + 256 ^ 252 * crc32 ⟨256, calBody⟩ 252

theorem meets_ActivationWrites : partOf 0x9323 = some 0x703 ∧ partOf 0x431F = some 0x31F ∧ writes (actDev 0x703 {}) ⟨2, 1, false⟩ false 0x9323 1 ⟨8, 0⟩ = true ∧
    writes ((((actDev 0x703 {}).setEnt 0x9323 6 (conf 0x1000 7 300 0))).setEnt 0x9323 1 2678400000000005) ⟨2, 1, false⟩ false 0x9323 1 ⟨8, 2678400000000005⟩ = true ∧
    writes ((actDev 0x703 { st := 2 }).setEnt 0x9323 3 1) ⟨2, 1, false⟩ false 0x9323 3 ⟨1, 1⟩ = true ∧
    writes ({ actDev 0 {} with cea.eng := [(31, { swap := { st := 2 } })] }.setEnt 0x431F 9 1) ⟨2, 1, false⟩ false 0x431F 9 ⟨1, 1⟩ = true ∧
    groupOf (actDev 0x703 { st := 2 }) 0x703 = [0x703] := by decide +kernel

theorem meets_SwitchOver : (∀ p ∈ [0x100, 0x200, 0x403, 0x703, 0x807], (actDev p { st := 1 }).sec.failing = [] ∧ (actDev p { st := 1 }).act p = { st := 1 } ∧
      actPosted (actDev p { st := 1 }) p = true ∧ actPosted { actDev p { st := 1 } with ldg.events := [] } p = false) ∧
    calsetOk calSet = true ∧ ((actDev 0x403 { st := 1 }).setEnt 0x3023 3 calSet).ent (0x3020 + 3) (3 - ((actDev 0x403 { st := 1 }).cvuS 3).bank) = calSet ∧
    calsetOk (((actDev 0x403 { st := 1 }).setEnt 0x3023 3 5).ent (0x3020 + 3) (3 - ((actDev 0x403 { st := 1 }).cvuS 3).bank)) = false ∧
    actPosted { actDev 0x60F { st := 1, entry := some 4095 } with ldg.ents := [(4095, { posted := 1 })] } 0x60F = true ∧ configItems (256 * 2) = none ∧
    (configItems (conf 0x1000 7 300 0)).isSome = true ∧
    (itemsApply 3 2 [⟨0xFFFF, 255, ⟨2, 300⟩⟩] (actUse 0x703 (actDev 0x703 { st := 1 }))).1.isSome = true ∧
    configItems 0 = some ([], false) ∧
    (itemsApply 3 2 [] (actUse 0x703 (actDev 0x703 { st := 1 }))).1 = none := by decide +kernel

theorem meets_SwitchOver_boundaries : ((swapDev 0 0).eng 31).swap.st = 1 ∧ (swapDev 0 0).ready (ceaDom 31) = true ∧ swapDue (swapDev 0 0) 31 15 = true ∧
    boundaryFree (swapDev 0 0) 31 15 = true ∧ swapDue (swapDev 0 0) 31 14 = false ∧ boundaryFree (ended 0) 31 15 = false ∧
    (sliceAt { up [] with cvu := [(3, { slices := ({} : CvuS).slices.set 8 { st := 3, pos := 15, passes := 3 } })] } 3 8) = { st := 3, pos := 15, passes := 3 } ∧
    5 ≤ goodCount { slices := ({} : CvuS).slices.set 8 { st := 3, pos := 15, passes := 3 } } := by decide +kernel

theorem meets_WindowEnds : partState (actDev 0x703 { st := 1 }) 0x703 ≠ 2 ∧ partState (actDev 0x703 { st := 2 }) 0x703 = 2 ∧ actFailed (actDev 0x703 { st := 2 }) 0x703 = false ∧
    actFailed (actDev 0x703 { st := 2, failed := 1 }) 0x703 = true ∧ lastCheck (actDev 0x703 { st := 2 }) 0x703 = true ∧
    lastCheck ((actDev 0x703 { st := 2 }).setEnt 0x9323 6 (conf 0x1000 7 300 1)) 0x703 = false ∧ groupOf (actDev 0x703 { st := 2 }) 0x703 = [0x703] ∧
    0x702 ∈ groupOf ((actDev 0x703 { st := 2 }).setEnt 0x93F0 0 (0x702 + 65536 * 0x703)) 0x703 ∧
    partState { actDev 0 {} with sec.acts := [(0x702, { st := 2 }), (0x703, { st := 2 })] } 0x702 = 2 ∧
    (actDev 0x703 { st := 2, sealNo := 15, version := 1 }).sealC 15 = some 0 ∧ energyOk (actDev 0x703 { st := 2, sealNo := 15, version := 1 }) 1 = true := by decide +kernel

theorem meets_RollsBack : (∀ p ∈ [0x100, 0x200, 0x403, 0x60F, 0x703, 0x807], partState (actDev p { st := 2, failed := 1 }) p = 2 ∧ actFailed (actDev p { st := 2, failed := 1 }) p = true) ∧
    (actDev 0x100 {}).sec.handover = none ∧ (⟨2, 0, true, 1, false⟩ : Handover).back = true ∧ (actDev 0x200 { st := 2, failed := 1 }).get SCU_BOOTSTAT_TELLER_SLOT = 0 ∧
    ({ swapDev 0 0 with cea.eng := [(31, { slots := [(15, { st := .armed })], swap := ⟨2, 15, 0, 1, 2, 5, true⟩ })] }.eng 31).swap.failed = true ∧
    boundaryFree { swapDev 0 0 with cea.eng := [(31, { slots := [(15, { st := .armed })], swap := ⟨2, 15, 0, 1, 2, 5, true⟩ })] } 31 15 = true ∧
    6 ≤ goodCount {} ∧ (actDev 0x60F { st := 2, failed := 1 }).ldg.st = 1 ∧ (itemsApply 3 0 [] (actDev 0x703 { st := 2, failed := 1 })).1 = none ∧
    (actDev 0x200 { st := 2, failed := 1, old := 1 }).sec.slotT ≠ 1 ∧ (actDev 0x100 {}).sec.slotA = 0 := by decide +kernel

/-- A handover from `s` to slot 0, at its stage `k`. -/
def handDev (k : Nat) (back only : Bool) : Dev := { actDev 0x100 { st := 2 } with sec.handover := some ⟨k, 0, back, 1, only⟩ }

/-- The stages of a handover; a slot that passes its check turns on a signature, so only one that fails is shown here. -/
theorem meets_HandoverStages : (∀ k < 6, (handDev k false false).sec.handover = some ⟨k, 0, false, 1, false⟩) ∧ (handDev 3 true true).sec.handover = some ⟨3, 0, true, 1, true⟩ ∧
    (handDev 1 false false).pwr.halves.testBit (1 - 1) = true ∧ { handDev 1 false false with pwr.halves := 2 }.pwr.halves.testBit (1 - 1) = false ∧
    groupOf (handDev 1 false false) 0x100 = [0x100] ∧ slotVerify (handDev 2 false false) false 0 ≠ 0 := by decide +kernel

theorem meets_TellerRestarts : (actDev 0x200 { old := 1 }).sec.tellerBusy = false ∧ { actDev 0x200 { old := 1 } with sec.tellerBusy := true }.sec.tellerBusy = true ∧
    { actDev 0x200 { old := 1 } with sec.tellerBusy := true }.get SCU_BOOTSTAT_TELLER_SLOT ≠ ((actDev 0x200 { old := 1 }).act 0x200).old ∧
    { actDev 0x200 { old := 0 } with sec.tellerBusy := true }.get SCU_BOOTSTAT_TELLER_SLOT = ((actDev 0x200 { old := 0 }).act 0x200).old ∧
    groupOf (actDev 0x200 { old := 1 }) 0x200 = [0x200] ∧
    (actDev 0x200 { old := 1 }).sec.slotT ≠ ((actDev 0x200 { old := 1 }).act 0x200).old ∧
    (actDev 0x200 { old := 0 }).sec.slotT = ((actDev 0x200 { old := 0 }).act 0x200).old := by decide +kernel

/-! ### Chapters 5, 17 and 18, and the block as a whole -/

/-- The readings of the self-check. -/
def selfCheck (g z f : Nat) : Dev := up [(HKC_RESULT_VALUE 38, g), (HKC_RESULT_VALUE 39, z), (HKC_RESULT_VALUE 40, f)]

theorem meets_Housekeeping : (up []).live = true ∧ (selfCheck 1188 5 995).get (HKC_RESULT_VALUE 38) = 1188 ∧ (selfCheck 1212 0 1005).get (HKC_RESULT_VALUE 38) = 1212 ∧
    (selfCheck 1188 5 995).get (HKC_RESULT_VALUE 39) ≤ 5 ∧ (selfCheck 1188 5 995).get (HKC_RESULT_VALUE 40) = 995 ∧ (selfCheck 1212 0 1005).get (HKC_RESULT_VALUE 40) = 1005 ∧
    (selfCheck 1187 0 1000).get (HKC_RESULT_VALUE 38) < 1188 ∧ 1212 < (selfCheck 1213 0 1000).get (HKC_RESULT_VALUE 38) ∧ 5 < (selfCheck 1200 6 1000).get (HKC_RESULT_VALUE 39) ∧
    (selfCheck 1200 0 994).get (HKC_RESULT_VALUE 40) < 995 ∧ 1005 < (selfCheck 1200 0 1006).get (HKC_RESULT_VALUE 40) ∧ 3 ≤ { up [] with thm.skipped := 3 }.thm.skipped := by decide +kernel

/-- A device off for the heat since time 0, cooled for `n` rounds, a day later. -/
def offDev (n : Nat) : Dev := { up [] with now := 86400000000000, pwr.thermalOff := true, pwr.save := .complete, thm.crits := [0], thm.cool := n }

/-- Unit 3 with 32 sequence entries. -/
def paceDev (x : CvuS) : Dev := { up [(CVU_SEQ_CTRL_LEN 3, 32), (CVU_SEQE_OUTPUTS 3 31, 1)] with cvu := [(3, x)] }

theorem meets_ThermalManager : { up [] with thm.hold := some 0 }.thm.hold = some (up []).now ∧ (up []).thm.hold = none ∧ (up []).now < 1 ∧ (offDev 4).pwr.thermalOff = true ∧
    (up []).pwr.thermalOff = false ∧ (up []).pwr.save = .none ∧ thermalMayRestart (offDev 3) = false ∧ thermalMayRestart (offDev 4) = true ∧ (offDev 4).thm.stay = false ∧
    (offDev 4).pwr.save = .complete ∧ (offDev 4).bit PMC_LINE_FAIL = false ∧ 4 ≤ (offDev 4).thm.cool ∧ (offDev 4).thm.crits = [0] ∧
    0 + (offDev 4).ent 0xA101 8 * 1000000000 ≤ (offDev 4).now ∧ ((paceDev {}).cvuS 3).on = false ∧ (paceDev {}).ready (cvuDom 3) = true ∧
    nextEntry (paceDev { on := true, waiting := true, paced := true }) 3 0 = some 0 ∧ ((paceDev { on := true, waiting := true, paced := true }).cvuS 3).paced = true ∧
    ((paceDev { on := true, waiting := true, paced := true, fgBusy := true }).cvuS 3).fgBusy = true := by decide +kernel

theorem meets_CounterAccess : ∀ ini ∈ [0, 3, 7], (∃ m, Takes (st (up [])) ini 0 (OBS_FSEL 15) 4095 m ∧ m ≠ 0) ∧ (∃ m, Takes (st (up [])) ini 0 (OBS_CNT_HI 399) 65535 m ∧ m ≠ 0) ∧
    (∃ m, Takes (st (up [])) ini 0 (OBS_CNT_LO 399) 0xFFFFFFFF m ∧ m ≠ 0) := by
  intro ini hi
  have f : ∀ x ∈ [(OBS_FSEL 15, 4095), (OBS_CNT_HI 399, 65535), (OBS_CNT_LO 399, 0xFFFFFFFF)], ∀ ini ∈ [0, 3, 7],
      takes (up []) ini 0 x.1 x.2 (fun m => decide (m ≠ 0)) = true := by
    decide +kernel
  refine ⟨?_, ?_, ?_⟩
  · obtain ⟨m, h, k⟩ := takes_meets (f (OBS_FSEL 15, 4095) (by simp) ini hi)
    exact ⟨m, h, by simpa using k⟩
  · obtain ⟨m, h, k⟩ := takes_meets (f (OBS_CNT_HI 399, 65535) (by simp) ini hi)
    exact ⟨m, h, by simpa using k⟩
  · obtain ⟨m, h, k⟩ := takes_meets (f (OBS_CNT_LO 399, 0xFFFFFFFF) (by simp) ini hi)
    exact ⟨m, h, by simpa using k⟩

theorem meets_CounterAccess_idle : tabGet 0 399 (up []).obs.incN = 0 ∧ (up []).cyc.rcOld = [] ∧ (up []).obs.start = [] ∧ (up []).obs.wrote = [] := by decide +kernel

/-- A device whose snapshot of time 0 is due at 5 ns. -/
def snapDev : Dev := { up [] with obs.pending := some (5, {}) }

theorem meets_FreezeAndSnapshots : (up [(OBS_CTRL_FREEZE, 1)]).bit OBS_CTRL_FREEZE = true ∧
    (∀ ini ∈ [0, 7], ∀ k ∈ [0, 1, 2], ∃ m, Takes (st (up [])) ini 0 OBS_CTRL (wSet ((up []).rd OBS_CTRL) k 1 1).toNat m ∧ m.getLsbD k = true) ∧
    (∀ k ∈ [0, 2], ∃ m, Takes (st (up [(OBS_CTRL_FREEZE, 1)])) 7 0 OBS_CTRL (wSet ((up [(OBS_CTRL_FREEZE, 1)]).rd OBS_CTRL) k 1 0).toNat m ∧ m.getLsbD k = true) ∧
    (up []).obs.incN = [] ∧ (up []).obs.lostN = [] ∧ (up []).cyc.hwSet = [] ∧ (up []).obs.start = [] ∧ (up []).obs.ovf0 = none ∧ (up []).obs.pending = none ∧
    snapDev.obs.pending = some (5, {}) ∧ 5 ≠ snapDev.now + 250 := by
  refine ⟨by decide +kernel, fun ini hi k hk => takes_meets ?_, fun k hk => takes_meets ?_, by decide +kernel⟩
  · revert ini k
    decide +kernel
  · revert k
    decide +kernel

theorem meets_StepRunsFront : (⟨State.reset.dev, [.powerOnReset]⟩ : State).pending = .powerOnReset :: [] := rfl

theorem meets_IdleStepTicks : (st (up [])).pending = [] ∧ (up []).live = true ∧ { up [] with pwr.aon := false }.pwr.aon = false ∧ (up []).sec.restartAt = none := by decide +kernel

theorem meets_UnpoweredDevice : (st { up [] with pwr.aon := false }).dev.pwr.aon = false ∧ Instr.thermalTrip ≠ .powerOnReset := by decide +kernel

theorem meets_QueueInvariant : ∃ t, QueueFormed ⟨{ up [] with pwr.aon := false }, [.thermalTrip]⟩ ∧ step ⟨{ up [] with pwr.aon := false }, [.thermalTrip]⟩ = .next t :=
  ⟨⟨{ up [] with pwr.aon := false }, []⟩, fun c hc => by rw [List.mem_singleton.mp hc]; decide, by rfl⟩

/-! ### Further forms of the hypotheses -/

theorem meets_PowerStates_event : eventCore (up []) = 0 ∧ eventCore { up [(PMC_DOMSTAT_READY, 0x10)] with ldg.events := [5] } = 4 ∧
    { up [(PMC_DOMSTAT_READY, 0x10)] with ldg.events := [5] }.ldg.events ≠ [] ∧ (up []).ldg.events = [] ∧ 7 ≠ eventCore (up []) := by decide +kernel

theorem meets_SramErrors_image : shadowBest (up []) = none ∧ shadowBest { up [] with nvs.descA := some shot, nvs.descB := some { shot with seq := 2 } } = some (1, { shot with seq := 2 }) := by
  decide +kernel

/-- A trigger of this cycle has started a pass of unit 3. -/
def passDev (t : Option Nat) : Dev := { seqDev 1 { on := true, conv := some .reg } [] with cyc.cvuTrig := [3, 7], cyc.passNew := [(3, t)] }

theorem meets_ConverterSequence_started : (∀ t ∈ [none, some 5], 3 ∈ (passDev t).cyc.cvuTrig ∧ 3 + 12 ∉ (passDev t).cyc.cvuTrig ∧ 3 + 4 ∈ (passDev t).cyc.cvuTrig ∧
      (passDev t).cyc.passNew = (3, t) :: []) ∧ 3 + 12 ∈ { passDev none with cyc.cvuTrig := [3, 7, 15] }.cyc.cvuTrig ∧ seqOn (passDev none) 3 = true ∧
    ((passDev none).cvuS 3).conv = some .reg := by decide +kernel

theorem meets_ResultsDelivered_span : sampOk {} 0 = true ∧ sampOk {} 1 = false ∧ sampOk { samp := 2, gap := true } 3 = true ∧ sampOk { samp := 2, gap := true } 1 = false ∧
    sampOk ((seqDev 1 { on := true, conv := some .reg } []).cvuS 3) 0 = true := by decide +kernel

theorem meets_ForegroundWindows_held : ((unit3 { queue := [1], heldQ := [2] } []).cvuS 3).heldQ ++ ((unit3 { queue := [1], heldQ := [2] } []).cvuS 3).queue = 2 :: [1] := by
  decide +kernel

theorem meets_PostingEffects_io : (ldg 0 0 0).cyc.ioBack = [] ∧ (ldg 0 0 0).cyc.wrote = [] ∧ (ldg 0 0 0).cyc.before = [] := by decide +kernel

theorem meets_MotorDecisions_fault : (∀ v, v = true ∨ v = false) ∧ (∀ v ∈ [true, false], (v != (motorDev 2 {} [(MDU_MCFG_FLT_POL 7, if v then 0 else 1)]).bit (MDU_MCFG_FLT_POL 7)) = true ∧
      (v != (motorDev 6 {} [(MDU_MCFG_FLT_POL 7, if v then 1 else 0)]).bit (MDU_MCFG_FLT_POL 7)) = false) ∧
    motorTries (motorDev 1 {} [(MDU_MSTAT_ATTEMPT 7, 15), (MDU_MSTART_RETRIES 7, 15)]) 7 ≤ (motorDev 1 {} [(MDU_MSTART_RETRIES 7, 15)]).get (MDU_MSTART_RETRIES 7) ∧
    (motorDev 1 {} [(MDU_MSTART_RETRIES 7, 15)]).get (MDU_MSTART_RETRIES 7) < motorTries (motorDev 1 { more := true } [(MDU_MSTAT_ATTEMPT 7, 0)]) 7 ∧
    0 < ((motorDev 2 { per := 2000, trigOfs := 65535 } []).motor 7).per ∧
    (upAt 9 [(PMC_DOMSTAT_READY, 0)]).live = true ∧ (upAt 9 [(PMC_DOMSTAT_READY, 0)]).ready 6 = false := by
  refine ⟨fun v => by cases v <;> simp, ?_⟩
  decide +kernel

theorem meets_FanStates_edges : tachTicks 1 [] = none ∧ tachTicks ((fanDev 2 {} [(MDU_FCFG_PPR_M1 15, 0)]).get (MDU_FCFG_PPR_M1 15) + 1) [2000000, 2000000] ≠ none ∧
    fanTries (fanDev 4 {} [(MDU_FSTAT_ATTEMPT 15, 15), (MDU_FCFG_RESTARTS 15, 15)]) 15 ≤ (fanDev 4 {} [(MDU_FCFG_RESTARTS 15, 15)]).get (MDU_FCFG_RESTARTS 15) ∧
    (fanDev 4 {} [(MDU_FCFG_RESTARTS 15, 15)]).get (MDU_FCFG_RESTARTS 15) < fanTries (fanDev 4 { more := true } [(MDU_FSTAT_ATTEMPT 15, 0)]) 15 := by decide +kernel

theorem meets_DriveLearning_stored : (learnDev { band := 7, bandSecs := 9 }).pwr.ctx.length < 2048 := by decide +kernel

theorem meets_I2cControllers_bus : (i2cDev 1 0 0 {} [(PMC_LINE_FAIL, 1)]).bit PMC_LINE_FAIL = true ∧ (i2cDev 1 0 0 {} []).bit PMC_LINE_FAIL = false ∧
    ((i2cDev 1 0 0 { cur := some 15, waiting := true } []).i2c 7).waiting = true ∧ ((i2cDev 1 0 0 { cur := some 15 } []).i2c 7).waiting = false ∧
    i2cData (i2cDev 1 (256 ^ 3 + 3 * 2048) 0 {} []) 7 15 [0xBE, 0xEF, 0x92] = some [0xBE, 0xEF] ∧ i2cData (i2cDev 1 (256 ^ 3 + 3 * 2048) 0 {} []) 7 15 [0xBE, 0xEF, 0x93] = none ∧
    i2cData (i2cDev 1 0x1190 0x200 {} []) 7 15 [1, 2] = some [1, 2] := by decide +kernel

/-- The check value that sensors of this CRC give for 0xBEEF (R330). -/
theorem test_crc8 : crc8 [0xBE, 0xEF] = 0x92 := by decide +kernel

theorem meets_GpioInputs_capture : (up []).cyc.cap0 = [] ∧ capBefore { up [] with cyc.cap0 := [(63, (5, 7))], aio.capN := [(63, 6)] } 63 = (5, 7) := by decide +kernel

theorem meets_SlotTriggers_waiting : trigWaits (swapDev 0 0) 31 15 = true ∧ trigWaits (running 1) 31 15 = true ∧ trigWaits (libDev { st := .armed } []) 31 15 = false ∧
    16 * 31 + 15 ∈ { libDev {} [] with cyc.trigged := [511] }.cyc.trigged ∧ 16 * 31 + 15 ∉ (swapDev 0 0).cyc.trigged := by decide +kernel

theorem meets_NvCompletion_save : (nv [(NVS_SHADOW_CKPT_BUSY, 1)] { saving := some { shot with seq := 5 }, descA := some shot }).nvs.ckptPend = false ∧
    (∀ y, (nv [] { saving := some { shot with seq := 5 }, descA := some shot }).nvs.descA = some y → y.seq < { shot with seq := 5 }.seq) ∧
    min 16 ((writeRun.addr + writeRun.len - 1) / 256 + 1 - writeRun.next) = 1 := by
  refine ⟨by decide +kernel, ?_, by decide +kernel⟩
  intro y h
  cases h
  decide

theorem meets_NvWindow_reach : debugOpen { nv [] {} with sec.lcs := 1 } = false ∧ NvReach (st (nv [] {})) 7 ∧ ({ nv [] {} with sec.lcs := 1 } : Dev).live = true := by
  refine ⟨by decide +kernel, .inl (by decide +kernel), by decide +kernel⟩

theorem meets_NvPasswords_waiting : NvMay (st { nv [] {} with sec.tellerBusy := true }) 3 ∧ { nv [] {} with sec.tellerBusy := true }.sec.tellerBusy = true ∧
    (nv [] {}).sec.tellerBusy = false := ⟨nv_meets (by decide +kernel), by decide +kernel⟩

theorem meets_SystemPages : ({} : Journal).ok = true ∧ ({ seq := 5, homes := [0x20], done := false } : Journal).commit = true := by decide +kernel

theorem meets_RandomAndTamper_waiting : waiter.nv = false ∧ trngStopped (up [(SCU_TRNG_OK, 0)]) = true ∧ { sec {} with sec.tellerBusy := true }.sec.tellerBusy = true ∧
    waiter.op < 0x100 ∧ (sec {}).pwr.nvEvents.length < 16 := by decide +kernel

theorem meets_SwitchOver_config : configWaits 0x703 (actDev 0x703 { st := 1 }) = none ∧ (actDev 0x703 { st := 1 }).heg.tctx = none ∧
    storeCheck { sec {} with pwr.vholdMV := 0 } 8 = 1 := by decide +kernel

end Sys2Proof.Tests
end

/-! The captures of TSYNC (R80, R95): edges, and the reads of the capture. -/

namespace Sys2Proof.Machine

/-! ### A core's word read of a register -/

/-- A word read of a core from a peripheral register outside the RX head windows, whose domain is ready: the reader gets the value
shown, and the read has its effect (R5, R8, R27, R31). -/
theorem busRead_takes {ini sess a : Nat} {d : Dev} {r : RegRow} {ix : List Nat} (hi : ini < 8) (ha : a % 4 = 0)
    (h1 : 0x40000000 ≤ a) (h2 : a < 0x41000000) (hf : findReg a = some (r, ix)) (hr : d.readyAt a = true) (hx : rxhIndex a = none) :
    busRead ini sess a 4 d =
      { readEffect (readerKey ini sess) a false (byteMask a 4) r d with bus := (shownReg (readerKey ini sess) a false r d).toNat } := by
  have hal : a / 4 * 4 = a := by omega
  have hv (v : Word) : v.toNat / 2 ^ (8 * (a % 4)) % 2 ^ (8 * 4) = v.toNat := by
    rw [ha, Nat.mul_zero, Nat.pow_zero, Nat.div_one, Nat.mod_eq_of_lt v.isLt]
  have hp : busReadV ini sess a 4 d = periphRead ini sess a a 4 false d := by
    simp [busReadV_core hi sess a 4 d (mapRegion_priv a h1 h2)]
  simp only [busRead, hp, periphRead, hal, hf, hr, regRead, hx, hv, Bool.not_true, Bool.false_eq_true, if_false]

/-- The one field of a register of 32 read-only bits. -/
def roWord : FieldRow := ⟨0, 32, .ro, 0, .same, false, 0⟩

/-- A register of 32 read-only bits shows a core the value that hardware computes (R8). -/
theorem shownReg_roWord {key a : Nat} {r : RegRow} {d : Dev} {v : Word} (hr : r.fields = [roWord]) (hv : liveReg key a d = some v) :
    shownReg key a false r d = v := by
  have hm : readMask r false = 0xFFFFFFFF#32 := by
    rw [readMask, hr]
    decide
  have hv1 : v &&& 0xFFFFFFFF#32 = v := BitVec.and_allOnes
  simp [shownReg, rcShown, hr, hv, roWord, hm, hv1]

/-- A read of a register without RC fields clears nothing (R9). -/
theorem rcClear_roWord (a : Nat) (bytes : Word) {r : RegRow} (d : Dev) (hr : r.fields = [roWord]) : rcClear a bytes r d = d := by
  simp [rcClear, hr, roWord]

/-! ### Latches of a reader -/

theorem latchOf_latchPut_same (key a v : Nat) (d : Dev) : (latchPut key a v d).latchOf key a = v := tabGet_tabPut_same _ _ _ _

/-- The latches of the other readers stay as they are. -/
theorem latchOf_latchPut_ne {key k : Nat} (h : k ≠ key) (a v : Nat) (d : Dev) : (latchPut key a v d).latchOf k a = d.latchOf k a :=
  tabGet_tabPut_ne _ _ (by unfold latchKey; omega) v d.tlatch

/-! ### The registers of the capture (R95) -/

def tsyncLoRow : RegRow := ⟨XTF_TSYNC_LO, [], false, [roWord]⟩

def tsyncHiRow : RegRow := ⟨XTF_TSYNC_HI, [], false, [roWord]⟩

theorem findReg_tsyncLo : findReg XTF_TSYNC_LO = some (tsyncLoRow, []) := by decide +kernel

theorem findReg_tsyncHi : findReg XTF_TSYNC_HI = some (tsyncHiRow, []) := by decide +kernel

theorem liveReg_tsyncLo (key : Nat) (d : Dev) : liveReg key XTF_TSYNC_LO d = some (word d.xtf.tsCap) := rfl

theorem liveReg_tsyncHi (key : Nat) (d : Dev) : liveReg key XTF_TSYNC_HI d = some (word (d.latchOf key XTF_TSYNC_HI)) := rfl

/-- A read of LO latches the high word for its reader (R80, R95). -/
theorem readEffect_tsyncLo (key : Nat) (bytes : Word) (d : Dev) :
    readEffect key XTF_TSYNC_LO false bytes tsyncLoRow d = latchPut key XTF_TSYNC_HI (d.xtf.tsCap / 2 ^ 32) d := by
  have hp : pairValue XTF_TSYNC_LO d = some d.xtf.tsCap := rfl
  simp [readEffect, rcClear_roWord _ _ d (r := tsyncLoRow) rfl, hp, show XTF_TSYNC_LO + 4 = XTF_TSYNC_HI from rfl]

/-- A read of HI frees the capture (R95). -/
theorem readEffect_tsyncHi (key : Nat) (bytes : Word) (d : Dev) :
    readEffect key XTF_TSYNC_HI false bytes tsyncHiRow d = { d with xtf.tsFull := false } := by
  have hp : pairValue XTF_TSYNC_HI d = none := rfl
  simp [readEffect, rcClear_roWord _ _ d (r := tsyncHiRow) rfl, hp]

theorem busRead_tsyncLo {ini : Nat} (hi : ini < 8) (sess : Nat) (d : Dev) :
    busRead ini sess XTF_TSYNC_LO 4 d =
      { latchPut (readerKey ini sess) XTF_TSYNC_HI (d.xtf.tsCap / 2 ^ 32) d with bus := d.xtf.tsCap % 2 ^ 32 } := by
  rw [busRead_takes hi (by decide) (by decide) (by decide) findReg_tsyncLo rfl rfl, readEffect_tsyncLo,
    shownReg_roWord rfl (liveReg_tsyncLo _ d), word, BitVec.toNat_ofNat]

theorem viewRead_tsyncHi {ini : Nat} (hi : ini < 8) (sess : Nat) (d : Dev) :
    viewRead ini sess XTF_TSYNC_HI d =
      { d with xtf.tsFull := false, bus := d.latchOf (readerKey ini sess) XTF_TSYNC_HI % 2 ^ 32 } := by
  have hm : ¬ (ini = 14 ∧ d.sessRole sess < 2) := by omega
  rw [viewRead, if_neg hm, busRead_takes hi (by decide) (by decide) (by decide) findReg_tsyncHi rfl rfl, readEffect_tsyncHi,
    shownReg_roWord rfl (liveReg_tsyncHi _ d), word, BitVec.toNat_ofNat]

/-! ### Edges (R95) -/

theorem tsyncEdge_ignored {b : Bool} {d : Dev} (h : d.bit XTF_TSYNC_EN = false ∨ d.get XTF_TSYNC_EDGE = if b then 1 else 0) :
    tsyncEdge b d = d := by
  unfold tsyncEdge
  rw [if_pos]
  cases b <;> simpa using h

theorem tsyncEdge_taken {b : Bool} {d : Dev} (hen : d.bit XTF_TSYNC_EN = true)
    (h : d.get XTF_TSYNC_EDGE = (if b then 0 else 1) ∨ d.get XTF_TSYNC_EDGE = 2) :
    tsyncEdge b d =
      if d.xtf.tsFull then d.flagUp XTF_TSYNC_OVR else { d with xtf.tsCap := d.time64, xtf.tsFull := true } := by
  unfold tsyncEdge
  rw [if_neg]
  rcases h with h | h <;> cases b <;> simp [hen, h]

/-- The overrun flag rises; the other fields of its register and every other register stay as they are (R9, R95). -/
theorem flagUp_tsyncOvr (d : Dev) : (d.flagUp XTF_TSYNC_OVR).bit XTF_TSYNC_OVR = true ∧
    (∀ f, f = XTF_TSYNC_EN ∨ f = XTF_TSYNC_EDGE → (d.flagUp XTF_TSYNC_OVR).get f = d.get f) ∧
    Claims.Changes [XTF_TSYNC] d (d.flagUp XTF_TSYNC_OVR) := by
  have hbelow : ∀ f, f = XTF_TSYNC_EN ∨ f = XTF_TSYNC_EDGE → f.addr = XTF_TSYNC_OVR.addr ∧ f.lo + f.width ≤ XTF_TSYNC_OVR.lo := by
    rintro f (rfl | rfl) <;> decide
  refine ⟨?_, fun f hf => ?_, fun a ha => ?_, rfl⟩
  · have hset : (d.flagUp XTF_TSYNC_OVR).get XTF_TSYNC_OVR = 1 := d.get_set_same XTF_TSYNC_OVR 1 (by decide)
    simp [Dev.bit, hset]
  · obtain ⟨hreg, hlo⟩ := hbelow f hf
    exact d.get_set_field XTF_TSYNC_OVR f 1 hreg (.inr hlo)
  · exact d.rd_set_ne XTF_TSYNC_OVR (List.ne_of_not_mem_cons ha) 1

/-! ### The commands -/

theorem exec_tsyncCapture {s : State} (b : Bool) (h : s.dev.live = true) :
    exec (.tsyncCapture b) s = .next { s with dev := tsyncEdge b s.dev } := s.app_on _ h

theorem exec_registerRead_tsyncLo {s : State} {ini : Nat} (hi : ini < 8) (sess : Nat) (h : s.dev.live = true) :
    exec (.registerRead ini sess XTF_TSYNC_LO 4) s = .next { s with dev :=
      { latchPut (readerKey ini sess) XTF_TSYNC_HI (s.dev.xtf.tsCap / 2 ^ 32) s.dev with bus := s.dev.xtf.tsCap % 2 ^ 32 } } := by
  rw [← busRead_tsyncLo hi]
  exact s.app_on _ h

theorem exec_tsyncHiRead {s : State} {ini : Nat} (hi : ini < 8) (sess : Nat) (h : s.dev.live = true) :
    exec (.tsyncHiRead ini sess) s = .next { s with dev :=
      { s.dev with xtf.tsFull := false, bus := s.dev.latchOf (readerKey ini sess) XTF_TSYNC_HI % 2 ^ 32 } } := by
  rw [← viewRead_tsyncHi hi]
  exact s.app_on _ h

/-- Settles O15: an edge is ignored, stored or lost as EN, EDGE and the capture say; LO and HI are registers of 32 read-only bits
whose reads fill the reader's latch and free the capture. -/
theorem tsyncCaptures : Obligations.TsyncCaptures := by
  intro s ini sess b hl
  refine ⟨fun hen hedge => ⟨fun hfree => ?_, fun hfull => ?_⟩, fun hoff => ?_, fun hi => ⟨?_, ?_⟩⟩
  · simp [exec_tsyncCapture b hl, tsyncEdge_taken hen hedge, hfree]
  · refine ⟨s.dev.flagUp XTF_TSYNC_OVR, ?_, flagUp_tsyncOvr s.dev⟩
    simp [exec_tsyncCapture b hl, tsyncEdge_taken hen hedge, hfull]
  · rw [exec_tsyncCapture b hl, tsyncEdge_ignored hoff]
  · exact ⟨_, exec_registerRead_tsyncLo hi sess hl, rfl, latchOf_latchPut_same _ _ _ s.dev,
      fun k hk => latchOf_latchPut_ne hk _ _ s.dev, rfl⟩
  · exact ⟨_, exec_tsyncHiRead hi sess hl, rfl, rfl⟩

end Sys2Proof.Machine

/-! The sums and differences of the control engines (R198, R199, R205), on what every instruction does to the run of its engine. -/

namespace Sys2Proof.Machine

open Sys2Proof.Claims

/-! ### The samples of a run (R255 to R257) -/

/-- The run with other trace samples: all that a capture can change of it. -/
def Run.sampled (r : Run) (p : List Nat) (l : List (Nat × W16)) : Run := { r with probed := p, samples := l }

/-- A capture changes the run in its trace samples only. -/
theorem capture_sampled (n kind : Nat) (f : Nat → Option W16) (r : Run) (d : Dev) :
    ∃ p l, (capture n kind f r d).1 = r.sampled p l := by
  unfold capture
  dsimp only
  split
  · exact ⟨_, _, rfl⟩
  · exact ⟨_, _, rfl⟩

/-- The sample that probe `k` of kind REG takes where the run is (R255, R256). -/
def tapSample (d : Dev) (n : Nat) (r : Run) (k : Nat) : Option W16 :=
  if d.get (CE_TPROBE_TAP n k) = r.pc then some (r.wr (d.get (CE_TPROBE_SEL n k))) else none

theorem traced_eq {d : Dev} {n : Nat} {r : Run} (hr : (d.eng n).run = some r) :
    traced n d = (capture n 2 (tapSample d n r) r d).2 := by
  simp only [traced, hr]
  rfl

/-! ### One instruction of a run (R189, R199) -/

/-- An instruction other than ST that goes on, whether or not probes tap the slot. -/
theorem ceStep_ok {n : Nat} {i : CeWord} {d : Dev} {r r' : Run} {sem : Dev → CeWord → Run → CeRes} (hr : codeRun d n = some r)
    (hm : ceMiss d n i r = false) (hf : preFault i r = none) (h5 : i.op ≠ 5)
    (h : sem d i (capture n 2 (tapSample d n r) r d).1 = .ok r') :
    ceStep n i sem d =
      (capture n 2 (tapSample d n r) r d).2.setRun n (some { r' with cycles := r.cycles + ceCycles i.op }) := by
  unfold tapSample at h ⊢
  simp only [ceStep, hr, hm, hf, h, h5, Bool.false_eq_true, false_and, if_false]

/-- The run after a W result: the register, Z, N and V are written, and the run goes on (R199). -/
theorem toW_resW (r : Run) {k : Nat} (hk : k < 16) (p : List Nat) (l : List (Nat × W16)) (cyc : Nat) (x : W16) (v b : Bool) :
    ToW r { (((r.sampled p l).resW k x v).satIf b).seqNext with cycles := r.cycles + cyc } cyc k x v := by
  have hbut : WBut r ((r.sampled p l).setW k x) k := fun j hj hne => (r.sampled p l).wr_setW_ne x (by omega)
  exact ⟨(r.sampled p l).wr_setW_same k x, rfl, rfl, rfl, hbut, rfl, rfl, ⟨rfl, rfl, rfl, rfl, rfl, rfl⟩, rfl, rfl, rfl⟩

theorem Run.satIf_false (r : Run) : r.satIf false = r := by simp [Run.satIf]

section
variable {c : Instr} {n op d a b imm : Nat} {r : Run} {s : State} {sem : Dev → CeWord → Run → CeRes}

/-- A command that executes its word changes the run as the effect of the word says, whatever was sampled of it. -/
theorem runs_of_ok {P : Run → Prop} (h : At n r s ⟨op, d, a, b, imm⟩) (hc : exec c s = s.app (ceStep n (ceWord op d a b imm) sem))
    (ho : op < 64) (h5 : op ≠ 5)
    (hP : ∀ p l, ∃ r', sem s.dev ⟨op, d, a, b, imm⟩ (r.sampled p l) = .ok r' ∧ P { r' with cycles := r.cycles + ceCycles op }) :
    Runs c n s P := by
  obtain ⟨⟨hlive, hon⟩, hr, hlib, hcyc, hpc, hd, ha, hb, hi, hword, hok⟩ := h
  obtain ⟨p, l, hcap⟩ := capture_sampled n 2 (tapSample s.dev n r) r s.dev
  obtain ⟨r', hsem, hr'⟩ := hP p l
  have hcode : codeRun s.dev n = some r := codeRun_eq (hon _ (List.mem_singleton.2 rfl)) hr hlib
  refine ⟨_, ?_, hr'⟩
  rw [hc, s.app_on _ hlive, ceWord_eq op d a b imm ho hd ha hb hi,
    ceStep_ok hcode (ceMiss_false hword) (preFault_none hcyc hpc hok) h5 (hcap ▸ hsem), traced_eq hr]

/-- An instruction that writes a W result and sets SAT where `t` holds (R198, R199). -/
theorem runs_of_resW_satIf {x : W16} {v t : Bool} (h : At n r s ⟨op, d, a, b, imm⟩)
    (hc : exec c s = s.app (ceStep n (ceWord op d a b imm) sem)) (ho : op < 64) (h5 : op ≠ 5)
    (hsem : ∀ p l, sem s.dev ⟨op, d, a, b, imm⟩ (r.sampled p l) = ceSeq (((r.sampled p l).resW d x v).satIf t)) :
    Runs c n s (fun r' => ToW r r' (ceCycles op) d x v ∧ r'.sat = (r.sat || t)) := by
  obtain ⟨-, -, -, -, -, hd, -⟩ := id h
  exact runs_of_ok h hc ho h5 fun p l => ⟨_, hsem p l, toW_resW r hd p l (ceCycles op) x v t, rfl⟩

/-- An instruction that writes a W result and leaves SAT as it is (R199). -/
theorem runs_of_resW {x : W16} {v : Bool} (h : At n r s ⟨op, d, a, b, imm⟩)
    (hc : exec c s = s.app (ceStep n (ceWord op d a b imm) sem)) (ho : op < 64) (h5 : op ≠ 5)
    (hsem : ∀ p l, sem s.dev ⟨op, d, a, b, imm⟩ (r.sampled p l) = ceSeq ((r.sampled p l).resW d x v)) :
    Runs c n s (fun r' => ToW r r' (ceCycles op) d x v ∧ r'.sat = r.sat) := by
  have hrun := runs_of_resW_satIf (t := false) h hc ho h5 fun p l => by rw [hsem p l, Run.satIf_false]
  simpa only [Bool.or_false] using hrun

end

/-! ### Operands and ranges (R198, R200, R205) -/

/-- The second operand is the one that the claims name. -/
theorem op2_eq_second (r : Run) (op d a b imm : Nat) : op2 r ⟨op, d, a, b, imm⟩ = second r b imm := rfl

theorem outside16_eq (x : Int) : outside 16 x = Over16 x := by
  rw [outside, ← Bool.decide_or]
  rfl

theorem satTo16_eq (x : Int) : satTo 16 x = clamp16 x := by
  unfold satTo clamp16
  norm_num

/-- A 16-bit register holds a value of the Q15 range. -/
theorem Run.wi_range (r : Run) (a : Nat) : -32768 ≤ r.wi a ∧ r.wi a ≤ 32767 := by
  have hlo := BitVec.le_toInt (r.wr a)
  have hhi := BitVec.toInt_lt (x := r.wr a)
  unfold Run.wi
  omega

/-- The negation of a register leaves the range only for −32,768 (R205). -/
theorem over16_neg_wi (r : Run) (a : Nat) : Over16 (-(r.wi a)) = decide (r.wi a = -32768) := by
  have := r.wi_range a
  exact decide_eq_decide.2 (by omega)

/-- The magnitude of a register leaves the range only for −32,768 (R205). -/
theorem over16_natAbs_wi (r : Run) (a : Nat) : Over16 (r.wi a).natAbs = decide (r.wi a = -32768) := by
  have := r.wi_range a
  exact decide_eq_decide.2 (by omega)

/-- Saturation writes the clamped value and marks a value outside the range by V and SAT (R198). -/
theorem Run.satW_eq (r : Run) (d : Nat) (x : Int) :
    r.satW d x = (r.resW d (BitVec.ofInt 16 (clamp16 x)) (Over16 x)).satIf (Over16 x) := by
  rw [Run.satW, satTo16_eq, outside16_eq]

/-! ### The instructions (R205) -/

theorem ceADD_eq (r : Run) (op d a b imm : Nat) : ceADD ⟨op, d, a, b, imm⟩ r =
    ceSeq (r.resW d (BitVec.ofInt 16 (r.wi a + second r b imm)) (Over16 (r.wi a + second r b imm))) := by
  simp only [ceADD, op2_eq_second, outside16_eq]

theorem ceADDS_eq (r : Run) (op d a b imm : Nat) : ceADDS ⟨op, d, a, b, imm⟩ r =
    ceSeq ((r.resW d (BitVec.ofInt 16 (clamp16 (r.wi a + second r b imm))) (Over16 (r.wi a + second r b imm))).satIf
      (Over16 (r.wi a + second r b imm))) := by
  rw [ceADDS, op2_eq_second, Run.satW_eq]

theorem ceSUB_eq (r : Run) (op d a b imm : Nat) : ceSUB ⟨op, d, a, b, imm⟩ r =
    ceSeq (r.resW d (BitVec.ofInt 16 (r.wi a - second r b imm)) (Over16 (r.wi a - second r b imm))) := by
  simp only [ceSUB, op2_eq_second, outside16_eq]

theorem ceSUBS_eq (r : Run) (op d a b imm : Nat) : ceSUBS ⟨op, d, a, b, imm⟩ r =
    ceSeq ((r.resW d (BitVec.ofInt 16 (clamp16 (r.wi a - second r b imm))) (Over16 (r.wi a - second r b imm))).satIf
      (Over16 (r.wi a - second r b imm))) := by
  rw [ceSUBS, op2_eq_second, Run.satW_eq]

theorem ceNEG_eq (r : Run) (op d a b imm : Nat) : ceNEG ⟨op, d, a, b, imm⟩ r =
    ceSeq ((r.resW d (BitVec.ofInt 16 (clamp16 (-(r.wi a)))) (decide (r.wi a = -32768))).satIf (decide (r.wi a = -32768))) := by
  rw [ceNEG, Run.satW_eq, over16_neg_wi]

theorem ceABS_eq (r : Run) (op d a b imm : Nat) : ceABS ⟨op, d, a, b, imm⟩ r =
    ceSeq ((r.resW d (BitVec.ofInt 16 (clamp16 (if r.wi a < 0 then -(r.wi a) else r.wi a)))
      (decide (r.wi a = -32768))).satIf (decide (r.wi a = -32768))) := by
  have hmag : ((r.wi a).natAbs : Int) = if r.wi a < 0 then -(r.wi a) else r.wi a := by split <;> omega
  rw [ceABS, Run.satW_eq, over16_natAbs_wi, hmag]

theorem ceMIN_eq (r : Run) (op d a b imm : Nat) : ceMIN ⟨op, d, a, b, imm⟩ r =
    ceSeq (r.resW d (BitVec.ofInt 16 (if second r b imm < r.wi a then second r b imm else r.wi a)) false) := by
  rw [ceMIN, op2_eq_second, min_comm, min_def_lt]

theorem ceMAX_eq (r : Run) (op d a b imm : Nat) : ceMAX ⟨op, d, a, b, imm⟩ r =
    ceSeq (r.resW d (BitVec.ofInt 16 (if r.wi a < second r b imm then second r b imm else r.wi a)) false) := by
  rw [ceMAX, op2_eq_second, max_def_lt]

/-- Settles O24: each instruction writes one W result, exact or saturated, whose V (and for the saturating ones SAT) marks an exact
result outside the range; what was sampled of the run before makes no difference to it. -/
theorem engineSumsAndDifferences : Obligations.EngineSumsAndDifferences := by
  intro n r s d a b imm
  refine ⟨fun h => ?add, fun h => ?adds, fun h => ?sub, fun h => ?subs, fun h => ?neg, fun h => ?abs, fun h => ?min, fun h => ?max⟩
  case add => exact runs_of_resW h rfl (by decide) (by decide) fun p l => ceADD_eq (r.sampled p l) _ d a b imm
  case adds => exact runs_of_resW_satIf h rfl (by decide) (by decide) fun p l => ceADDS_eq (r.sampled p l) _ d a b imm
  case sub => exact runs_of_resW h rfl (by decide) (by decide) fun p l => ceSUB_eq (r.sampled p l) _ d a b imm
  case subs => exact runs_of_resW_satIf h rfl (by decide) (by decide) fun p l => ceSUBS_eq (r.sampled p l) _ d a b imm
  case neg => exact runs_of_resW_satIf h rfl (by decide) (by decide) fun p l => ceNEG_eq (r.sampled p l) _ d a b imm
  case abs => exact runs_of_resW_satIf h rfl (by decide) (by decide) fun p l => ceABS_eq (r.sampled p l) _ d a b imm
  case min => exact runs_of_resW h rfl (by decide) (by decide) fun p l => ceMIN_eq (r.sampled p l) _ d a b imm
  case max => exact runs_of_resW h rfl (by decide) (by decide) fun p l => ceMAX_eq (r.sampled p l) _ d a b imm

end Sys2Proof.Machine
